-- ==== Sys2Proof/Word.lean ====
section
/-! DEFINITION. The word types of the device: its 32-bit register word (R8) and its byte (R9). -/

namespace Sys2Proof

/-- A register word; registers are 32 bits wide (R8). -/
abbrev W := BitVec 32

/-- A byte of a frame, a record or a memory. -/
abbrev Byte := BitVec 8

end Sys2Proof
end

