-- ==== Sys2Proof/Machine/Bits.lean ====
section
/-! DEFINITION. Bit fields, sign extension, byte order, rounding and saturation: the arithmetic helpers that
every block of the device shares (R6, R7, R9, R10, R90). -/

namespace Sys2Proof.Machine

/-- The field of `n` bits at bit `lo` of a number (R7). -/
def bitsAt (v lo n : Nat) : Nat := v / 2 ^ lo % 2 ^ n

/-- The field of `n` bits at bit `lo` of a register word, as a number. -/
def wbits (w : W) (lo n : Nat) : Nat := bitsAt w.toNat lo n

/-- Bit `i` of a register word. -/
def wbit (w : W) (i : Nat) : Bool := bitsAt w.toNat i 1 == 1

/-- A number as a register word, modulo 2^32. -/
def toW (n : Nat) : W := BitVec.ofNat 32 n

/-- A number placed at bit `lo` in a field of `n` bits; bits beyond the field are cut off. -/
def fieldAt (v lo n : Nat) : Nat := v % 2 ^ n * 2 ^ lo

/-- A truth value as the number 0 or 1. -/
def b2n (b : Bool) : Nat := if b then 1 else 0

/-- The two's-complement reading of the low `n` bits of `v` (R6). -/
def sext (n v : Nat) : Int :=
  let u := v % 2 ^ n
  if u < 2 ^ (n - 1) then (u : Int) else (u : Int) - (2 ^ n : Nat)

/-- The `n`-bit two's-complement pattern of an integer. -/
def twos (n : Nat) (x : Int) : Nat := (x % (2 ^ n : Nat)).toNat

/-- The signed reading of a register word. -/
def wInt (w : W) : Int := sext 32 w.toNat

/-- The signed difference of two period numbers over 32 bits (R63). -/
def pdiff (a b : W) : Int := sext 32 (a - b).toNat

/-- The signed difference of two network times over 64 bits (R24). -/
def tdiff (a b : BitVec 64) : Int := sext 64 (a - b).toNat

/-- The signed difference of two period tags over 16 bits (R23). -/
def tagDiff (a b : BitVec 16) : Int := sext 16 (a - b).toNat

/-- Period `a` is at or after period `b` (R63). -/
def pReached (a b : W) : Bool := decide (0 ≤ pdiff a b)

/-- `x` held between `lo` and `hi`. -/
def clampI (lo hi x : Int) : Int := if x < lo then lo else if hi < x then hi else x

/-- `x` held between `lo` and `hi`, for counts. -/
def clampN (lo hi x : Nat) : Nat := if x < lo then lo else if hi < x then hi else x

/-- The quotient rounded up. -/
def ceilDiv (a b : Nat) : Nat := (a + b - 1) / b

/-- A saturating 32-bit count advanced by `n`. -/
def satAdd (w : W) (n : Nat) : W := if w.toNat + n < 2 ^ 32 then toW (w.toNat + n) else toW (2 ^ 32 - 1)

/-- A byte list read as a number, most significant byte first (R9). -/
def beNat (l : List Byte) : Nat := l.foldl (fun a b => a * 256 + b.toNat) 0

/-- A byte list read as a number, least significant byte first (R10). -/
def leNat (l : List Byte) : Nat := l.foldr (fun b a => b.toNat + 256 * a) 0

/-- `n` bytes of a number, least significant byte first (R10). -/
def leBytes : Nat → Nat → List Byte
  | 0, _ => []
  | k + 1, v => BitVec.ofNat 8 v :: leBytes k (v / 256)

/-- `n` bytes of a number, most significant byte first (R9). -/
def beBytes (n v : Nat) : List Byte := (leBytes n v).reverse

/-- The `n` bytes of a list from `off`, short if the list is short. -/
def bytesAt (l : List Byte) (off n : Nat) : List Byte := (l.drop off).take n

/-- The little-endian number of `n` bytes at `off`. -/
def leAt (l : List Byte) (off n : Nat) : Nat := leNat (bytesAt l off n)

/-- The big-endian number of `n` bytes at `off`. -/
def beAt (l : List Byte) (off n : Nat) : Nat := beNat (bytesAt l off n)

/-- A list of words as little-endian bytes. -/
def wordsToBytes (l : List W) : List Byte := l.flatMap (fun w => leBytes 4 w.toNat)

/-- Little-endian bytes as words; `n` words are made. -/
def bytesToWords : Nat → List Byte → List W
  | 0, _ => []
  | k + 1, l => toW (leNat (l.take 4)) :: bytesToWords k (l.drop 4)

/-- The element at place `i`, or a default past the end. -/
def nth {α : Type} (d : α) (l : List α) (i : Nat) : α := l.getD i d

/-- A list with place `i` set; a place past the end changes nothing. -/
def setNth {α : Type} (l : List α) (i : Nat) (v : α) : List α := l.set i v

/-- A list with place `i` passed through `f`. -/
def modNth {α : Type} (l : List α) (i : Nat) (f : α → α) : List α := l.modify i f

/-- Every bit of a word that is set, as the list of its places below `n`. -/
def setBits (v n : Nat) : List Nat := (List.range n).filter (fun i => bitsAt v i 1 == 1)

/-- The number whose set bits are the listed places; a place may be listed once. -/
def bitMask (l : List Nat) : Nat := l.foldl (fun a i => a ||| 2 ^ i) 0

end Sys2Proof.Machine
end

