-- ==== Sys2Proof/Machine/Sources.lean ====
section
/-! DEFINITION. The event sources of the device, their numbers and their base classes (R465, R466). -/

namespace Sys2Proof.Machine

/-- Source COAST_ENTRY of gallery `g` (R466, R161). -/
def srcCOAST_ENTRY (g : Nat) : Nat := 16 * g + 0
/-- Source HOLD_ENTRY of gallery `g` (R466, R161). -/
def srcHOLD_ENTRY (g : Nat) : Nat := 16 * g + 1
/-- Source FROZEN of gallery `g` (R466, R161). -/
def srcFROZEN (g : Nat) : Nat := 16 * g + 2
/-- Source OVERRANGE of gallery `g` (R466, R161). -/
def srcOVERRANGE (g : Nat) : Nat := 16 * g + 3
/-- Source SINGLE_OUT of gallery `g` (R466, R161). -/
def srcSINGLE_OUT (g : Nat) : Nat := 16 * g + 4
/-- Source AUTO_BLOCK of gallery `g` (R466, R161). -/
def srcAUTO_BLOCK (g : Nat) : Nat := 16 * g + 5
/-- Source STUCK_NEW of gallery `g` (R466, R161). -/
def srcSTUCK_NEW (g : Nat) : Nat := 16 * g + 6
/-- Source CMD_REJECT of gallery `g` (R466, R161). -/
def srcCMD_REJECT (g : Nat) : Nat := 16 * g + 7
/-- Source LAW_SAT of gallery `g` (R466, R161). -/
def srcLAW_SAT (g : Nat) : Nat := 16 * g + 8
/-- Source TGT_RANGE of gallery `g` (R466, R161). -/
def srcTGT_RANGE (g : Nat) : Nat := 16 * g + 9
/-- Source RING_REPLACE of gallery `g` (R466, R161). -/
def srcRING_REPLACE (g : Nat) : Nat := 16 * g + 10
/-- Source STEP_LATE of gallery `g` (R466, R161). -/
def srcSTEP_LATE (g : Nat) : Nat := 16 * g + 11
/-- Source NGL_SVC_TIMEOUT (R466). -/
def srcNGL_SVC_TIMEOUT : Nat := 864
/-- Source NGL_CMD_REJECT (R466). -/
def srcNGL_CMD_REJECT : Nat := 865
/-- Source TMR_INC_CLAMP (R466). -/
def srcTMR_INC_CLAMP : Nat := 872
/-- Source TMR_ADJ_REJECT (R466). -/
def srcTMR_ADJ_REJECT : Nat := 873
/-- Source TMR_STEP (R466). -/
def srcTMR_STEP : Nat := 874
/-- Source TMR_PPS_GLITCH (R466). -/
def srcTMR_PPS_GLITCH : Nat := 875
/-- Source TMR_PPS_OVR (R466). -/
def srcTMR_PPS_OVR : Nat := 876
/-- Source INV_CMD_REJECT (R466). -/
def srcINV_CMD_REJECT : Nat := 881
/-- Source DOC_ECC_CORR (R466). -/
def srcDOC_ECC_CORR : Nat := 882
/-- Source DOC_ECC_FATAL (R466). -/
def srcDOC_ECC_FATAL : Nat := 883
/-- Source DOC_CMD_REJECT (R466). -/
def srcDOC_CMD_REJECT : Nat := 884
/-- Source DOC_B_MOVED (R466). -/
def srcDOC_B_MOVED : Nat := 885
/-- Source DOC_FAULT (R466). -/
def srcDOC_FAULT : Nat := 886
/-- Source DOC_URG_LATE (R466). -/
def srcDOC_URG_LATE : Nat := 887
/-- Source EPOCH_WITHDRAW (R466). -/
def srcEPOCH_WITHDRAW : Nat := 888
/-- Source EPOCH_LATE (R466). -/
def srcEPOCH_LATE : Nat := 889
/-- Source EPOCH_STRAY (R466). -/
def srcEPOCH_STRAY : Nat := 890
/-- Source ARS_ACC_REFUSED (R466). -/
def srcARS_ACC_REFUSED : Nat := 891
/-- Source ARS_FILL_ERR (R466). -/
def srcARS_FILL_ERR : Nat := 892
/-- Source ARS_ABSENT (R466). -/
def srcARS_ABSENT : Nat := 893
/-- Source ARS_PAGE_LATE (R466). -/
def srcARS_PAGE_LATE : Nat := 894
/-- Source PRG_LATE_START (R466). -/
def srcPRG_LATE_START : Nat := 895
/-- Source PRG_MISS (R466). -/
def srcPRG_MISS : Nat := 896
/-- Source PRG_STEP_FAULT (R466). -/
def srcPRG_STEP_FAULT : Nat := 897
/-- Source PRG_TIME_STEP (R466). -/
def srcPRG_TIME_STEP : Nat := 898
/-- Source PRG_REJECT (R466). -/
def srcPRG_REJECT : Nat := 899
/-- Source CUR_RX_DROP (R466). -/
def srcCUR_RX_DROP : Nat := 900
/-- Source CUR_UNROUTABLE (R466). -/
def srcCUR_UNROUTABLE : Nat := 901
/-- Source CUR_DROPPED (R466). -/
def srcCUR_DROPPED : Nat := 902
/-- Source CUR_PERSIST_BROKEN (R466). -/
def srcCUR_PERSIST_BROKEN : Nat := 903
/-- Source CUR_BRANCH_RANGE (R466). -/
def srcCUR_BRANCH_RANGE : Nat := 904
/-- Source CUR_NO_ID (R466). -/
def srcCUR_NO_ID : Nat := 905
/-- Source CUR_EPOCH_LATE (R466). -/
def srcCUR_EPOCH_LATE : Nat := 906
/-- Source CUR_SLOT_LOST (R466). -/
def srcCUR_SLOT_LOST : Nat := 907
/-- Source CUR_SELF_CHECK (R466). -/
def srcCUR_SELF_CHECK : Nat := 908
/-- Source CUR_CMD_REJECT (R466). -/
def srcCUR_CMD_REJECT : Nat := 909
/-- Source TWN_LINK_DOWN (R466). -/
def srcTWN_LINK_DOWN : Nat := 910
/-- Source TWN_PARTNER_HB_LOST (R466). -/
def srcTWN_PARTNER_HB_LOST : Nat := 911
/-- Source TWN_LOAN_TAKEN (R466). -/
def srcTWN_LOAN_TAKEN : Nat := 912
/-- Source TWN_LOAN_LOST (R466). -/
def srcTWN_LOAN_LOST : Nat := 913
/-- Source TWN_HANDOVER (R466). -/
def srcTWN_HANDOVER : Nat := 914
/-- Source TWN_TILE_REPAIR (R466). -/
def srcTWN_TILE_REPAIR : Nat := 915
/-- Source TWN_DIVERGED (R466). -/
def srcTWN_DIVERGED : Nat := 916
/-- Source TWN_JOINED (R466). -/
def srcTWN_JOINED : Nat := 917
/-- Source TWN_JOIN_REFUSED (R466). -/
def srcTWN_JOIN_REFUSED : Nat := 918
/-- Source TWN_J_REFUSED (R466). -/
def srcTWN_J_REFUSED : Nat := 919
/-- Source TWN_NOT_KEEPER (R466). -/
def srcTWN_NOT_KEEPER : Nat := 920
/-- Source CNS_EXCURSION (R466). -/
def srcCNS_EXCURSION : Nat := 921
/-- Source CNS_DIP_HIGH (R466). -/
def srcCNS_DIP_HIGH : Nat := 922
/-- Source CNS_JRNL_ERR (R466). -/
def srcCNS_JRNL_ERR : Nat := 923
/-- Source CNS_JRNL_IGNORED (R466). -/
def srcCNS_JRNL_IGNORED : Nat := 924
/-- Source CNS_RAIL_SHIFT (R466). -/
def srcCNS_RAIL_SHIFT : Nat := 925
/-- Source CNS_CHAR_FAIL (R466). -/
def srcCNS_CHAR_FAIL : Nat := 926
/-- Source CNS_HOST_REJECT (R466). -/
def srcCNS_HOST_REJECT : Nat := 927
/-- Source SVP_MODE_REJECT (R466). -/
def srcSVP_MODE_REJECT : Nat := 944
/-- Source PKT_REJECT (R466). -/
def srcPKT_REJECT : Nat := 984
/-- Source PKT_SWAP_DONE (R466). -/
def srcPKT_SWAP_DONE : Nat := 985
/-- Source TXS_ANN_DROP (R466). -/
def srcTXS_ANN_DROP : Nat := 1054
/-- Source TXS_DESC_ERR (R466). -/
def srcTXS_DESC_ERR : Nat := 1055
/-- Source LDG_VAULT_FROZEN (R466). -/
def srcLDG_VAULT_FROZEN : Nat := 1056
/-- Source LDG_VAULT_MISSED (R466). -/
def srcLDG_VAULT_MISSED : Nat := 1057
/-- Source LDG_LOG_LOST (R466). -/
def srcLDG_LOG_LOST : Nat := 1058
/-- Source LDG_EXPORT_DROP (R466). -/
def srcLDG_EXPORT_DROP : Nat := 1059
/-- Source LDG_ALARM_SUMMARY (R466). -/
def srcLDG_ALARM_SUMMARY : Nat := 1060
/-- Source ATT_SELF (R466). -/
def srcATT_SELF : Nat := 1061
/-- Source ATT_ESCALATE (R466). -/
def srcATT_ESCALATE : Nat := 1062
/-- Source ATT_REJECT (R466). -/
def srcATT_REJECT : Nat := 1063
/-- Source VIT_DONE (R466). -/
def srcVIT_DONE : Nat := 1064
/-- Source VIT_BUSY (R466). -/
def srcVIT_BUSY : Nat := 1065
/-- Source VIT_COPY_ERR (R466). -/
def srcVIT_COPY_ERR : Nat := 1066
/-- Source VIT_NO_SLOT (R466). -/
def srcVIT_NO_SLOT : Nat := 1067
/-- Source GLB_COPY_BAD (R466). -/
def srcGLB_COPY_BAD : Nat := 1072
/-- Source GLB_PROFILE_BAD (R466). -/
def srcGLB_PROFILE_BAD : Nat := 1073
/-- Source GLB_SECTION_SKIP (R466). -/
def srcGLB_SECTION_SKIP : Nat := 1074
/-- Source GLB_UNSIGNED (R466). -/
def srcGLB_UNSIGNED : Nat := 1075
/-- Source GLB_WDT (R466). -/
def srcGLB_WDT : Nat := 1076
/-- Source GLB_RESTART_REJECT (R466). -/
def srcGLB_RESTART_REJECT : Nat := 1077
/-- Source GLB_AUTOSTART_FAIL (R466). -/
def srcGLB_AUTOSTART_FAIL : Nat := 1078
/-- Source GLB_GRAVE_BOOT (R466). -/
def srcGLB_GRAVE_BOOT : Nat := 1079
/-- Source NVL_WRITE_ERR (R466). -/
def srcNVL_WRITE_ERR : Nat := 1080
/-- Source GLB_VAULT_FOUND (R466). -/
def srcGLB_VAULT_FOUND : Nat := 1081
/-- Source GLB_MEM_LOST (R466). -/
def srcGLB_MEM_LOST : Nat := 1082
/-- Source GLB_JOIN_SKIPPED (R466). -/
def srcGLB_JOIN_SKIPPED : Nat := 1083
/-- Source XBR_ACCESS (R466). -/
def srcXBR_ACCESS : Nat := 1104
/-- Source XBR_DECERR (R466). -/
def srcXBR_DECERR : Nat := 1105
/-- Source XBR_SLVERR (R466). -/
def srcXBR_SLVERR : Nat := 1106
/-- Source XBR_TIMEOUT (R466). -/
def srcXBR_TIMEOUT : Nat := 1107
/-- Source XBR_MASTER_RESET (R466). -/
def srcXBR_MASTER_RESET : Nat := 1108
/-- Source XBR_PARITY (R466). -/
def srcXBR_PARITY : Nat := 1109
/-- Source DDR_PART_ERR (R466). -/
def srcDDR_PART_ERR : Nat := 1110
/-- Source PCIE_LINK_UP (R466). -/
def srcPCIE_LINK_UP : Nat := 1128
/-- Source PCIE_LINK_DOWN (R466). -/
def srcPCIE_LINK_DOWN : Nat := 1129
/-- Source PCIE_SPEED (R466). -/
def srcPCIE_SPEED : Nat := 1130
/-- Source PCIE_AER_CORR (R466). -/
def srcPCIE_AER_CORR : Nat := 1131
/-- Source PCIE_AER_UNCORR (R466). -/
def srcPCIE_AER_UNCORR : Nat := 1132
/-- Source PCIE_MSIX_DROP (R466). -/
def srcPCIE_MSIX_DROP : Nat := 1133
/-- Source SBM_PEC_ERR (R466). -/
def srcSBM_PEC_ERR : Nat := 1144
/-- Source SBM_TIMEOUT (R466). -/
def srcSBM_TIMEOUT : Nat := 1145
/-- Source SBM_PROTO (R466). -/
def srcSBM_PROTO : Nat := 1146
/-- Source PDM_DOM_REJECT (R466). -/
def srcPDM_DOM_REJECT : Nat := 1200
/-- Source PDM_DOM_FAULT (R466). -/
def srcPDM_DOM_FAULT : Nat := 1201
/-- Source PDM_SEQ_FAIL (R466). -/
def srcPDM_SEQ_FAIL : Nat := 1202
/-- Source PDM_RAIL_WARN (R466). -/
def srcPDM_RAIL_WARN : Nat := 1203
/-- Source PDM_RAIL_FAULT (R466). -/
def srcPDM_RAIL_FAULT : Nat := 1204
/-- Source PDM_PMB_ERR (R466). -/
def srcPDM_PMB_ERR : Nat := 1205
/-- Source PDM_PMB_ALERT (R466). -/
def srcPDM_PMB_ALERT : Nat := 1206
/-- Source PDM_TEMP_WARN (R466). -/
def srcPDM_TEMP_WARN : Nat := 1207
/-- Source PDM_TEMP_CRIT (R466). -/
def srcPDM_TEMP_CRIT : Nat := 1208
/-- Source AUX_OVERRUN (R466). -/
def srcAUX_OVERRUN : Nat := 1216
/-- Source AUX_QLOST (R466). -/
def srcAUX_QLOST : Nat := 1217
/-- Source AUX_OVR (R466). -/
def srcAUX_OVR : Nat := 1218
/-- Source AUX_TRIM_DONE (R466). -/
def srcAUX_TRIM_DONE : Nat := 1219
/-- Source AUX_TRIM_FAIL (R466). -/
def srcAUX_TRIM_FAIL : Nat := 1220
/-- Source AUX_DAC_REJECT (R466). -/
def srcAUX_DAC_REJECT : Nat := 1221
/-- Source TMX_TEST_EN (R627). -/
def srcTMX_TEST_EN : Nat := 1264
/-- Source TMX_JTAG_REJECT (R627). -/
def srcTMX_JTAG_REJECT : Nat := 1265
/-- Source TMX_DEBUG (R627). -/
def srcTMX_DEBUG : Nat := 1266
/-- Source LINK_NOTE (R466). -/
def srcLINK_NOTE (t : Nat) : Nat := 576 + 2 * t
/-- Source LINK_DEGRADED (R466). -/
def srcLINK_DEGRADED (t : Nat) : Nat := 577 + 2 * t
/-- Source TMR_TXTS_LOST (R466). -/
def srcTMR_TXTS_LOST (n : Nat) : Nat := 877 + n
/-- Source SVP_LINK_DOWN (R466). -/
def srcSVP_LINK_DOWN (n : Nat) : Nat := 928 + 4 * n
/-- Source SVP_LINK_UP (R466). -/
def srcSVP_LINK_UP (n : Nat) : Nat := 929 + 4 * n
/-- Source SVP_AN_FAIL (R466). -/
def srcSVP_AN_FAIL (n : Nat) : Nat := 930 + 4 * n
/-- Source SVP_FEC_UNCORR (R466). -/
def srcSVP_FEC_UNCORR (n : Nat) : Nat := 931 + 4 * n
/-- Source PKT_OVF (R466). -/
def srcPKT_OVF (n : Nat) : Nat := 945 + n
/-- Source PKT_PARSE_DROP (R466). -/
def srcPKT_PARSE_DROP (r : Nat) : Nat := 949 + r
/-- Source PKT_POLICE_DROP (R466). -/
def srcPKT_POLICE_DROP (p : Nat) : Nat := 952 + p
/-- Source PKT_QUEUE_FULL (R466). -/
def srcPKT_QUEUE_FULL (q : Nat) : Nat := 968 + q
/-- Source TXS_DEPTH_HWM (R466). -/
def srcTXS_DEPTH_HWM (n q : Nat) : Nat := 986 + 8 * n + q
/-- Source TXS_DELAY_HWM (R466). -/
def srcTXS_DELAY_HWM (n q : Nat) : Nat := 1018 + 8 * n + q
/-- Source TXS_OVERSIZE_GATE (R466). -/
def srcTXS_OVERSIZE_GATE (n : Nat) : Nat := 1050 + n
/-- Source DDR_ECC_CORR (R466). -/
def srcDDR_ECC_CORR (c : Nat) : Nat := 1112 + 4 * c
/-- Source DDR_ECC_UNCORR (R466). -/
def srcDDR_ECC_UNCORR (c : Nat) : Nat := 1113 + 4 * c
/-- Source DDR_RETRAIN (R466). -/
def srcDDR_RETRAIN (c : Nat) : Nat := 1114 + 4 * c
/-- Source DDR_DERATE (R466). -/
def srcDDR_DERATE (c : Nat) : Nat := 1115 + 4 * c
/-- Source TEC_FAULT (R466). -/
def srcTEC_FAULT (z : Nat) : Nat := 1222 + z

/-- The sources of base class DEGRADED outside the galleries and the links (R466). -/
def degradedSources : List Nat := [886, 887, 888, 890, 892, 896, 897, 902, 905, 906, 907, 910, 911, 912, 913, 916, 918, 921, 923, 928, 932, 936, 940, 945, 946, 947, 948, 1054, 1057, 1058, 1066, 1072, 1073, 1078, 1080, 1106, 1107, 1129, 1132, 1201, 1203, 1205, 1207, 1220, 1222, 1223, 1224, 1225, 1226, 1227, 1228, 1229, 1264]

/-- The sources of base class SEVERE (R466). -/
def severeSources : List Nat := [883, 908, 1076, 1109, 1110, 1113, 1117, 1121, 1125, 1202, 1204]

/-- The sources of base class GRAVE (R466). -/
def graveSources : List Nat := [1061, 1062, 1208]

/-- The base class of a source: 0 NOTE, 1 DEGRADED, 2 SEVERE, 3 GRAVE (R466, R469). -/
def srcClass (s : Nat) : Nat :=
  if s < 576 then (if [1, 5, 6, 9, 10].contains (s % 16) then 1 else 0)
  else if s < 864 then (s % 2)
  else if graveSources.contains s then 3
  else if severeSources.contains s then 2
  else if degradedSources.contains s then 1
  else 0

/-- The reserved sources, which are never raised (R466, R521, R556, R599, R627). -/
def srcReserved (s : Nat) : Bool :=
  (s < 576 && 12 ≤ s % 16) || (866 ≤ s && s ≤ 871) || (1068 ≤ s && s ≤ 1071) || (1084 ≤ s && s ≤ 1103) || s == 1111
    || (1134 ≤ s && s ≤ 1143) || (1147 ≤ s && s ≤ 1199) || (1209 ≤ s && s ≤ 1215) || (1230 ≤ s && s ≤ 1263) || 1267 ≤ s

end Sys2Proof.Machine
end

