-- ==== Sys2Proof/Machine/Regs.lean ====
section
/-! DEFINITION. The register map of the device, from the register tables of the spec: the address of every
register, its fields, the access code of every bit (R14) and its reset value (R15). Offsets are from BAR0 (R11, R16). -/

namespace Sys2Proof.Machine

/-- A register field: the register's BAR0 address, the field's lowest bit and its width (R7). -/
structure Fld where
  addr : Nat
  lo : Nat
  width : Nat
  deriving DecidableEq, Repr

/-- One row of a register table: `n1` registers at a stride of `s1` bytes, each in turn `n2` at a stride of `s2`;
the bits of each access code of R14; the reset value. Bits under no code read zero (R13); WO bits read zero too. -/
structure RegRow where
  base : Nat
  n1 : Nat
  s1 : Nat
  n2 : Nat
  s2 : Nat
  rw : Nat
  ro : Nat
  w1c : Nat
  w1s : Nat
  rc : Nat
  rwl : Nat
  reset : Nat
  deriving DecidableEq, Repr

/-- GLB_ID, 00_scope.md R3. -/
def GLB_ID : Nat := 0x0
def GLB_ID_part_number : Fld := ⟨GLB_ID, 16, 16⟩
def GLB_ID_grade : Fld := ⟨GLB_ID, 8, 4⟩
def GLB_ID_step_letter : Fld := ⟨GLB_ID, 4, 4⟩
def GLB_ID_step_digit : Fld := ⟨GLB_ID, 0, 4⟩
/-- GLB_CTL, 14_startup.md R518. -/
def GLB_CTL : Nat := 0x4
def GLB_CTL_remap : Fld := ⟨GLB_CTL, 0, 1⟩
/-- GLB_RESTART, 14_startup.md R518. -/
def GLB_RESTART : Nat := 0x8
def GLB_RESTART_go : Fld := ⟨GLB_RESTART, 31, 1⟩
def GLB_RESTART_class : Fld := ⟨GLB_RESTART, 29, 2⟩
def GLB_RESTART_use_profile : Fld := ⟨GLB_RESTART, 28, 1⟩
def GLB_RESTART_profile : Fld := ⟨GLB_RESTART, 26, 2⟩
def GLB_RESTART_copy_sel : Fld := ⟨GLB_RESTART, 24, 2⟩
/-- GLB_BOOT_STAT, 14_startup.md R518. -/
def GLB_BOOT_STAT : Nat := 0xc
def GLB_BOOT_STAT_last_reset : Fld := ⟨GLB_BOOT_STAT, 29, 3⟩
def GLB_BOOT_STAT_state : Fld := ⟨GLB_BOOT_STAT, 27, 2⟩
def GLB_BOOT_STAT_stage : Fld := ⟨GLB_BOOT_STAT, 23, 4⟩
def GLB_BOOT_STAT_copy : Fld := ⟨GLB_BOOT_STAT, 22, 1⟩
def GLB_BOOT_STAT_strap_profile : Fld := ⟨GLB_BOOT_STAT, 20, 2⟩
def GLB_BOOT_STAT_used_profile : Fld := ⟨GLB_BOOT_STAT, 18, 2⟩
def GLB_BOOT_STAT_mem_kept : Fld := ⟨GLB_BOOT_STAT, 17, 1⟩
def GLB_BOOT_STAT_unsigned : Fld := ⟨GLB_BOOT_STAT, 16, 1⟩
def GLB_BOOT_STAT_grave_boot : Fld := ⟨GLB_BOOT_STAT, 15, 1⟩
def GLB_BOOT_STAT_fallback : Fld := ⟨GLB_BOOT_STAT, 14, 1⟩
def GLB_BOOT_STAT_fail_code : Fld := ⟨GLB_BOOT_STAT, 0, 8⟩
/-- GLB_BOOT_FAIL, 14_startup.md R518. -/
def GLB_BOOT_FAIL : Nat := 0x10
/-- GLB_WDT, 14_startup.md R518. -/
def GLB_WDT : Nat := 0x14
def GLB_WDT_kick : Fld := ⟨GLB_WDT, 31, 1⟩
def GLB_WDT_restart_en : Fld := ⟨GLB_WDT, 30, 1⟩
def GLB_WDT_timeout : Fld := ⟨GLB_WDT, 0, 16⟩
/-- GLB_FW_VER, 14_startup.md R518. -/
def GLB_FW_VER : Nat := 0x18
/-- GLB_IMG_GEN, 14_startup.md R518. -/
def GLB_IMG_GEN : Nat := 0x1c
/-- GLB_FUSE, 14_startup.md R518. -/
def GLB_FUSE : Nat := 0x20
/-- GLB_SVN_COMMIT, 14_startup.md R518. -/
def GLB_SVN_COMMIT : Nat := 0x24
/-- GLB_TOPO_ID, 01_fabric_model.md R48. -/
def GLB_TOPO_ID : Nat := 0x40
def GLB_TOPO_ID_topology_id : Fld := ⟨GLB_TOPO_ID, 0, 32⟩
/-- GLB_TOPO_SHAPE, 01_fabric_model.md R49. -/
def GLB_TOPO_SHAPE : Nat := 0x44
def GLB_TOPO_SHAPE_family : Fld := ⟨GLB_TOPO_SHAPE, 26, 2⟩
def GLB_TOPO_SHAPE_plane_count_m1 : Fld := ⟨GLB_TOPO_SHAPE, 24, 2⟩
def GLB_TOPO_SHAPE_stage_count : Fld := ⟨GLB_TOPO_SHAPE, 16, 8⟩
def GLB_TOPO_SHAPE_cells_per_stage : Fld := ⟨GLB_TOPO_SHAPE, 0, 9⟩
/-- GLB_TOPO_PORTS, 01_fabric_model.md R50. -/
def GLB_TOPO_PORTS : Nat := 0x48
def GLB_TOPO_PORTS_ports_out : Fld := ⟨GLB_TOPO_PORTS, 16, 10⟩
def GLB_TOPO_PORTS_ports_in : Fld := ⟨GLB_TOPO_PORTS, 0, 10⟩
/-- GLB_TOPO_CELLS, 01_fabric_model.md R51. -/
def GLB_TOPO_CELLS : Nat := 0x4c
def GLB_TOPO_CELLS_tiles_used : Fld := ⟨GLB_TOPO_CELLS, 24, 8⟩
def GLB_TOPO_CELLS_cell_count : Fld := ⟨GLB_TOPO_CELLS, 0, 13⟩
/-- PDM_CTL, 16_power_aux_analog.md R591. -/
def PDM_CTL : Nat := 0x100000
/-- PDM_PMB_CTL, 16_power_aux_analog.md R591. -/
def PDM_PMB_CTL : Nat := 0x100004
/-- PDM_TEMP, 16_power_aux_analog.md R591. -/
def PDM_TEMP : Nat := 0x100008
/-- PDM_TEMP_CTL, 16_power_aux_analog.md R591. -/
def PDM_TEMP_CTL : Nat := 0x10000c
/-- PDM_ON0, 16_power_aux_analog.md R591. -/
def PDM_ON0 : Nat := 0x100010
/-- PDM_ON1, 16_power_aux_analog.md R591. -/
def PDM_ON1 : Nat := 0x100014
/-- PDM_DOMdd, 16_power_aux_analog.md R591. -/
def PDM_DOM (i : Nat) : Nat := 0x100100 + 0x4 * i
def PDM_DOM_cmd (i : Nat) : Fld := ⟨(PDM_DOM i), 30, 2⟩
def PDM_DOM_reason (i : Nat) : Fld := ⟨(PDM_DOM i), 24, 4⟩
def PDM_DOM_state (i : Nat) : Fld := ⟨(PDM_DOM i), 16, 2⟩
/-- PDM_ASM_CTL, 16_power_aux_analog.md R591. -/
def PDM_ASM_CTL : Nat := 0x100200
def PDM_ASM_CTL_cmd : Fld := ⟨PDM_ASM_CTL, 30, 2⟩
def PDM_ASM_CTL_auto_seq : Fld := ⟨PDM_ASM_CTL, 29, 1⟩
def PDM_ASM_CTL_fault_act : Fld := ⟨PDM_ASM_CTL, 28, 1⟩
/-- PDM_ASM_STAT, 16_power_aux_analog.md R591. -/
def PDM_ASM_STAT : Nat := 0x100204
def PDM_ASM_STAT_asm_state : Fld := ⟨PDM_ASM_STAT, 29, 3⟩
def PDM_ASM_STAT_cmd_reject : Fld := ⟨PDM_ASM_STAT, 28, 1⟩
def PDM_ASM_STAT_group : Fld := ⟨PDM_ASM_STAT, 24, 4⟩
def PDM_ASM_STAT_rail : Fld := ⟨PDM_ASM_STAT, 20, 4⟩
def PDM_ASM_STAT_good : Fld := ⟨PDM_ASM_STAT, 0, 16⟩
/-- PDM_PMB_XFER, 16_power_aux_analog.md R591. -/
def PDM_PMB_XFER : Nat := 0x100208
/-- PDM_PMB_DATA, 16_power_aux_analog.md R591. -/
def PDM_PMB_DATA : Nat := 0x10020c
/-- PDM_PMB_STAT, 16_power_aux_analog.md R591. -/
def PDM_PMB_STAT : Nat := 0x100210
/-- PDM_RAILrr_CFG, 16_power_aux_analog.md R591. -/
def PDM_RAIL_CFG (i : Nat) : Nat := 0x100400 + 0x10 * i
def PDM_RAIL_CFG_valid (i : Nat) : Fld := ⟨(PDM_RAIL_CFG i), 31, 1⟩
def PDM_RAIL_CFG_group (i : Nat) : Fld := ⟨(PDM_RAIL_CFG i), 28, 3⟩
def PDM_RAIL_CFG_addr (i : Nat) : Fld := ⟨(PDM_RAIL_CFG i), 21, 7⟩
def PDM_RAIL_CFG_page (i : Nat) : Fld := ⟨(PDM_RAIL_CFG i), 13, 8⟩
def PDM_RAIL_CFG_ain (i : Nat) : Fld := ⟨(PDM_RAIL_CFG i), 8, 5⟩
def PDM_RAIL_CFG_mon_en (i : Nat) : Fld := ⟨(PDM_RAIL_CFG i), 7, 1⟩
def PDM_RAIL_CFG_on_delay (i : Nat) : Fld := ⟨(PDM_RAIL_CFG i), 0, 7⟩
/-- PDM_RAILrr_LIM, 16_power_aux_analog.md R591. -/
def PDM_RAIL_LIM (i : Nat) : Nat := 0x100404 + 0x10 * i
def PDM_RAIL_LIM_warn (i : Nat) : Fld := ⟨(PDM_RAIL_LIM i), 24, 8⟩
def PDM_RAIL_LIM_fault (i : Nat) : Fld := ⟨(PDM_RAIL_LIM i), 16, 8⟩
def PDM_RAIL_LIM_nom (i : Nat) : Fld := ⟨(PDM_RAIL_LIM i), 0, 16⟩
/-- PDM_RAILrr_VOUT, 16_power_aux_analog.md R591. -/
def PDM_RAIL_VOUT (i : Nat) : Nat := 0x100408 + 0x10 * i
/-- PDM_RAILrr_STAT, 16_power_aux_analog.md R591. -/
def PDM_RAIL_STAT (i : Nat) : Nat := 0x10040c + 0x10 * i
def PDM_RAIL_STAT_good (i : Nat) : Fld := ⟨(PDM_RAIL_STAT i), 31, 1⟩
def PDM_RAIL_STAT_warn (i : Nat) : Fld := ⟨(PDM_RAIL_STAT i), 30, 1⟩
def PDM_RAIL_STAT_fault (i : Nat) : Fld := ⟨(PDM_RAIL_STAT i), 29, 1⟩
def PDM_RAIL_STAT_pmb_err (i : Nat) : Fld := ⟨(PDM_RAIL_STAT i), 28, 1⟩
def PDM_RAIL_STAT_status_word (i : Nat) : Fld := ⟨(PDM_RAIL_STAT i), 0, 16⟩
/-- NVL_CMD, 14_startup.md R518. -/
def NVL_CMD : Nat := 0x200000
/-- NVL_ADDR, 14_startup.md R518. -/
def NVL_ADDR : Nat := 0x200004
/-- NVL_STAT, 14_startup.md R518. -/
def NVL_STAT : Nat := 0x200008
/-- NVL_DATA, 14_startup.md R518. -/
def NVL_DATA (i : Nat) : Nat := 0x200100 + 0x4 * i
/-- TMR_CTL, 02_network_time.md R81. -/
def TMR_CTL : Nat := 0x300000
def TMR_CTL_slew_rate : Fld := ⟨TMR_CTL, 8, 3⟩
def TMR_CTL_pps_out_valid_only : Fld := ⟨TMR_CTL, 5, 1⟩
def TMR_CTL_pps_out_en : Fld := ⟨TMR_CTL, 4, 1⟩
def TMR_CTL_pps_in_en : Fld := ⟨TMR_CTL, 3, 1⟩
def TMR_CTL_tod_src : Fld := ⟨TMR_CTL, 1, 1⟩
def TMR_CTL_clk_mode : Fld := ⟨TMR_CTL, 0, 1⟩
/-- TMR_STAT, 02_network_time.md R81. -/
def TMR_STAT : Nat := 0x300004
def TMR_STAT_step_cnt : Fld := ⟨TMR_STAT, 24, 8⟩
def TMR_STAT_pps_in_new : Fld := ⟨TMR_STAT, 8, 1⟩
def TMR_STAT_pps_in_glitch : Fld := ⟨TMR_STAT, 7, 1⟩
def TMR_STAT_pps_in_ovr : Fld := ⟨TMR_STAT, 6, 1⟩
def TMR_STAT_adj_reject : Fld := ⟨TMR_STAT, 5, 1⟩
def TMR_STAT_inc_clamped : Fld := ⟨TMR_STAT, 4, 1⟩
def TMR_STAT_tod_armed : Fld := ⟨TMR_STAT, 3, 1⟩
def TMR_STAT_slewing : Fld := ⟨TMR_STAT, 2, 1⟩
def TMR_STAT_adj_busy : Fld := ⟨TMR_STAT, 1, 1⟩
def TMR_STAT_time_valid : Fld := ⟨TMR_STAT, 0, 1⟩
/-- TMR_INC_NS, 02_network_time.md R81. -/
def TMR_INC_NS : Nat := 0x300008
/-- TMR_INC_FRAC, 02_network_time.md R81. -/
def TMR_INC_FRAC : Nat := 0x30000c
/-- TMR_TIME_LO, 02_network_time.md R81. -/
def TMR_TIME_LO : Nat := 0x300010
/-- TMR_TIME_HI, 02_network_time.md R81. -/
def TMR_TIME_HI : Nat := 0x300014
/-- TMR_TIME_FRAC, 02_network_time.md R81. -/
def TMR_TIME_FRAC : Nat := 0x300018
/-- TMR_TIME_P, 02_network_time.md R81. -/
def TMR_TIME_P : Nat := 0x30001c
/-- TMR_ADJ_LO, 02_network_time.md R81. -/
def TMR_ADJ_LO : Nat := 0x300020
/-- TMR_ADJ_HI, 02_network_time.md R81. -/
def TMR_ADJ_HI : Nat := 0x300024
/-- TMR_ADJ_CTL, 02_network_time.md R81. -/
def TMR_ADJ_CTL : Nat := 0x300028
def TMR_ADJ_CTL_tod_arm : Fld := ⟨TMR_ADJ_CTL, 3, 1⟩
def TMR_ADJ_CTL_absolute : Fld := ⟨TMR_ADJ_CTL, 2, 1⟩
def TMR_ADJ_CTL_force_step : Fld := ⟨TMR_ADJ_CTL, 1, 1⟩
def TMR_ADJ_CTL_go : Fld := ⟨TMR_ADJ_CTL, 0, 1⟩
/-- TMR_SLEW_LIMIT, 02_network_time.md R81. -/
def TMR_SLEW_LIMIT : Nat := 0x30002c
/-- TMR_TOD_SEC_LO, 02_network_time.md R81. -/
def TMR_TOD_SEC_LO : Nat := 0x300030
/-- TMR_TOD_SEC_HI, 02_network_time.md R81. -/
def TMR_TOD_SEC_HI : Nat := 0x300034
/-- TMR_PPS_IN_LO, 02_network_time.md R81. -/
def TMR_PPS_IN_LO : Nat := 0x300040
/-- TMR_PPS_IN_HI, 02_network_time.md R81. -/
def TMR_PPS_IN_HI : Nat := 0x300044
/-- TMR_PPS_IN_COMP, 02_network_time.md R81. -/
def TMR_PPS_IN_COMP : Nat := 0x300048
/-- TMR_PPS_OUT_OFS, 02_network_time.md R81. -/
def TMR_PPS_OUT_OFS : Nat := 0x30004c
/-- TMR_PPS_OUT_WIDTH, 02_network_time.md R81. -/
def TMR_PPS_OUT_WIDTH : Nat := 0x300050
/-- TMR_CX_OFS_LO, 02_network_time.md R81. -/
def TMR_CX_OFS_LO : Nat := 0x300060
/-- TMR_CX_OFS_HI, 02_network_time.md R81. -/
def TMR_CX_OFS_HI : Nat := 0x300064
/-- TMR_CX_RATE, 02_network_time.md R81. -/
def TMR_CX_RATE : Nat := 0x300068
/-- TMR_CX_FREE_LO, 02_network_time.md R81. -/
def TMR_CX_FREE_LO : Nat := 0x30006c
/-- TMR_CX_FREE_HI, 02_network_time.md R81. -/
def TMR_CX_FREE_HI : Nat := 0x300070
/-- TMR_Pn_COMP, 02_network_time.md R81. -/
def TMR_P_COMP (i : Nat) : Nat := 0x300100 + 0x20 * i
def TMR_P_COMP_tx_comp (i : Nat) : Fld := ⟨(TMR_P_COMP i), 16, 16⟩
def TMR_P_COMP_rx_comp (i : Nat) : Fld := ⟨(TMR_P_COMP i), 0, 16⟩
/-- TMR_Pn_TXTS_META, 02_network_time.md R81. -/
def TMR_P_TXTS_META (i : Nat) : Nat := 0x300104 + 0x20 * i
def TMR_P_TXTS_META_valid (i : Nat) : Fld := ⟨(TMR_P_TXTS_META i), 31, 1⟩
def TMR_P_TXTS_META_lost (i : Nat) : Fld := ⟨(TMR_P_TXTS_META i), 30, 1⟩
def TMR_P_TXTS_META_step_tag (i : Nat) : Fld := ⟨(TMR_P_TXTS_META i), 26, 4⟩
def TMR_P_TXTS_META_frac (i : Nat) : Fld := ⟨(TMR_P_TXTS_META i), 22, 4⟩
def TMR_P_TXTS_META_tag (i : Nat) : Fld := ⟨(TMR_P_TXTS_META i), 0, 16⟩
/-- TMR_Pn_TXTS_LO, 02_network_time.md R81. -/
def TMR_P_TXTS_LO (i : Nat) : Nat := 0x300108 + 0x20 * i
/-- TMR_Pn_TXTS_HI, 02_network_time.md R81. -/
def TMR_P_TXTS_HI (i : Nat) : Nat := 0x30010c + 0x20 * i
/-- PRG_CTL, 06_arrangements.md R251. -/
def PRG_CTL : Nat := 0x400000
/-- PRG_CMD, 06_arrangements.md R251. -/
def PRG_CMD : Nat := 0x400004
def PRG_CMD_cmd : Fld := ⟨PRG_CMD, 28, 4⟩
def PRG_CMD_slot : Fld := ⟨PRG_CMD, 24, 2⟩
def PRG_CMD_at_cycle : Fld := ⟨PRG_CMD, 16, 1⟩
/-- PRG_STAT, 06_arrangements.md R251. -/
def PRG_STAT : Nat := 0x400008
def PRG_STAT_active : Fld := ⟨PRG_STAT, 30, 2⟩
def PRG_STAT_active_v : Fld := ⟨PRG_STAT, 29, 1⟩
def PRG_STAT_staged : Fld := ⟨PRG_STAT, 27, 2⟩
def PRG_STAT_staged_v : Fld := ⟨PRG_STAT, 26, 1⟩
def PRG_STAT_busy : Fld := ⟨PRG_STAT, 25, 1⟩
def PRG_STAT_cmd_reject : Fld := ⟨PRG_STAT, 24, 1⟩
def PRG_STAT_late_start : Fld := ⟨PRG_STAT, 23, 1⟩
def PRG_STAT_miss : Fld := ⟨PRG_STAT, 22, 1⟩
def PRG_STAT_time_step : Fld := ⟨PRG_STAT, 21, 1⟩
def PRG_STAT_step_fault : Fld := ⟨PRG_STAT, 20, 1⟩
def PRG_STAT_reason : Fld := ⟨PRG_STAT, 16, 4⟩
def PRG_STAT_slot_state : Fld := ⟨PRG_STAT, 0, 12⟩
/-- PRG_POS, 06_arrangements.md R251. -/
def PRG_POS : Nat := 0x40000c
/-- PRG_START_LATE, 06_arrangements.md R251. -/
def PRG_START_LATE : Nat := 0x400010
/-- PRG_MISS, 06_arrangements.md R251. -/
def PRG_MISS : Nat := 0x400014
/-- PRG_MISS_CNT, 06_arrangements.md R251. -/
def PRG_MISS_CNT : Nat := 0x400018
/-- PRG_HELD_CNT, 06_arrangements.md R251. -/
def PRG_HELD_CNT : Nat := 0x40001c
/-- PRG_NEXT_B, 06_arrangements.md R251. -/
def PRG_NEXT_B : Nat := 0x400020
/-- PRG_Sn_HDR, 06_arrangements.md R251. -/
def PRG_S_HDR (i : Nat) : Nat := 0x400100 + 0x40 * i
def PRG_S_HDR_cyclic (i : Nat) : Fld := ⟨(PRG_S_HDR i), 31, 1⟩
def PRG_S_HDR_at (i : Nat) : Fld := ⟨(PRG_S_HDR i), 30, 1⟩
def PRG_S_HDR_start_now (i : Nat) : Fld := ⟨(PRG_S_HDR i), 29, 1⟩
def PRG_S_HDR_guard_default (i : Nat) : Fld := ⟨(PRG_S_HDR i), 16, 8⟩
def PRG_S_HDR_step_count (i : Nat) : Fld := ⟨(PRG_S_HDR i), 0, 13⟩
/-- PRG_Sn_SPAN, 06_arrangements.md R251. -/
def PRG_S_SPAN (i : Nat) : Nat := 0x400104 + 0x40 * i
/-- PRG_Sn_T0_LO, 06_arrangements.md R251. -/
def PRG_S_T0_LO (i : Nat) : Nat := 0x400108 + 0x40 * i
/-- PRG_Sn_T0_HI, 06_arrangements.md R251. -/
def PRG_S_T0_HI (i : Nat) : Nat := 0x40010c + 0x40 * i
/-- PRG_Sn_OPC, 06_arrangements.md R251. -/
def PRG_S_OPC (i : Nat) : Nat := 0x400110 + 0x40 * i
/-- PRG_Sn_CRC, 06_arrangements.md R251. -/
def PRG_S_CRC (i : Nat) : Nat := 0x400114 + 0x40 * i
/-- PRG_Sn_STAT, 06_arrangements.md R251. -/
def PRG_S_STAT (i : Nat) : Nat := 0x400118 + 0x40 * i
/-- ARS_CTL, 06_arrangements.md R246. -/
def ARS_CTL : Nat := 0x500000
def ARS_CTL_pager_en : Fld := ⟨ARS_CTL, 31, 1⟩
def ARS_CTL_lead : Fld := ⟨ARS_CTL, 16, 12⟩
def ARS_CTL_lookahead : Fld := ⟨ARS_CTL, 0, 16⟩
/-- ARS_STORE_BASE, 06_arrangements.md R246. -/
def ARS_STORE_BASE : Nat := 0x500004
/-- ARS_CUR_RANGE, 06_arrangements.md R246. -/
def ARS_CUR_RANGE : Nat := 0x500008
/-- ARS_CMD, 06_arrangements.md R246. -/
def ARS_CMD : Nat := 0x50000c
def ARS_CMD_cmd : Fld := ⟨ARS_CMD, 28, 4⟩
def ARS_CMD_replace : Fld := ⟨ARS_CMD, 27, 1⟩
def ARS_CMD_buf : Fld := ⟨ARS_CMD, 16, 2⟩
def ARS_CMD_id : Fld := ⟨ARS_CMD, 0, 16⟩
/-- ARS_STAT, 06_arrangements.md R246. -/
def ARS_STAT : Nat := 0x500010
def ARS_STAT_busy : Fld := ⟨ARS_STAT, 31, 1⟩
def ARS_STAT_cmd_reject : Fld := ⟨ARS_STAT, 30, 1⟩
def ARS_STAT_page_late : Fld := ⟨ARS_STAT, 29, 1⟩
def ARS_STAT_fill_err : Fld := ⟨ARS_STAT, 28, 1⟩
def ARS_STAT_result : Fld := ⟨ARS_STAT, 20, 4⟩
def ARS_STAT_id : Fld := ⟨ARS_STAT, 0, 16⟩
/-- ARS_COUNT, 06_arrangements.md R246. -/
def ARS_COUNT : Nat := 0x500014
/-- ARS_QUERY, 06_arrangements.md R246. -/
def ARS_QUERY : Nat := 0x500018
/-- ARS_QUERY_RES, 06_arrangements.md R246. -/
def ARS_QUERY_RES : Nat := 0x50001c
def ARS_QUERY_RES_store : Fld := ⟨ARS_QUERY_RES, 30, 2⟩
def ARS_QUERY_RES_cached : Fld := ⟨ARS_QUERY_RES, 29, 1⟩
def ARS_QUERY_RES_entry : Fld := ⟨ARS_QUERY_RES, 23, 6⟩
def ARS_QUERY_RES_in_use : Fld := ⟨ARS_QUERY_RES, 22, 1⟩
/-- ARS_PAGE_LATE_CNT, 06_arrangements.md R246. -/
def ARS_PAGE_LATE_CNT : Nat := 0x500020
/-- ARS_FILL_ERR_CNT, 06_arrangements.md R246. -/
def ARS_FILL_ERR_CNT : Nat := 0x500024
/-- ARS_TAGee, 06_arrangements.md R246. -/
def ARS_TAG (i : Nat) : Nat := 0x500100 + 0x4 * i
def ARS_TAG_state (i : Nat) : Fld := ⟨(ARS_TAG i), 30, 2⟩
def ARS_TAG_dirty (i : Nat) : Fld := ⟨(ARS_TAG i), 29, 1⟩
def ARS_TAG_pins (i : Nat) : Fld := ⟨(ARS_TAG i), 24, 5⟩
def ARS_TAG_arr_id (i : Nat) : Fld := ⟨(ARS_TAG i), 0, 16⟩
/-- CUR_CTL, 07_curator.md R289. -/
def CUR_CTL : Nat := 0x600000
def CUR_CTL_slot_b : Fld := ⟨CUR_CTL, 12, 2⟩
def CUR_CTL_slot_a : Fld := ⟨CUR_CTL, 8, 2⟩
def CUR_CTL_drop_ok : Fld := ⟨CUR_CTL, 4, 1⟩
def CUR_CTL_mode : Fld := ⟨CUR_CTL, 0, 2⟩
/-- CUR_STAT, 07_curator.md R289. -/
def CUR_STAT : Nat := 0x600004
def CUR_STAT_busy : Fld := ⟨CUR_STAT, 31, 1⟩
def CUR_STAT_cmd_reject : Fld := ⟨CUR_STAT, 30, 1⟩
def CUR_STAT_mode_reject : Fld := ⟨CUR_STAT, 29, 1⟩
def CUR_STAT_epoch_late : Fld := ⟨CUR_STAT, 28, 1⟩
def CUR_STAT_no_id : Fld := ⟨CUR_STAT, 27, 1⟩
def CUR_STAT_dropped : Fld := ⟨CUR_STAT, 26, 1⟩
def CUR_STAT_unroutable : Fld := ⟨CUR_STAT, 25, 1⟩
def CUR_STAT_rx_drop : Fld := ⟨CUR_STAT, 24, 1⟩
def CUR_STAT_slot_lost : Fld := ⟨CUR_STAT, 23, 1⟩
def CUR_STAT_mode : Fld := ⟨CUR_STAT, 21, 2⟩
def CUR_STAT_done_depth : Fld := ⟨CUR_STAT, 16, 5⟩
def CUR_STAT_cmd_depth : Fld := ⟨CUR_STAT, 11, 5⟩
def CUR_STAT_mode_reason : Fld := ⟨CUR_STAT, 9, 2⟩
def CUR_STAT_done_lost : Fld := ⟨CUR_STAT, 8, 1⟩
/-- CUR_EPOCH_LEN, 07_curator.md R289. -/
def CUR_EPOCH_LEN : Nat := 0x600008
/-- CUR_MATCH_CTL, 07_curator.md R289. -/
def CUR_MATCH_CTL : Nat := 0x60000c
def CUR_MATCH_CTL_guard : Fld := ⟨CUR_MATCH_CTL, 24, 8⟩
def CUR_MATCH_CTL_decay : Fld := ⟨CUR_MATCH_CTL, 20, 4⟩
def CUR_MATCH_CTL_max_match : Fld := ⟨CUR_MATCH_CTL, 8, 5⟩
/-- CUR_WMIN, 07_curator.md R289. -/
def CUR_WMIN : Nat := 0x600010
/-- CUR_SEED, 07_curator.md R289. -/
def CUR_SEED : Nat := 0x600014
/-- CUR_RX_CTL, 07_curator.md R289. -/
def CUR_RX_CTL : Nat := 0x600018
/-- CUR_RX_CNT, 07_curator.md R289. -/
def CUR_RX_CNT : Nat := 0x60001c
/-- CUR_RX_DROP, 07_curator.md R289. -/
def CUR_RX_DROP : Nat := 0x600020
/-- CUR_EPOCH_CNT, 07_curator.md R289. -/
def CUR_EPOCH_CNT : Nat := 0x600024
/-- CUR_EPOCH_STAT, 07_curator.md R289. -/
def CUR_EPOCH_STAT : Nat := 0x600028
/-- CUR_NEXT_ID, 07_curator.md R289. -/
def CUR_NEXT_ID : Nat := 0x60002c
/-- CUR_CMD0–CUR_CMD3, 07_curator.md R289. -/
def CUR_CMD (i : Nat) : Nat := 0x600030 + 0x4 * i
/-- CUR_DONE0, 07_curator.md R289. -/
def CUR_DONE0 : Nat := 0x600040
def CUR_DONE0_cmd : Fld := ⟨CUR_DONE0, 24, 8⟩
def CUR_DONE0_status : Fld := ⟨CUR_DONE0, 16, 4⟩
def CUR_DONE0_tag : Fld := ⟨CUR_DONE0, 0, 16⟩
/-- CUR_DONE1, 07_curator.md R289. -/
def CUR_DONE1 : Nat := 0x600044
def CUR_DONE1_arr_id : Fld := ⟨CUR_DONE1, 16, 16⟩
def CUR_DONE1_doc_status : Fld := ⟨CUR_DONE1, 12, 4⟩
def CUR_DONE1_dropped : Fld := ⟨CUR_DONE1, 6, 6⟩
def CUR_DONE1_broken : Fld := ⟨CUR_DONE1, 0, 6⟩
/-- CUR_ROUTE_STAT, 07_curator.md R289. -/
def CUR_ROUTE_STAT : Nat := 0x600048
def CUR_ROUTE_STAT_trial : Fld := ⟨CUR_ROUTE_STAT, 30, 2⟩
def CUR_ROUTE_STAT_rounds : Fld := ⟨CUR_ROUTE_STAT, 26, 3⟩
def CUR_ROUTE_STAT_circuits : Fld := ⟨CUR_ROUTE_STAT, 16, 10⟩
def CUR_ROUTE_STAT_dropped : Fld := ⟨CUR_ROUTE_STAT, 8, 8⟩
def CUR_ROUTE_STAT_broken : Fld := ⟨CUR_ROUTE_STAT, 0, 8⟩
/-- CUR_UNROUTE, 07_curator.md R289. -/
def CUR_UNROUTE : Nat := 0x60004c
def CUR_UNROUTE_valid : Fld := ⟨CUR_UNROUTE, 31, 1⟩
def CUR_UNROUTE_cause : Fld := ⟨CUR_UNROUTE, 28, 3⟩
def CUR_UNROUTE_stage : Fld := ⟨CUR_UNROUTE, 23, 5⟩
def CUR_UNROUTE_row : Fld := ⟨CUR_UNROUTE, 15, 8⟩
def CUR_UNROUTE_port : Fld := ⟨CUR_UNROUTE, 0, 10⟩
/-- CUR_DEM_ROW, 07_curator.md R289. -/
def CUR_DEM_ROW : Nat := 0x600050
/-- CUR_PERSISTi, 07_curator.md R289. -/
def CUR_PERSIST (i : Nat) : Nat := 0x600100 + 0x4 * i
/-- CUR_PERMb, 07_curator.md R289. -/
def CUR_PERM (i : Nat) (j : Nat) : Nat := 0x601000 + 0x400 * i + 0x4 * j
/-- DOC_CTL, 05_transitions.md R201. -/
def DOC_CTL : Nat := 0x700000
def DOC_CTL_run_limit : Fld := ⟨DOC_CTL, 16, 16⟩
def DOC_CTL_host_en : Fld := ⟨DOC_CTL, 0, 1⟩
/-- DOC_STAT, 05_transitions.md R201. -/
def DOC_STAT : Nat := 0x700004
def DOC_STAT_state : Fld := ⟨DOC_STAT, 30, 2⟩
def DOC_STAT_partial : Fld := ⟨DOC_STAT, 29, 1⟩
def DOC_STAT_abort_busy : Fld := ⟨DOC_STAT, 28, 1⟩
def DOC_STAT_abort_res : Fld := ⟨DOC_STAT, 26, 2⟩
def DOC_STAT_ecc_fatal : Fld := ⟨DOC_STAT, 25, 1⟩
def DOC_STAT_run_over : Fld := ⟨DOC_STAT, 24, 1⟩
def DOC_STAT_cmd_reject : Fld := ⟨DOC_STAT, 23, 1⟩
def DOC_STAT_done_lost : Fld := ⟨DOC_STAT, 22, 1⟩
def DOC_STAT_done_depth : Fld := ⟨DOC_STAT, 16, 5⟩
def DOC_STAT_host_depth : Fld := ⟨DOC_STAT, 12, 4⟩
/-- DOC_CMD0–DOC_CMD3, 05_transitions.md R201. -/
def DOC_CMD (i : Nat) : Nat := 0x700008 + 0x4 * i
/-- DOC_DONE0, 05_transitions.md R201. -/
def DOC_DONE0 : Nat := 0x700020
def DOC_DONE0_opcode : Fld := ⟨DOC_DONE0, 24, 8⟩
def DOC_DONE0_source : Fld := ⟨DOC_DONE0, 20, 4⟩
def DOC_DONE0_status : Fld := ⟨DOC_DONE0, 16, 4⟩
def DOC_DONE0_tag : Fld := ⟨DOC_DONE0, 0, 16⟩
/-- DOC_DONE1, 05_transitions.md R201. -/
def DOC_DONE1 : Nat := 0x700024
def DOC_DONE1_b_moved : Fld := ⟨DOC_DONE1, 31, 1⟩
def DOC_DONE1_partial : Fld := ⟨DOC_DONE1, 30, 1⟩
def DOC_DONE1_roll : Fld := ⟨DOC_DONE1, 28, 2⟩
def DOC_DONE1_abort_res : Fld := ⟨DOC_DONE1, 26, 2⟩
def DOC_DONE1_step_tag : Fld := ⟨DOC_DONE1, 0, 16⟩
/-- DOC_ABORT, 05_transitions.md R201. -/
def DOC_ABORT : Nat := 0x700028
def DOC_ABORT_current : Fld := ⟨DOC_ABORT, 31, 1⟩
def DOC_ABORT_tag : Fld := ⟨DOC_ABORT, 0, 16⟩
/-- DOC_URG, 05_transitions.md R201. -/
def DOC_URG : Nat := 0x70002c
/-- DOC_RUN, 05_transitions.md R201. -/
def DOC_RUN : Nat := 0x700030
/-- DOC_RESUME, 05_transitions.md R201. -/
def DOC_RESUME : Nat := 0x700034
/-- DOC_ECC_CNT, 05_transitions.md R201. -/
def DOC_ECC_CNT : Nat := 0x700038
/-- DOC_STEP_STAT0, 05_transitions.md R201. -/
def DOC_STEP_STAT0 : Nat := 0x700040
def DOC_STEP_STAT0_step_tag : Fld := ⟨DOC_STEP_STAT0, 16, 16⟩
def DOC_STEP_STAT0_worst_j : Fld := ⟨DOC_STEP_STAT0, 12, 4⟩
def DOC_STEP_STAT0_revert : Fld := ⟨DOC_STEP_STAT0, 11, 1⟩
def DOC_STEP_STAT0_b_moved : Fld := ⟨DOC_STEP_STAT0, 10, 1⟩
def DOC_STEP_STAT0_galleries : Fld := ⟨DOC_STEP_STAT0, 0, 6⟩
/-- DOC_STEP_STAT1, 05_transitions.md R201. -/
def DOC_STEP_STAT1 : Nat := 0x700044
/-- DOC_STEP_ARR, 05_transitions.md R201. -/
def DOC_STEP_ARR : Nat := 0x700048
/-- DOC_EPOCH_REQ, 05_transitions.md R201. -/
def DOC_EPOCH_REQ : Nat := 0x700050
def DOC_EPOCH_REQ_lead : Fld := ⟨DOC_EPOCH_REQ, 8, 8⟩
def DOC_EPOCH_REQ_mode : Fld := ⟨DOC_EPOCH_REQ, 0, 2⟩
/-- DOC_EPOCH_STAT, 05_transitions.md R201. -/
def DOC_EPOCH_STAT : Nat := 0x700054
def DOC_EPOCH_STAT_preparing : Fld := ⟨DOC_EPOCH_STAT, 31, 1⟩
def DOC_EPOCH_STAT_result : Fld := ⟨DOC_EPOCH_STAT, 28, 2⟩
def DOC_EPOCH_STAT_reason : Fld := ⟨DOC_EPOCH_STAT, 24, 4⟩
def DOC_EPOCH_STAT_missing : Fld := ⟨DOC_EPOCH_STAT, 16, 8⟩
def DOC_EPOCH_STAT_pending : Fld := ⟨DOC_EPOCH_STAT, 8, 8⟩
def DOC_EPOCH_STAT_epoch : Fld := ⟨DOC_EPOCH_STAT, 0, 8⟩
/-- DOC_EPOCH_MISS, 05_transitions.md R201. -/
def DOC_EPOCH_MISS : Nat := 0x700058
/-- DOC_CUST_CTL, 05_transitions.md R201. -/
def DOC_CUST_CTL : Nat := 0x700060
def DOC_CUST_CTL_commit : Fld := ⟨DOC_CUST_CTL, 1, 1⟩
def DOC_CUST_CTL_load : Fld := ⟨DOC_CUST_CTL, 0, 1⟩
/-- DOC_CUST_STAT, 05_transitions.md R201. -/
def DOC_CUST_STAT : Nat := 0x700064
def DOC_CUST_STAT_result : Fld := ⟨DOC_CUST_STAT, 30, 2⟩
def DOC_CUST_STAT_rule : Fld := ⟨DOC_CUST_STAT, 24, 4⟩
def DOC_CUST_STAT_address : Fld := ⟨DOC_CUST_STAT, 0, 13⟩
/-- DOC_CUST_CRC, 05_transitions.md R201. -/
def DOC_CUST_CRC : Nat := 0x700068
/-- LPE_Gnn_SUP_CTL, 04_loop_supervision.md R160. -/
def LPE_SUP_CTL (i : Nat) : Nat := 0x800000 + 0x10000 * i
def LPE_SUP_CTL_auto_resume (i : Nat) : Fld := ⟨(LPE_SUP_CTL i), 16, 1⟩
def LPE_SUP_CTL_coast_limit (i : Nat) : Fld := ⟨(LPE_SUP_CTL i), 0, 8⟩
/-- LPE_Gnn_SUP_STAT, 04_loop_supervision.md R160. -/
def LPE_SUP_STAT (i : Nat) : Nat := 0x800004 + 0x10000 * i
def LPE_SUP_STAT_trim_clamp (i : Nat) : Fld := ⟨(LPE_SUP_STAT i), 8, 1⟩
def LPE_SUP_STAT_auto_block (i : Nat) : Fld := ⟨(LPE_SUP_STAT i), 7, 1⟩
def LPE_SUP_STAT_cmd_reject (i : Nat) : Fld := ⟨(LPE_SUP_STAT i), 6, 1⟩
def LPE_SUP_STAT_stuck_new (i : Nat) : Fld := ⟨(LPE_SUP_STAT i), 5, 1⟩
def LPE_SUP_STAT_single_out (i : Nat) : Fld := ⟨(LPE_SUP_STAT i), 4, 1⟩
def LPE_SUP_STAT_overrange (i : Nat) : Fld := ⟨(LPE_SUP_STAT i), 3, 1⟩
def LPE_SUP_STAT_frozen (i : Nat) : Fld := ⟨(LPE_SUP_STAT i), 2, 1⟩
def LPE_SUP_STAT_hold_entry (i : Nat) : Fld := ⟨(LPE_SUP_STAT i), 1, 1⟩
def LPE_SUP_STAT_coast_entry (i : Nat) : Fld := ⟨(LPE_SUP_STAT i), 0, 1⟩
/-- LPE_Gnn_MODE_CNT0, 04_loop_supervision.md R160. -/
def LPE_MODE_CNT0 (i : Nat) : Nat := 0x800008 + 0x10000 * i
/-- LPE_Gnn_MODE_CNT1, 04_loop_supervision.md R160. -/
def LPE_MODE_CNT1 (i : Nat) : Nat := 0x80000c + 0x10000 * i
/-- LPE_Gnn_CELL_CMD, 04_loop_supervision.md R160. -/
def LPE_CELL_CMD (i : Nat) : Nat := 0x800010 + 0x10000 * i
def LPE_CELL_CMD_cmd (i : Nat) : Fld := ⟨(LPE_CELL_CMD i), 24, 4⟩
def LPE_CELL_CMD_state (i : Nat) : Fld := ⟨(LPE_CELL_CMD i), 16, 2⟩
def LPE_CELL_CMD_all_cells (i : Nat) : Fld := ⟨(LPE_CELL_CMD i), 8, 1⟩
def LPE_CELL_CMD_cell (i : Nat) : Fld := ⟨(LPE_CELL_CMD i), 0, 7⟩
/-- LPE_Gnn_CMD_STAT, 04_loop_supervision.md R160. -/
def LPE_CMD_STAT (i : Nat) : Nat := 0x800014 + 0x10000 * i
def LPE_CMD_STAT_busy (i : Nat) : Fld := ⟨(LPE_CMD_STAT i), 31, 1⟩
def LPE_CMD_STAT_reason (i : Nat) : Fld := ⟨(LPE_CMD_STAT i), 16, 4⟩
def LPE_CMD_STAT_e_tag (i : Nat) : Fld := ⟨(LPE_CMD_STAT i), 0, 16⟩
/-- LPE_Gnn_COAST_CNT, 04_loop_supervision.md R160. -/
def LPE_COAST_CNT (i : Nat) : Nat := 0x800018 + 0x10000 * i
/-- LPE_Gnn_HOLD_LAST, 04_loop_supervision.md R160. -/
def LPE_HOLD_LAST (i : Nat) : Nat := 0x80001c + 0x10000 * i
/-- LPE_Gnn_HOLD_MAPi, 04_loop_supervision.md R160. -/
def LPE_HOLD_MAP (i : Nat) (j : Nat) : Nat := 0x800020 + 0x10000 * i + 0x4 * j
/-- LPE_Gnn_COAST_MAPi, 04_loop_supervision.md R160. -/
def LPE_COAST_MAP (i : Nat) (j : Nat) : Nat := 0x800030 + 0x10000 * i + 0x4 * j
/-- LPE_Gnn_TRIMjjj, 04_loop_supervision.md R160. -/
def LPE_TRIM (i : Nat) (j : Nat) : Nat := 0x800100 + 0x10000 * i + 0x4 * j
def LPE_TRIM_trim_slew (i : Nat) (j : Nat) : Fld := ⟨(LPE_TRIM i j), 17, 15⟩
def LPE_TRIM_trim_tgt (i : Nat) (j : Nat) : Fld := ⟨(LPE_TRIM i j), 0, 17⟩
/-- LPE_Gnn_LAW_STAT, 03_loop_law.md R130. -/
def LPE_LAW_STAT (i : Nat) : Nat := 0x800400 + 0x10000 * i
def LPE_LAW_STAT_param_gen (i : Nat) : Fld := ⟨(LPE_LAW_STAT i), 24, 8⟩
def LPE_LAW_STAT_active_bank (i : Nat) : Fld := ⟨(LPE_LAW_STAT i), 23, 1⟩
def LPE_LAW_STAT_tgt_range (i : Nat) : Fld := ⟨(LPE_LAW_STAT i), 2, 1⟩
def LPE_LAW_STAT_ring_err (i : Nat) : Fld := ⟨(LPE_LAW_STAT i), 1, 1⟩
def LPE_LAW_STAT_sat (i : Nat) : Fld := ⟨(LPE_LAW_STAT i), 0, 1⟩
/-- LPE_Gnn_SAT_CNT, 03_loop_law.md R130. -/
def LPE_SAT_CNT (i : Nat) : Nat := 0x800404 + 0x10000 * i
/-- LPE_Gnn_RING_CNT, 03_loop_law.md R130. -/
def LPE_RING_CNT (i : Nat) : Nat := 0x800408 + 0x10000 * i
/-- LPE_Gnn_SETTLE, 03_loop_law.md R130. -/
def LPE_SETTLE (i : Nat) : Nat := 0x80040c + 0x10000 * i
def LPE_SETTLE_step_tag (i : Nat) : Fld := ⟨(LPE_SETTLE i), 16, 16⟩
def LPE_SETTLE_worst_j (i : Nat) : Fld := ⟨(LPE_SETTLE i), 12, 4⟩
def LPE_SETTLE_late_cnt (i : Nat) : Fld := ⟨(LPE_SETTLE i), 6, 6⟩
def LPE_SETTLE_untested_cnt (i : Nat) : Fld := ⟨(LPE_SETTLE i), 0, 6⟩
/-- LPE_Gnn_TGT_CELL, 03_loop_law.md R130. -/
def LPE_TGT_CELL (i : Nat) : Nat := 0x800410 + 0x10000 * i
/-- INV_CMD, 04_loop_supervision.md R157. -/
def INV_CMD : Nat := 0xa80000
def INV_CMD_cmd : Fld := ⟨INV_CMD, 28, 4⟩
def INV_CMD_state : Fld := ⟨INV_CMD, 26, 2⟩
def INV_CMD_cell : Fld := ⟨INV_CMD, 0, 13⟩
/-- INV_STAT, 04_loop_supervision.md R157. -/
def INV_STAT : Nat := 0xa80004
def INV_STAT_cmd_busy : Fld := ⟨INV_STAT, 31, 1⟩
def INV_STAT_cmd_reject : Fld := ⟨INV_STAT, 30, 1⟩
def INV_STAT_stuck_new : Fld := ⟨INV_STAT, 29, 1⟩
def INV_STAT_stuck_total : Fld := ⟨INV_STAT, 0, 13⟩
/-- INV_CTL, 04_loop_supervision.md R157. -/
def INV_CTL : Nat := 0xa80008
def INV_CTL_hold_leak_en : Fld := ⟨INV_CTL, 4, 1⟩
def INV_CTL_stuck_thr : Fld := ⟨INV_CTL, 0, 4⟩
/-- INV_STUCK_MAPttt, 04_loop_supervision.md R157. -/
def INV_STUCK_MAP (i : Nat) : Nat := 0xa80100 + 0x4 * i
/-- NGL_Lttt_CTL, 08_ngard_links.md R326. -/
def NGL_L_CTL (i : Nat) : Nat := 0xb00000 + 0x1000 * i
def NGL_L_CTL_cmd (i : Nat) : Fld := ⟨(NGL_L_CTL i), 28, 4⟩
def NGL_L_CTL_prbs_len (i : Nat) : Fld := ⟨(NGL_L_CTL i), 0, 20⟩
/-- NGL_Lttt_STAT, 08_ngard_links.md R326. -/
def NGL_L_STAT (i : Nat) : Nat := 0xb00004 + 0x1000 * i
def NGL_L_STAT_state (i : Nat) : Fld := ⟨(NGL_L_STAT i), 28, 4⟩
def NGL_L_STAT_fail_code (i : Nat) : Fld := ⟨(NGL_L_STAT i), 24, 4⟩
def NGL_L_STAT_cmd_reject (i : Nat) : Fld := ⟨(NGL_L_STAT i), 23, 1⟩
def NGL_L_STAT_dl_fault (i : Nat) : Fld := ⟨(NGL_L_STAT i), 22, 1⟩
def NGL_L_STAT_rtt_high (i : Nat) : Fld := ⟨(NGL_L_STAT i), 21, 1⟩
def NGL_L_STAT_dup_conflict (i : Nat) : Fld := ⟨(NGL_L_STAT i), 20, 1⟩
def NGL_L_STAT_tile_alarm (i : Nat) : Fld := ⟨(NGL_L_STAT i), 19, 1⟩
def NGL_L_STAT_oos (i : Nat) : Fld := ⟨(NGL_L_STAT i), 18, 1⟩
def NGL_L_STAT_fallback (i : Nat) : Fld := ⟨(NGL_L_STAT i), 17, 1⟩
def NGL_L_STAT_epoch (i : Nat) : Fld := ⟨(NGL_L_STAT i), 8, 8⟩
def NGL_L_STAT_reason (i : Nat) : Fld := ⟨(NGL_L_STAT i), 4, 4⟩
/-- NGL_Lttt_RTT, 08_ngard_links.md R326. -/
def NGL_L_RTT (i : Nat) : Nat := 0xb00008 + 0x1000 * i
def NGL_L_RTT_rtt_max (i : Nat) : Fld := ⟨(NGL_L_RTT i), 16, 16⟩
def NGL_L_RTT_rtt (i : Nat) : Fld := ⟨(NGL_L_RTT i), 0, 16⟩
/-- NGL_Lttt_UL_CRC, 08_ngard_links.md R326. -/
def NGL_L_UL_CRC (i : Nat) : Nat := 0xb0000c + 0x1000 * i
/-- NGL_Lttt_UL_ABSENT, 08_ngard_links.md R326. -/
def NGL_L_UL_ABSENT (i : Nat) : Nat := 0xb00010 + 0x1000 * i
/-- NGL_Lttt_SYNC_ERR, 08_ngard_links.md R326. -/
def NGL_L_SYNC_ERR (i : Nat) : Nat := 0xb00014 + 0x1000 * i
/-- NGL_Lttt_DL_HELD, 08_ngard_links.md R326. -/
def NGL_L_DL_HELD (i : Nat) : Nat := 0xb00018 + 0x1000 * i
/-- NGL_Lttt_OOS, 08_ngard_links.md R326. -/
def NGL_L_OOS (i : Nat) : Nat := 0xb0001c + 0x1000 * i
/-- NGL_Lttt_PRBS_UL, 08_ngard_links.md R326. -/
def NGL_L_PRBS_UL (i : Nat) : Nat := 0xb00020 + 0x1000 * i
/-- NGL_Lttt_PRBS_DL, 08_ngard_links.md R326. -/
def NGL_L_PRBS_DL (i : Nat) : Nat := 0xb00024 + 0x1000 * i
/-- NGL_Lttt_TILE_ID, 08_ngard_links.md R326. -/
def NGL_L_TILE_ID (i : Nat) : Nat := 0xb00028 + 0x1000 * i
/-- NGL_Lttt_TELEMi_LO, 08_ngard_links.md R326. -/
def NGL_L_TELEM_LO (i : Nat) (j : Nat) : Nat := 0xb00040 + 0x1000 * i + 0x8 * j
/-- NGL_Lttt_TELEMi_HI, 08_ngard_links.md R326. -/
def NGL_L_TELEM_HI (i : Nat) (j : Nat) : Nat := 0xb00044 + 0x1000 * i + 0x8 * j
/-- NGL_CTL, 08_ngard_links.md R330. -/
def NGL_CTL : Nat := 0xbf0000
def NGL_CTL_auto_up : Fld := ⟨NGL_CTL, 31, 1⟩
def NGL_CTL_auto_retry : Fld := ⟨NGL_CTL, 30, 1⟩
def NGL_CTL_fallback : Fld := ⟨NGL_CTL, 29, 1⟩
def NGL_CTL_loss_limit : Fld := ⟨NGL_CTL, 16, 8⟩
def NGL_CTL_hold_timeout : Fld := ⟨NGL_CTL, 0, 16⟩
/-- NGL_STAT, 08_ngard_links.md R330. -/
def NGL_STAT : Nat := 0xbf0004
/-- NGL_INSVCi, 08_ngard_links.md R330. -/
def NGL_INSVC (i : Nat) : Nat := 0xbf0010 + 0x4 * i
/-- NGL_SVC_CMD, 08_ngard_links.md R330. -/
def NGL_SVC_CMD : Nat := 0xbf0030
def NGL_SVC_CMD_op : Fld := ⟨NGL_SVC_CMD, 28, 4⟩
def NGL_SVC_CMD_count : Fld := ⟨NGL_SVC_CMD, 24, 3⟩
def NGL_SVC_CMD_go : Fld := ⟨NGL_SVC_CMD, 8, 1⟩
def NGL_SVC_CMD_link : Fld := ⟨NGL_SVC_CMD, 0, 8⟩
/-- NGL_SVC_ADDR, 08_ngard_links.md R330. -/
def NGL_SVC_ADDR : Nat := 0xbf0034
/-- NGL_SVC_STAT, 08_ngard_links.md R330. -/
def NGL_SVC_STAT : Nat := 0xbf0038
def NGL_SVC_STAT_busy : Fld := ⟨NGL_SVC_STAT, 31, 1⟩
def NGL_SVC_STAT_status : Fld := ⟨NGL_SVC_STAT, 16, 4⟩
def NGL_SVC_STAT_tile_err : Fld := ⟨NGL_SVC_STAT, 0, 16⟩
/-- NGL_SVC_DATAi, 08_ngard_links.md R330. -/
def NGL_SVC_DATA (i : Nat) : Nat := 0xbf0040 + 0x4 * i
/-- CNS_CTL, 10_conservator.md R397. -/
def CNS_CTL : Nat := 0xc00000
def CNS_CTL_host_bank : Fld := ⟨CNS_CTL, 31, 1⟩
def CNS_CTL_auto_char : Fld := ⟨CNS_CTL, 30, 1⟩
def CNS_CTL_jrnl_en : Fld := ⟨CNS_CTL, 29, 1⟩
def CNS_CTL_use_journal : Fld := ⟨CNS_CTL, 28, 1⟩
def CNS_CTL_rail_tol : Fld := ⟨CNS_CTL, 24, 4⟩
def CNS_CTL_gain_shift : Fld := ⟨CNS_CTL, 16, 4⟩
def CNS_CTL_min_count : Fld := ⟨CNS_CTL, 0, 16⟩
/-- CNS_STAT, 10_conservator.md R397. -/
def CNS_STAT : Nat := 0xc00004
def CNS_STAT_busy : Fld := ⟨CNS_STAT, 31, 1⟩
def CNS_STAT_excursion : Fld := ⟨CNS_STAT, 30, 1⟩
def CNS_STAT_dip_high : Fld := ⟨CNS_STAT, 29, 1⟩
def CNS_STAT_jrnl_err : Fld := ⟨CNS_STAT, 28, 1⟩
def CNS_STAT_rail_shift : Fld := ⟨CNS_STAT, 27, 1⟩
def CNS_STAT_host_reject : Fld := ⟨CNS_STAT, 26, 1⟩
def CNS_STAT_journal_ignored : Fld := ⟨CNS_STAT, 25, 1⟩
def CNS_STAT_char_done : Fld := ⟨CNS_STAT, 24, 1⟩
def CNS_STAT_running : Fld := ⟨CNS_STAT, 20, 4⟩
def CNS_STAT_listed : Fld := ⟨CNS_STAT, 15, 5⟩
/-- CNS_AMP_CTL, 10_conservator.md R397. -/
def CNS_AMP_CTL : Nat := 0xc00008
def CNS_AMP_CTL_amp_init : Fld := ⟨CNS_AMP_CTL, 24, 8⟩
def CNS_AMP_CTL_amp_max : Fld := ⟨CNS_AMP_CTL, 16, 8⟩
def CNS_AMP_CTL_dip_tgt : Fld := ⟨CNS_AMP_CTL, 0, 9⟩
/-- CNS_COMMIT, 10_conservator.md R397. -/
def CNS_COMMIT : Nat := 0xc0000c
/-- CNS_WINDOW, 10_conservator.md R397. -/
def CNS_WINDOW : Nat := 0xc00010
/-- CNS_JRNL_CNT, 10_conservator.md R397. -/
def CNS_JRNL_CNT : Nat := 0xc00014
/-- CNS_JRNL_ERR_CNT, 10_conservator.md R397. -/
def CNS_JRNL_ERR_CNT : Nat := 0xc00018
/-- CNS_TRACE, 10_conservator.md R397. -/
def CNS_TRACE : Nat := 0xc0001c
/-- CNS_CHAR_FIT0–5, 10_conservator.md R397. -/
def CNS_CHAR_FIT (i : Nat) : Nat := 0xc00020 + 0x4 * i
/-- CNS_FREQk, 10_conservator.md R397. -/
def CNS_FREQ (i : Nat) : Nat := 0xc00080 + 0x4 * i
/-- CNS_RAILgg, 10_conservator.md R397. -/
def CNS_RAIL (i : Nat) : Nat := 0xc00100 + 0x4 * i
/-- CNS_CHAR_RESi, 10_conservator.md R397. -/
def CNS_CHAR_RES (i : Nat) : Nat := 0xc00200 + 0x8 * i
def CNS_CHAR_RES_status (i : Nat) : Fld := ⟨(CNS_CHAR_RES i), 28, 4⟩
def CNS_CHAR_RES_reason (i : Nat) : Fld := ⟨(CNS_CHAR_RES i), 24, 4⟩
def CNS_CHAR_RES_kind (i : Nat) : Fld := ⟨(CNS_CHAR_RES i), 20, 4⟩
def CNS_CHAR_RES_tag (i : Nat) : Fld := ⟨(CNS_CHAR_RES i), 0, 16⟩
/-- CNS_CHAR_RESi_B, 10_conservator.md R397. -/
def CNS_CHAR_RES_B (i : Nat) : Nat := 0xc00204 + 0x8 * i
def CNS_CHAR_RES_B_release (i : Nat) : Fld := ⟨(CNS_CHAR_RES_B i), 31, 1⟩
def CNS_CHAR_RES_B_void (i : Nat) : Fld := ⟨(CNS_CHAR_RES_B i), 24, 7⟩
def CNS_CHAR_RES_B_cell (i : Nat) : Fld := ⟨(CNS_CHAR_RES_B i), 0, 13⟩
/-- SVP_Pn_CTL, 11_service_ports.md R427. -/
def SVP_P_CTL (i : Nat) : Nat := 0xd00000 + 0x1000 * i
def SVP_P_CTL_mode (i : Nat) : Fld := ⟨(SVP_P_CTL i), 29, 3⟩
def SVP_P_CTL_fec (i : Nat) : Fld := ⟨(SVP_P_CTL i), 28, 1⟩
def SVP_P_CTL_an_en (i : Nat) : Fld := ⟨(SVP_P_CTL i), 27, 1⟩
def SVP_P_CTL_train_en (i : Nat) : Fld := ⟨(SVP_P_CTL i), 26, 1⟩
def SVP_P_CTL_rx_inv (i : Nat) : Fld := ⟨(SVP_P_CTL i), 4, 4⟩
def SVP_P_CTL_tx_inv (i : Nat) : Fld := ⟨(SVP_P_CTL i), 0, 4⟩
/-- SVP_Pn_STAT, 11_service_ports.md R427. -/
def SVP_P_STAT (i : Nat) : Nat := 0xd00004 + 0x1000 * i
def SVP_P_STAT_link_up (i : Nat) : Fld := ⟨(SVP_P_STAT i), 31, 1⟩
def SVP_P_STAT_pcs_lock (i : Nat) : Fld := ⟨(SVP_P_STAT i), 30, 1⟩
def SVP_P_STAT_fec_lock (i : Nat) : Fld := ⟨(SVP_P_STAT i), 29, 1⟩
def SVP_P_STAT_an_done (i : Nat) : Fld := ⟨(SVP_P_STAT i), 28, 1⟩
def SVP_P_STAT_an_fail (i : Nat) : Fld := ⟨(SVP_P_STAT i), 27, 1⟩
def SVP_P_STAT_link_down (i : Nat) : Fld := ⟨(SVP_P_STAT i), 26, 1⟩
def SVP_P_STAT_hi_ber (i : Nat) : Fld := ⟨(SVP_P_STAT i), 25, 1⟩
def SVP_P_STAT_mode_reject (i : Nat) : Fld := ⟨(SVP_P_STAT i), 24, 1⟩
/-- SVP_Pn_RX_FRAMES, 11_service_ports.md R427. -/
def SVP_P_RX_FRAMES (i : Nat) : Nat := 0xd00008 + 0x1000 * i
/-- SVP_Pn_RX_OCT_LO, 11_service_ports.md R427. -/
def SVP_P_RX_OCT_LO (i : Nat) : Nat := 0xd0000c + 0x1000 * i
/-- SVP_Pn_RX_OCT_HI, 11_service_ports.md R427. -/
def SVP_P_RX_OCT_HI (i : Nat) : Nat := 0xd00010 + 0x1000 * i
/-- SVP_Pn_RX_FCS, 11_service_ports.md R427. -/
def SVP_P_RX_FCS (i : Nat) : Nat := 0xd00014 + 0x1000 * i
/-- SVP_Pn_RX_LEN, 11_service_ports.md R427. -/
def SVP_P_RX_LEN (i : Nat) : Nat := 0xd00018 + 0x1000 * i
/-- SVP_Pn_RX_MACCTL, 11_service_ports.md R427. -/
def SVP_P_RX_MACCTL (i : Nat) : Nat := 0xd0001c + 0x1000 * i
/-- SVP_Pn_FEC_CORR, 11_service_ports.md R427. -/
def SVP_P_FEC_CORR (i : Nat) : Nat := 0xd00020 + 0x1000 * i
/-- SVP_Pn_FEC_UNCORR, 11_service_ports.md R427. -/
def SVP_P_FEC_UNCORR (i : Nat) : Nat := 0xd00024 + 0x1000 * i
/-- SVP_Pn_LINK_DOWN, 11_service_ports.md R427. -/
def SVP_P_LINK_DOWN (i : Nat) : Nat := 0xd00028 + 0x1000 * i
/-- PKT_CTL, 11_service_ports.md R430. -/
def PKT_CTL : Nat := 0xe00000
def PKT_CTL_depth_copy : Fld := ⟨PKT_CTL, 31, 1⟩
def PKT_CTL_copyist_rx : Fld := ⟨PKT_CTL, 30, 1⟩
def PKT_CTL_mgmt_queue : Fld := ⟨PKT_CTL, 16, 4⟩
/-- PKT_GEN, 11_service_ports.md R430. -/
def PKT_GEN : Nat := 0xe00004
def PKT_GEN_swap : Fld := ⟨PKT_GEN, 31, 1⟩
def PKT_GEN_copy : Fld := ⟨PKT_GEN, 30, 1⟩
def PKT_GEN_busy : Fld := ⟨PKT_GEN, 1, 1⟩
def PKT_GEN_active_gen : Fld := ⟨PKT_GEN, 0, 1⟩
/-- PKT_STAT, 11_service_ports.md R430. -/
def PKT_STAT : Nat := 0xe00008
def PKT_STAT_reject : Fld := ⟨PKT_STAT, 16, 1⟩
def PKT_STAT_dropped : Fld := ⟨PKT_STAT, 0, 11⟩
/-- PKT_DROPr, 11_service_ports.md R430. -/
def PKT_DROP (i : Nat) : Nat := 0xe00040 + 0x4 * i
/-- PKT_POLn_RATE, 11_service_ports.md R430. -/
def PKT_POL_RATE (i : Nat) : Nat := 0xe00100 + 0x8 * i
/-- PKT_POLn_DEPTH, 11_service_ports.md R430. -/
def PKT_POL_DEPTH (i : Nat) : Nat := 0xe00104 + 0x8 * i
/-- PKT_POLn_DROP, 11_service_ports.md R430. -/
def PKT_POL_DROP (i : Nat) : Nat := 0xe00180 + 0x4 * i
/-- PKT_Qq_CTL, 11_service_ports.md R430. -/
def PKT_Q_CTL (i : Nat) : Nat := 0xe00200 + 0x20 * i
/-- PKT_Qq_BASE, 11_service_ports.md R430. -/
def PKT_Q_BASE (i : Nat) : Nat := 0xe00204 + 0x20 * i
/-- PKT_Qq_SLOTS, 11_service_ports.md R430. -/
def PKT_Q_SLOTS (i : Nat) : Nat := 0xe00208 + 0x20 * i
/-- PKT_Qq_PROD, 11_service_ports.md R430. -/
def PKT_Q_PROD (i : Nat) : Nat := 0xe0020c + 0x20 * i
/-- PKT_Qq_CONS, 11_service_ports.md R430. -/
def PKT_Q_CONS (i : Nat) : Nat := 0xe00210 + 0x20 * i
/-- PKT_Qq_CNT, 11_service_ports.md R430. -/
def PKT_Q_CNT (i : Nat) : Nat := 0xe00214 + 0x20 * i
/-- PKT_Qq_DROP, 11_service_ports.md R430. -/
def PKT_Q_DROP (i : Nat) : Nat := 0xe00218 + 0x20 * i
/-- TXS_Pn_CTL, 12_egress_ledger.md R458. -/
def TXS_P_CTL (i : Nat) : Nat := 0xf00000 + 0x1000 * i
def TXS_P_CTL_trace_limit (i : Nat) : Fld := ⟨(TXS_P_CTL i), 24, 8⟩
def TXS_P_CTL_export_limit (i : Nat) : Fld := ⟨(TXS_P_CTL i), 16, 8⟩
def TXS_P_CTL_ovh (i : Nat) : Fld := ⟨(TXS_P_CTL i), 8, 6⟩
/-- TXS_Pn_STAT, 12_egress_ledger.md R458. -/
def TXS_P_STAT (i : Nat) : Nat := 0xf00004 + 0x1000 * i
def TXS_P_STAT_depth_hwm (i : Nat) : Fld := ⟨(TXS_P_STAT i), 24, 8⟩
def TXS_P_STAT_delay_hwm (i : Nat) : Fld := ⟨(TXS_P_STAT i), 16, 8⟩
def TXS_P_STAT_drop (i : Nat) : Fld := ⟨(TXS_P_STAT i), 8, 8⟩
def TXS_P_STAT_silenced (i : Nat) : Fld := ⟨(TXS_P_STAT i), 1, 1⟩
def TXS_P_STAT_acting (i : Nat) : Fld := ⟨(TXS_P_STAT i), 0, 1⟩
/-- TXS_Pn_WGT0, 12_egress_ledger.md R458. -/
def TXS_P_WGT0 (i : Nat) : Nat := 0xf00008 + 0x1000 * i
/-- TXS_Pn_WGT1, 12_egress_ledger.md R458. -/
def TXS_P_WGT1 (i : Nat) : Nat := 0xf0000c + 0x1000 * i
/-- TXS_Pn_MAC_LO, 12_egress_ledger.md R458. -/
def TXS_P_MAC_LO (i : Nat) : Nat := 0xf00010 + 0x1000 * i
/-- TXS_Pn_MAC_HI, 12_egress_ledger.md R458. -/
def TXS_P_MAC_HI (i : Nat) : Nat := 0xf00014 + 0x1000 * i
/-- TXS_Pn_GCL_CTL, 12_egress_ledger.md R458. -/
def TXS_P_GCL_CTL (i : Nat) : Nat := 0xf00020 + 0x1000 * i
def TXS_P_GCL_CTL_enable (i : Nat) : Fld := ⟨(TXS_P_GCL_CTL i), 31, 1⟩
def TXS_P_GCL_CTL_commit (i : Nat) : Fld := ⟨(TXS_P_GCL_CTL i), 30, 1⟩
def TXS_P_GCL_CTL_pending (i : Nat) : Fld := ⟨(TXS_P_GCL_CTL i), 29, 1⟩
def TXS_P_GCL_CTL_count (i : Nat) : Fld := ⟨(TXS_P_GCL_CTL i), 0, 7⟩
/-- TXS_Pn_GCL_BASE_LO, 12_egress_ledger.md R458. -/
def TXS_P_GCL_BASE_LO (i : Nat) : Nat := 0xf00024 + 0x1000 * i
/-- TXS_Pn_GCL_BASE_HI, 12_egress_ledger.md R458. -/
def TXS_P_GCL_BASE_HI (i : Nat) : Nat := 0xf00028 + 0x1000 * i
/-- TXS_Pn_GCL_STAT, 12_egress_ledger.md R458. -/
def TXS_P_GCL_STAT (i : Nat) : Nat := 0xf0002c + 0x1000 * i
/-- TXS_Pn_GCL_CYCLE, 12_egress_ledger.md R458. -/
def TXS_P_GCL_CYCLE (i : Nat) : Nat := 0xf00030 + 0x1000 * i
/-- TXS_Pn_RINGr_BASE, 12_egress_ledger.md R458. -/
def TXS_PRING_BASE (i : Nat) (j : Nat) : Nat := 0xf00040 + 0x1000 * i + 0x10 * j
/-- TXS_Pn_RINGr_SIZE, 12_egress_ledger.md R458. -/
def TXS_PRING_SIZE (i : Nat) (j : Nat) : Nat := 0xf00044 + 0x1000 * i + 0x10 * j
/-- TXS_Pn_RINGr_PROD, 12_egress_ledger.md R458. -/
def TXS_PRING_PROD (i : Nat) (j : Nat) : Nat := 0xf00048 + 0x1000 * i + 0x10 * j
/-- TXS_Pn_RINGr_CONS, 12_egress_ledger.md R458. -/
def TXS_PRING_CONS (i : Nat) (j : Nat) : Nat := 0xf0004c + 0x1000 * i + 0x10 * j
/-- TXS_Pn_Qq_SHARE, 12_egress_ledger.md R458. -/
def TXS_PQ_SHARE (i : Nat) (j : Nat) : Nat := 0xf00100 + 0x1000 * i + 0x20 * j
/-- TXS_Pn_Qq_HWM_DEPTH, 12_egress_ledger.md R458. -/
def TXS_PQ_HWM_DEPTH (i : Nat) (j : Nat) : Nat := 0xf00104 + 0x1000 * i + 0x20 * j
/-- TXS_Pn_Qq_HWM_DELAY, 12_egress_ledger.md R458. -/
def TXS_PQ_HWM_DELAY (i : Nat) (j : Nat) : Nat := 0xf00108 + 0x1000 * i + 0x20 * j
/-- TXS_Pn_Qq_MAX_DEPTH, 12_egress_ledger.md R458. -/
def TXS_PQ_MAX_DEPTH (i : Nat) (j : Nat) : Nat := 0xf0010c + 0x1000 * i + 0x20 * j
/-- TXS_Pn_Qq_MAX_DELAY, 12_egress_ledger.md R458. -/
def TXS_PQ_MAX_DELAY (i : Nat) (j : Nat) : Nat := 0xf00110 + 0x1000 * i + 0x20 * j
/-- TXS_Pn_Qq_CNT, 12_egress_ledger.md R458. -/
def TXS_PQ_CNT (i : Nat) (j : Nat) : Nat := 0xf00114 + 0x1000 * i + 0x20 * j
/-- TXS_Pn_Qq_DROP, 12_egress_ledger.md R458. -/
def TXS_PQ_DROP (i : Nat) (j : Nat) : Nat := 0xf00118 + 0x1000 * i + 0x20 * j
/-- Admin entry e, 12_egress_ledger.md R458. -/
def TXS_P_GCL_ADMIN (i : Nat) (j : Nat) : Nat := 0xf00400 + 0x1000 * i + 0x4 * j
/-- TXS_Kk_DST_LO, 12_egress_ledger.md R458. -/
def TXS_K_DST_LO (i : Nat) : Nat := 0xf08000 + 0x10 * i
/-- TXS_Kk_DST_HI, 12_egress_ledger.md R458. -/
def TXS_K_DST_HI (i : Nat) : Nat := 0xf08004 + 0x10 * i
/-- TXS_Kk_TAG, 12_egress_ledger.md R458. -/
def TXS_K_TAG (i : Nat) : Nat := 0xf08008 + 0x10 * i
/-- TXS_SRC_PORTS, 12_egress_ledger.md R458. -/
def TXS_SRC_PORTS : Nat := 0xf08100
/-- TWN_CTL, 09_twin.md R365. -/
def TWN_CTL : Nat := 0x1000000
def TWN_CTL_twin_en : Fld := ⟨TWN_CTL, 31, 1⟩
def TWN_CTL_auto_join : Fld := ⟨TWN_CTL, 30, 1⟩
def TWN_CTL_auto_resync : Fld := ⟨TWN_CTL, 29, 1⟩
def TWN_CTL_leave : Fld := ⟨TWN_CTL, 28, 1⟩
def TWN_CTL_join : Fld := ⟨TWN_CTL, 27, 1⟩
def TWN_CTL_lead : Fld := ⟨TWN_CTL, 16, 8⟩
def TWN_CTL_join_wait : Fld := ⟨TWN_CTL, 0, 10⟩
/-- TWN_STAT, 09_twin.md R365. -/
def TWN_STAT : Nat := 0x1000004
def TWN_STAT_role : Fld := ⟨TWN_STAT, 30, 2⟩
def TWN_STAT_state : Fld := ⟨TWN_STAT, 27, 3⟩
def TWN_STAT_acting : Fld := ⟨TWN_STAT, 26, 1⟩
def TWN_STAT_link_up : Fld := ⟨TWN_STAT, 25, 1⟩
def TWN_STAT_partner_hb : Fld := ⟨TWN_STAT, 24, 1⟩
def TWN_STAT_grid_lock : Fld := ⟨TWN_STAT, 23, 1⟩
def TWN_STAT_not_keeper : Fld := ⟨TWN_STAT, 22, 1⟩
def TWN_STAT_j_refused : Fld := ⟨TWN_STAT, 21, 1⟩
def TWN_STAT_j_withdrawn : Fld := ⟨TWN_STAT, 20, 1⟩
def TWN_STAT_handover_reject : Fld := ⟨TWN_STAT, 19, 1⟩
def TWN_STAT_unfit : Fld := ⟨TWN_STAT, 18, 1⟩
def TWN_STAT_loan_taken : Fld := ⟨TWN_STAT, 17, 1⟩
def TWN_STAT_loan_lost : Fld := ⟨TWN_STAT, 16, 1⟩
def TWN_STAT_repairs : Fld := ⟨TWN_STAT, 12, 4⟩
/-- TWN_LOAN_CTL, 09_twin.md R365. -/
def TWN_LOAN_CTL : Nat := 0x1000008
def TWN_LOAN_CTL_fw_alive : Fld := ⟨TWN_LOAN_CTL, 31, 1⟩
def TWN_LOAN_CTL_handover : Fld := ⟨TWN_LOAN_CTL, 30, 1⟩
def TWN_LOAN_CTL_lease : Fld := ⟨TWN_LOAN_CTL, 0, 7⟩
/-- TWN_LOAN_STAT, 09_twin.md R365. -/
def TWN_LOAN_STAT : Nat := 0x100000c
/-- TWN_JSEQ, 09_twin.md R365. -/
def TWN_JSEQ : Nat := 0x1000010
/-- TWN_JQUEUE, 09_twin.md R365. -/
def TWN_JQUEUE : Nat := 0x1000014
/-- TWN_GRID, 09_twin.md R365. -/
def TWN_GRID : Nat := 0x1000018
/-- TWN_DIV, 09_twin.md R365. -/
def TWN_DIV : Nat := 0x100001c
def TWN_DIV_valid : Fld := ⟨TWN_DIV, 31, 1⟩
def TWN_DIV_cause : Fld := ⟨TWN_DIV, 27, 4⟩
def TWN_DIV_tile : Fld := ⟨TWN_DIV, 16, 8⟩
def TWN_DIV_tag : Fld := ⟨TWN_DIV, 0, 16⟩
/-- TWN_JOIN_STAT, 09_twin.md R365. -/
def TWN_JOIN_STAT : Nat := 0x1000020
def TWN_JOIN_STAT_step : Fld := ⟨TWN_JOIN_STAT, 28, 4⟩
def TWN_JOIN_STAT_result : Fld := ⟨TWN_JOIN_STAT, 26, 2⟩
def TWN_JOIN_STAT_reason : Fld := ⟨TWN_JOIN_STAT, 22, 4⟩
def TWN_JOIN_STAT_fw_partner : Fld := ⟨TWN_JOIN_STAT, 0, 16⟩
/-- TWN_REPAIR_CNT, 09_twin.md R365. -/
def TWN_REPAIR_CNT : Nat := 0x1000024
/-- TWN_WITHDRAWN_CNT, 09_twin.md R365. -/
def TWN_WITHDRAWN_CNT : Nat := 0x1000028
/-- TWN_BLOCK_ERR, 09_twin.md R365. -/
def TWN_BLOCK_ERR : Nat := 0x100002c
/-- TWN_REPAIRi, 09_twin.md R365. -/
def TWN_REPAIR (i : Nat) : Nat := 0x1000030 + 0x4 * i
/-- TWN_CS_BASE, 09_twin.md R365. -/
def TWN_CS_BASE : Nat := 0x1000050
/-- TWN_CS_CRC, 09_twin.md R365. -/
def TWN_CS_CRC : Nat := 0x1000054
/-- TWN_CS_CTL, 09_twin.md R365. -/
def TWN_CS_CTL : Nat := 0x1000058
def TWN_CS_CTL_stage : Fld := ⟨TWN_CS_CTL, 31, 1⟩
def TWN_CS_CTL_swap : Fld := ⟨TWN_CS_CTL, 30, 1⟩
def TWN_CS_CTL_cs_state : Fld := ⟨TWN_CS_CTL, 0, 3⟩
/-- TWN_FW_CTL, 09_twin.md R365. -/
def TWN_FW_CTL : Nat := 0x1000060
def TWN_FW_CTL_send : Fld := ⟨TWN_FW_CTL, 31, 1⟩
def TWN_FW_CTL_fw_new : Fld := ⟨TWN_FW_CTL, 30, 1⟩
def TWN_FW_CTL_len : Fld := ⟨TWN_FW_CTL, 0, 9⟩
/-- TWN_FW_TX, 09_twin.md R365. -/
def TWN_FW_TX (i : Nat) : Nat := 0x1000100 + 0x4 * i
/-- TWN_FW_RX, 09_twin.md R365. -/
def TWN_FW_RX (i : Nat) : Nat := 0x1000200 + 0x4 * i
/-- ATT_CTL, 13_attendant.md R490. -/
def ATT_CTL : Nat := 0x1100000
def ATT_CTL_grave : Fld := ⟨ATT_CTL, 31, 1⟩
def ATT_CTL_severe : Fld := ⟨ATT_CTL, 30, 1⟩
def ATT_CTL_inj_grave : Fld := ⟨ATT_CTL, 2, 1⟩
def ATT_CTL_inj_react : Fld := ⟨ATT_CTL, 1, 1⟩
/-- ATT_SEV_SRC, 13_attendant.md R490. -/
def ATT_SEV_SRC : Nat := 0x1100004
def ATT_SEV_SRC_valid : Fld := ⟨ATT_SEV_SRC, 31, 1⟩
def ATT_SEV_SRC_real : Fld := ⟨ATT_SEV_SRC, 30, 1⟩
def ATT_SEV_SRC_inj : Fld := ⟨ATT_SEV_SRC, 29, 1⟩
def ATT_SEV_SRC_lasting : Fld := ⟨ATT_SEV_SRC, 28, 1⟩
def ATT_SEV_SRC_source : Fld := ⟨ATT_SEV_SRC, 16, 11⟩
def ATT_SEV_SRC_merged : Fld := ⟨ATT_SEV_SRC, 0, 16⟩
/-- ATT_SEV_P, 13_attendant.md R490. -/
def ATT_SEV_P : Nat := 0x1100008
/-- ATT_SEV_ACK, 13_attendant.md R490. -/
def ATT_SEV_ACK : Nat := 0x110000c
/-- ATT_ACK_TMO, 13_attendant.md R490. -/
def ATT_ACK_TMO : Nat := 0x1100010
/-- ATT_INJ, 13_attendant.md R490. -/
def ATT_INJ : Nat := 0x1100014
def ATT_INJ_go : Fld := ⟨ATT_INJ, 31, 1⟩
def ATT_INJ_source : Fld := ⟨ATT_INJ, 16, 11⟩
def ATT_INJ_data : Fld := ⟨ATT_INJ, 0, 16⟩
/-- ATT_IRQ, 13_attendant.md R490. -/
def ATT_IRQ : Nat := 0x1100018
/-- ATT_IRQ_PEND, 13_attendant.md R490. -/
def ATT_IRQ_PEND : Nat := 0x110001c
/-- ATT_WIN_LENi, 13_attendant.md R490. -/
def ATT_WIN_LEN (i : Nat) : Nat := 0x1100020 + 0x4 * i
/-- ATT_MERGE_CNT, 13_attendant.md R490. -/
def ATT_MERGE_CNT : Nat := 0x1100030
/-- ATT_GRAVE, 13_attendant.md R490. -/
def ATT_GRAVE : Nat := 0x1100034
def ATT_GRAVE_valid : Fld := ⟨ATT_GRAVE, 31, 1⟩
def ATT_GRAVE_frame_sent : Fld := ⟨ATT_GRAVE, 30, 1⟩
def ATT_GRAVE_cause : Fld := ⟨ATT_GRAVE, 28, 2⟩
def ATT_GRAVE_source : Fld := ⟨ATT_GRAVE, 16, 11⟩
/-- ATT_GRAVE_P, 13_attendant.md R490. -/
def ATT_GRAVE_P : Nat := 0x1100038
/-- ATT_STATw, 13_attendant.md R490. -/
def ATT_STAT (i : Nat) : Nat := 0x1100100 + 0x4 * i
/-- ATT_LIVEw, 13_attendant.md R490. -/
def ATT_LIVE (i : Nat) : Nat := 0x1100200 + 0x4 * i
/-- ATT_INJ_FLAGw, 13_attendant.md R490. -/
def ATT_INJ_FLAG (i : Nat) : Nat := 0x1100300 + 0x4 * i
/-- ATT_REAL_FLAGw, 13_attendant.md R490. -/
def ATT_REAL_FLAG (i : Nat) : Nat := 0x1100400 + 0x4 * i
/-- ATT_SRC0000–ATT_SRC1279, 13_attendant.md R490. -/
def ATT_SRC (i : Nat) : Nat := 0x1101000 + 0x4 * i
def ATT_SRC_class (i : Nat) : Fld := ⟨(ATT_SRC i), 30, 2⟩
def ATT_SRC_eff (i : Nat) : Fld := ⟨(ATT_SRC i), 28, 2⟩
def ATT_SRC_alert_en (i : Nat) : Fld := ⟨(ATT_SRC i), 27, 1⟩
def ATT_SRC_irq_en (i : Nat) : Fld := ⟨(ATT_SRC i), 26, 1⟩
def ATT_SRC_urg (i : Nat) : Fld := ⟨(ATT_SRC i), 24, 2⟩
def ATT_SRC_vit (i : Nat) : Fld := ⟨(ATT_SRC i), 23, 1⟩
def ATT_SRC_lasting (i : Nat) : Fld := ⟨(ATT_SRC i), 22, 1⟩
def ATT_SRC_win_sel (i : Nat) : Fld := ⟨(ATT_SRC i), 20, 2⟩
def ATT_SRC_persist_thr (i : Nat) : Fld := ⟨(ATT_SRC i), 14, 6⟩
def ATT_SRC_win_cnt (i : Nat) : Fld := ⟨(ATT_SRC i), 0, 8⟩
/-- VIT_CTL, 13_attendant.md R495. -/
def VIT_CTL : Nat := 0x1200000
def VIT_CTL_vit_grave : Fld := ⟨VIT_CTL, 31, 1⟩
def VIT_CTL_in_en : Fld := ⟨VIT_CTL, 30, 1⟩
def VIT_CTL_auto_export : Fld := ⟨VIT_CTL, 29, 1⟩
/-- VIT_STAT, 13_attendant.md R495. -/
def VIT_STAT : Nat := 0x1200004
def VIT_STAT_busy : Fld := ⟨VIT_STAT, 31, 1⟩
def VIT_STAT_overrun : Fld := ⟨VIT_STAT, 30, 1⟩
def VIT_STAT_no_slot : Fld := ⟨VIT_STAT, 29, 1⟩
def VIT_STAT_copy_err : Fld := ⟨VIT_STAT, 28, 1⟩
def VIT_STAT_last_slot : Fld := ⟨VIT_STAT, 24, 4⟩
def VIT_STAT_captures : Fld := ⟨VIT_STAT, 0, 16⟩
/-- VIT_BASE, 13_attendant.md R495. -/
def VIT_BASE : Nat := 0x1200008
/-- VIT_TRIG, 13_attendant.md R495. -/
def VIT_TRIG : Nat := 0x120000c
/-- VIT_SLOT_LOCK, 13_attendant.md R495. -/
def VIT_SLOT_LOCK : Nat := 0x1200010
/-- VIT_EXPORT, 13_attendant.md R495. -/
def VIT_EXPORT : Nat := 0x1200014
/-- VIT_EXPORT_STAT, 13_attendant.md R495. -/
def VIT_EXPORT_STAT : Nat := 0x1200018
/-- VIT_LAST_V, 13_attendant.md R495. -/
def VIT_LAST_V : Nat := 0x120001c
/-- LDG_CTL, 12_egress_ledger.md R461. -/
def LDG_CTL : Nat := 0x1300000
def LDG_CTL_export_en : Fld := ⟨LDG_CTL, 31, 1⟩
def LDG_CTL_vault_on_inj : Fld := ⟨LDG_CTL, 30, 1⟩
def LDG_CTL_alarm_min : Fld := ⟨LDG_CTL, 28, 2⟩
def LDG_CTL_alarm_budget : Fld := ⟨LDG_CTL, 20, 8⟩
/-- LDG_STAT, 12_egress_ledger.md R461. -/
def LDG_STAT : Nat := 0x1300004
def LDG_STAT_vault_held : Fld := ⟨LDG_STAT, 31, 1⟩
def LDG_STAT_vault_class : Fld := ⟨LDG_STAT, 29, 2⟩
def LDG_STAT_log_region : Fld := ⟨LDG_STAT, 28, 1⟩
def LDG_STAT_fw_busy : Fld := ⟨LDG_STAT, 27, 1⟩
def LDG_STAT_log_lost : Fld := ⟨LDG_STAT, 26, 1⟩
def LDG_STAT_vault_missed : Fld := ⟨LDG_STAT, 25, 1⟩
def LDG_STAT_export_drop : Fld := ⟨LDG_STAT, 24, 1⟩
def LDG_STAT_alarm_summ : Fld := ⟨LDG_STAT, 23, 1⟩
def LDG_STAT_alarm_depth : Fld := ⟨LDG_STAT, 0, 10⟩
/-- LDG_SEQ, 12_egress_ledger.md R461. -/
def LDG_SEQ : Nat := 0x1300008
/-- LDG_LOG_BASE, 12_egress_ledger.md R461. -/
def LDG_LOG_BASE : Nat := 0x130000c
/-- LDG_VAULT_CTL, 12_egress_ledger.md R461. -/
def LDG_VAULT_CTL : Nat := 0x1300010
/-- LDG_VAULT_FIRST, 12_egress_ledger.md R461. -/
def LDG_VAULT_FIRST : Nat := 0x1300014
/-- LDG_VAULT_FREEZE, 12_egress_ledger.md R461. -/
def LDG_VAULT_FREEZE : Nat := 0x1300018
/-- LDG_LOG_LOST, 12_egress_ledger.md R461. -/
def LDG_LOG_LOST : Nat := 0x130001c
/-- LDG_EXPORT_DROP, 12_egress_ledger.md R461. -/
def LDG_EXPORT_DROP : Nat := 0x1300020
/-- LDG_ALARM_SUMM, 12_egress_ledger.md R461. -/
def LDG_ALARM_SUMM : Nat := 0x1300024
/-- LDG_FW_REC0–5, 12_egress_ledger.md R461. -/
def LDG_FW_REC (i : Nat) : Nat := 0x1300040 + 0x4 * i
/-- LDG_FW_SUBMIT, 12_egress_ledger.md R461. -/
def LDG_FW_SUBMIT : Nat := 0x1300058
/-- AUX_CTL, 16_power_aux_analog.md R595. -/
def AUX_CTL : Nat := 0x1400000
def AUX_CTL_adc_en : Fld := ⟨AUX_CTL, 31, 1⟩
def AUX_CTL_trim_go : Fld := ⟨AUX_CTL, 30, 1⟩
def AUX_CTL_trim_interval : Fld := ⟨AUX_CTL, 16, 8⟩
/-- AUX_STAT, 16_power_aux_analog.md R595. -/
def AUX_STAT : Nat := 0x1400004
def AUX_STAT_busy : Fld := ⟨AUX_STAT, 31, 1⟩
def AUX_STAT_powered : Fld := ⟨AUX_STAT, 30, 1⟩
def AUX_STAT_trimming : Fld := ⟨AUX_STAT, 29, 1⟩
def AUX_STAT_overrun : Fld := ⟨AUX_STAT, 28, 1⟩
def AUX_STAT_qlost : Fld := ⟨AUX_STAT, 27, 1⟩
def AUX_STAT_ovr : Fld := ⟨AUX_STAT, 26, 1⟩
def AUX_STAT_trim_fail : Fld := ⟨AUX_STAT, 25, 1⟩
def AUX_STAT_dac_reject : Fld := ⟨AUX_STAT, 24, 1⟩
def AUX_STAT_urg_busy : Fld := ⟨AUX_STAT, 23, 1⟩
def AUX_STAT_urg_reject : Fld := ⟨AUX_STAT, 22, 1⟩
def AUX_STAT_qdepth : Fld := ⟨AUX_STAT, 0, 9⟩
/-- AUX_RESQ, 16_power_aux_analog.md R595. -/
def AUX_RESQ : Nat := 0x1400008
/-- AUX_QLOST_CNT, 16_power_aux_analog.md R595. -/
def AUX_QLOST_CNT : Nat := 0x140000c
/-- AUX_URG, 16_power_aux_analog.md R595. -/
def AUX_URG : Nat := 0x1400010
/-- AUX_URG_RES, 16_power_aux_analog.md R595. -/
def AUX_URG_RES : Nat := 0x1400014
/-- AUX_TRIM_STAT, 16_power_aux_analog.md R595. -/
def AUX_TRIM_STAT : Nat := 0x1400018
/-- AUX_TRIM_REF_HI, 16_power_aux_analog.md R595. -/
def AUX_TRIM_REF_HI : Nat := 0x140001c
/-- AUX_TRIM_REF_LO, 16_power_aux_analog.md R595. -/
def AUX_TRIM_REF_LO : Nat := 0x1400020
/-- AUX_OVERRUN_CNT, 16_power_aux_analog.md R595. -/
def AUX_OVERRUN_CNT : Nat := 0x1400024
/-- AUX_TEC_EVT, 16_power_aux_analog.md R595. -/
def AUX_TEC_EVT : Nat := 0x1400028
/-- AUX_EXCcc, 16_power_aux_analog.md R595. -/
def AUX_EXC (i : Nat) : Nat := 0x1400040 + 0x4 * i
/-- AUX_LASTcc, 16_power_aux_analog.md R595. -/
def AUX_LAST (i : Nat) : Nat := 0x1400100 + 0x4 * i
/-- AUX_SEQs_CTL, 16_power_aux_analog.md R595. -/
def AUX_SEQ_CTL (i : Nat) : Nat := 0x1400200 + 0x20 * i
def AUX_SEQ_CTL_go (i : Nat) : Fld := ⟨(AUX_SEQ_CTL i), 31, 1⟩
def AUX_SEQ_CTL_trig (i : Nat) : Fld := ⟨(AUX_SEQ_CTL i), 29, 2⟩
def AUX_SEQ_CTL_chain (i : Nat) : Fld := ⟨(AUX_SEQ_CTL i), 27, 2⟩
def AUX_SEQ_CTL_pending (i : Nat) : Fld := ⟨(AUX_SEQ_CTL i), 26, 1⟩
def AUX_SEQ_CTL_len_m1 (i : Nat) : Fld := ⟨(AUX_SEQ_CTL i), 22, 4⟩
def AUX_SEQ_CTL_interval (i : Nat) : Fld := ⟨(AUX_SEQ_CTL i), 0, 22⟩
/-- AUX_SEQs_LIST0–3, 16_power_aux_analog.md R595. -/
def AUX_SEQ_LIST (i : Nat) (j : Nat) : Nat := 0x1400204 + 0x20 * i + 0x4 * j
/-- AUX_DACkk_CFG, 16_power_aux_analog.md R595. -/
def AUX_DAC_CFG (i : Nat) : Nat := 0x1400400 + 0x10 * i
def AUX_DAC_CFG_sine_en (i : Nat) : Fld := ⟨(AUX_DAC_CFG i), 31, 1⟩
def AUX_DAC_CFG_state (i : Nat) : Fld := ⟨(AUX_DAC_CFG i), 28, 2⟩
def AUX_DAC_CFG_range (i : Nat) : Fld := ⟨(AUX_DAC_CFG i), 0, 3⟩
/-- AUX_DACkk_CODE, 16_power_aux_analog.md R595. -/
def AUX_DAC_CODE (i : Nat) : Nat := 0x1400404 + 0x10 * i
/-- AUX_DACkk_SINE, 16_power_aux_analog.md R595. -/
def AUX_DAC_SINE (i : Nat) : Nat := 0x1400408 + 0x10 * i
/-- AUX_DACkk_SHAPE, 16_power_aux_analog.md R595. -/
def AUX_DAC_SHAPE (i : Nat) : Nat := 0x140040c + 0x10 * i
/-- AUX_TECz_CFG, 16_power_aux_analog.md R595. -/
def AUX_TEC_CFG (i : Nat) : Nat := 0x1400800 + 0x10 * i
/-- AUX_TECz_BETA, 16_power_aux_analog.md R595. -/
def AUX_TEC_BETA (i : Nat) : Nat := 0x1400804 + 0x10 * i
/-- AUX_TECz_SET, 16_power_aux_analog.md R595. -/
def AUX_TEC_SET (i : Nat) : Nat := 0x1400808 + 0x10 * i
/-- AUX_TECz_STAT, 16_power_aux_analog.md R595. -/
def AUX_TEC_STAT (i : Nat) : Nat := 0x140080c + 0x10 * i
/-- XBR_STAT, 5_interconnect_host.md R551. -/
def XBR_STAT : Nat := 0x1500000
def XBR_STAT_decerr : Fld := ⟨XBR_STAT, 31, 1⟩
def XBR_STAT_slverr : Fld := ⟨XBR_STAT, 30, 1⟩
def XBR_STAT_timeout : Fld := ⟨XBR_STAT, 29, 1⟩
def XBR_STAT_master_reset : Fld := ⟨XBR_STAT, 28, 1⟩
def XBR_STAT_access : Fld := ⟨XBR_STAT, 27, 1⟩
def XBR_STAT_parity : Fld := ⟨XBR_STAT, 26, 1⟩
/-- XBR_ERR_INFO, 5_interconnect_host.md R551. -/
def XBR_ERR_INFO : Nat := 0x1500004
def XBR_ERR_INFO_valid : Fld := ⟨XBR_ERR_INFO, 31, 1⟩
def XBR_ERR_INFO_kind : Fld := ⟨XBR_ERR_INFO, 28, 3⟩
def XBR_ERR_INFO_master : Fld := ⟨XBR_ERR_INFO, 24, 4⟩
def XBR_ERR_INFO_target : Fld := ⟨XBR_ERR_INFO, 20, 4⟩
def XBR_ERR_INFO_write : Fld := ⟨XBR_ERR_INFO, 19, 1⟩
def XBR_ERR_INFO_beats : Fld := ⟨XBR_ERR_INFO, 0, 10⟩
/-- XBR_ERR_ADDR_LO, 5_interconnect_host.md R551. -/
def XBR_ERR_ADDR_LO : Nat := 0x1500008
/-- XBR_ERR_ADDR_HI, 5_interconnect_host.md R551. -/
def XBR_ERR_ADDR_HI : Nat := 0x150000c
/-- XBR_BAR2_WIN, 5_interconnect_host.md R551. -/
def XBR_BAR2_WIN : Nat := 0x1500010
/-- XBR_PCIE_STAT, 5_interconnect_host.md R551. -/
def XBR_PCIE_STAT : Nat := 0x1500014
/-- XBR_ERR_CNT, 5_interconnect_host.md R551. -/
def XBR_ERR_CNT : Nat := 0x1500018
/-- XBR_PRImm_LO, 5_interconnect_host.md R551. -/
def XBR_PRI_LO (i : Nat) : Nat := 0x1500100 + 0x8 * i
/-- XBR_PRImm_HI, 5_interconnect_host.md R551. -/
def XBR_PRI_HI (i : Nat) : Nat := 0x1500104 + 0x8 * i
/-- XBR_SLICEmm, 5_interconnect_host.md R551. -/
def XBR_SLICE (i : Nat) : Nat := 0x1500200 + 0x4 * i
/-- DDR_CTL, 5_interconnect_host.md R553. -/
def DDR_CTL : Nat := 0x1600000
def DDR_CTL_scrub_en : Fld := ⟨DDR_CTL, 31, 1⟩
def DDR_CTL_scrub_hours : Fld := ⟨DDR_CTL, 16, 8⟩
/-- DDR_STAT, 5_interconnect_host.md R553. -/
def DDR_STAT : Nat := 0x1600004
def DDR_STAT_trained : Fld := ⟨DDR_STAT, 31, 1⟩
def DDR_STAT_rate : Fld := ⟨DDR_STAT, 28, 3⟩
def DDR_STAT_capacity : Fld := ⟨DDR_STAT, 26, 2⟩
def DDR_STAT_two_rank : Fld := ⟨DDR_STAT, 25, 1⟩
def DDR_STAT_derate : Fld := ⟨DDR_STAT, 20, 4⟩
/-- DDR_CHc_CORR, 5_interconnect_host.md R553. -/
def DDR_CH_CORR (i : Nat) : Nat := 0x1600010 + 0x4 * i
/-- DDR_CHc_UNCORR, 5_interconnect_host.md R553. -/
def DDR_CH_UNCORR (i : Nat) : Nat := 0x1600020 + 0x4 * i
/-- DDR_ERR_ADDR_LO, 5_interconnect_host.md R553. -/
def DDR_ERR_ADDR_LO : Nat := 0x1600030
/-- DDR_ERR_ADDR_HI, 5_interconnect_host.md R553. -/
def DDR_ERR_ADDR_HI : Nat := 0x1600034
/-- DDR_PARTn_BASE, 5_interconnect_host.md R553. -/
def DDR_PART_BASE (i : Nat) : Nat := 0x1600100 + 0x10 * i
/-- DDR_PARTn_SIZE, 5_interconnect_host.md R553. -/
def DDR_PART_SIZE (i : Nat) : Nat := 0x1600104 + 0x10 * i
/-- DDR_PARTn_RD, 5_interconnect_host.md R553. -/
def DDR_PART_RD (i : Nat) : Nat := 0x1600108 + 0x10 * i
/-- DDR_PARTn_WR, 5_interconnect_host.md R553. -/
def DDR_PART_WR (i : Nat) : Nat := 0x160010c + 0x10 * i
/-- SBM_CTL, 15_interconnect_host.md R555. -/
def SBM_CTL : Nat := 0x1700000
def SBM_CTL_sb_alert_en : Fld := ⟨SBM_CTL, 31, 1⟩
def SBM_CTL_pec_req : Fld := ⟨SBM_CTL, 30, 1⟩
/-- SBM_STAT, 15_interconnect_host.md R555. -/
def SBM_STAT : Nat := 0x1700004
def SBM_STAT_status : Fld := ⟨SBM_STAT, 29, 3⟩
def SBM_STAT_pec_err : Fld := ⟨SBM_STAT, 28, 1⟩
def SBM_STAT_timeout : Fld := ⟨SBM_STAT, 27, 1⟩
def SBM_STAT_proto : Fld := ⟨SBM_STAT, 26, 1⟩
def SBM_STAT_address : Fld := ⟨SBM_STAT, 0, 7⟩
/-- TMX_CTL, _package_electrical.md R625. -/
def TMX_CTL : Nat := 0x1800000
def TMX_CTL_out_en : Fld := ⟨TMX_CTL, 31, 1⟩
def TMX_CTL_debug_en : Fld := ⟨TMX_CTL, 30, 1⟩
/-- TMX_STAT, _package_electrical.md R625. -/
def TMX_STAT : Nat := 0x1800004
def TMX_STAT_test_en : Fld := ⟨TMX_STAT, 31, 1⟩
def TMX_STAT_jtag_active : Fld := ⟨TMX_STAT, 30, 1⟩
def TMX_STAT_jtag_reject : Fld := ⟨TMX_STAT, 29, 1⟩
/-- TMX_SELi, _package_electrical.md R625. -/
def TMX_SEL (i : Nat) : Nat := 0x1800010 + 0x4 * i

/-- Register rows of block GLB. -/
def rowsGLB : List RegRow := [
  ⟨0x0, 1, 0, 1, 0, 0x0, 0xffff0fff, 0x0, 0x0, 0x0, 0x0, 0x46080011⟩,
  ⟨0x4, 1, 0, 1, 0, 0x0, 0x0, 0x0, 0x1, 0x0, 0x0, 0x0⟩,
  ⟨0x8, 1, 0, 1, 0, 0x0, 0x0, 0x0, 0x0, 0x0, 0x0, 0x0⟩,
  ⟨0xc, 1, 0, 1, 0, 0x0, 0xffffc0ff, 0x0, 0x0, 0x0, 0x0, 0x0⟩,
  ⟨0x10, 1, 0, 1, 0, 0x0, 0xffff, 0x0, 0x0, 0x0, 0x0, 0x0⟩,
  ⟨0x14, 1, 0, 1, 0, 0x4000ffff, 0x0, 0x0, 0x0, 0x0, 0x0, 0x0⟩,
  ⟨0x18, 1, 0, 1, 0, 0x0, 0xffffffff, 0x0, 0x0, 0x0, 0x0, 0x0⟩,
  ⟨0x1c, 1, 0, 1, 0, 0x0, 0xffffffff, 0x0, 0x0, 0x0, 0x0, 0x0⟩,
  ⟨0x20, 1, 0, 1, 0, 0x0, 0x800fffff, 0x0, 0x0, 0x0, 0x0, 0x0⟩,
  ⟨0x24, 1, 0, 1, 0, 0x0, 0x0, 0x0, 0x0, 0x0, 0x0, 0x0⟩,
  ⟨0x40, 1, 0, 1, 0, 0x0, 0xffffffff, 0x0, 0x0, 0x0, 0x0, 0x0⟩,
  ⟨0x44, 1, 0, 1, 0, 0x0, 0xfff01ff, 0x0, 0x0, 0x0, 0x0, 0x0⟩,
  ⟨0x48, 1, 0, 1, 0, 0x0, 0x3ff03ff, 0x0, 0x0, 0x0, 0x0, 0x0⟩,
  ⟨0x4c, 1, 0, 1, 0, 0x0, 0xff001fff, 0x0, 0x0, 0x0, 0x0, 0x0⟩]

/-- Register rows of block PDM. -/
def rowsPDM : List RegRow := [
  ⟨0x100000, 1, 0, 1, 0, 0x80000000, 0x0, 0x0, 0x0, 0x0, 0x0, 0x0⟩,
  ⟨0x100004, 1, 0, 1, 0, 0x3, 0x0, 0x0, 0x0, 0x0, 0x0, 0x1⟩,
  ⟨0x100008, 1, 0, 1, 0, 0x0, 0xffff, 0x0, 0x0, 0x0, 0x0, 0x0⟩,
  ⟨0x10000c, 1, 0, 1, 0, 0xffff, 0x0, 0x0, 0x0, 0x0, 0x0, 0x3200⟩,
  ⟨0x100010, 1, 0, 1, 0, 0x0, 0xffffffff, 0x0, 0x0, 0x0, 0x0, 0xffffffff⟩,
  ⟨0x100014, 1, 0, 1, 0, 0x0, 0xffffffff, 0x0, 0x0, 0x0, 0x0, 0xffffff⟩,
  ⟨0x100100, 56, 4, 1, 0, 0x0, 0xf030000, 0x0, 0x0, 0x0, 0x0, 0x10000⟩,
  ⟨0x100200, 1, 0, 1, 0, 0x30000000, 0x0, 0x0, 0x0, 0x0, 0x0, 0x0⟩,
  ⟨0x100204, 1, 0, 1, 0, 0x0, 0xeff0ffff, 0x10000000, 0x0, 0x0, 0x0, 0x0⟩,
  ⟨0x100208, 1, 0, 1, 0, 0x0, 0x0, 0x0, 0x0, 0x0, 0x0, 0x0⟩,
  ⟨0x10020c, 1, 0, 1, 0, 0xffff, 0x0, 0x0, 0x0, 0x0, 0x0, 0x0⟩,
  ⟨0x100210, 1, 0, 1, 0, 0x0, 0x80000007, 0x0, 0x0, 0x0, 0x0, 0x0⟩,
  ⟨0x100400, 16, 16, 1, 0, 0xffffffff, 0x0, 0x0, 0x0, 0x0, 0x0, 0x0⟩,
  ⟨0x100404, 16, 16, 1, 0, 0xffffffff, 0x0, 0x0, 0x0, 0x0, 0x0, 0xa320000⟩,
  ⟨0x100408, 16, 16, 1, 0, 0x8000ffff, 0x0, 0x0, 0x0, 0x0, 0x0, 0x0⟩,
  ⟨0x10040c, 16, 16, 1, 0, 0x0, 0x8000ffff, 0x70000000, 0x0, 0x0, 0x0, 0x0⟩]

/-- Register rows of block NVL. -/
def rowsNVL : List RegRow := [
  ⟨0x200000, 1, 0, 1, 0, 0x0, 0x0, 0x0, 0x0, 0x0, 0x0, 0x0⟩,
  ⟨0x200004, 1, 0, 1, 0, 0xffffffff, 0x0, 0x0, 0x0, 0x0, 0x0, 0x0⟩,
  ⟨0x200008, 1, 0, 1, 0, 0x0, 0x8000000f, 0x0, 0x0, 0x0, 0x0, 0x0⟩,
  ⟨0x200100, 64, 4, 1, 0, 0xffffffff, 0x0, 0x0, 0x0, 0x0, 0x0, 0x0⟩]

/-- Register rows of block TMR. -/
def rowsTMR : List RegRow := [
  ⟨0x300000, 1, 0, 1, 0, 0x73a, 0x1, 0x0, 0x0, 0x0, 0x0, 0x420⟩,
  ⟨0x300004, 1, 0, 1, 0, 0x0, 0xff00010f, 0xf0, 0x0, 0x0, 0x0, 0x0⟩,
  ⟨0x300008, 1, 0, 1, 0, 0xf, 0x0, 0x0, 0x0, 0x0, 0x0, 0x1⟩,
  ⟨0x30000c, 1, 0, 1, 0, 0xffffffff, 0x0, 0x0, 0x0, 0x0, 0x0, 0x0⟩,
  ⟨0x300010, 1, 0, 1, 0, 0x0, 0xffffffff, 0x0, 0x0, 0x0, 0x0, 0x0⟩,
  ⟨0x300014, 1, 0, 1, 0, 0x0, 0xffffffff, 0x0, 0x0, 0x0, 0x0, 0x0⟩,
  ⟨0x300018, 1, 0, 1, 0, 0x0, 0xffffffff, 0x0, 0x0, 0x0, 0x0, 0x0⟩,
  ⟨0x30001c, 1, 0, 1, 0, 0x0, 0xffffffff, 0x0, 0x0, 0x0, 0x0, 0x0⟩,
  ⟨0x300020, 1, 0, 1, 0, 0xffffffff, 0x0, 0x0, 0x0, 0x0, 0x0, 0x0⟩,
  ⟨0x300024, 1, 0, 1, 0, 0xffffffff, 0x0, 0x0, 0x0, 0x0, 0x0, 0x0⟩,
  ⟨0x300028, 1, 0, 1, 0, 0x0, 0x0, 0x0, 0x0, 0x0, 0x0, 0x0⟩,
  ⟨0x30002c, 1, 0, 1, 0, 0xffffffff, 0x0, 0x0, 0x0, 0x0, 0x0, 0x186a0⟩,
  ⟨0x300030, 1, 0, 1, 0, 0xffffffff, 0x0, 0x0, 0x0, 0x0, 0x0, 0x0⟩,
  ⟨0x300034, 1, 0, 1, 0, 0xffff, 0x0, 0x0, 0x0, 0x0, 0x0, 0x0⟩,
  ⟨0x300040, 1, 0, 1, 0, 0x0, 0xffffffff, 0x0, 0x0, 0x0, 0x0, 0x0⟩,
  ⟨0x300044, 1, 0, 1, 0, 0x0, 0xffffffff, 0x0, 0x0, 0x0, 0x0, 0x0⟩,
  ⟨0x300048, 1, 0, 1, 0, 0xffffffff, 0x0, 0x0, 0x0, 0x0, 0x0, 0x0⟩,
  ⟨0x30004c, 1, 0, 1, 0, 0xffffffff, 0x0, 0x0, 0x0, 0x0, 0x0, 0x0⟩,
  ⟨0x300050, 1, 0, 1, 0, 0xffffffff, 0x0, 0x0, 0x0, 0x0, 0x0, 0x186a0⟩,
  ⟨0x300060, 1, 0, 1, 0, 0x0, 0xffffffff, 0x0, 0x0, 0x0, 0x0, 0x0⟩,
  ⟨0x300064, 1, 0, 1, 0, 0x0, 0xffffffff, 0x0, 0x0, 0x0, 0x0, 0x0⟩,
  ⟨0x300068, 1, 0, 1, 0, 0xffffffff, 0x0, 0x0, 0x0, 0x0, 0x0, 0x0⟩,
  ⟨0x30006c, 1, 0, 1, 0, 0x0, 0xffffffff, 0x0, 0x0, 0x0, 0x0, 0x0⟩,
  ⟨0x300070, 1, 0, 1, 0, 0x0, 0xffffffff, 0x0, 0x0, 0x0, 0x0, 0x0⟩,
  ⟨0x300100, 4, 32, 1, 0, 0xffffffff, 0x0, 0x0, 0x0, 0x0, 0x0, 0x0⟩,
  ⟨0x300104, 4, 32, 1, 0, 0x0, 0x0, 0x0, 0x0, 0xffc0ffff, 0x0, 0x0⟩,
  ⟨0x300108, 4, 32, 1, 0, 0x0, 0xffffffff, 0x0, 0x0, 0x0, 0x0, 0x0⟩,
  ⟨0x30010c, 4, 32, 1, 0, 0x0, 0xffffffff, 0x0, 0x0, 0x0, 0x0, 0x0⟩]

/-- Register rows of block PRG. -/
def rowsPRG : List RegRow := [
  ⟨0x400000, 1, 0, 1, 0, 0x1ffff, 0x0, 0x0, 0x0, 0x0, 0x0, 0x10020⟩,
  ⟨0x400004, 1, 0, 1, 0, 0x0, 0x0, 0x0, 0x0, 0x0, 0x0, 0x0⟩,
  ⟨0x400008, 1, 0, 1, 0, 0x0, 0xfe0f0fff, 0x1f00000, 0x0, 0x0, 0x0, 0x0⟩,
  ⟨0x40000c, 1, 0, 1, 0, 0x0, 0xffffffff, 0x0, 0x0, 0x0, 0x0, 0x0⟩,
  ⟨0x400010, 1, 0, 1, 0, 0xff, 0x0, 0x0, 0x0, 0x0, 0x0, 0x55⟩,
  ⟨0x400014, 1, 0, 1, 0, 0xf, 0x0, 0x0, 0x0, 0x0, 0x0, 0x0⟩,
  ⟨0x400018, 1, 0, 1, 0, 0x0, 0x0, 0x0, 0x0, 0xffffffff, 0x0, 0x0⟩,
  ⟨0x40001c, 1, 0, 1, 0, 0x0, 0x0, 0x0, 0x0, 0xffffffff, 0x0, 0x0⟩,
  ⟨0x400020, 1, 0, 1, 0, 0x0, 0xffffffff, 0x0, 0x0, 0x0, 0x0, 0x0⟩,
  ⟨0x400100, 4, 64, 1, 0, 0xe0ff1fff, 0x0, 0x0, 0x0, 0x0, 0x0, 0x80000⟩,
  ⟨0x400104, 4, 64, 1, 0, 0xffffffff, 0x0, 0x0, 0x0, 0x0, 0x0, 0x0⟩,
  ⟨0x400108, 4, 64, 1, 0, 0xffffffff, 0x0, 0x0, 0x0, 0x0, 0x0, 0x0⟩,
  ⟨0x40010c, 4, 64, 1, 0, 0xffffffff, 0x0, 0x0, 0x0, 0x0, 0x0, 0x0⟩,
  ⟨0x400110, 4, 64, 1, 0, 0xffffff, 0x0, 0x0, 0x0, 0x0, 0x0, 0x101010⟩,
  ⟨0x400114, 4, 64, 1, 0, 0xffffffff, 0x0, 0x0, 0x0, 0x0, 0x0, 0x0⟩,
  ⟨0x400118, 4, 64, 1, 0, 0x0, 0xf0ff0fff, 0x0, 0x0, 0x0, 0x0, 0x0⟩]

/-- Register rows of block ARS. -/
def rowsARS : List RegRow := [
  ⟨0x500000, 1, 0, 1, 0, 0x8fffffff, 0x0, 0x0, 0x0, 0x0, 0x0, 0x80400fa0⟩,
  ⟨0x500004, 1, 0, 1, 0, 0x0, 0x0, 0x0, 0x0, 0x0, 0xff, 0x0⟩,
  ⟨0x500008, 1, 0, 1, 0, 0xffffffff, 0x0, 0x0, 0x0, 0x0, 0x0, 0xfffeff00⟩,
  ⟨0x50000c, 1, 0, 1, 0, 0x0, 0x0, 0x0, 0x0, 0x0, 0x0, 0x0⟩,
  ⟨0x500010, 1, 0, 1, 0, 0x0, 0x80f0ffff, 0x70000000, 0x0, 0x0, 0x0, 0x0⟩,
  ⟨0x500014, 1, 0, 1, 0, 0x0, 0x7f00ffff, 0x0, 0x0, 0x0, 0x0, 0x0⟩,
  ⟨0x500018, 1, 0, 1, 0, 0xffff, 0x0, 0x0, 0x0, 0x0, 0x0, 0xffff⟩,
  ⟨0x50001c, 1, 0, 1, 0, 0x0, 0xffc00000, 0x0, 0x0, 0x0, 0x0, 0x0⟩,
  ⟨0x500020, 1, 0, 1, 0, 0x0, 0x0, 0x0, 0x0, 0xffffffff, 0x0, 0x0⟩,
  ⟨0x500024, 1, 0, 1, 0, 0x0, 0x0, 0x0, 0x0, 0xffffffff, 0x0, 0x0⟩,
  ⟨0x500100, 64, 4, 1, 0, 0x0, 0xff00ffff, 0x0, 0x0, 0x0, 0x0, 0xffff⟩]

/-- Register rows of block CUR. -/
def rowsCUR : List RegRow := [
  ⟨0x600000, 1, 0, 1, 0, 0x3313, 0x0, 0x0, 0x0, 0x0, 0x0, 0x3200⟩,
  ⟨0x600004, 1, 0, 1, 0, 0x0, 0x807ffe00, 0x7f800100, 0x0, 0x0, 0x0, 0x0⟩,
  ⟨0x600008, 1, 0, 1, 0, 0xffffffff, 0x0, 0x0, 0x0, 0x0, 0x0, 0x190⟩,
  ⟨0x60000c, 1, 0, 1, 0, 0xfff01f00, 0x0, 0x0, 0x0, 0x0, 0x0, 0x8201000⟩,
  ⟨0x600010, 1, 0, 1, 0, 0xffffffff, 0x0, 0x0, 0x0, 0x0, 0x0, 0x1⟩,
  ⟨0x600014, 1, 0, 1, 0, 0xffffffff, 0x0, 0x0, 0x0, 0x0, 0x0, 0x0⟩,
  ⟨0x600018, 1, 0, 1, 0, 0x8000000f, 0x0, 0x0, 0x0, 0x0, 0x0, 0x0⟩,
  ⟨0x60001c, 1, 0, 1, 0, 0x0, 0x0, 0x0, 0x0, 0xffffffff, 0x0, 0x0⟩,
  ⟨0x600020, 1, 0, 1, 0, 0x0, 0x0, 0x0, 0x0, 0xffffffff, 0x0, 0x0⟩,
  ⟨0x600024, 1, 0, 1, 0, 0x0, 0xffffffff, 0x0, 0x0, 0x0, 0x0, 0x0⟩,
  ⟨0x600028, 1, 0, 1, 0, 0x0, 0xf8003fff, 0x0, 0x0, 0x0, 0x0, 0x0⟩,
  ⟨0x60002c, 1, 0, 1, 0, 0x0, 0xffff, 0x0, 0x0, 0x0, 0x0, 0xff00⟩,
  ⟨0x600030, 4, 4, 1, 0, 0xffffffff, 0x0, 0x0, 0x0, 0x0, 0x0, 0x0⟩,
  ⟨0x600040, 1, 0, 1, 0, 0x0, 0x0, 0x0, 0x0, 0xff0fffff, 0x0, 0x0⟩,
  ⟨0x600044, 1, 0, 1, 0, 0x0, 0xffffffff, 0x0, 0x0, 0x0, 0x0, 0xffff0000⟩,
  ⟨0x600048, 1, 0, 1, 0, 0x0, 0xdfffffff, 0x0, 0x0, 0x0, 0x0, 0x0⟩,
  ⟨0x60004c, 1, 0, 1, 0, 0x0, 0xffff83ff, 0x0, 0x0, 0x0, 0x0, 0x0⟩,
  ⟨0x600050, 1, 0, 1, 0, 0x1ff, 0x0, 0x0, 0x0, 0x0, 0x0, 0x0⟩,
  ⟨0x600100, 16, 4, 1, 0, 0x0, 0xffffffff, 0x0, 0x0, 0x0, 0x0, 0x0⟩,
  ⟨0x601000, 4, 1024, 160, 4, 0xffffffff, 0x0, 0x0, 0x0, 0x0, 0x0, 0x0⟩]

/-- Register rows of block DOC. -/
def rowsDOC : List RegRow := [
  ⟨0x700000, 1, 0, 1, 0, 0xffff0001, 0x0, 0x0, 0x0, 0x0, 0x0, 0x10000001⟩,
  ⟨0x700004, 1, 0, 1, 0, 0x0, 0xfc1ff000, 0x3c00000, 0x0, 0x0, 0x0, 0x0⟩,
  ⟨0x700008, 4, 4, 1, 0, 0xffffffff, 0x0, 0x0, 0x0, 0x0, 0x0, 0x0⟩,
  ⟨0x700020, 1, 0, 1, 0, 0x0, 0x0, 0x0, 0x0, 0xffffffff, 0x0, 0x0⟩,
  ⟨0x700024, 1, 0, 1, 0, 0x0, 0xfc00ffff, 0x0, 0x0, 0x0, 0x0, 0x0⟩,
  ⟨0x700028, 1, 0, 1, 0, 0x0, 0x0, 0x0, 0x0, 0x0, 0x0, 0x0⟩,
  ⟨0x70002c, 1, 0, 1, 0, 0x0, 0x0, 0x0, 0x0, 0x0, 0x0, 0x0⟩,
  ⟨0x700030, 1, 0, 1, 0, 0x0, 0xfff0ffff, 0x0, 0x0, 0x0, 0x0, 0x1000000⟩,
  ⟨0x700034, 1, 0, 1, 0, 0x0, 0xff001fff, 0x0, 0x0, 0x0, 0x0, 0x0⟩,
  ⟨0x700038, 1, 0, 1, 0, 0x0, 0x0, 0x0, 0x0, 0xffffffff, 0x0, 0x0⟩,
  ⟨0x700040, 1, 0, 1, 0, 0x0, 0xfffffc3f, 0x0, 0x0, 0x0, 0x0, 0x0⟩,
  ⟨0x700044, 1, 0, 1, 0, 0x0, 0x1fff1fff, 0x0, 0x0, 0x0, 0x0, 0x0⟩,
  ⟨0x700048, 1, 0, 1, 0, 0x0, 0xffffffff, 0x0, 0x0, 0x0, 0x0, 0xffffffff⟩,
  ⟨0x700050, 1, 0, 1, 0, 0x0, 0x0, 0x0, 0x0, 0x0, 0x0, 0x800⟩,
  ⟨0x700054, 1, 0, 1, 0, 0x0, 0xbfffffff, 0x0, 0x0, 0x0, 0x0, 0x0⟩,
  ⟨0x700058, 1, 0, 1, 0, 0x0, 0xc00000ff, 0x0, 0x0, 0x0, 0x0, 0x0⟩,
  ⟨0x700060, 1, 0, 1, 0, 0x1, 0x0, 0x0, 0x0, 0x0, 0x0, 0x0⟩,
  ⟨0x700064, 1, 0, 1, 0, 0x0, 0xcf001fff, 0x0, 0x0, 0x0, 0x0, 0x0⟩,
  ⟨0x700068, 1, 0, 1, 0, 0xffffffff, 0x0, 0x0, 0x0, 0x0, 0x0, 0x0⟩]

/-- Register rows of block LPE. -/
def rowsLPE : List RegRow := [
  ⟨0x800000, 36, 65536, 1, 0, 0x100ff, 0x0, 0x0, 0x0, 0x0, 0x0, 0x10⟩,
  ⟨0x800004, 36, 65536, 1, 0, 0x0, 0x0, 0x1ff, 0x0, 0x0, 0x0, 0x0⟩,
  ⟨0x800008, 36, 65536, 1, 0, 0x0, 0xffffff, 0x0, 0x0, 0x0, 0x0, 0x80⟩,
  ⟨0x80000c, 36, 65536, 1, 0, 0x0, 0xffffff, 0x0, 0x0, 0x0, 0x0, 0x0⟩,
  ⟨0x800010, 36, 65536, 1, 0, 0x0, 0x0, 0x0, 0x0, 0x0, 0x0, 0x0⟩,
  ⟨0x800014, 36, 65536, 1, 0, 0x0, 0x800fffff, 0x0, 0x0, 0x0, 0x0, 0x0⟩,
  ⟨0x800018, 36, 65536, 1, 0, 0x0, 0x0, 0x0, 0x0, 0xffffffff, 0x0, 0x0⟩,
  ⟨0x80001c, 36, 65536, 1, 0, 0x0, 0xf000007f, 0x0, 0x0, 0x0, 0x0, 0x0⟩,
  ⟨0x800020, 36, 65536, 4, 4, 0x0, 0xffffffff, 0x0, 0x0, 0x0, 0x0, 0x0⟩,
  ⟨0x800030, 36, 65536, 4, 4, 0x0, 0xffffffff, 0x0, 0x0, 0x0, 0x0, 0x0⟩,
  ⟨0x800100, 36, 65536, 128, 4, 0xffffffff, 0x0, 0x0, 0x0, 0x0, 0x0, 0x20000⟩,
  ⟨0x800400, 36, 65536, 1, 0, 0x0, 0xff800000, 0x7, 0x0, 0x0, 0x0, 0x0⟩,
  ⟨0x800404, 36, 65536, 1, 0, 0x0, 0x0, 0x0, 0x0, 0xffffffff, 0x0, 0x0⟩,
  ⟨0x800408, 36, 65536, 1, 0, 0x0, 0x0, 0x0, 0x0, 0xffffffff, 0x0, 0x0⟩,
  ⟨0x80040c, 36, 65536, 1, 0, 0x0, 0xffffffff, 0x0, 0x0, 0x0, 0x0, 0x0⟩,
  ⟨0x800410, 36, 65536, 1, 0, 0x0, 0x8000007f, 0x0, 0x0, 0x0, 0x0, 0x0⟩]

/-- Register rows of block INV. -/
def rowsINV : List RegRow := [
  ⟨0xa80000, 1, 0, 1, 0, 0x0, 0x0, 0x0, 0x0, 0x0, 0x0, 0x0⟩,
  ⟨0xa80004, 1, 0, 1, 0, 0x0, 0x80001fff, 0x60000000, 0x0, 0x0, 0x0, 0x0⟩,
  ⟨0xa80008, 1, 0, 1, 0, 0x1f, 0x0, 0x0, 0x0, 0x0, 0x0, 0x13⟩,
  ⟨0xa80100, 144, 4, 1, 0, 0x0, 0xffffffff, 0x0, 0x0, 0x0, 0x0, 0x0⟩]

/-- Register rows of block NGL. -/
def rowsNGL : List RegRow := [
  ⟨0xb00000, 144, 4096, 1, 0, 0x0, 0x0, 0x0, 0x0, 0x0, 0x0, 0x0⟩,
  ⟨0xb00004, 144, 4096, 1, 0, 0x0, 0xff02fff0, 0xfc0000, 0x0, 0x0, 0x0, 0x0⟩,
  ⟨0xb00008, 144, 4096, 1, 0, 0x0, 0xffff, 0x0, 0x0, 0xffff0000, 0x0, 0x0⟩,
  ⟨0xb0000c, 144, 4096, 1, 0, 0x0, 0x0, 0x0, 0x0, 0xffffffff, 0x0, 0x0⟩,
  ⟨0xb00010, 144, 4096, 1, 0, 0x0, 0x0, 0x0, 0x0, 0xffffffff, 0x0, 0x0⟩,
  ⟨0xb00014, 144, 4096, 1, 0, 0x0, 0x0, 0x0, 0x0, 0xffffffff, 0x0, 0x0⟩,
  ⟨0xb00018, 144, 4096, 1, 0, 0x0, 0x0, 0x0, 0x0, 0xffffffff, 0x0, 0x0⟩,
  ⟨0xb0001c, 144, 4096, 1, 0, 0x0, 0x0, 0x0, 0x0, 0xffffffff, 0x0, 0x0⟩,
  ⟨0xb00020, 144, 4096, 1, 0, 0x0, 0xffffffff, 0x0, 0x0, 0x0, 0x0, 0x0⟩,
  ⟨0xb00024, 144, 4096, 1, 0, 0x0, 0xffffffff, 0x0, 0x0, 0x0, 0x0, 0x0⟩,
  ⟨0xb00028, 144, 4096, 1, 0, 0x0, 0xffffffff, 0x0, 0x0, 0x0, 0x0, 0x0⟩,
  ⟨0xb00040, 144, 4096, 7, 8, 0x0, 0xffffffff, 0x0, 0x0, 0x0, 0x0, 0x0⟩,
  ⟨0xb00044, 144, 4096, 7, 8, 0x0, 0xffff, 0x0, 0x0, 0x0, 0x0, 0x0⟩,
  ⟨0xbf0000, 1, 0, 1, 0, 0xe0ffffff, 0x0, 0x0, 0x0, 0x0, 0x0, 0x40200fa0⟩,
  ⟨0xbf0004, 1, 0, 1, 0, 0x0, 0xff00ff, 0x0, 0x0, 0x0, 0x0, 0x0⟩,
  ⟨0xbf0010, 5, 4, 1, 0, 0x0, 0xffffffff, 0x0, 0x0, 0x0, 0x0, 0x0⟩,
  ⟨0xbf0030, 1, 0, 1, 0, 0x0, 0x0, 0x0, 0x0, 0x0, 0x0, 0x0⟩,
  ⟨0xbf0034, 1, 0, 1, 0, 0xffffffff, 0x0, 0x0, 0x0, 0x0, 0x0, 0x0⟩,
  ⟨0xbf0038, 1, 0, 1, 0, 0x0, 0x800fffff, 0x0, 0x0, 0x0, 0x0, 0x0⟩,
  ⟨0xbf0040, 7, 4, 1, 0, 0xffffffff, 0x0, 0x0, 0x0, 0x0, 0x0, 0x0⟩]

/-- Register rows of block CNS. -/
def rowsCNS : List RegRow := [
  ⟨0xc00000, 1, 0, 1, 0, 0xef0fffff, 0x10000000, 0x0, 0x0, 0x0, 0x0, 0x25020fa0⟩,
  ⟨0xc00004, 1, 0, 1, 0, 0x0, 0x80ff8000, 0x7f000000, 0x0, 0x0, 0x0, 0x0⟩,
  ⟨0xc00008, 1, 0, 1, 0, 0xffff01ff, 0x0, 0x0, 0x0, 0x0, 0x0, 0x204000e2⟩,
  ⟨0xc0000c, 1, 0, 1, 0, 0x0, 0x0, 0x0, 0x0, 0x0, 0x0, 0x0⟩,
  ⟨0xc00010, 1, 0, 1, 0, 0x0, 0xffffffff, 0x0, 0x0, 0x0, 0x0, 0x0⟩,
  ⟨0xc00014, 1, 0, 1, 0, 0x0, 0x0, 0x0, 0x0, 0xffffffff, 0x0, 0x0⟩,
  ⟨0xc00018, 1, 0, 1, 0, 0x0, 0x0, 0x0, 0x0, 0xffffffff, 0x0, 0x0⟩,
  ⟨0xc0001c, 1, 0, 1, 0, 0x0, 0xffff, 0x0, 0x0, 0x0, 0x0, 0x0⟩,
  ⟨0xc00020, 6, 4, 1, 0, 0x0, 0xffffffff, 0x0, 0x0, 0x0, 0x0, 0x0⟩,
  ⟨0xc00080, 32, 4, 1, 0, 0x0, 0x0, 0x0, 0x0, 0x0, 0xffffffff, 0x0⟩,
  ⟨0xc00100, 36, 4, 1, 0, 0x801f0000, 0x0, 0x0, 0x0, 0x0, 0x0, 0x0⟩,
  ⟨0xc00200, 16, 8, 1, 0, 0x0, 0xfff0ffff, 0x0, 0x0, 0x0, 0x0, 0x0⟩,
  ⟨0xc00204, 16, 8, 1, 0, 0x0, 0x7f001fff, 0x0, 0x80000000, 0x0, 0x0, 0x0⟩]

/-- Register rows of block SVP. -/
def rowsSVP : List RegRow := [
  ⟨0xd00000, 4, 4096, 1, 0, 0xfc0000ff, 0x0, 0x0, 0x0, 0x0, 0x0, 0xc000000⟩,
  ⟨0xd00004, 4, 4096, 1, 0, 0x0, 0xf0000000, 0xf000000, 0x0, 0x0, 0x0, 0x0⟩,
  ⟨0xd00008, 4, 4096, 1, 0, 0x0, 0x0, 0x0, 0x0, 0xffffffff, 0x0, 0x0⟩,
  ⟨0xd0000c, 4, 4096, 1, 0, 0x0, 0x0, 0x0, 0x0, 0xffffffff, 0x0, 0x0⟩,
  ⟨0xd00010, 4, 4096, 1, 0, 0x0, 0xffffffff, 0x0, 0x0, 0x0, 0x0, 0x0⟩,
  ⟨0xd00014, 4, 4096, 1, 0, 0x0, 0x0, 0x0, 0x0, 0xffffffff, 0x0, 0x0⟩,
  ⟨0xd00018, 4, 4096, 1, 0, 0x0, 0x0, 0x0, 0x0, 0xffffffff, 0x0, 0x0⟩,
  ⟨0xd0001c, 4, 4096, 1, 0, 0x0, 0x0, 0x0, 0x0, 0xffffffff, 0x0, 0x0⟩,
  ⟨0xd00020, 4, 4096, 1, 0, 0x0, 0x0, 0x0, 0x0, 0xffffffff, 0x0, 0x0⟩,
  ⟨0xd00024, 4, 4096, 1, 0, 0x0, 0x0, 0x0, 0x0, 0xffffffff, 0x0, 0x0⟩,
  ⟨0xd00028, 4, 4096, 1, 0, 0x0, 0x0, 0x0, 0x0, 0xffffffff, 0x0, 0x0⟩]

/-- Register rows of block PKT. -/
def rowsPKT : List RegRow := [
  ⟨0xe00000, 1, 0, 1, 0, 0xc00f0000, 0x0, 0x0, 0x0, 0x0, 0x0, 0xf0000⟩,
  ⟨0xe00004, 1, 0, 1, 0, 0x0, 0x3, 0x0, 0x0, 0x0, 0x0, 0x0⟩,
  ⟨0xe00008, 1, 0, 1, 0, 0x0, 0x0, 0x107ff, 0x0, 0x0, 0x0, 0x0⟩,
  ⟨0xe00040, 11, 4, 1, 0, 0x0, 0x0, 0x0, 0x0, 0xffffffff, 0x0, 0x0⟩,
  ⟨0xe00100, 16, 8, 1, 0, 0x80ffffff, 0x0, 0x0, 0x0, 0x0, 0x0, 0x0⟩,
  ⟨0xe00104, 16, 8, 1, 0, 0xffffff, 0x0, 0x0, 0x0, 0x0, 0x0, 0x1⟩,
  ⟨0xe00180, 16, 4, 1, 0, 0x0, 0x0, 0x0, 0x0, 0xffffffff, 0x0, 0x0⟩,
  ⟨0xe00200, 16, 32, 1, 0, 0xe0ff07ff, 0x0, 0x0, 0x0, 0x0, 0x0, 0x0⟩,
  ⟨0xe00204, 16, 32, 1, 0, 0xffffff, 0x0, 0x0, 0x0, 0x0, 0x0, 0x0⟩,
  ⟨0xe00208, 16, 32, 1, 0, 0x1ffff, 0x0, 0x0, 0x0, 0x0, 0x0, 0x10⟩,
  ⟨0xe0020c, 16, 32, 1, 0, 0x0, 0xffff, 0x0, 0x0, 0x0, 0x0, 0x0⟩,
  ⟨0xe00210, 16, 32, 1, 0, 0xffff, 0x0, 0x0, 0x0, 0x0, 0x0, 0x0⟩,
  ⟨0xe00214, 16, 32, 1, 0, 0x0, 0x0, 0x0, 0x0, 0xffffffff, 0x0, 0x0⟩,
  ⟨0xe00218, 16, 32, 1, 0, 0x0, 0x0, 0x0, 0x0, 0xffffffff, 0x0, 0x0⟩]

/-- Register rows of block TXS. -/
def rowsTXS : List RegRow := [
  ⟨0xf00000, 4, 4096, 1, 0, 0xffff3f00, 0x0, 0x0, 0x0, 0x0, 0x0, 0x80c01400⟩,
  ⟨0xf00004, 4, 4096, 1, 0, 0x0, 0x3, 0xffffff00, 0x0, 0x0, 0x0, 0x0⟩,
  ⟨0xf00008, 4, 4096, 1, 0, 0xffffffff, 0x0, 0x0, 0x0, 0x0, 0x0, 0x1010101⟩,
  ⟨0xf0000c, 4, 4096, 1, 0, 0xffff, 0x0, 0x0, 0x0, 0x0, 0x0, 0x101⟩,
  ⟨0xf00010, 4, 4096, 1, 0, 0xffffffff, 0x0, 0x0, 0x0, 0x0, 0x0, 0x0⟩,
  ⟨0xf00014, 4, 4096, 1, 0, 0xffff, 0x0, 0x0, 0x0, 0x0, 0x0, 0x0⟩,
  ⟨0xf00020, 4, 4096, 1, 0, 0x8000007f, 0x20000000, 0x0, 0x0, 0x0, 0x0, 0x1⟩,
  ⟨0xf00024, 4, 4096, 1, 0, 0xffffffff, 0x0, 0x0, 0x0, 0x0, 0x0, 0x0⟩,
  ⟨0xf00028, 4, 4096, 1, 0, 0xffffffff, 0x0, 0x0, 0x0, 0x0, 0x0, 0x0⟩,
  ⟨0xf0002c, 4, 4096, 1, 0, 0x0, 0x8000003f, 0x0, 0x0, 0x0, 0x0, 0x0⟩,
  ⟨0xf00030, 4, 4096, 1, 0, 0x0, 0xffffffff, 0x0, 0x0, 0x0, 0x0, 0x0⟩,
  ⟨0xf00040, 4, 4096, 2, 16, 0xffffff, 0x0, 0x0, 0x0, 0x0, 0x0, 0x0⟩,
  ⟨0xf00044, 4, 4096, 2, 16, 0xff1fff, 0x0, 0x0, 0x0, 0x0, 0x0, 0x10⟩,
  ⟨0xf00048, 4, 4096, 2, 16, 0xfff, 0x0, 0x0, 0x0, 0x0, 0x0, 0x0⟩,
  ⟨0xf0004c, 4, 4096, 2, 16, 0x0, 0xfff, 0x0, 0x0, 0x0, 0x0, 0x0⟩,
  ⟨0xf00100, 4, 4096, 8, 32, 0x1ff, 0x0, 0x0, 0x0, 0x0, 0x0, 0x20⟩,
  ⟨0xf00104, 4, 4096, 8, 32, 0x3ffff, 0x0, 0x0, 0x0, 0x0, 0x0, 0x0⟩,
  ⟨0xf00108, 4, 4096, 8, 32, 0xffffff, 0x0, 0x0, 0x0, 0x0, 0x0, 0x0⟩,
  ⟨0xf0010c, 4, 4096, 8, 32, 0x0, 0x0, 0x0, 0x0, 0xffffffff, 0x0, 0x0⟩,
  ⟨0xf00110, 4, 4096, 8, 32, 0x0, 0x0, 0x0, 0x0, 0xffffffff, 0x0, 0x0⟩,
  ⟨0xf00114, 4, 4096, 8, 32, 0x0, 0x0, 0x0, 0x0, 0xffffffff, 0x0, 0x0⟩,
  ⟨0xf00118, 4, 4096, 8, 32, 0x0, 0x0, 0x0, 0x0, 0xffffffff, 0x0, 0x0⟩,
  ⟨0xf00400, 4, 4096, 64, 4, 0xffffffff, 0x0, 0x0, 0x0, 0x0, 0x0, 0x0⟩,
  ⟨0xf08000, 5, 16, 1, 0, 0xffffffff, 0x0, 0x0, 0x0, 0x0, 0x0, 0x0⟩,
  ⟨0xf08004, 5, 16, 1, 0, 0x8000ffff, 0x0, 0x0, 0x0, 0x0, 0x0, 0x0⟩,
  ⟨0xf08008, 5, 16, 1, 0, 0xffffffff, 0x0, 0x0, 0x0, 0x0, 0x0, 0x88b5⟩,
  ⟨0xf08100, 1, 0, 1, 0, 0xfffff, 0x0, 0x0, 0x0, 0x0, 0x0, 0x0⟩]

/-- Register rows of block TWN. -/
def rowsTWN : List RegRow := [
  ⟨0x1000000, 1, 0, 1, 0, 0x60ff03ff, 0x80000000, 0x0, 0x0, 0x0, 0x0, 0x60100064⟩,
  ⟨0x1000004, 1, 0, 1, 0, 0x0, 0xff80f000, 0x7f0000, 0x0, 0x0, 0x0, 0x0⟩,
  ⟨0x1000008, 1, 0, 1, 0, 0x7f, 0x0, 0x0, 0x0, 0x0, 0x0, 0xa⟩,
  ⟨0x100000c, 1, 0, 1, 0, 0x0, 0xffffffff, 0x0, 0x0, 0x0, 0x0, 0xffffffff⟩,
  ⟨0x1000010, 1, 0, 1, 0, 0x0, 0xffffffff, 0x0, 0x0, 0x0, 0x0, 0x0⟩,
  ⟨0x1000014, 1, 0, 1, 0, 0x0, 0xffffffff, 0x0, 0x0, 0x0, 0x0, 0x0⟩,
  ⟨0x1000018, 1, 0, 1, 0, 0x0, 0x8000ffff, 0x0, 0x0, 0x0, 0x0, 0x0⟩,
  ⟨0x100001c, 1, 0, 1, 0, 0x0, 0xf8ffffff, 0x0, 0x0, 0x0, 0x0, 0x0⟩,
  ⟨0x1000020, 1, 0, 1, 0, 0x0, 0xffc0ffff, 0x0, 0x0, 0x0, 0x0, 0x0⟩,
  ⟨0x1000024, 1, 0, 1, 0, 0x0, 0x0, 0x0, 0x0, 0xffffffff, 0x0, 0x0⟩,
  ⟨0x1000028, 1, 0, 1, 0, 0x0, 0x0, 0x0, 0x0, 0xffffffff, 0x0, 0x0⟩,
  ⟨0x100002c, 1, 0, 1, 0, 0x0, 0x0, 0x0, 0x0, 0xffffffff, 0x0, 0x0⟩,
  ⟨0x1000030, 5, 4, 1, 0, 0x0, 0xffffffff, 0x0, 0x0, 0x0, 0x0, 0x0⟩,
  ⟨0x1000050, 1, 0, 1, 0, 0xfffff, 0x0, 0x0, 0x0, 0x0, 0x0, 0x0⟩,
  ⟨0x1000054, 1, 0, 1, 0, 0xffffffff, 0x0, 0x0, 0x0, 0x0, 0x0, 0x0⟩,
  ⟨0x1000058, 1, 0, 1, 0, 0x0, 0x7, 0x0, 0x0, 0x0, 0x0, 0x0⟩,
  ⟨0x1000060, 1, 0, 1, 0, 0x1ff, 0x0, 0x40000000, 0x0, 0x0, 0x0, 0x0⟩,
  ⟨0x1000100, 64, 4, 1, 0, 0xffffffff, 0x0, 0x0, 0x0, 0x0, 0x0, 0x0⟩,
  ⟨0x1000200, 64, 4, 1, 0, 0x0, 0xffffffff, 0x0, 0x0, 0x0, 0x0, 0x0⟩]

/-- Register rows of block ATT. -/
def rowsATT : List RegRow := [
  ⟨0x1100000, 1, 0, 1, 0, 0x6, 0xc0000000, 0x0, 0x0, 0x0, 0x0, 0x0⟩,
  ⟨0x1100004, 1, 0, 1, 0, 0x0, 0xf7ffffff, 0x0, 0x0, 0x0, 0x0, 0x0⟩,
  ⟨0x1100008, 1, 0, 1, 0, 0x0, 0xffffffff, 0x0, 0x0, 0x0, 0x0, 0x0⟩,
  ⟨0x110000c, 1, 0, 1, 0, 0x0, 0x0, 0x0, 0x0, 0x0, 0x0, 0x0⟩,
  ⟨0x1100010, 1, 0, 1, 0, 0xfffff, 0x0, 0x0, 0x0, 0x0, 0x0, 0x7d0⟩,
  ⟨0x1100014, 1, 0, 1, 0, 0x0, 0x0, 0x0, 0x0, 0x0, 0x0, 0x0⟩,
  ⟨0x1100018, 1, 0, 1, 0, 0xffffffff, 0x0, 0x0, 0x0, 0x0, 0x0, 0x3020100⟩,
  ⟨0x110001c, 1, 0, 1, 0, 0x0, 0x0, 0xf, 0x0, 0x0, 0x0, 0x0⟩,
  ⟨0x1100020, 4, 4, 1, 0, 0x7fffff, 0x0, 0x0, 0x0, 0x0, 0x0, 0xfa0⟩,
  ⟨0x1100030, 1, 0, 1, 0, 0x0, 0x0, 0x0, 0x0, 0xffffffff, 0x0, 0x0⟩,
  ⟨0x1100034, 1, 0, 1, 0, 0x0, 0xf7ff0000, 0x0, 0x0, 0x0, 0x0, 0x0⟩,
  ⟨0x1100038, 1, 0, 1, 0, 0x0, 0xffffffff, 0x0, 0x0, 0x0, 0x0, 0x0⟩,
  ⟨0x1100100, 40, 4, 1, 0, 0x0, 0x0, 0xffffffff, 0x0, 0x0, 0x0, 0x0⟩,
  ⟨0x1100200, 40, 4, 1, 0, 0x0, 0xffffffff, 0x0, 0x0, 0x0, 0x0, 0x0⟩,
  ⟨0x1100300, 40, 4, 1, 0, 0x0, 0x0, 0xffffffff, 0x0, 0x0, 0x0, 0x0⟩,
  ⟨0x1100400, 40, 4, 1, 0, 0x0, 0x0, 0xffffffff, 0x0, 0x0, 0x0, 0x0⟩,
  ⟨0x1101000, 1280, 4, 1, 0, 0xfbfc000, 0xf04000ff, 0x0, 0x0, 0x0, 0x0, 0x4000000⟩]

/-- Register rows of block VIT. -/
def rowsVIT : List RegRow := [
  ⟨0x1200000, 1, 0, 1, 0, 0xe0000000, 0x0, 0x0, 0x0, 0x0, 0x0, 0xc0000000⟩,
  ⟨0x1200004, 1, 0, 1, 0, 0x0, 0x8f00ffff, 0x70000000, 0x0, 0x0, 0x0, 0xf000000⟩,
  ⟨0x1200008, 1, 0, 1, 0, 0x0, 0x0, 0x0, 0x0, 0x0, 0x1fff, 0x0⟩,
  ⟨0x120000c, 1, 0, 1, 0, 0x0, 0x0, 0x0, 0x0, 0x0, 0x0, 0x0⟩,
  ⟨0x1200010, 1, 0, 1, 0, 0xffffffff, 0x0, 0x0, 0x0, 0x0, 0x0, 0x0⟩,
  ⟨0x1200014, 1, 0, 1, 0, 0x0, 0x0, 0x0, 0x0, 0x0, 0x0, 0x0⟩,
  ⟨0x1200018, 1, 0, 1, 0, 0x0, 0x803f000f, 0x0, 0x0, 0x0, 0x0, 0x0⟩,
  ⟨0x120001c, 1, 0, 1, 0, 0x0, 0xffffffff, 0x0, 0x0, 0x0, 0x0, 0x0⟩]

/-- Register rows of block LDG. -/
def rowsLDG : List RegRow := [
  ⟨0x1300000, 1, 0, 1, 0, 0xfff00000, 0x0, 0x0, 0x0, 0x0, 0x0, 0x12000000⟩,
  ⟨0x1300004, 1, 0, 1, 0, 0x0, 0xf00003ff, 0xf800000, 0x0, 0x0, 0x0, 0x0⟩,
  ⟨0x1300008, 1, 0, 1, 0, 0x0, 0xffffffff, 0x0, 0x0, 0x0, 0x0, 0x0⟩,
  ⟨0x130000c, 1, 0, 1, 0, 0x0, 0x0, 0x0, 0x0, 0x0, 0x3ff, 0x0⟩,
  ⟨0x1300010, 1, 0, 1, 0, 0x0, 0x0, 0x0, 0x0, 0x0, 0x0, 0x0⟩,
  ⟨0x1300014, 1, 0, 1, 0, 0x0, 0xffffffff, 0x0, 0x0, 0x0, 0x0, 0x0⟩,
  ⟨0x1300018, 1, 0, 1, 0, 0x0, 0xffffffff, 0x0, 0x0, 0x0, 0x0, 0x0⟩,
  ⟨0x130001c, 1, 0, 1, 0, 0x0, 0x0, 0x0, 0x0, 0xffffffff, 0x0, 0x0⟩,
  ⟨0x1300020, 1, 0, 1, 0, 0x0, 0x0, 0x0, 0x0, 0xffffffff, 0x0, 0x0⟩,
  ⟨0x1300024, 1, 0, 1, 0, 0x0, 0x0, 0x0, 0x0, 0xffffffff, 0x0, 0x0⟩,
  ⟨0x1300040, 6, 4, 1, 0, 0xffffffff, 0x0, 0x0, 0x0, 0x0, 0x0, 0x0⟩,
  ⟨0x1300058, 1, 0, 1, 0, 0x0, 0x0, 0x0, 0x0, 0x0, 0x0, 0x0⟩]

/-- Register rows of block AUX. -/
def rowsAUX : List RegRow := [
  ⟨0x1400000, 1, 0, 1, 0, 0x80ff0000, 0x0, 0x0, 0x0, 0x0, 0x0, 0x803c0000⟩,
  ⟨0x1400004, 1, 0, 1, 0, 0x0, 0xe08001ff, 0x1f400000, 0x0, 0x0, 0x0, 0x0⟩,
  ⟨0x1400008, 1, 0, 1, 0, 0x0, 0x0, 0x0, 0x0, 0xffffffff, 0x0, 0x0⟩,
  ⟨0x140000c, 1, 0, 1, 0, 0x0, 0x0, 0x0, 0x0, 0xffffffff, 0x0, 0x0⟩,
  ⟨0x1400010, 1, 0, 1, 0, 0x0, 0x0, 0x0, 0x0, 0x0, 0x0, 0x0⟩,
  ⟨0x1400014, 1, 0, 1, 0, 0x0, 0xffffffff, 0x0, 0x0, 0x0, 0x0, 0x0⟩,
  ⟨0x1400018, 1, 0, 1, 0, 0x0, 0xffffffff, 0x0, 0x0, 0x0, 0x0, 0x0⟩,
  ⟨0x140001c, 1, 0, 1, 0, 0x0, 0x3fffff, 0x0, 0x0, 0x0, 0x0, 0x0⟩,
  ⟨0x1400020, 1, 0, 1, 0, 0x0, 0x3fffff, 0x0, 0x0, 0x0, 0x0, 0x0⟩,
  ⟨0x1400024, 1, 0, 1, 0, 0x0, 0x0, 0x0, 0x0, 0xffffffff, 0x0, 0x0⟩,
  ⟨0x1400028, 1, 0, 1, 0, 0x0, 0x0, 0x0, 0x0, 0x0, 0x0, 0x0⟩,
  ⟨0x1400040, 32, 4, 1, 0, 0x3, 0x0, 0x0, 0x0, 0x0, 0x0, 0x0⟩,
  ⟨0x1400100, 48, 4, 1, 0, 0x0, 0xffffffff, 0x0, 0x0, 0x0, 0x0, 0x0⟩,
  ⟨0x1400200, 4, 32, 1, 0, 0x7bffffff, 0x4000000, 0x0, 0x0, 0x0, 0x0, 0xfa0⟩,
  ⟨0x1400204, 4, 32, 4, 4, 0x3f3f3f3f, 0x0, 0x0, 0x0, 0x0, 0x0, 0x0⟩,
  ⟨0x1400400, 16, 16, 1, 0, 0x80000007, 0x30000000, 0x0, 0x0, 0x0, 0x0, 0x7⟩,
  ⟨0x1400404, 16, 16, 1, 0, 0xffff, 0x0, 0x0, 0x0, 0x0, 0x0, 0x0⟩,
  ⟨0x1400408, 16, 16, 1, 0, 0xffffffff, 0x0, 0x0, 0x0, 0x0, 0x0, 0x0⟩,
  ⟨0x140040c, 16, 16, 1, 0, 0xffff7fff, 0x0, 0x0, 0x0, 0x0, 0x0, 0x80000000⟩,
  ⟨0x1400800, 8, 16, 1, 0, 0x9f0f03ff, 0x0, 0x0, 0x0, 0x0, 0x0, 0x0⟩,
  ⟨0x1400804, 8, 16, 1, 0, 0xffffffff, 0x0, 0x0, 0x0, 0x0, 0x0, 0x0⟩,
  ⟨0x1400808, 8, 16, 1, 0, 0xffff, 0x0, 0x0, 0x0, 0x0, 0x0, 0xc80⟩,
  ⟨0x140080c, 8, 16, 1, 0, 0x8000ffff, 0x0, 0x0, 0x0, 0x0, 0x0, 0x0⟩]

/-- Register rows of block XBR. -/
def rowsXBR : List RegRow := [
  ⟨0x1500000, 1, 0, 1, 0, 0x0, 0x0, 0xfc000000, 0x0, 0x0, 0x0, 0x0⟩,
  ⟨0x1500004, 1, 0, 1, 0, 0x0, 0xfff803ff, 0x0, 0x0, 0x0, 0x0, 0x0⟩,
  ⟨0x1500008, 1, 0, 1, 0, 0x0, 0xffffffff, 0x0, 0x0, 0x0, 0x0, 0x0⟩,
  ⟨0x150000c, 1, 0, 1, 0, 0x0, 0xff, 0x0, 0x0, 0x0, 0x0, 0x0⟩,
  ⟨0x1500010, 1, 0, 1, 0, 0x3f, 0x0, 0x0, 0x0, 0x0, 0x0, 0x0⟩,
  ⟨0x1500014, 1, 0, 1, 0, 0x0, 0xff00ff00, 0x0, 0x0, 0x0, 0x0, 0x0⟩,
  ⟨0x1500018, 1, 0, 1, 0, 0x0, 0x0, 0x0, 0x0, 0xffffffff, 0x0, 0x0⟩,
  ⟨0x1500100, 14, 8, 1, 0, 0xffffffff, 0x0, 0x0, 0x0, 0x0, 0x0, 0x0⟩,
  ⟨0x1500104, 14, 8, 1, 0, 0xffff, 0x0, 0x0, 0x0, 0x0, 0x0, 0x0⟩,
  ⟨0x1500200, 14, 4, 1, 0, 0x0, 0xffffffff, 0x0, 0x0, 0x0, 0x0, 0x4f⟩]

/-- Register rows of block DDR. -/
def rowsDDR : List RegRow := [
  ⟨0x1600000, 1, 0, 1, 0, 0x80ff0000, 0x0, 0x0, 0x0, 0x0, 0x0, 0x80180000⟩,
  ⟨0x1600004, 1, 0, 1, 0, 0x0, 0xfef00000, 0x0, 0x0, 0x0, 0x0, 0x0⟩,
  ⟨0x1600010, 4, 4, 1, 0, 0x0, 0x0, 0x0, 0x0, 0xffffffff, 0x0, 0x0⟩,
  ⟨0x1600020, 4, 4, 1, 0, 0x0, 0x0, 0x0, 0x0, 0xffffffff, 0x0, 0x0⟩,
  ⟨0x1600030, 1, 0, 1, 0, 0x0, 0xffffffff, 0x0, 0x0, 0x0, 0x0, 0x0⟩,
  ⟨0x1600034, 1, 0, 1, 0, 0x0, 0x8000030f, 0x0, 0x0, 0x0, 0x0, 0x0⟩,
  ⟨0x1600100, 8, 16, 1, 0, 0x0, 0x0, 0x0, 0x0, 0x0, 0xffff, 0x0⟩,
  ⟨0x1600104, 8, 16, 1, 0, 0x0, 0x0, 0x0, 0x0, 0x0, 0x1ffff, 0x0⟩,
  ⟨0x1600108, 8, 16, 1, 0, 0x0, 0x0, 0x0, 0x0, 0x0, 0x3fff, 0x0⟩,
  ⟨0x160010c, 8, 16, 1, 0, 0x0, 0x0, 0x0, 0x0, 0x0, 0x3fff, 0x0⟩]

/-- Register rows of block SBM. -/
def rowsSBM : List RegRow := [
  ⟨0x1700000, 1, 0, 1, 0, 0xc0000000, 0x0, 0x0, 0x0, 0x0, 0x0, 0x80000000⟩,
  ⟨0x1700004, 1, 0, 1, 0, 0x0, 0xe000007f, 0x1c000000, 0x0, 0x0, 0x0, 0x0⟩]

/-- Register rows of block TMX. -/
def rowsTMX : List RegRow := [
  ⟨0x1800000, 1, 0, 1, 0, 0xc0000000, 0x0, 0x0, 0x0, 0x0, 0x0, 0x0⟩,
  ⟨0x1800004, 1, 0, 1, 0, 0x0, 0xc0000000, 0x20000000, 0x0, 0x0, 0x0, 0x0⟩,
  ⟨0x1800010, 8, 4, 1, 0, 0xffff, 0x0, 0x0, 0x0, 0x0, 0x0, 0x0⟩]

/-- The register rows of the 1 MiB of BAR0 that holds an address (R16). -/
def rowsAt (a : Nat) : List RegRow :=
  let b := a / 0x100000
  if b = 0 then rowsGLB else if b = 1 then rowsPDM else if b = 2 then rowsNVL else if b = 3 then rowsTMR
  else if b = 4 then rowsPRG else if b = 5 then rowsARS else if b = 6 then rowsCUR else if b = 7 then rowsDOC
  else if b = 8 then rowsLPE else if b = 9 then rowsLPE else if b = 10 then rowsLPE ++ rowsINV
  else if b = 11 then rowsNGL else if b = 12 then rowsCNS else if b = 13 then rowsSVP else if b = 14 then rowsPKT
  else if b = 15 then rowsTXS else if b = 16 then rowsTWN else if b = 17 then rowsATT else if b = 18 then rowsVIT
  else if b = 19 then rowsLDG else if b = 20 then rowsAUX else if b = 21 then rowsXBR else if b = 22 then rowsDDR
  else if b = 23 then rowsSBM else if b = 24 then rowsTMX else []

/-- The register row covers the address. -/
def RegRow.covers (r : RegRow) (a : Nat) : Bool :=
  if a < r.base then false
  else
    let d := a - r.base
    let i := if r.s1 = 0 then 0 else min (d / r.s1) (r.n1 - 1)
    let e := d - i * r.s1
    if r.s2 = 0 then (if r.s1 = 0 then d == 0 else e == 0)
    else e % r.s2 == 0 && decide (e / r.s2 < r.n2)

/-- The row of an address, none where no register stands. -/
def rowOf (a : Nat) : Option RegRow := (rowsAt a).find? (fun r => r.covers a)

/-- The reset windows of ATT_WIN_LENi (R491). -/
def winLenReset (i : Nat) : Nat := 4000 * 10 ^ i

/-- The reset priority of each matrix master, the same at every target (R527). -/
def masterPriority : List Nat := [8, 6, 4, 12, 14, 13, 15, 10, 9, 5, 11, 11, 12, 2]

/-- The reset value of ATT_SRC of source `s`: its class twice, alert_en from DEGRADED up, irq_en set (R494). -/
def attSrcReset (s : Nat) : Nat :=
  if srcReserved s then 0
  else srcClass s * 2 ^ 30 + srcClass s * 2 ^ 28 + (if 1 ≤ srcClass s then 2 ^ 27 else 0) + 2 ^ 26

/-- The reset value of a register (R15): the Reset column of its table; where the column names silicon or R527,
what that rule fixes. -/
def resetNat (a : Nat) : Nat :=
  match rowOf a with
  | none => 0
  | some r =>
    if r.base = ATT_SRC 0 then attSrcReset ((a - r.base) / 4)
    else if r.base = ATT_WIN_LEN 0 then winLenReset ((a - r.base) / 4)
    else if r.base = XBR_PRI_LO 0 then nth 0 masterPriority ((a - r.base) / 8) * 0x11111111
    else if r.base = XBR_PRI_HI 0 then nth 0 masterPriority ((a - r.base) / 8) * 0x1111
    else r.reset

/-- The reset value of the register at an address. -/
def resetReg (a : Nat) : W := toW (resetNat a)

end Sys2Proof.Machine
end

