-- ==== Sys2Proof/Machine/SMap.lean ====
section
/-! DEFINITION. Sparse maps: lists of key and value pairs in ONE canonical form, keys strictly rising and no
value equal to what an unlisted key reads as. The registers, the memories and the cells are kept this way. -/

namespace Sys2Proof.Machine

/-- The value listed for key `k`. -/
def mapGet {α : Type} : List (Nat × α) → Nat → Option α
  | [], _ => none
  | (a, v) :: t, k => if a = k then some v else mapGet t k

/-- List `v` for key `k`, in its place by rising keys. -/
def mapPut {α : Type} : List (Nat × α) → Nat → α → List (Nat × α)
  | [], k, v => [(k, v)]
  | (a, x) :: t, k, v =>
    if k < a then (k, v) :: (a, x) :: t
    else if k = a then (k, v) :: t
    else (a, x) :: mapPut t k v

/-- Take key `k` out of the list. -/
def mapDel {α : Type} : List (Nat × α) → Nat → List (Nat × α)
  | [], _ => []
  | (a, x) :: t, k => if k = a then mapDel t k else (a, x) :: mapDel t k

/-- The value of key `k`, an unlisted key reading as `d k`. -/
def mapRead {α : Type} (d : Nat → α) (m : List (Nat × α)) (k : Nat) : α :=
  match mapGet m k with
  | some v => v
  | none => d k

/-- Give key `k` the value `v`; the value an unlisted key reads as removes the entry. -/
def mapWrite {α : Type} [DecidableEq α] (d : Nat → α) (m : List (Nat × α)) (k : Nat) (v : α) : List (Nat × α) :=
  if v = d k then mapDel m k else mapPut m k v

/-- The keys of a list rise strictly, each above `lo`. -/
def keysRise {α : Type} : Nat → List (Nat × α) → Bool
  | _, [] => true
  | lo, (a, _) :: t => decide (lo ≤ a) && keysRise (a + 1) t

/-- The canonical form: keys strictly rising, no value equal to its default. -/
def mapWf {α : Type} [DecidableEq α] (d : Nat → α) (m : List (Nat × α)) : Bool :=
  keysRise 0 m && m.all (fun e => decide (e.2 ≠ d e.1))

/-- Write a run of values at rising keys from `k`. -/
def mapWriteRun {α : Type} [DecidableEq α] (d : Nat → α) (m : List (Nat × α)) (k : Nat) : List α → List (Nat × α)
  | [] => m
  | v :: t => mapWriteRun d (mapWrite d m k v) (k + 1) t

/-- Read `n` values from rising keys from `k`. -/
def mapReadRun {α : Type} (d : Nat → α) (m : List (Nat × α)) : Nat → Nat → List α
  | _, 0 => []
  | k, n + 1 => mapRead d m k :: mapReadRun d m (k + 1) n

end Sys2Proof.Machine
end

