-- ==== Sys2Proof/Machine/Blocks.lean ====
section
/-! DEFINITION. The blocks of the device and their values at reset: what the spec gives each block beside its
registers. The registers of the spec's tables stand under their BAR0 addresses in Chip.regs (their one home). -/

namespace Sys2Proof.Machine

/-! ### Time (R54–R86) -/

/-- A waiting adjustment (R64, R78). -/
structure Adj where
  value : BitVec 64
  absolute : Bool
  forceStep : Bool
  e : W
  deriving DecidableEq, Repr

/-- A timestamp (R74): 64-bit nanoseconds, a fraction in 1/16 ns, the step tag. -/
structure Stamp where
  ns : BitVec 64
  frac : BitVec 4
  step : BitVec 4
  deriving DecidableEq, Repr

/-- An entry of a port's egress stamp queue (R75). -/
structure TxStamp where
  stamp : Stamp
  tag : BitVec 16
  lost : Bool
  deriving DecidableEq, Repr

/-- The time counter and the period grid beside their registers. -/
structure Tmr where
  /-- time_ns of the native counter (R54). -/
  timeNs : BitVec 64
  /-- time_frac (R54). -/
  timeFrac : W
  /-- The period number P (R21). -/
  period : W
  /-- T(P): network time of the last boundary (R60). -/
  bndNs : BitVec 64
  /-- In-period index of the present tick, 0 at phase 0 (R66). -/
  tick : Nat
  /-- Core clock ticks since the block's reset: real time (R61). -/
  ticks : Nat
  /-- Network time at the tick before the present one; after a step the new time (R79, R80). -/
  lastNs : BitVec 64
  /-- The increment in force, in 2^-32 ns (R54). -/
  inc : Nat
  /-- A committed increment and its E (R57). -/
  incPend : Option (Nat × W)
  /-- The adjustment that waits for E (R64). -/
  adj : Option Adj
  /-- The outstanding slew in ns (R65), and what the present period has taken of it (R66). -/
  slew : Int
  slewed : Int
  /-- F, the free count of the compatible mode (R70). -/
  cxFree : BitVec 64
  /-- F_ref (R70). -/
  cxRef : BitVec 64
  /-- ρ in force (R70). -/
  cxRho : W
  /-- A written ρ and its E (R57). -/
  cxPend : Option (W × W)
  /-- The stamp of the last accepted PPS_IN edge (R77). -/
  ppsStamp : BitVec 64
  /-- The core tick of the last accepted PPS_IN edge (R77). -/
  ppsEdge : Option Nat
  /-- The core tick at which PPS_OUT rose, while it is high (R79). -/
  ppsOut : Option Nat
  /-- The last step: its boundary X and T(X) before it (R67). -/
  stepAt : Option (W × BitVec 64)
  /-- The egress stamp queues of the four ports (R75). -/
  txq : List (List TxStamp)
  /-- A stamp of the port was dropped since the last one stored (R75). -/
  txLost : List Bool
  deriving DecidableEq, Repr

/-- R58: at release the counter holds 0 at boundary 0 and the increment is 1.0 ns. -/
def Tmr.reset : Tmr :=
  { timeNs := 0, timeFrac := 0, period := 0, bndNs := 0, tick := 0, ticks := 0, lastNs := 0, inc := 0x100000000,
    incPend := none, adj := none, slew := 0, slewed := 0, cxFree := 0, cxRef := 0, cxRho := 0, cxPend := none,
    ppsStamp := 0, ppsEdge := none, ppsOut := none, stepAt := none, txq := [[], [], [], []],
    txLost := [false, false, false, false] }

/-! ### Attendant: occurrences (R465) -/

/-- One occurrence of an event source (R465), not yet latched. -/
structure Occ where
  src : Nat
  data : W
  injected : Bool
  period : W
  time : BitVec 64
  deriving DecidableEq, Repr

/-- The Attendant beside its registers. -/
structure Att where
  /-- Occurrences raised and not yet latched, oldest first (R465). -/
  raised : List Occ
  /-- The period of the last occurrence raised under a limit of one per 1,024 periods. -/
  limit : List (Nat × W)
  /-- The latch boundary of the last occurrence of a source (R468). -/
  last : List (Nat × W)
  /-- The period in which the final FRAME of the safe state is sent (R482); none where no FRAME is sent any more. -/
  final : Option W
  /-- SEVERE acknowledgements that wait: the source named and E (R472). -/
  acks : List (Nat × W)
  /-- HEARTBEAT, ALERT_N driven low, SAFE_N; none is high-impedance (R478, R480). -/
  heartbeat : Option Bool
  alertLow : Bool
  safeN : Option Bool
  /-- The capture boundary of the safe state, whose slot is locked (R481). -/
  lockV : Option W
  /-- The safe state is to be entered at the present boundary: its cause and its source (R481, R492). -/
  entry : Option (Nat × Nat)
  deriving DecidableEq, Repr

/-- No occurrence waits after reset. -/
def Att.reset : Att := 
  { raised := [], limit := [], last := [], final := none, acks := [],
    heartbeat := some false, alertLow := false, safeN := some true, lockV := none, entry := none }

/-! ### Ledger (R450–R464) -/

/-- A ledger record (R450): its sequence, type, class, flags, source and body bytes 8–31, and the period it was
written in. -/
structure LRec where
  seq : W
  typ : Nat
  cls : Nat
  inj : Bool
  real : Bool
  acting : Bool
  source : Nat
  body : List Byte
  at_ : W
  deriving DecidableEq, Repr

/-- An open EVENT record (R451, R452). -/
structure OpenRec where
  firstT : BitVec 64
  pFirst : W
  count : Nat
  lastDp : Nat
  data : W
  cls : Nat
  inj : Bool
  real : Bool
  deriving DecidableEq, Repr

/-- An entry of the alarm store (R456): the frame's payload, its count byte, whether it is a summary, the sequence of
its frame once formed, the ports it has been queued on. -/
structure Alarm where
  payload : List Byte
  count : Nat
  summary : Bool
  seq : Option W
  ports : List Nat
  deriving DecidableEq, Repr

/-- A freeze whose records are being copied (R454). -/
structure Freeze where
  seq : W
  cls : Nat
  deriving DecidableEq, Repr

/-- The ledger beside its registers. -/
structure Ldg where
  /-- Records written that wait for the ring, oldest first (R453). -/
  waiting : List LRec
  /-- The ring of 8,192 records, by seq modulo 8,192 (R453). -/
  ring : List (Nat × LRec)
  /-- The sequence of the next record to copy to the log region (R453). -/
  copied : W
  /-- The sequence of the first record of the present log region (R454). -/
  logFirst : W
  /-- The open EVENT records by source (R452). -/
  opened : List (Nat × OpenRec)
  /-- A freeze in progress (R454). -/
  freeze : Option Freeze
  /-- The alarm store, oldest first (R456). -/
  alarms : List Alarm
  /-- Summary counts of the window, by source, with their class (R456). -/
  summary : List (Nat × (Nat × Nat))
  /-- Alarms of the present window placed in the store (R456). -/
  budget : Nat
  /-- Records that wait for export, oldest first (R457). -/
  exports : List LRec
  deriving DecidableEq, Repr

/-- The ledger after reset: no record. -/
def Ldg.reset : Ldg :=
  { waiting := [], ring := [], copied := 0, logFirst := 0, opened := [], freeze := none, alarms := [], summary := [],
    budget := 0, exports := [] }

/-! ### Identity, straps, loading and restarts (R499–R521) -/

/-- The straps sampled at reset release (R499), and SB_ADDR, sampled at the release of a COLD reset (R546). -/
structure Straps where
  profile : BitVec 2
  twinId : Bool
  testEn : Bool
  sbAddr : BitVec 3
  deriving DecidableEq, Repr

/-- A reset that is held: the device waits for its release (R499, R500). -/
inductive Hold where
  | cold | pin
  deriving DecidableEq, Repr

/-- What a load finds outside the device (R502, R504, R505): the SRAM test passes, the LPDDR6 supplies held since the reset
began, its channels train, their rate, capacity and ranks (R554), the NOR answers within its limits, and the periods from
release to commit. -/
structure LoadWorld where
  bist : Bool
  supplied : Bool
  trained : Bool
  rate : Fin 4
  capacity : Fin 3
  twoRank : Bool
  norAnswers : Bool
  periods : W
  deriving DecidableEq, Repr

/-- The start actions of R517 that run: the boundary they began at, the tiles in service whose gallery has been sent ENABLE,
whether steps 3 and 4 are done, the serial of the APPLY while it has not completed, whether START has been written, and the E at
which it acts. -/
structure StartRun where
  from_ : W
  served : List Nat
  applied : Bool
  serial : Option Nat
  started : Bool
  startE : Option W
  deriving DecidableEq, Repr

/-- The loader beside its registers. -/
structure Glb where
  straps : Straps
  /-- The NOR and the MRAM by byte address; an erased byte reads 0xFF (R386, R505, R518). -/
  nor : List (Nat × Byte)
  mram : List (Nat × Byte)
  /-- The NVL command that runs: its word and address (R518). -/
  nvl : Option (W × W)
  /-- Check words of the law-set section and the factory section of the image in force (R361, R387). -/
  lawCheck : W
  factoryCrc : W
  /-- The firmware section of the image in force, in the working SRAM (R515). -/
  sram : List (Nat × Byte)
  /-- The svn of the image in force (R509). -/
  svn : Nat
  /-- A written restart and its E (R516); the restart is the watchdog's (R519). -/
  restart : Option (W × W)
  byWatchdog : Bool
  /-- The restart selection kept in the always-on domain (R501, R516). -/
  sel : Option W
  /-- The content of LPDDR6 was kept (R502). -/
  memKept : Bool
  /-- The core tick from which the watchdog counts (R519). -/
  wdtFrom : Nat
  /-- The profile record in force (R512). -/
  profile : List Byte
  /-- The start actions (R517): asked for by a role that begins, and running. -/
  startWanted : Bool
  start : Option StartRun
  /-- PERST_N is low (R500). -/
  perst : Bool
  deriving DecidableEq, Repr

def Glb.reset : Glb :=
  { straps := ⟨0, false, false, 0⟩, nor := [], mram := [], nvl := none, lawCheck := 0, factoryCrc := 0, sram := [], svn := 0,
    restart := none, byWatchdog := false, sel := none, memKept := false, wdtFrom := 0, profile := [],
    startWanted := false, start := none, perst := false }

/-! ### Topology (R40–R51) -/

/-- One mapped cell of the topology descriptor: its place in the map table, the mirror bit, the class and the
neighbours (R42, R43). -/
structure MapCell where
  logical : Nat
  mirror : Bool
  cls : Nat
  nbs : List Nat
  deriving DecidableEq, Repr

/-- The accepted topology descriptor (R41, R45). -/
structure Topo where
  topologyId : W
  stages : Nat
  family : Nat
  planes : Nat
  cellsPerStage : Nat
  tileMask : List Nat
  checkWord : W
  /-- The mapped cells by physical index. -/
  cells : List (Nat × MapCell)
  deriving DecidableEq, Repr

/-! ### Galleries (R87–R161) -/

/-- The loop modes of R134. -/
inductive LoopMode where
  | off | run | transit | coast | hold | char
  deriving DecidableEq, Repr

/-- The code of a loop mode (R134). -/
def LoopMode.code : LoopMode → Nat
  | .off => 0
  | .run => 1
  | .transit => 2
  | .coast => 3
  | .hold => 4
  | .char => 5

/-- The observer state x̂ in units of 2^-22 FS (R87, R90). -/
structure Obs where
  x1 : Int
  x2 : Int
  x3 : Int
  x4 : Int
  x5 : Int
  deriving DecidableEq, Repr

/-- A drive in force: the heater code, the dither term in it, the injection code, and the clamped u_i it comes
from in units of 2^-22 (R104, R105, R139). -/
structure Drive where
  heat : Nat
  dither : Int
  inj : Nat
  ui : Int
  deriving DecidableEq, Repr

/-- A drive of no power. -/
def Drive.zero : Drive := ⟨0, 0, 0, 0⟩

/-- One output's run of equal codes (R141). -/
structure Frz where
  last : Option Nat
  count : Nat
  frozen : Bool
  deriving DecidableEq, Repr

/-- The inventory record's own fields (R156); mode, target and flags come from the cell. -/
structure InvRec where
  coastCnt : Nat
  holdCnt : Nat
  lateCnt : Nat
  ovrCnt : Nat
  frozenCnt : Nat
  autoRecent : Nat
  failBar : Nat
  failCross : Nat
  cleanRun : Nat
  lastHoldP : W
  lastFaultP : W
  switches : Nat
  stuck : Nat
  noAuto : Bool
  single : Bool
  deriving DecidableEq, Repr

/-- The scoring of a cell at a step (R125–R129, R152). -/
structure StepScore where
  /-- The step boundary B. -/
  b : W
  /-- The target of the step, and whether the cell starts a transition to it; a cell in HOLD takes no target (R138). -/
  target : Nat
  moves : Bool
  /-- The cell was in RUN at the start of period B − 1. -/
  fromRun : Bool
  /-- Both outputs were missing in a sample of boundaries B to B + 8. -/
  missed : Bool
  /-- The step has been reported; what the samples up to B + 8 still decide is scored with the last of them. -/
  told : Bool
  /-- A sample of boundaries B + 1 to B + 8 was tested. -/
  tested : Bool
  /-- The last sample of that window passed the leakage test. -/
  lastPass : Bool
  /-- The j at which the cell settled; 0 while it has not. -/
  settled : Nat
  /-- The injection code at m = 0, and ν̃_b and x̂3 at the sample of boundary B + 1 (R379). -/
  inj0 : Nat
  nu1 : Int
  x31 : Int
  deriving DecidableEq, Repr

/-- The Conservator's sums of one cell over a window (R378), in exact integers. -/
structure Sums where
  n : Int
  s0 : Int
  i1 : Int
  q1 : Int
  i2 : Int
  q2 : Int
  ib : Int
  qb : Int
  ic : Int
  qc : Int
  ip : Int
  qp : Int
  deriving DecidableEq, Repr

def Sums.zero : Sums := ⟨0, 0, 0, 0, 0, 0, 0, 0, 0, 0, 0, 0⟩

/-- ν̃_b and x̂3 of the transitions of a window that meet the conditions of R379, oldest first. -/
structure Moves where
  pairs : List (Int × Int)
  deriving DecidableEq, Repr

/-- What the last computation of a cell leaves for the Conservator (R377, R378). -/
structure Sample where
  tu : Int
  tb : Int
  tc : Int
  sb : Int
  sc : Int
  phi : Int
  phiRef : Int
  /-- Both outputs are valid and the sample is not dark. -/
  valid : Bool
  /-- The computations of the last four periods were all RUN with τ = 0 and no changed target (R377). -/
  steady : Bool
  boundary : W
  deriving DecidableEq, Repr

def Sample.none : Sample := ⟨0, 0, 0, 0, 0, 0, 0, false, false, 0⟩

/-- One physical cell as its gallery keeps it. -/
structure Cell where
  mode : LoopMode
  under : LoopMode
  holdCause : Nat
  x : Obs
  /-- The drive in force from the boundary the next computation takes its samples at. -/
  u0 : Drive
  /-- The drive in force from the boundary after it. -/
  u1 : Drive
  /-- c_t (R103). -/
  ctH : Int
  ctI : Int
  /-- h_eq as a heater code (R103). -/
  heq : Nat
  phi : Int
  tb : Int
  tc : Int
  /-- The state held: 0 BAR, 1 CROSS, 2 none (R156), and its branch. -/
  held : Nat
  branch : Nat
  /-- The transit index m (R121). -/
  m : Nat
  /-- The law slot in use (R133). -/
  slot : Nat
  /-- Leakage tests of the last two samples, bit 0 the newer, 1 a pass (R133). -/
  leak2 : Nat
  /-- σ of the last period with both outputs valid, 16 fractional bits (R97). -/
  sigmaHeld : Nat
  frzB : Frz
  frzC : Frz
  /-- Consecutive samples with exactly one output missing (R140). -/
  singleRun : Nat
  /-- Consecutive samples with both outputs missing (R137). -/
  coastRun : Nat
  /-- The drive in force at the last boundary before a characterization (R139). -/
  preChar : Drive
  /-- The codes the Conservator supplies in CHAR (R111): heater and injection. -/
  charHeat : Nat
  charInj : Nat
  /-- A characterization grant, or end, and its effective period (R148). -/
  grant : Option W
  charEnd : Option W
  /-- A computation of the cell has been made since reset: its inventory record holds a state (R156). -/
  seen : Bool
  /-- A command effective for the computation of this period: its code (R160) and ENABLE's logical state. -/
  cmd : Option (Nat × Nat)
  /-- The trim in force, in 2^-16 transmission (R149). -/
  tau : Int
  score : Option StepScore
  /-- The score of the step before it, in the computation in which a new step replaces it. -/
  scoreOld : Option StepScore
  /-- Consecutive tested samples in hold that failed (R152). -/
  leakRun : Nat
  inv : InvRec
  /-- The dither amplitude in force and the one of a later window with that window's number (R375). -/
  amp : Nat
  ampNext : Option (Nat × Nat)
  /-- The last four computations were all RUN with τ = 0 and no changed target: how many in a row (R377). -/
  steady : Nat
  /-- A transition was started whose drive m = 0 acts from the next boundary, where the switching count advances (R155). -/
  swNext : Bool
  sample : Sample
  /-- The sample before it. -/
  sampleOld : Sample
  /-- The sums of the window that runs, those of the window that has ended, and the transitions of both (R378, R379). -/
  sums : Sums
  ended : Sums
  moves : Moves
  movesEnded : Moves
  /-- The four words of the estimate view (R402). -/
  est : List W
  deriving DecidableEq, Repr

/-- A cell after reset: OFF, both codes 0, the dither amplitude at amp_init's reset value (R375, R400). -/
def Cell.reset : Cell :=
  { mode := .off, under := .off, holdCause := 0, x := ⟨0, 0, 0, 0, 0⟩, u0 := Drive.zero, u1 := Drive.zero,
    ctH := 0, ctI := 0, heq := 0, phi := 0, tb := 0, tc := 0, held := 2, branch := 0, m := 0, slot := 0, leak2 := 0,
    sigmaHeld := 0, frzB := ⟨none, 0, false⟩, frzC := ⟨none, 0, false⟩, singleRun := 0, coastRun := 0,
    preChar := Drive.zero, charHeat := 0, charInj := 0, grant := none, charEnd := none, seen := false, cmd := none, tau := 0,
    score := none, scoreOld := none, leakRun := 0, inv := ⟨0, 0, 0, 0, 0, 0, 0, 0, 0, 0, 0, 0, 0, false, false⟩, amp := 0x20,
    ampNext := none, steady := 0, swNext := false, sample := Sample.none,
    sampleOld := Sample.none, sums := Sums.zero, ended := Sums.zero, moves := ⟨[]⟩, movesEnded := ⟨[]⟩, est := [] }

/-- A cell command that waits for its E (R145). -/
structure CellCmd where
  word : W
  e : W
  deriving DecidableEq, Repr

/-- One tap sample of a cell (R29): the two codes with their flags. -/
structure Tap where
  b : BitVec 14
  bOver : Bool
  bStale : Bool
  c : BitVec 14
  cOver : Bool
  cStale : Bool
  deriving DecidableEq, Repr

/-- The galleries beside their registers. -/
structure Lpe where
  /-- The cells that differ from reset, by physical index. -/
  cells : List (Nat × Cell)
  /-- The law window, by word (R112–R117). -/
  law : List (Nat × W)
  /-- The working shaping tables, by class × 32 + entry; the same in every gallery (R118). -/
  shaping : List (Nat × W)
  /-- Parameter banks A and B, by physical cell × 16 + word (R119). -/
  bankA : List (Nat × W)
  bankB : List (Nat × W)
  /-- The period in which a gallery's last commit took effect (R103, R120). -/
  committed : List (Nat × W)
  /-- Characterizations ended by a gallery: cell and status 1 ABANDONED, 2 LOST (R392). -/
  charOut : List (Nat × Nat)
  /-- Commits that wait: gallery and E (R120). -/
  commits : List (Nat × W)
  /-- Target banks, by physical cell, as branch × 4 + state (R163); an unlisted cell is KEEP. -/
  force : List (Nat × Nat)
  pend : List (Nat × Nat)
  entry : List (Nat × Nat)
  forceId : BitVec 16
  pendId : BitVec 16
  entryId : BitVec 16
  /-- PEND holds no content (R163). -/
  pendEmpty : Bool
  /-- New targets came into force at this boundary: the step boundary B (R164). -/
  newStep : Option W
  /-- Steps a gallery still reports: gallery and B (R129). -/
  open_ : List (Nat × W)
  /-- Neighbour codes used as n[k], and those of the period that runs, by gallery × 8192 + cell (R107). -/
  ring : List (Nat × Nat)
  ringNew : List (Nat × Nat)
  /-- Consecutive periods in which a gallery replaced a code (R108). -/
  ringRun : List (Nat × Nat)
  /-- Tap samples by physical cell: those of the last boundary, and those of the period that runs (R110). -/
  taps : List (Nat × Tap)
  tapsNew : List (Nat × Tap)
  /-- The period of the last computation (R110). -/
  computedP : W
  /-- Cell commands that wait, by gallery (R145). -/
  cmds : List (Nat × CellCmd)
  /-- A commit of a fabric mode epoch takes effect in this period: 0 LIVE, 1 HOLD_ALL (R147). -/
  epochNow : Option Nat
  /-- A waiting inventory command and its E (R158). -/
  invCmd : Option (W × W)
  deriving DecidableEq, Repr

/-- The galleries after reset: every cell OFF, every target KEEP, no bank content. -/
def Lpe.reset : Lpe :=
  { cells := [], law := [], shaping := [], bankA := [], bankB := [], committed := [], charOut := [], commits := [], force := [], pend := [], entry := [],
    forceId := 0xFFFF, pendId := 0xFFFF, entryId := 0xFFFF, pendEmpty := true, newStep := none, open_ := [],
    ring := [], ringNew := [], ringRun := [], taps := [], tapsNew := [], computedP := 0, cmds := [], epochNow := none, invCmd := none }

/-! ### Service ports and parser (R404–R434) -/

/-- What the first pass of a frame leaves for the second (R411–R413): its template's strip and the outer windows as
their bytes, none for an invalid window. -/
structure FirstPass where
  strip : Nat
  outer : List (List Byte)
  deriving DecidableEq, Repr

/-- A received frame in the parser, without its FCS (R408, R425). -/
structure RxFrame where
  data : List Byte
  stamp : Stamp
  gen : Nat
  first : Option FirstPass
  deriving DecidableEq, Repr

/-- An entry of an ingress queue: the receive record of R410 and the frame without its FCS. -/
structure QEntry where
  record : List Byte
  data : List Byte
  deriving DecidableEq, Repr

/-- A service port beside its registers. -/
structure Port where
  /-- The period from which every lock condition has held (R406). -/
  lockAt : Option W
  /-- Frames in the input buffer that wait for their first pass, oldest first (R409). -/
  rx : List RxFrame
  /-- Frames that wait for their second pass, oldest first (R413). -/
  second : List RxFrame
  /-- Octets passed to the parser (R427). -/
  octets : BitVec 64
  deriving DecidableEq, Repr

/-- The service ports and the parser beside their registers. -/
structure Svp where
  ports : List Port
  /-- The rule-set banks of generations 0 and 1, by word (R425, R433). -/
  bank0 : List (Nat × W)
  bank1 : List (Nat × W)
  /-- A swap requested and its E, a copy requested and its E (R425). -/
  swapAt : Option W
  copyAt : Option W
  /-- The banks have swapped and the old one is not retired yet (R425). -/
  retiring : Bool
  /-- Policer tokens, in 2^-8 bytes or frames (R422). -/
  tokens : List (Nat × Nat)
  /-- The ingress queues, oldest entry first (R423). -/
  queues : List (List QEntry)
  /-- A message was sent since the last write of PKT_Qq_CONS (R424). -/
  told : List Bool
  /-- Queues whose ring was disabled by the check of its place (R539). -/
  ringOff : List Nat
  deriving DecidableEq, Repr

def Port.reset : Port := { lockAt := none, rx := [], second := [], octets := 0 }

/-- The service ports after reset: nothing received, banks empty. -/
def Svp.reset : Svp :=
  { ports := List.replicate 4 Port.reset, bank0 := [], bank1 := [], swapAt := none, copyAt := none, retiring := false,
    tokens := [], queues := List.replicate 16 [], told := List.replicate 16 false, ringOff := [] }

/-! ### Egress (R435–R449) -/

/-- A frame of an egress queue, without its FCS (R435–R440). -/
structure TxFrame where
  data : List Byte
  /-- Core tick of its enqueueing (R445). -/
  tick : Nat
  /-- 0 no stamp, 1 two-step, 2 one-step; the stamp tag and the offsets of R438. -/
  ts : Nat
  tag : BitVec 16
  tsOfs : Nat
  csumOfs : Nat
  /-- The ring and index of its descriptor. -/
  desc : Option (Nat × Nat)
  /-- The queue was empty when it was enqueued (R440). -/
  woke : Bool
  deriving DecidableEq, Repr

/-- A gate list in force, or one that waits (R441, R443). -/
structure GateList where
  enable : Bool
  base : BitVec 64
  entries : List W
  deriving DecidableEq, Repr

/-- A descriptor ring's next descriptor to take, the indexes completed past CONS, and whether a message was sent since
the last write of PROD (R437). -/
structure DescRing where
  take : Nat
  done : List Nat
  told : Bool
  deriving DecidableEq, Repr

/-- The egress side of a port beside its registers. -/
structure TxPort where
  queues : List (List TxFrame)
  /-- The finish tag of each queue's head, and f_last (R440). -/
  finish : List (Option (BitVec 48))
  fLast : List (BitVec 48)
  v : BitVec 48
  /-- The frame in transmission and its queue (R439). -/
  sending : Option (TxFrame × Nat)
  rings : List DescRing
  gates : GateList
  /-- A committed list and its T_s (R443). -/
  gatePend : Option (GateList × BitVec 64)
  deriving DecidableEq, Repr

def TxPort.reset : TxPort :=
  { queues := List.replicate 8 [], finish := List.replicate 8 none, fLast := List.replicate 8 0, v := 0, sending := none,
    rings := [⟨0, [], false⟩, ⟨0, [], false⟩], gates := ⟨false, 0, []⟩, gatePend := none }

/-- The egress side beside its registers: the ports, the next export sequence of each kind (R446). -/
structure Txs where
  ports : List TxPort
  seqs : List (Nat × W)
  /-- Descriptor rings, 2 × port + ring, disabled by the check of their place (R539). -/
  ringOff : List Nat
  deriving DecidableEq, Repr

def Txs.reset : Txs := { ports := List.replicate 4 TxPort.reset, seqs := [], ringOff := [] }

/-! ### PCI Express (R540–R545) -/

/-- The PCIe function beside its registers: the MSI-X table by word, the pending bits, the enables of its
configuration space, and the number of messages sent with the vector of the last one (R544). -/
structure Pcie where
  table : List (Nat × W)
  pend : BitVec 256
  enable : Bool
  funcMask : Bool
  busMaster : Bool
  d3hot : Bool
  sent : Nat
  last : Option Nat
  /-- What configuration space says of the device: device ID, revision and class code (R541). -/
  device : BitVec 16
  revision : Byte
  classCode : BitVec 24
  deriving DecidableEq, Repr

/-- The PCIe function after reset. -/
def Pcie.reset : Pcie :=
  { table := [], pend := 0, enable := false, funcMask := false, busMaster := false, d3hot := false, sent := 0,
    last := none, device := 0x4608, revision := 0x11, classCode := 0x0B4000 }

/-! ### The store, the cache and the pager (R217–R228) -/

/-- A cache entry (R221): state 0 FREE, 1 FILLING, 2 RESIDENT, its ID and its content in the layout of R216. -/
structure CacheEntry where
  st : Nat
  dirty : Bool
  id : BitVec 16
  content : List Byte
  deriving DecidableEq, Repr

/-- An entry that holds nothing. -/
def CacheEntry.empty : CacheEntry := ⟨0, false, 0xFFFF, []⟩

/-- The fill that runs (R222): the entry, its ID, whether it is the second attempt. -/
structure Fill where
  entry : Nat
  id : BitVec 16
  retry : Bool
  deriving DecidableEq, Repr

/-- A place of the due list (R225): the next use, the ID, and whether a FETCH asked for it. -/
structure Due where
  b : W
  id : BitVec 16
  fetch : Bool
  deriving DecidableEq, Repr

/-- The arrangement store, the cache and the pager beside their registers. -/
structure Ars where
  /-- The store state of each ID: 0 ABSENT, 1 STORED, 2 CORRUPT, 3 ACCEDING (R217, R250). -/
  store : List (Nat × Nat)
  /-- The cache entries by index (R221). -/
  cache : List (Nat × CacheEntry)
  fill : Option Fill
  /-- A waiting command and its E (R218). -/
  cmd : Option (W × W)
  /-- An accepted accession and its content (R218). -/
  accede : Option (BitVec 16 × List Byte)
  /-- An accepted deletion (R219). -/
  delete : Option (BitVec 16)
  /-- FETCH requests and their next use (R228). -/
  fetch : List (BitVec 16 × W)
  /-- The due list of the present boundary (R225). -/
  due : List Due
  /-- Steps for which ARS_PAGE_LATE was raised: their boundary and ID (R227). -/
  lateTold : List (W × BitVec 16)
  /-- The content of an ACCEDE that came with its journal record (R344). -/
  arrIn : Option (BitVec 16 × List Byte)
  deriving DecidableEq, Repr

/-- The store and the cache after reset: every ID ABSENT, every entry FREE. -/
def Ars.reset : Ars :=
  { store := [], cache := [], fill := none, cmd := none, accede := none, delete := none, fetch := [], due := [],
    lateTold := [], arrIn := none }

/-! ### Programmes (R229–R245) -/

/-- A programme that is armed, active or staged. Positions are cycle counts and step indexes. -/
structure PrgRun where
  slot : Nat
  /-- The origin, none while an armed programme has none (R234). -/
  origin : Option W
  /-- The next step to be tested. -/
  cycle : Nat
  step : Nat
  /-- The boundary at which that step is applied under JOIN (R235). -/
  joinAt : Option W
  /-- That step is executed under R241. -/
  catchUp : Bool
  /-- The step last executed, and the highest index executed (R241). -/
  last : Option (Nat × Nat)
  high : Option Nat
  /-- The boundary at which STOP ends it (R237). -/
  stop : Option W
  /-- Steps whose announcement has been sent, as cycle and index (R244). -/
  sent : List (Nat × Nat)
  /-- Tested steps whose boundary has not come: boundary, cycle, index. -/
  coming : List (W × (Nat × Nat))
  /-- Tested steps whose own boundary has not come: boundary, cycle, index (R225, R236). -/
  passed : List (W × (Nat × Nat))
  /-- Steps for which ARS_ABSENT has been raised, as cycle and index (R226). -/
  absent : List (Nat × Nat)
  deriving DecidableEq, Repr

/-- The programme engine beside its registers. -/
structure Prg where
  /-- Step memory by word: slot × 8192 + word (R230). -/
  mem : List (Nat × W)
  /-- The ARMED or ACTIVE programme. -/
  run : Option PrgRun
  /-- The STAGED programme, its origin the swap boundary, and its at_cycle (R236). -/
  staged : Option (PrgRun × Bool)
  /-- Entries pinned for queued steps, by command tag (R223). -/
  pins : List (Nat × Nat)
  /-- Completion records of the Docent that wait for the engine: tag and status (R238). -/
  done : List (Nat × Nat)
  /-- Journalled residency outcomes: slot, step, cycle, outcome (R240). -/
  resid : List (Nat × Nat × Nat × Bool)
  /-- The keeper's outcomes already journalled: slot, step, cycle. -/
  residTold : List (Nat × Nat × Nat)
  /-- A time step at boundary X, to be rejoined at X + 1 (R241). -/
  rejoin : Option W
  /-- The shadow: the logical state expected of each logical cell, 2 where none (R243). -/
  shadow : List (Nat × Nat)
  /-- The logical cells that are not KEEP in the arrangement in force by the shadow. -/
  lit : List Nat
  /-- The arrangement in force by the shadow. -/
  shadowId : BitVec 16
  deriving DecidableEq, Repr

/-- The programme engine after reset. -/
def Prg.reset : Prg :=
  { mem := [], run := none, staged := none, pins := [], done := [], resid := [], residTold := [],
    rejoin := none, shadow := [], lit := [], shadowId := 0xFFFF }
/-! ### The Docent (R168–R210) -/

/-- A command in a queue of the Docent (R178, R179), its source code of R201, and its serial number. -/
structure DocCmd where
  w0 : W
  w1 : W
  w2 : W
  w3 : W
  source : Nat
  serial : Nat
  deriving DecidableEq, Repr

/-- A completion record (R183, R204). -/
structure DoneRec where
  opcode : Nat
  source : Nat
  status : Nat
  tag : Nat
  bMoved : Bool
  partial_ : Bool
  roll : Nat
  abortRes : Nat
  stepTag : Nat
  deriving DecidableEq, Repr

/-- Where a microword stands (R172): to be fetched, to issue its operation, its long operation runs, waiting for the
next boundary, its next address to be evaluated. -/
inductive DocPhase where
  | fetch | issue | long | wait | next
  deriving DecidableEq, Repr

/-- A routine of the Docent: the command it serves, its registers, flags and stack (R173–R175, R188). -/
structure Routine where
  cmd : DocCmd
  opcode : Nat
  pc : Nat
  phase : DocPhase
  /-- The 128 bits of the microword fetched. -/
  word : Nat
  /-- The period in which the present wait began (R172). -/
  waitP : W
  /-- How far a routine whose microwords the spec does not print has come. -/
  stage : Nat
  regs : List W
  lt : Bool
  eq : Bool
  resident : Bool
  loadOk : Bool
  swapOk : Bool
  stack : List Nat
  /-- The access of a long RDB or WRB failed (R177), and the value a good RDB writes. -/
  badAccess : Bool
  readValue : W
  /-- Periods counted for run_limit (R199). -/
  periods : Nat
  /-- Its swap: 0 none, 1 scheduled, 2 performed (R190, R192). -/
  swap : Nat
  /-- The step boundary of its last accepted swap or revert. -/
  stepB : Option W
  /-- The cache entries its LOOKUPs pin (R176). -/
  pins : List Nat
  /-- Its B has been moved, and DOC_B_MOVED raised for it (R184). -/
  movedTold : Bool
  /-- Its completion record is written (R183). -/
  written : Bool
  /-- It was interrupted, and the roll of its record (R190, R204). -/
  partial_ : Bool
  roll : Nat
  deriving DecidableEq, Repr

/-- An abort that waits for its E (R191): the word, E, whether it named a command at the write, and the serial of the
command that ran at the write. -/
structure DocAbort where
  word : W
  e : W
  named : Bool
  running : Option Nat
  deriving DecidableEq, Repr

/-- A scheduled swap or revert (R164, R165), and the serial of the command that scheduled it. -/
structure Sched where
  revert : Bool
  at_ : W
  owner : Nat
  deriving DecidableEq, Repr

/-- The epoch unit beside its registers (R193–R198). -/
structure Epoch where
  /-- The prepare and commit boundaries of the change that prepares. -/
  q : W
  c : W
  /-- From boundary Q: the participants, and the acknowledgements, as galleries 0–35 and tiles 100 + t. -/
  started : Bool
  parts : List Nat
  acks : List Nat
  /-- Participants that left service while it prepares (R196). -/
  gone : List Nat
  /-- The partner's acknowledgements (R197). -/
  peerAcks : List Nat
  /-- Decided at C − 1: committed. -/
  decided : Option Bool
  /-- A WITHDRAW message is sent for boundary C. -/
  withdrawn : Option W
  /-- The last commit: its boundary and the epoch byte before it (R198). -/
  last : Option (W × Nat)
  /-- Tiles that reported the old epoch since the last commit (R198). -/
  behind : List Nat
  deriving DecidableEq, Repr

/-- The Docent beside its registers. -/
structure Doc where
  /-- The control store by word: 4 × address + word (R169). -/
  cs : List (Nat × W)
  /-- Dispatch entries that differ from the vendor's (R181, R182). -/
  table : List (Nat × W)
  scratch : List (Nat × W)
  /-- The reset routine is to be entered (R182). -/
  resetEntry : Bool
  cur : Option Routine
  /-- The save area (R188). -/
  saved : Option Routine
  prgQ : List DocCmd
  curQ : List DocCmd
  hostQ : List DocCmd
  cnsQ : List DocCmd
  /-- Host and Curator commands that wait for their E (R179, R180). -/
  incoming : List (DocCmd × W)
  serial : Nat
  /-- The host completion queue, oldest first (R183). -/
  done : List DoneRec
  /-- Completion records that wait for the Curator, and those that wait for the Conservator. -/
  curDone : List DoneRec
  cnsDone : List DoneRec
  sched : Option Sched
  /-- The step boundary of the last accepted swap or revert (R174, R176). -/
  stepB : Option W
  /-- Urgent requests that wait for their E, and pending ones with the boundary they became pending (R186, R189). -/
  urgWait : List (Nat × W)
  urgPend : List (Nat × W)
  urgTold : List (Nat × W)
  abort : Option DocAbort
  /-- ABORT_TAIL is to run (R192). -/
  tail : Bool
  /-- URG_STOP has forced BACK (R190). -/
  forceBack : Bool
  epoch : Epoch
  /-- Shaping writes that wait for the next boundary: index, value, the period of issue (R176). -/
  shapes : List (Nat × W × W)
  /-- A write of load = 1 waits for its moment (R199). -/
  custWait : Bool
  /-- A control-store swap holds dispatch (R363). -/
  csHold : Bool
  /-- The last load was refused: entries 0xC0–0xFF count as not valid (R199). -/
  custBad : Bool
  deriving DecidableEq, Repr

/-- The epoch unit after reset: generation 0, LIVE (R193). -/
def Epoch.reset : Epoch :=
  { q := 0, c := 0, started := false, parts := [], acks := [], gone := [], peerAcks := [], decided := none, withdrawn := none,
    last := none, behind := [] }

/-- The Docent after reset (R175, R182): nothing runs, every queue empty, scratch memory 0. -/
def Doc.reset : Doc :=
  { cs := [], table := [], scratch := [], resetEntry := true, cur := none, saved := none, prgQ := [], curQ := [],
    hostQ := [], cnsQ := [], incoming := [], serial := 1, done := [], curDone := [], cnsDone := [], sched := none,
    stepB := none, urgWait := [], urgPend := [], urgTold := [], abort := none, tail := false, forceBack := false,
    epoch := Epoch.reset, shapes := [], custWait := false, csHold := false, custBad := false }
/-! ### The Curator (R257–R294) -/

/-- A command of the Curator's queue (R285). -/
structure CurCmd where
  w0 : W
  w1 : W
  w2 : W
  w3 : W
  deriving DecidableEq, Repr

/-- A completion record of the Curator (R287, R293). -/
structure CurDone where
  cmd : Nat
  status : Nat
  tag : Nat
  arrId : Nat
  docStatus : Nat
  dropped : Nat
  broken : Nat
  deriving DecidableEq, Repr

/-- An APPLY that has routed and compiled (R286): its stage is 0 while its write runs, 1 while it waits for a place in the
Docent's queue, 2 while it waits for the Docent's record. -/
structure CurJob where
  tag : Nat
  go : Bool
  asap : Bool
  b : W
  status : Nat
  dropped : Nat
  broken : Nat
  id : BitVec 16
  content : List Byte
  stage : Nat
  deriving DecidableEq, Repr

/-- A compiled arrangement that is being written (R284): into a cache entry, or into its store slot only; `e` is the
journalled E in a pair, at which the entry is chosen, and `next` the arrangement's next use, none meaning now. -/
structure CurWrite where
  id : BitVec 16
  entry : Option Nat
  content : List Byte
  e : Option W
  next : Option W
  deriving DecidableEq, Repr

/-- The programme of an epoch that is not staged yet (R267–R270): the permutations still to be routed, the dwells, and
the IDs compiled. -/
structure CurTodo where
  perms : List (List Nat)
  dwells : List Nat
  span : Nat
  guard : Nat
  ids : List (BitVec 16)
  /-- CUR_NO_ID has been raised for the step it waits at. -/
  told : Bool
  deriving DecidableEq, Repr

/-- A programme write or command the Curator is to issue (R269): a write of the PRG block, a command of PRG_CMD, or the
STAGE or START of a slot. -/
inductive CurOp where
  | write (off : Nat) (v : W)
  | cmd (w : W)
  | launch (slot : Nat)
  deriving DecidableEq, Repr

/-- The Curator beside its registers. -/
structure Cur where
  /-- A mode write that waits for its E (R258). -/
  modeWait : Option (Nat × W)
  queue : List CurCmd
  /-- Commands that wait for their E (R285). -/
  incoming : List (CurCmd × W)
  done : List CurDone
  /-- The working permutation by input port, unlisted ports unassigned, and the persistent input ports (R285). -/
  work : List (Nat × Nat)
  persist : List Nat
  /-- The reference arrangement's content (R271, R286), and the last matching's in AUTO. -/
  ref : Option (List Byte)
  autoRef : Option (List Byte)
  /-- No epoch has passed since entry to AUTO (R271). -/
  autoFirst : Bool
  /-- FILL and FROZEN by 512 × input + output (R262, R264). -/
  fill : List (Nat × W)
  frozen : List (Nat × W)
  /-- The carry-over sweep that has not ended, with its decay (R264). -/
  sweep : Option Nat
  /-- The report buffer: 512 × input + output, and the amount to be added (R261). -/
  reports : List (Nat × Nat)
  /-- The next epoch boundary (R263). -/
  next : Option W
  /-- The accumulator is emptied at the next epoch boundary: the device did not act (R288). -/
  cold : Bool
  job : Option CurJob
  writes : List CurWrite
  todo : Option CurTodo
  script : List CurOp
  /-- The states in which the Curator left its two slots (R270). -/
  watch : Option (Nat × Nat)
  /-- The slots it has found in a state it did not leave, to be taken back at the next epoch boundary (R270). -/
  lost : List Nat
  deriving DecidableEq, Repr

/-- The Curator after reset. -/
def Cur.reset : Cur :=
  { modeWait := none, queue := [], incoming := [], done := [], work := [], persist := [], ref := none, autoRef := none,
    autoFirst := false, fill := [], frozen := [], sweep := none, reports := [], next := none, cold := false, job := none,
    writes := [], todo := none, script := [], watch := none, lost := [] }
/-! ### Tile links (R296–R335) -/

/-- A tile link beside its registers. -/
structure Link where
  /-- The period its present state began in (R322, R324). -/
  since : W
  /-- Consecutive accepted FRAMEs (R322, R324). -/
  count : Nat
  /-- Consecutive ECHOs within the limit (R322), and consecutive periods above it (R324). -/
  echoRun : Nat
  rttRun : Nat
  /-- Consecutive periods without an accepted FRAME, and accepted FRAMEs with held or fallback in a row (R324). -/
  loss : Nat
  heldRun : Nat
  /-- In the present period: an ECHO was heard, a FRAME was accepted, a FRAME was counted as bad. -/
  echoed : Bool
  got : Bool
  counted : Bool
  /-- An uplink FRAME was accepted in the period before (R626). -/
  heard : Bool
  /-- The present period began with FRAMEs expected. -/
  expects : Bool
  /-- A command that waits for its E (R327). -/
  cmd : Option (W × W)
  /-- The period from which a failed bring-up is retried (R323). -/
  retryAt : Option W
  /-- A link test: its length and whether the tile is unused (R325). -/
  test : Option (Nat × Bool)
  /-- FRAMEs are sent from this period on (R322). -/
  sendFrom : Option W
  /-- The last downlink FRAME sent: its tag and its 144 bytes (R303). -/
  frame : Option (BitVec 16 × List Byte)
  /-- tile_alarm of the last accepted FRAME (R335). -/
  alarm : Bool
  /-- Bit times from core tick 0 to a block of the present block grid (R297, R300). -/
  phase : Nat
  /-- The MARK of the last boundary: its tag and its offset (R300). -/
  mark : Option (BitVec 16 × Nat)
  /-- The service frame sent in the present period, and those that wait for their period (R298, R315). -/
  svcOut : Option (List Byte)
  svcWait : List (List Byte)
  /-- The request of a bring-up step whose reply is awaited: its id (R314, R322). -/
  req : Option (BitVec 8)
  deriving DecidableEq, Repr

/-- A link after reset: DOWN. -/
def Link.reset : Link :=
  { since := 0, count := 0, echoRun := 0, rttRun := 0, loss := 0, heldRun := 0, echoed := false, got := false,
    counted := false, heard := false, expects := false, cmd := none, retryAt := none, test := none, sendFrom := none, frame := none,
    alarm := false, phase := 0, mark := none, svcOut := none, svcWait := [], req := none }

/-- A mailbox transaction that runs (R314, R315, R332): its link, whether it reads, the words asked for, the period it
began in, the id of its request. -/
structure SvcRun where
  link : Nat
  read : Bool
  count : Nat
  start : W
  id : BitVec 8
  deriving DecidableEq, Repr

/-- The tile links beside their registers. -/
structure Ngl where
  /-- The links that differ from reset, by number. -/
  links : List (Nat × Link)
  svc : Option SvcRun
  deriving DecidableEq, Repr

def Ngl.reset : Ngl := { links := [], svc := none }
/-! ### The Conservator (R372–R403) -/

/-- A characterization request (R390–R395). `from_` is the first period whose computation supplies its codes; `point` the
point, counted over both phases of a FULL sweep, whose dwell runs or is awaited; `samples` its last samples as t_b, S_b and
S_c less their dark codes; `points` the means of the points that have ended, in units of 2^-96, none for a void one. -/
structure CharReq where
  status : Nat
  reason : Nat
  kind : Nat
  tag : Nat
  cell : Nat
  noDefer : Bool
  dwell : Nat
  count : Nat
  ceiling : Nat
  listed : W
  ended : Option W
  from_ : W
  point : Nat
  samples : List (Int × Int × Int)
  points : List (Option (Int × Int × Int))
  deriving DecidableEq, Repr

/-- A calibration record that waits to be written (R387, R388). -/
structure CalRec where
  gallery : Nat
  header : List Byte
  bank : List Byte
  seq : W
  deriving DecidableEq, Repr

/-- The Conservator beside its registers and the sums its cells hold. -/
structure Cns where
  /-- The request list of 16 entries; none is EMPTY (R391). -/
  reqs : List (Option CharReq)
  /-- A write of CNS_CTL host_bank and of CNS_AMP_CTL that waits for the next window boundary (R384, R400). -/
  bankPend : Option Bool
  ampPend : Option W
  /-- Galleries whose waiting commit has cause HOST, and those whose staging bank holds a sweep (R387, R395). -/
  byHost : List Nat
  byChar : List Nat
  /-- Records that wait for the MRAM, and the next sequence of each gallery (R386, R388). -/
  journal : List CalRec
  seqs : List (Nat × W)
  /-- Sum, in units of 2^-15 µV, and number of a gallery's rail results in the window; the mean of the last window, and that
  of its last commit, in µV (R396). -/
  rails : List (Nat × (Int × Nat))
  railMean : List (Nat × Int)
  railLast : List (Nat × Int)
  /-- The period in which the last window was integrated; its estimates have been formed (R376, R379). -/
  windowEnd : Option W
  formed : Bool
  /-- Galleries whose commit has been issued in this window (R383). -/
  issued : List Nat
  /-- The window end after which the last sweep was asked for (R390). -/
  autoWindow : Option W
  deriving DecidableEq, Repr

def Cns.reset : Cns :=
  { reqs := List.replicate 16 none, bankPend := none, ampPend := none, byHost := [], byChar := [],
    journal := [], seqs := [], rails := [], railMean := [], railLast := [], windowEnd := none, formed := false, issued := [],
    autoWindow := none }
/-! ### Vitrine captures (R484–R489) -/

/-- A capture that is to be made at boundary V: the trigger bits of R488 and the source. -/
structure Capture where
  v : W
  trigger : Nat
  source : Nat
  deriving DecidableEq, Repr

/-- A capture that is being copied: its slot and its bytes. -/
structure VitCopy where
  slot : Nat
  bytes : List Byte
  deriving DecidableEq, Repr

/-- An export that runs: its slot and the next frame. -/
structure VitExport where
  slot : Nat
  next : Nat
  deriving DecidableEq, Repr

/-- The vitrine beside its registers. -/
structure Vit where
  waits : List Capture
  copy : Option VitCopy
  export_ : Option VitExport
  /-- Captures since reset, all of them (R488). -/
  seq : W
  deriving DecidableEq, Repr

def Vit.reset : Vit := { waits := [], copy := none, export_ := none, seq := 0 }

/-! ### Power management (R557–R569) -/

/-- A sequence that runs (R564): up or down, the group, the rails of the group whose commands are still to be sent, the
core tick of the last command, the rails found good or off since. -/
structure SeqRun where
  up : Bool
  group : Nat
  todo : List Nat
  last : Nat
  seen : List Nat
  deriving DecidableEq, Repr

/-- A PMBus transaction on the bus (R561, R562): the rail it is for, none for firmware's; its command code, the data of
a write, and the attempts made. -/
structure PmbTx where
  rail : Option Nat
  cmd : Nat
  write : Option Nat
  tries : Nat
  deriving DecidableEq, Repr

/-- The power management beside its registers. -/
structure Pdm where
  /-- Domain commands that wait: domain, the word with the source of the write (R344) in its low bits, E (R559). -/
  waits : List (Nat × (W × W))
  /-- Domains that switch: domain, on, E (R559). -/
  switching : List (Nat × (Bool × W))
  seq : Option SeqRun
  /-- Transactions to send, the first one on the bus (R561). -/
  bus : List PmbTx
  /-- The rail the poller read last, VOUT_MODE by rail, and the rails' last READ_VOUT, READ_IOUT and READ_TEMPERATURE_1
  (R562, R565). -/
  polled : Nat
  mode : List (Nat × Byte)
  vout : List (Nat × BitVec 16)
  iout : List (Nat × BitVec 16)
  temp : List (Nat × BitVec 16)
  /-- Rails that raised a warning, and a fault, not yet back in the window; results in a row above them (R566). -/
  warnTold : List Nat
  faultTold : List Nat
  warnRun : List (Nat × Nat)
  faultRun : List (Nat × Nat)
  /-- A fault asks for a DOWN sequence at the next boundary (R567). -/
  downAt : Option W
  /-- The device became acting and reads every rail: those still to be read (R568). -/
  reading : Option (List Nat)
  /-- Rails whose STATUS_WORD an alert asks for (R565). -/
  alert : List Nat
  /-- Periods in a row at 125 °C or more, up to 4; 5 once PDM_TEMP_CRIT has been raised for them (R569). -/
  hotRun : Nat
  deriving DecidableEq, Repr

def Pdm.reset : Pdm :=
  { waits := [], switching := [], seq := none, bus := [], polled := 15, mode := [], vout := [], iout := [],
    temp := [], warnTold := [], faultTold := [], warnRun := [], faultRun := [], downAt := none, reading := none,
    alert := [], hotRun := 0 }

/-! ### The auxiliary analog section (R570–R589) -/

/-- What the converter does: entry `index` of sequence `seq`, an urgent request, or a conversion of a trim (R573–R579). -/
inductive ConvKind where
  | seq (n index : Nat)
  | urgent
  | trim
  deriving DecidableEq, Repr

/-- A DAC channel beside its registers (R582–R586). -/
structure DacCh where
  /-- 0 UNSET, 1 DRIVING, 2 CHANGING; RELEASED is shown in their place. -/
  st : Nat
  /-- The code the channel holds. -/
  code : Nat
  /-- P_on while sine_en is in force (R585). -/
  sineOn : Option W
  /-- The boundary E of the range change that runs (R584). -/
  changeAt : W
  deriving DecidableEq, Repr

def DacCh.reset : DacCh := ⟨0, 0, none, 0⟩

/-- A TEC zone as firmware runs it (R587–R589): the ramped set-point in 2^-7 °C with 16 more fractional bits, skipped
steps in a row, sensor lost. -/
structure TecZone where
  ramp : Int
  skipped : Nat
  lost : Bool
  begun : Bool
  deriving DecidableEq, Repr

def TecZone.reset : TecZone := ⟨0, 0, false, false⟩

/-- The auxiliary analog section beside its registers. -/
structure Aux where
  /-- The result queue, oldest first (R577). -/
  queue : List W
  /-- Results were dropped since the last one stored. -/
  lost : Bool
  /-- The conversion that runs and its channel. -/
  conv : Option (ConvKind × Nat)
  /-- The sequence that runs and its next entry (R573). -/
  run : Option (Nat × Nat)
  /-- Pending triggers by sequence (R574). -/
  pend : List Nat
  /-- An urgent request that waits: its channel (R575). -/
  urgent : Option Nat
  /-- The last conversion was overrange (R576). -/
  ovrLast : Bool
  /-- The core tick at which the last conversion ended (R572). -/
  lastEnd : Option Nat
  /-- A trim was asked for, the tick the last one ended (R579). -/
  trimWanted : Bool
  trimEnd : Nat
  /-- Conversions made by the trim that runs (R579). -/
  trimN : Nat
  /-- Channels that raised AUX_OVR, with the period (R576). -/
  ovrTold : List (Nat × W)
  dac : List DacCh
  tec : List TecZone
  deriving DecidableEq, Repr

def Aux.reset : Aux :=
  { queue := [], lost := false, conv := none, run := none, pend := [], urgent := none, ovrLast := false, lastEnd := none,
    trimWanted := false, trimEnd := 0, trimN := 0, ovrTold := [], dac := List.replicate 16 DacCh.reset,
    tec := List.replicate 8 TecZone.reset }

/-! ### Twin (R336–R371) -/

/-- A waiting register write of a state change, taken at its E (R57, R162 and the like). -/
structure Deferred where
  e : W
  addr : Nat
  value : W
  deriving DecidableEq, Repr

/-- A part of the join snapshot (R360): registers and memories by address, the galleries' targets, tables and banks, the
programme engine, the Docent with the epoch unit, the Curator, the store states and cache tags. The spec gives a SNAP
record a block section and no layout, so a part stands as the state itself (log entry 20). -/
inductive SnapPart where
  | regs (l : List (Nat × W))
  | time (t : Tmr)
  | waiting (l : List Deferred) (cmds : List (Nat × CellCmd)) (commits : List (Nat × W)) (inv : Option (W × W))
      (domains : List (Nat × (W × W)))
  | targets (force pend entry : List (Nat × Nat)) (forceId pendId entryId : BitVec 16) (empty : Bool)
  | banks (shaping bankA bankB : List (Nat × W))
  | programmes (p : Prg)
  | docent (d : Doc)
  | curator (u : Cur)
  | store (states : List (Nat × Nat)) (tags : List (Nat × BitVec 16))
  | parser (bank0 bank1 : List (Nat × W)) (swapAt copyAt : Option W) (retiring : Bool)
  | gates (l : List (GateList × Option (GateList × BitVec 64)))
  | analog (dac : List DacCh) (tec : List TecZone)
  | conservator (n : Cns) (amps : List (Nat × (Nat × Option (Nat × Nat))))
  deriving DecidableEq, Repr

/-- What JOIN_ID carries (R361). -/
structure JoinId where
  stepping : Byte
  topologyId : W
  descCheck : W
  lawCheck : W
  csCrc : W
  clkMode : Bool
  twinId : Bool
  keeper : Bool
  fw : BitVec 16
  deriving DecidableEq, Repr

/-- The payload of a journal record (R344). -/
inductive JPayload where
  | reg (addr : Nat) (v : W)
  | arr (id : BitVec 16) (content : List Byte)
  | resid (slot step cycle : Nat) (ok : Bool)
  | urgent (op : Byte)
  | doccmd (queue : Nat) (w0 w1 w2 w3 : W)
  | fw (content : List Byte)
  | csImage (off : Nat) (content : List Byte)
  | snap (part : Option SnapPart)
  | commit
  deriving DecidableEq, Repr

/-- The payload bytes of a record (R344); a snapshot record counts as a full one. -/
def JPayload.size : JPayload → Nat
  | .reg _ _ => 8
  | .arr _ l => 4 + l.length
  | .resid _ _ _ _ => 8
  | .urgent _ => 1
  | .doccmd _ _ _ _ _ => 20
  | .fw l => l.length
  | .csImage _ l => 4 + l.length
  | .snap _ => 20000
  | .commit => 0

/-- A journal record (R344). -/
structure JRec where
  seq : W
  e : W
  payload : JPayload
  source : Nat
  pAcc : W
  deriving DecidableEq, Repr

/-- A tile in repair (R355, R356): its boundary k, whether this device is the owner, the copy received or to be sent, how often
it has started again. `join`: a copy of a join's step CELLS. -/
structure Repair where
  tile : Nat
  k : W
  owner : Bool
  copy : Option (List Byte)
  again : Nat
  join : Bool
  replayed : Bool
  deriving DecidableEq, Repr

/-- What a computation was taken from, kept for replays (R355). -/
structure History where
  p : W
  taps : List (Nat × Tap)
  ring : List (Nat × Nat)
  force : List (Nat × Nat)
  newStep : Option W
  epochNow : Option Nat
  /-- Cell commands taken in that computation: cell, code, logical state. -/
  cmds : List (Nat × (Nat × Nat))
  deriving DecidableEq, Repr

structure Twn where
  /-- A partner runs in step or joins: changes are journalled (R343). -/
  paired : Bool
  /-- A journalled record is being applied (R344). -/
  applying : Bool
  /-- That write is a late one of WRB or the debug master, judged as any other write (R177, R624). -/
  late : Bool
  /-- The source of the present write: 0 host over PCIe, 1 SMBus, 2 management cores, 3 Curator, 4 Conservator,
  5 Attendant, 6 programme engine (R344). -/
  source : Nat
  /-- The sequence of the next record (R344). -/
  seq : W
  /-- E_last (R345). -/
  lastE : W
  /-- Records not yet sent whole, oldest first, and the bytes of the first already sent (R345). -/
  out : List JRec
  sentBytes : Nat
  /-- Records received whole that wait for their E, and the sequence expected next (R346). -/
  inbox : List JRec
  rxSeq : Option W
  /-- The tiles in service by the partner's map and by the own one, for the boundary two before the present one, and the
  maps that follow them (R343). -/
  peerSvc : List Nat
  mySvc : List Nat
  peerSvcNext : List Nat
  mySvcNext : List Nat
  svcNow : List Nat
  /-- Tiles whose uplink FRAMEs for the boundary before the present one, and for the one before it, both twins accepted
  (R357). -/
  bothUl : List Nat
  bothUlOld : List Nat
  /-- The own ul_map of the last boundary and its boundary number (R341). -/
  ulMap : List Nat
  ulAt : W
  /-- The own dl_crc of the last period (R354). -/
  dlCrc : Nat
  /-- The PREC of the present period (R341), as sent. -/
  precOut : List Byte
  /-- The role byte and jseq of the partner's last PREC (R341). -/
  peerRole : Nat
  peerJseq : W
  /-- The loan message of the next PREC, and the one received in this period (R349–R351). -/
  loanOut : Nat
  loanIn : Nat
  /-- unfit is to be sent in the next PREC (R358). -/
  unfitOut : Bool
  /-- A PREC was accepted in this period; periods in a row without one (R352). -/
  precGot : Bool
  missed : Nat
  /-- tick_arr to be sent, and the partner's (R341, R342). -/
  tickArr : Int
  peerArr : Int
  /-- The offsets of the last 16 periods in 0.125 ns, ê, runs within 1 ns and above 8 ns; the ê that corrects the present period
  and the one that will correct the next, 0 without one (R342). -/
  offsets : List Int
  eHat : Int
  lockRun : Nat
  lostRun : Nat
  eUse : Int
  eNext : Int
  /-- The core ticks of the last partner heartbeat edge, of the loss of the link, of the last RENEW (R338, R349, R353). -/
  hbEdge : Option Nat
  lossAt : Option Nat
  renewAt : Option Nat
  /-- fw_alive has been written since the last RENEW (R349). -/
  fwAlive : Bool
  /-- In step alone (R353). -/
  alone : Bool
  /-- A change of role, state and duties at the next boundary (R349–R351). -/
  change : Option (Nat × Nat × Bool)
  /-- The boundary H of an accepted hand-over (R350). -/
  handover : Option W
  /-- The device waits for a partner since its release (R359). -/
  starting : Bool
  /-- A join is to start: by a command, at release, or to resynchronise (R358–R362). -/
  wantJoin : Bool
  resync : Bool
  /-- The core tick at which the present step of a join began (R360), and the period in which the keeper's wait for S
  began. -/
  stepAt : Nat
  joinFrom : W
  /-- JOIN_IDs have been exchanged and agree (R361). -/
  joinOk : Bool
  /-- The E of the COMMIT record (R360). -/
  commitE : Option W
  /-- Tiles in repair (R355), the relayed codes by tile and boundary tag, the repairs ended by tile with their first and
  last boundary (R357), and what the last computations were taken from. -/
  repairs : List Repair
  relays : List (Nat × BitVec 16 × List Nat)
  repaired : List (Nat × W × W)
  history : List History
  /-- Cache tags of a join's snapshot, to be filled (R360). -/
  tags : List (Nat × BitVec 16)
  /-- The control-store staging buffer and the E of its last record (R363), and the E of a swap. -/
  csStage : List Byte
  csStagedAt : Option W
  csSwapAt : Option W
  /-- Octets 1–7 of the TICK of the present period, with its offset in octet 5 (R339, R340). -/
  tickOut : List Byte
  tickOfs : Nat
  /-- Messages that left in the last period, as type and data with the check word; the JOIN_ID among them, of no printed
  layout (R339, R340, R361). -/
  msgOut : List (Nat × List Byte)
  idOut : Option JoinId
  /-- Messages beside the journal that wait: type, data, blocks still to be sent; and the arrangements a join still has to send,
  with the blocks left of the first (R340, R360). -/
  msgWait : List (Nat × (List Byte × Nat))
  bulk : List (BitVec 16)
  bulkLeft : Nat
  deriving DecidableEq, Repr

def Twn.reset : Twn :=
  { paired := false, applying := false, late := false, source := 0, seq := 1, lastE := 0, out := [], sentBytes := 0, inbox := [], rxSeq := none,
    peerSvc := [], mySvc := [], peerSvcNext := [], mySvcNext := [], svcNow := [], bothUl := [], bothUlOld := [], ulMap := [], ulAt := 0, dlCrc := 0, precOut := [], peerRole := 0, peerJseq := 0,
    loanOut := 0, loanIn := 0, unfitOut := false, precGot := false, missed := 0, tickArr := 0, peerArr := 0, offsets := [],
    eHat := 0, lockRun := 0, lostRun := 0, eUse := 0, eNext := 0, hbEdge := none, lossAt := none, renewAt := none, fwAlive := false,
    alone := false, change := none, handover := none, starting := false, wantJoin := false, resync := false, stepAt := 0,
    joinFrom := 0, joinOk := false, commitE := none, repairs := [], relays := [], repaired := [], history := [], tags := [], csStage := [],
    csStagedAt := none, csSwapAt := none, tickOut := [], tickOfs := 0,
    msgOut := [], idOut := none, msgWait := [], bulk := [], bulkLeft := 0 }

/-! ### The bus matrix, memory, side-band and test (R522–R550, R622–R626) -/

/-- A transaction a master asks the matrix for (R525, R526): its master, its 40-bit matrix address, its length in bytes,
the data of a write. -/
structure MatrixReq where
  master : Nat
  addr : Nat
  len : Nat
  write : Option (List Byte)
  deriving DecidableEq, Repr

/-- The bus matrix beside its registers. -/
structure Xbr where
  /-- The transaction each target serves (R526). -/
  busy : List (Nat × MatrixReq)
  /-- The masters each target has granted, the latest last (R527). -/
  granted : List (Nat × List Nat)
  /-- The data of the last read that ended, and its response: 0 OK, 1 DECERR, 2 SLVERR (R530). -/
  data : List Byte
  resp : Nat
  /-- The channels are in self-refresh (R502). -/
  selfRefresh : Bool
  /-- Writes of the Docent's WRB and of the JTAG master that wait for their E: master, address, value (R177, R624). -/
  late : List (W × (Nat × (Nat × W)))
  deriving DecidableEq, Repr

def Xbr.reset : Xbr := { busy := [], granted := [], data := [], resp := 0, selfRefresh := false, late := [] }

/-- The SMBus target beside its registers (R546–R548). -/
structure Smb where
  /-- The window address and autoinc. -/
  addr : W
  autoinc : Bool
  /-- The data of the last read. -/
  data : W
  /-- The last command was NACKed. -/
  nack : Bool
  /-- The last bytes returned to the bus. -/
  out : List Byte
  deriving DecidableEq, Repr

def Smb.reset : Smb := { addr := 0, autoinc := false, data := 0, nack := false, out := [] }

/-- The TAP (R623): the instruction in force, and what the balls show of the boundary-scan cells. -/
structure Jtag where
  ir : Nat
  /-- The boundary-scan cells drive the balls (EXTEST, CLAMP, the pulse and train forms). -/
  drives : Bool
  /-- The balls are high-impedance (HIGHZ). -/
  highZ : Bool
  /-- The debug master was enabled and has made its first access (R624). -/
  seen : Bool
  deriving DecidableEq, Repr

/-- At TAP reset IDCODE is selected (R623). -/
def Jtag.reset : Jtag := { ir := 1, drives := false, highZ := false, seen := false }

end Sys2Proof.Machine
end

