-- ==== Sys2Proof/Syntax.lean ====
section
/-! DEFINITION. The commands the device takes: the operations and events of the spec's table, with their operands. -/

namespace Sys2Proof

/-- The commands of the device: one constructor per row of the spec's table of operations and events, in its order. -/
inductive Instr where
  /-- PERIOD_BOUNDARY (R59): The time counter reaches the next multiple of 250 ns; the period number advances and every per-boundary action runs. -/
  | periodBoundary (temp : BitVec 16)
  /-- REGISTER_WRITE (R14): A register write that has no row of its own acts under its access code, or is ignored or refused under R12 and R13. -/
  | registerWrite (m : Fin 14) (addr : BitVec 26) (be : BitVec 4) (v : W)
  /-- CLEAR_ON_READ (R14): A host or management-core read of an RC register returns the value and then clears it. -/
  | clearOnRead (m : Fin 14) (addr : BitVec 26)
  /-- INC_STAGE (R56): A write of TMR_INC_NS stages the whole-nanosecond half of the increment. -/
  | incStage (v : W)
  /-- INC_COMMIT (R56): A write of TMR_INC_FRAC commits the increment pair, to act at its effective boundary. -/
  | incCommit (v : W)
  /-- TIME_WRITE_EFFECT (R57): A write that changes time takes effect at its effective boundary E. -/
  | timeWriteEffect
  /-- ADJ_GO (R64): A write of go in TMR_ADJ_CTL starts an offset or absolute adjustment that waits for its effective boundary. -/
  | adjGo (v : W)
  /-- TOD_ARM (R78): A write of tod_arm arms a time-of-day set from the next accepted PPS_IN edge. -/
  | todArm (v : W)
  /-- ADJUSTMENT_EFFECT (R65): At E the device classifies the adjustment as a slew or splits it into a step of whole periods and a slewed remainder. -/
  | adjustmentEffect
  /-- SLEW_CORRECTION (R66): At the ticks of in-period index 30, 90, 150 and 210 the counter gains or loses one nanosecond of outstanding slew. -/
  | slewCorrection
  /-- TIME_READ_LATCH (R60): A read of TMR_TIME_LO latches the high time word, fraction, period number and free count. -/
  | timeReadLatch
  /-- PPS_IN_EDGE (R77): A rising edge of PPS_IN is stamped, or refused as a glitch. -/
  | ppsInEdge (tick highNs : Nat)
  /-- PPS_IN_READ (R81): A read of TMR_PPS_IN_LO latches the high stamp word and clears pps_in_new. -/
  | ppsInRead
  /-- PPS_OUT_RISE (R79): PPS_OUT rises when network time first reaches the second plus the programmed offset. -/
  | ppsOutRise (tick : Nat)
  /-- PPS_OUT_FALL (R79): PPS_OUT falls after its programmed width. -/
  | ppsOutFall (tick : Nat)
  /-- TXTS_POP (R86): A host read of TMR_Pn_TXTS_META pops the head of the egress stamp queue and latches its nanoseconds. -/
  | txtsPop (p : Fin 4)
  /-- GALLERY_COMPUTE (R110): Each gallery computes the loops of its 128 cells from the samples of the previous boundary. -/
  | galleryCompute
  /-- NEIGHBOUR_RING (R107): Each gallery places its heater codes on the neighbour ring and keeps those its cells need. -/
  | neighbourRing (bad : List (Fin 36 × BitVec 13))
  /-- BANK_COMMIT (R120): At a commit boundary the staging parameter bank becomes active. -/
  | bankCommit (g : Fin 36)
  /-- STAGING_BANK_WRITE (R384): A write of a staging parameter bank is taken when the host owns the banks, or ignored with CNS_HOST_REJECT. -/
  | stagingBankWrite (g : Fin 36) (w : BitVec 11) (v : W)
  /-- LAW_WINDOW_WRITE (R112): A write of the law window reaches every gallery's copy until image commit. -/
  | lawWindowWrite (off : BitVec 18) (v : W)
  /-- SETTLE_REPORT (R129): A gallery writes LPE_Gnn_SETTLE for a step once its changed cells settle or by B + 9. -/
  | settleReport (g : Fin 36)
  /-- CELL_CMD_NOP (R160): The NOP cell command does nothing. -/
  | cellCmdNop (g : Fin 36) (w : W)
  /-- ENABLE (R146): The ENABLE command is judged at the write and waits to take a cell from OFF into RUN. -/
  | enable (g : Fin 36) (w : W)
  /-- DISABLE (R136): The DISABLE command is judged at the write and waits to put a cell in OFF. -/
  | disable (g : Fin 36) (w : W)
  /-- HOLD (R136): The HOLD command is judged at the write and waits to put a cell in HOLD with cause COMMAND. -/
  | hold (g : Fin 36) (w : W)
  /-- RESUME (R136): The RESUME command is judged at the write and waits to release a cell from HOLD. -/
  | resume (g : Fin 36) (w : W)
  /-- CELL_CMD_EFFECT (R145): At E a waiting cell command is judged again and applied or refused. -/
  | cellCmdEffect (g : Fin 36)
  /-- TRIM_WRITE (R149): A write of LPE_Gnn_TRIMjjj sets a trim target and slew, clamped to ±0.5, effective at E. -/
  | trimWrite (g : Fin 36) (j : Fin 128) (v : W)
  /-- INV_NOP (R158): The NOP inventory command does nothing. -/
  | invNop (w : W)
  /-- MARK_STUCK (R154): The MARK_STUCK command sets a stuck mark at E. -/
  | markStuck (w : W)
  /-- CLEAR_STUCK (R154): The CLEAR_STUCK command removes a stuck mark and zeroes the failure counts at E. -/
  | clearStuck (w : W)
  /-- CLEAR_HIST (R158): The CLEAR_HIST command clears a cell's history counts and no_auto at E. -/
  | clearHist (w : W)
  /-- CLEAR_SW (R158): The CLEAR_SW command zeroes a cell's switching count at E. -/
  | clearSw (w : W)
  /-- INV_CMD_EFFECT (R158): A waiting inventory command takes effect at its E. -/
  | invCmdEffect
  /-- TARGET_SWAP (R164): At the scheduled boundary every gallery moves FORCE to ENTRY and PEND to FORCE. -/
  | targetSwap
  /-- TARGET_REVERT (R165): At the scheduled boundary FORCE takes the content of ENTRY and PEND empties. -/
  | targetRevert
  /-- MICROWORD_FETCH (R170): The Docent fetches a microword, checking and correcting its SECDED code. -/
  | microwordFetch
  /-- OP_NOP (R176): The NOP operation does nothing. -/
  | opNop
  /-- ALU_ADD (R176): The ALU adds and sets the flags. -/
  | aluAdd
  /-- ALU_SUBTRACT (R176): The ALU subtracts and sets the flags. -/
  | aluSubtract
  /-- ALU_AND (R176): The ALU forms a bitwise AND and sets the flags. -/
  | aluAnd
  /-- ALU_OR (R176): The ALU forms a bitwise OR and sets the flags. -/
  | aluOr
  /-- ALU_XOR (R176): The ALU forms a bitwise XOR and sets the flags. -/
  | aluXor
  /-- ALU_SHIFT_LEFT (R176): The ALU shifts left and sets the flags. -/
  | aluShiftLeft
  /-- ALU_SHIFT_RIGHT (R176): The ALU shifts right logically and sets the flags. -/
  | aluShiftRight
  /-- ALU_MOVE (R176): The ALU moves its operand and sets the flags. -/
  | aluMove
  /-- ALU_COMPARE (R176): The ALU subtracts without writing and sets the flags. -/
  | aluCompare
  /-- LDS (R176): A scratch memory word is loaded into a work register. -/
  | lds
  /-- STS (R176): A work register is stored into scratch memory. -/
  | sts
  /-- RDB (R177): A block register is read over the matrix in a fixed 512 cycles. -/
  | rdb (late : Bool)
  /-- WRB (R177): A block register is written over the matrix in a fixed 512 cycles, effective at P + 2. -/
  | wrb (late : Bool)
  /-- GETP (R176): The present period number is read into a work register. -/
  | getp
  /-- LOOKUP (R176): The cache entry of an arrangement ID is found and pinned. -/
  | lookup
  /-- LOADT (R176): Every gallery fills PEND from a cache entry and tests its check words. -/
  | loadt
  /-- SWAPAT (R176): A swap is scheduled for a boundary if none is scheduled and it lies ahead. -/
  | swapat
  /-- REVERT (R176): A revert is scheduled for a boundary on the same terms as a swap. -/
  | revert
  /-- COPYP (R176): PEND takes the content and ID of FORCE in every gallery. -/
  | copyp
  /-- SETT (R176): One cell's PEND word is set, filling an empty PEND with KEEP. -/
  | sett
  /-- SHAPE (R176): A working shaping entry is written in every gallery from the next boundary. -/
  | shape
  /-- SHRST (R176): Working shaping entries are restored to their defaults from the next boundary. -/
  | shrst
  /-- COLLECT (R167): The fabric-wide step report is formed from the gallery reports and logged. -/
  | collect
  /-- EPOCH (R194): The Docent requests a fabric mode change as a DOC_EPOCH_REQ write would. -/
  | epoch
  /-- CHARQ (R390): A characterization request is passed to the Conservator. -/
  | charq
  /-- EVT (R176): An event code with data is raised to the ledger. -/
  | evt
  /-- DONE (R183): The completion record of the command being served is written. -/
  | docDone
  /-- VITRIG (R176): A vitrine capture is triggered at a named boundary. -/
  | vitrig
  /-- LONG_OP_END (R172): A long operation ends and the microword's condition and next address are evaluated. -/
  | longOpEnd
  /-- SEQ_NEXT (R173): The next microword is at address + 1. -/
  | seqNext
  /-- JUMP (R173): Execution continues at addr. -/
  | jump
  /-- CALL (R173): The return address is pushed and execution continues at addr, faulting on a full stack. -/
  | call
  /-- RET (R173): The return address is popped, faulting on an empty stack. -/
  | ret
  /-- BRT (R173): Execution branches to addr when the condition is true. -/
  | brt
  /-- BRF (R173): Execution branches to addr when the condition is false. -/
  | brf
  /-- DISPATCH (R179): The head of the first non-empty command queue is dispatched to its routine. -/
  | dispatchCmd
  /-- HALT (R173): The routine ends, pending urgent events are taken, and the Docent returns to IDLE or the PARTIAL handler. -/
  | halt
  /-- PERIOD_WAIT_END (R172): A word with cyc = 0 ends its wait at the next boundary and the next word starts in cycle 0. -/
  | periodWaitEnd
  /-- DOC_CMD_WRITE (R179): A write of DOC_CMD3 submits a host command, refused on a full queue or host_en = 0. -/
  | docCmdWrite (v : W)
  /-- DOC_CMD_ENQUEUE (R179): At E a host or journalled command enters its Docent queue. -/
  | docCmdEnqueue
  /-- APPLY (R184): The APPLY routine loads an arrangement and schedules its swap for the step boundary B. -/
  | apply
  /-- SET_TARGET (R182): The SET_TARGET routine sets one cell's target for a step boundary. -/
  | setTarget
  /-- SHAPE_SET (R182): The SHAPE_SET routine writes a working shaping entry. -/
  | shapeSet
  /-- SHAPE_RESTORE (R182): The SHAPE_RESTORE routine restores default shaping entries. -/
  | shapeRestore
  /-- CHAR_SWEEP (R390): The CHAR_SWEEP routine issues a characterization request and completes once it is listed. -/
  | charSweep
  /-- VIT_MARK (R182): The VIT_MARK routine triggers a vitrine capture at a named boundary. -/
  | vitMark
  /-- RESET_ENTRY (R182): The Docent enters its reset routine at reset release. -/
  | resetEntry
  /-- IDLE (R182): The interruptible idle loop waits for commands and urgent events. -/
  | idleLoop
  /-- ABORT_TAIL (R192): After an aborted routine's revert, the Docent waits for the revert's report and collects it. -/
  | abortTail
  /-- URG_HOLD (R182): The urgent routine requests HOLD_ALL with lead 8. -/
  | urgHold
  /-- URG_STOP (R190): The urgent routine forces the BACK policy on the interrupted routine. -/
  | urgStop
  /-- PARTIAL (R190): The handler resumes, forwards or rolls back an interrupted routine by its policy. -/
  | partialHandler
  /-- DOC_URG_WRITE (R186): A DOC_URG write requests an urgent opcode, refused if its entry is not valid. -/
  | docUrgWrite (v : W)
  /-- URG_PENDING (R186): At E an urgent request becomes pending. -/
  | urgPending
  /-- DOC_URG_LATE (R189): An urgent event pending for more than 16 periods raises DOC_URG_LATE. -/
  | docUrgLate
  /-- DOC_ABORT (R191): A DOC_ABORT write requests the abort of the current command or one named by tag. -/
  | docAbort (v : W)
  /-- ABORT_RESOLVE (R192): At its boundary an abort is resolved against completion, cancelling, reverting or finding it too late. -/
  | abortResolve
  /-- RUN_LIMIT_EXPIRY (R199): A routine running past run_limit is ended with status FAULT. -/
  | runLimitExpiry
  /-- DOC_EPOCH_REQ (R194): A mode-change request is judged and, if accepted, starts preparing. -/
  | docEpochReq (v : W)
  /-- EPOCH_PREPARE (R195): At the prepare boundary Q the epoch unit fixes the participants and sends PREPARE. -/
  | epochPrepare
  /-- EPOCH_DECIDE (R195): At the start of period C − 1 the unit commits or withdraws the mode change. -/
  | epochDecide
  /-- EPOCH_COMMIT (R147): At C the new epoch is in force and cells enter or leave HOLD by cause EPOCH. -/
  | epochCommit
  /-- EPOCH_STRAY (R321): A tile reporting the old epoch 64 periods after C takes its link out of service. -/
  | epochStray (t : Fin 144)
  /-- CUST_LOAD (R199): A write of load = 1 asks to open the customer region. -/
  | custLoad (v : W)
  /-- CUST_REGION_OPEN (R199): When no customer routine runs, the region opens and customer commands complete REFUSED. -/
  | custRegionOpen
  /-- CONTROL_STORE_WRITE (R199): A control-store write reaches the open customer region or is ignored with DOC_CMD_REJECT. -/
  | controlStoreWrite (off : BitVec 17) (v : W)
  /-- CUST_COMMIT (R199): A write of commit = 1 starts the check of the customer region. -/
  | custCommit (v : W)
  /-- CUST_CHECK_DONE (R200): The customer region check ends, accepting or refusing the region and clearing load. -/
  | custCheckDone
  /-- ACCEDE (R218): An ARS_CMD ACCEDE asks to admit a staged arrangement at E. -/
  | accede (w : W)
  /-- DELETE (R219): An ARS_CMD DELETE asks to remove an arrangement at E. -/
  | delete (w : W)
  /-- FETCH (R228): An ARS_CMD FETCH asks the pager to fill an ID at E. -/
  | fetch (w : W)
  /-- ARS_CMD_EFFECT (R218): At E an ARS command is checked in result-code order and carried out or refused. -/
  | arsCmdEffect
  /-- ACCESSION_STORED (R218): The accepted arrangement is copied into its slot and the ID becomes STORED. -/
  | accessionStored
  /-- FILL_START (R226): With no fill running the pager chooses an ID and a victim entry and starts a fill. -/
  | fillStart
  /-- FILL_COMPLETE (R222): A fill ends with the entry RESIDENT, or fails its check words. -/
  | fillComplete (bad : Bool)
  /-- STORE_COPY_DONE (R224): The background copy of a dirty cache entry to its store slot completes and the entry becomes clean. -/
  | storeCopyDone (e : Fin 64)
  /-- PAGE_LATE (R227): An arrangement not resident at B − lead raises ARS_PAGE_LATE. -/
  | pageLate
  /-- LOAD (R229): The programme command LOAD opens a slot for writing at E. -/
  | load (w : W)
  /-- CHECK (R232): The programme command CHECK validates a slot and makes it READY or REFUSED. -/
  | check (w : W)
  /-- START (R234): The programme command START arms a slot and fixes its origin. -/
  | start (w : W)
  /-- STAGE (R236): The programme command STAGE stages a slot and fixes its swap boundary. -/
  | stage (w : W)
  /-- STOP (R237): The programme command STOP schedules the end of the active or armed programme. -/
  | stop (w : W)
  /-- CLEAR (R229): The programme command CLEAR empties a slot or cancels a staged swap. -/
  | clear (w : W)
  /-- STEP_MEMORY_WRITE (R229): A write of slot registers or step memory is taken in LOADING or ignored with PRG_REJECT. -/
  | stepMemoryWrite (off : BitVec 18) (v : W)
  /-- PROGRAMME_ORIGIN (R229): At its origin boundary an armed programme becomes ACTIVE. -/
  | programmeOrigin
  /-- STAGE_SWAP (R236): At the swap boundary the staged programme becomes ACTIVE and the replaced slot READY. -/
  | stageSwap
  /-- PROGRAMME_STOP (R237): At the chosen step or cycle boundary the stopped programme's slot becomes READY. -/
  | programmeStop
  /-- PROGRAMME_END (R231): A one-shot programme reaches origin + span and becomes DONE. -/
  | programmeEnd
  /-- RESIDENCY_TEST (R238): At D = B − 8 the engine tests residency, pins the entry and queues the step's command. -/
  | residencyTest
  /-- KEEPER_RESIDENCY_TEST (R240): In a twin pair the keeper tests residency at B − 24 and journals the outcome. -/
  | keeperResidencyTest
  /-- STEP_COMPLETION (R238): The Docent's completion of a programme step is counted as HELD or raises PRG_STEP_FAULT. -/
  | stepCompletion
  /-- TIME_STEP_REJOIN (R241): At X + 1 after a time step the engine finds the step due at X + 9 and rejoins. -/
  | timeStepRejoin
  /-- ANNOUNCEMENT (R244): At B − ann_lead a resident step's announcement is sent. -/
  | announcement
  /-- CUR_MODE_WRITE (R258): A write of the Curator mode is judged and waits for E. -/
  | curModeWrite (v : W)
  /-- CUR_MODE_EFFECT (R257): At E the Curator mode changes and disallowed queued commands complete MODE. -/
  | curModeEffect
  /-- DEMAND_REPORT (R260): A demand report is checked, dropped whole or taken into the report buffer. -/
  | demandReport
  /-- CURATOR_EPOCH (R264): At an epoch boundary the banks swap roles and the epoch's matchings begin. -/
  | curatorEpoch
  /-- CARRY_SWEEP_END (R264): The carry-over sweep into the new FILL bank completes. -/
  | carrySweepEnd
  /-- CUR_CMD_ENQUEUE (R285): A write of CUR_CMD3 enqueues a Curator command at E, refused on a full queue. -/
  | curCmdEnqueue (v : W)
  /-- CONNECT (R285): CONNECT sets a pair in the working permutation. -/
  | connect
  /-- DISCONNECT (R285): DISCONNECT removes a port's pair and persistent flag. -/
  | disconnect
  /-- CUR_CLEAR (R285): CLEAR empties the working permutation and persistent flags. -/
  | curClear
  /-- LOAD_PERM (R285): LOAD_PERM loads the working permutation from a buffer after checking it. -/
  | loadPerm
  /-- LOAD_ARR (R285): LOAD_ARR loads the working permutation and reference from a stored arrangement. -/
  | loadArr
  /-- CUR_APPLY (R286): APPLY routes, compiles and stores the working permutation, and with go queues a Docent APPLY. -/
  | curApply
  /-- CACHE_WRITE_END (R284): The Curator's write of an arrangement into a cache entry or slot ends and the ID is STORED. -/
  | cacheWriteEnd
  /-- CUR_DOC_QUEUE_PLACE (R286): A place frees in the Docent's Curator queue and the waiting APPLY enters it. -/
  | curDocQueuePlace
  /-- CUR_DOC_RECORD (R286): The Docent's record arrives and the Curator completes APPLY and updates its reference. -/
  | curDocRecord
  /-- CUR_DONE_POP (R293): A host read of CUR_DONE0 pops the head record and latches its detail. -/
  | curDonePop
  /-- DOC_DONE_POP (R204): A host read of DOC_DONE0 pops the head record and latches its detail. -/
  | docDonePop
  /-- ECHO (R301): An ECHO arrives and the link's round trip is measured. -/
  | echo (t : Fin 144) (tag : BitVec 16) (offset : BitVec 8) (arrival : BitVec 16) (errs : Nat)
  /-- DOWNLINK_FRAME (R302): At phase 32 the downlink FRAME carrying the drive words for the next boundary is sent. -/
  | downlinkFrame (t : Fin 144)
  /-- UPLINK_FRAME (R312): An uplink FRAME is received and accepted or counted absent. -/
  | uplinkFrame (t : Fin 144) (tag : BitVec 16) (resv : BitVec 40) (data : List Byte) (errs other : Nat) (onTime : Bool)
  /-- SVC_WRITE (R332): A mailbox WRITE sends a service frame writing tile registers. -/
  | svcWrite (v : W)
  /-- SVC_READ (R332): A mailbox READ sends a service frame reading tile registers. -/
  | svcRead (v : W)
  /-- WRITE_ACK (R314): A WRITE_ACK service frame ends a write transaction with OK. -/
  | writeAck (t : Fin 144) (frame : List Byte) (errs : Nat)
  /-- READ_DATA (R314): A READ_DATA service frame returns read data and ends the transaction. -/
  | readData (t : Fin 144) (frame : List Byte) (errs : Nat)
  /-- SVC_ERROR (R314): An ERROR service frame ends the transaction with TILE_ERROR. -/
  | svcError (t : Fin 144) (frame : List Byte) (errs : Nat)
  /-- SVC_TIMEOUT (R315): A request with no reply within 64 periods ends with TIMEOUT. -/
  | svcTimeout
  /-- BRINGUP (R322): The BRINGUP command starts link bring-up at E. -/
  | bringup (t : Fin 144) (v : W)
  /-- DOWN (R324): The DOWN command takes the link out of service at E. -/
  | linkDown (t : Fin 144) (v : W)
  /-- PRBS (R325): The PRBS command starts a bit-error test at E when the link is eligible. -/
  | prbs (t : Fin 144) (v : W)
  /-- TRAIN_DONE (R322): Block lock is reached and bring-up moves to ALIGN. -/
  | trainDone (t : Fin 144) (errs : Nat)
  /-- ALIGN_DONE (R322): 16 good ECHOs are received and bring-up moves to IDENT. -/
  | alignDone (t : Fin 144)
  /-- IDENT_DONE (R322): The tile identity is read and checked. -/
  | identDone (t : Fin 144) (frame : List Byte) (errs : Nat)
  /-- CONFIG_DONE (R322): The tile acknowledges its hold timeout and fallback and bring-up moves to ARM. -/
  | configDone (t : Fin 144) (frame : List Byte) (errs : Nat)
  /-- ARM_DONE (R322): 64 accepted FRAMEs put the link in service. -/
  | armDone (t : Fin 144)
  /-- BRINGUP_STEP_TIMEOUT (R323): A bring-up step past its limit ends in FAILED and raises NGL_UP_FAIL. -/
  | bringupStepTimeout (t : Fin 144)
  /-- BRINGUP_RETRY (R323): With auto_retry a new bring-up starts 10 ms after a failure. -/
  | bringupRetry (t : Fin 144)
  /-- LINK_RESYNC (R324): loss_limit periods without an accepted uplink FRAME put the link in RESYNC. -/
  | linkResync (t : Fin 144)
  /-- RESYNC_TIMEOUT (R324): A link in RESYNC for 1 ms fails with fail_code 6. -/
  | resyncTimeout (t : Fin 144)
  /-- DL_FAULT (R324): 32 accepted FRAMEs with held or fallback fail the link with fail_code 5. -/
  | dlFault (t : Fin 144)
  /-- RTT_HIGH (R324): rtt above 44 ns for 16 periods fails the link with fail_code 3. -/
  | rttHigh (t : Fin 144)
  /-- PRBS_END (R325): The PRBS test ends, error counts are read and the link returns to bring-up or DOWN. -/
  | prbsEnd (t : Fin 144) (ul dl : W)
  /-- TWIN_TICK (R342): A TICK arrives and the copyist adjusts its grid toward the keeper's. -/
  | twinTick (p : W) (peerOffset arr : Int) (stray : Nat)
  /-- PREC (R341): A partner's PREC arrives with role, loan, maps, dl_crc and journal sequence. -/
  | prec (data : List Byte)
  /-- PREC_RENEW (R349): A RENEW in the keeper's PREC restarts the copyist's lease reckoning. -/
  | precRenew
  /-- PREC_RELEASE (R351): A RELEASE makes the copyist keeper and acting at the next boundary. -/
  | precRelease
  /-- PREC_HANDOVER (R350): A HANDOVER makes the copyist keeper at H + 1, continuing the journal. -/
  | precHandover
  /-- PREC_LEAVE (R351): A LEAVE makes the keeper run as a single device from the next boundary. -/
  | precLeave
  /-- JOURNAL (R344): A JOURNAL message carrying one record is received and checked. -/
  | journal (data : List Byte)
  /-- RELAY (R355): A RELAY of a repaired tile's heater codes is received for the ring. -/
  | relay (data : List Byte)
  /-- TILE_COPY (R355): A TILE_COPY of a tile's cell state is received for replay. -/
  | tileCopy (data : List Byte)
  /-- BULK (R360): A BULK message with arrangement content is received during a join. -/
  | bulk (data : List Byte)
  /-- JOIN_ID (R361): A JOIN_ID is received and compared, refusing the join on a difference. -/
  | joinId (id : Machine.JoinId) (good : Bool)
  /-- URG_REQ (R343): A copyist's urgent request reaches the keeper, which checks and journals it. -/
  | urgReq (data : List Byte)
  /-- REG (R344): A journalled register write acts at E as if made by its source. -/
  | reg
  /-- ARR (R344): A journalled arrangement's content is taken at E. -/
  | arr
  /-- RESID (R344): A journalled residency outcome acts at E. -/
  | resid
  /-- URGENT (R344): A journalled urgent request becomes pending at E. -/
  | urgent
  /-- DOCCMD (R344): A journalled Docent command is enqueued at E. -/
  | doccmd
  /-- FW (R370): A journalled firmware checkpoint is delivered to TWN_FW_RX at E and sets fw_new. -/
  | fw
  /-- CS_IMAGE (R344): Journalled microcode is written to the control-store staging buffer at E. -/
  | csImage
  /-- SNAP (R359): A join snapshot record is applied at E. -/
  | snap (part : Machine.SnapPart)
  /-- COMMIT (R360): At its E the copyist enters IN_STEP and sends FRAMEs. -/
  | commit
  /-- PARTNER_HB_EDGE (R338): An edge on PARTNER_HB_IN is seen and the partner's heartbeat is present. -/
  | partnerHbEdge (tick : Nat)
  /-- PARTNER_HB_LOST (R338): No partner heartbeat edge for 1.5 ms raises TWN_PARTNER_HB_LOST. -/
  | partnerHbLost
  /-- LOAN_RENEW (R349): Every L/4 the keeper sends RENEW if firmware has written fw_alive. -/
  | loanRenew
  /-- LOAN_LOST (R349): The keeper stops acting at its lease expiry less the guard. -/
  | loanLost
  /-- LOAN_TAKEN (R349): The copyist takes the loan at its lease expiry plus the guard. -/
  | loanTaken
  /-- FW_ALIVE (R349): A write of fw_alive allows the next RENEW. -/
  | fwAlive (v : W)
  /-- HANDOVER (R350): A write of handover = 1 to the keeper starts a hand-over or is rejected. -/
  | handover (v : W)
  /-- HANDOVER_BOUNDARY (R350): At H the keeper stops acting and withdraws records not yet sent whole. -/
  | handoverBoundary
  /-- LEAVE (R351): A write of leave = 1 to the copyist makes it send LEAVE and detach. -/
  | leave (v : W)
  /-- JOIN (R366): A write of join = 1 starts a join while DETACHED. -/
  | join (v : W)
  /-- TWIN_LINK_LOSS (R352): 4 periods without a PREC or a lane fault make both twins UNDECIDED. -/
  | twinLinkLoss (lane : Bool)
  /-- TWIN_VERDICT (R353): From the partner heartbeat each twin decides to detach, stay alone or run single. -/
  | twinVerdict
  /-- REPAIR_REPLAY (R355): In period k + 5 the non-owner replays the repaired tile's computations from the copy. -/
  | repairReplay (t : Fin 144)
  /-- JOIN_WAIT_EXPIRY (R359): With no link and no partner heartbeat after join_wait the device becomes keeper alone. -/
  | joinWaitExpiry
  /-- JOIN_STEP_DONE (R360): A join step completes and the next begins. -/
  | joinStepDone
  /-- JOIN_STEP_TIMEOUT (R360): A join step past its limit ends the join with a refusal reason. -/
  | joinStepTimeout
  /-- JOIN_SNAPSHOT (R360): At the first quiet Docent boundary S the keeper takes the join snapshot. -/
  | joinSnapshot
  /-- CS_STAGE (R363): A write of stage = 1 checks and journals the staged microcode. -/
  | csStage (v : W)
  /-- CS_SWAP (R363): A write of swap = 1 stops dispatch from E to await an idle Docent. -/
  | csSwap (v : W)
  /-- CS_SWAP_COPY (R363): At the first idle boundary the staged microcode is copied in and dispatch resumes. -/
  | csSwapCopy
  /-- CS_SWAP_FAILED (R363): No idle Docent within 4,096 periods ends the swap FAILED. -/
  | csSwapFailed
  /-- FW_SEND (R370): A write of send = 1 journals the firmware checkpoint. -/
  | fwSend (v : W)
  /-- DITHER_INTEGRATE (R378): In period k + 2 the Conservator adds the counted samples of boundary k to its sums. -/
  | ditherIntegrate
  /-- LOCKIN_WINDOW_END (R376): A 40,000-period window's last sample is integrated and CNS_WINDOW advances. -/
  | lockinWindowEnd
  /-- ESTIMATES_DONE (R379): The window's estimates are complete for every cell. -/
  | estimatesDone
  /-- CNS_GALLERY_COMMIT (R383): The Conservator issues a gallery's commit of its updated staging bank. -/
  | cnsGalleryCommit (g : Fin 36)
  /-- CALIBRATION_RECORD_WRITE (R388): A journal record of the committed bank is written to MRAM and read back. -/
  | calibrationRecordWrite (bad : Bool)
  /-- CNS_COMMIT (R384): A host CNS_COMMIT write commits a gallery's staging bank at E, or is ignored. -/
  | cnsCommit (v : W)
  /-- CHAR_EXAMINE (R391): A listed characterization request is examined and granted, queued, deferred or refused. -/
  | charExamine (n : Fin 16)
  /-- CHAR_POINT_END (R392): A sweep point's dwell ends and its samples are averaged. -/
  | charPointEnd (n : Fin 16)
  /-- CHAR_RELEASE (R395): A write of release frees a finished request entry or cancels a waiting one. -/
  | charRelease (n : Fin 16) (v : W)
  /-- CHAR_ENTRY_EXPIRY (R395): A finished entry is freed one second after it ends. -/
  | charEntryExpiry (n : Fin 16)
  /-- PORT_CTL_WRITE (R407): A write of SVP_Pn_CTL is taken at E, or refused for modes 5–7. -/
  | portCtlWrite (n : Fin 4) (v : W)
  /-- PORT_RESTART (R407): A change of mode, FEC or training restarts the port and loads its stamp compensation. -/
  | portRestart (n : Fin 4) (receiving : Bool)
  /-- PORT_LINK_UP (R406): Lock conditions held for 1 ms set link_up. -/
  | portLinkUp (n : Fin 4)
  /-- PORT_LINK_DOWN (R406): The loss of a lock condition clears link_up and raises SVP_LINK_DOWN. -/
  | portLinkDown (n : Fin 4) (cause : Fin 4) (receiving : Bool)
  /-- AN_FAIL (R405): A partner offering no common mode sets an_fail. -/
  | anFail (n : Fin 4)
  /-- FRAME_RECEIVE (R408): The receive MAC takes a frame whole and passes or drops it. -/
  | frameReceive (n : Fin 4) (tick : Nat) (data : List Byte) (fcsOk : Bool) (fecCorr fecUncorr : Nat)
  /-- FIRST_PASS (R411): The parser selects a template, extracts windows and makes the length checks of the first pass. -/
  | firstPass (n : Fin 4)
  /-- SECOND_PASS (R413): A recirculated frame takes a second parser pass on stripped data. -/
  | secondPass (n : Fin 4)
  /-- RING_SLOT_WRITE (R424): A host-owned queue writes a frame into a free ring slot and advances PROD. -/
  | ringSlotWrite (q : Fin 16)
  /-- CONS_WRITE (R424): A host write of PKT_Qq_CONS frees slots and rearms the queue's MSI-X. -/
  | consWrite (q : Fin 16) (v : W)
  /-- PKT_SWAP (R425): A write of swap = 1 requests a rule-set swap, refused while busy. -/
  | pktSwap (v : W)
  /-- RULE_SET_SWAP (R425): At E the shadow bank becomes active for frames whose first pass begins from then. -/
  | ruleSetSwap
  /-- BANK_RETIRE (R425): The old bank is retired when no frame of its generation remains and PKT_SWAP_DONE is raised. -/
  | bankRetire
  /-- PKT_COPY (R425): A write of copy = 1 copies the active bank into the shadow bank. -/
  | pktCopy (v : W)
  /-- SHADOW_BANK_WRITE (R425): A write of the shadow bank is taken or ignored while busy. -/
  | shadowBankWrite (off : BitVec 13) (v : W)
  /-- POLICER_WRITE (R422): A policer write takes effect at E and fills its bucket. -/
  | policerWrite (n : Fin 16) (depth : Bool) (v : W)
  /-- QUEUE_SHARE_WRITE (R423): A queue share write is taken at E or refused if shares overflow. -/
  | queueShareWrite (q : Fin 16) (v : W)
  /-- OCTET_READ (R427): A read of SVP_Pn_RX_OCT_LO latches the high octet word and clears the count. -/
  | octetRead (n : Fin 4)
  /-- RING_PROD_WRITE (R437): A write of a descriptor ring's PROD submits descriptors. -/
  | ringProdWrite (n : Fin 4) (r : Fin 2) (v : W)
  /-- DESCRIPTOR_TAKE (R437): The device takes the next descriptor whose frame finds room and queues it. -/
  | descriptorTake (n : Fin 4) (r : Fin 2)
  /-- TRANSMIT_START (R439): The free transmitter starts the head frame of the first eligible queue. -/
  | transmitStart (n : Fin 4) (tick : Nat)
  /-- TRANSMIT_END (R438): A frame's transmission completes and its descriptor is written done. -/
  | transmitEnd (n : Fin 4) (tick : Nat)
  /-- GCL_COMMIT (R443): A commit of the admin gate list is taken at E and waits for T_s. -/
  | gclCommit (n : Fin 4) (v : W)
  /-- GCL_SWITCH (R443): At T_s the new gate list comes into force. -/
  | gclSwitch (n : Fin 4) (tick : Nat)
  /-- GATE_ENTRY_CHANGE (R441): A gate list entry's interval ends and the next entry's mask takes effect. -/
  | gateEntryChange (n : Fin 4) (tick : Nat)
  /-- EVENT_LATCH (R465): At the boundary after an occurrence the Attendant latches it and starts its reaction. -/
  | eventLatch
  /-- PERSIST_WINDOW_END (R471): A source's counting window ends and lasting clears if the count stayed low. -/
  | persistWindowEnd (src : Fin 1280)
  /-- SEV_ACK (R472): A write of ATT_SEV_ACK names the source to acknowledge. -/
  | sevAck (v : W)
  /-- SEV_ACK_EFFECT (R472): At E the acknowledgement ends the matching reaction or raises ATT_REJECT. -/
  | sevAckEffect
  /-- ESCALATION (R473): A SEVERE reaction unacknowledged after t_a escalates to the safe state. -/
  | escalation
  /-- INJECTION (R475): A write of ATT_INJ injects one occurrence of a named source. -/
  | injection (v : W)
  /-- PARITY_SCAN (R477): The background scan checks the parity of Attendant words. -/
  | parityScan (bad : Option (BitVec 16))
  /-- SAFE_STATE_ENTRY (R481): At G the device sets grave, stops acting, silences ports and stops the Docent. -/
  | safeStateEntry
  /-- EVENT_RECORD_CLOSE (R452): An open EVENT record is closed and written after 4,000 periods. -/
  | eventRecordClose
  /-- LOG_COPY (R453): Ring records are copied in sequence to the LPDDR6 log region. -/
  | logCopy (n : Nat)
  /-- VAULT_HELD (R454): When the FREEZE record is copied, the log region becomes the held vault. -/
  | vaultHeld
  /-- VAULT_RELEASE (R455): A write of release clears vault_held. -/
  | vaultRelease (v : W)
  /-- FW_RECORD_SUBMIT (R453): A write of go in LDG_FW_SUBMIT writes a FIRMWARE record or sets fw_busy. -/
  | fwRecordSubmit (v : W)
  /-- ALARM_WINDOW_END (R456): At the end of an alarm window summary frames are sent for sources with counts. -/
  | alarmWindowEnd
  /-- ALARM_SEND (R456): A stored alarm is queued on the ports of its mask whose link is up. -/
  | alarmSend
  /-- LEDGER_EXPORT (R457): A ledger export frame is formed at 32 pending records or after 4,000 periods. -/
  | ledgerExport
  /-- VITRINE_IN_EDGE (R484): A qualified rising edge of VITRINE_IN triggers a capture at k + 2. -/
  | vitrineInEdge
  /-- VIT_TRIG (R484): A write of VIT_TRIG triggers a capture at E. -/
  | vitTrig (v : W)
  /-- VITRINE_CAPTURE (R485): At V every block's snapshot is latched and copying to a slot starts. -/
  | vitrineCapture
  /-- VITRINE_COPY_DONE (R486): The copy to the slot completes, or fails with copy_err. -/
  | vitrineCopyDone (bad : Bool)
  /-- VIT_EXPORT (R489): A write of VIT_EXPORT exports a slot, refused while one runs. -/
  | vitExport (v : W)
  /-- VITRINE_EXPORT_FRAME (R489): The next 8,192-byte VITRINE frame is queued once room appears. -/
  | vitrineExportFrame
  /-- COLD_RESET (R500): VDD_AON rises or falls out of range and the device resets fully. -/
  | coldReset
  /-- PIN_RESET (R500): RESET_N low for at least 1 µs starts a PIN reset. -/
  | pinReset
  /-- RESET_RELEASE (R499): Reset is released, straps are sampled and the loader starts. -/
  | resetRelease (straps : Machine.Straps) (w : Machine.LoadWorld)
  /-- START_ARR_APPLY (R517): When every tile is in service or after 10 ms the start arrangement is applied. -/
  | startArrApply
  /-- AUTOSTART (R517): Once the start APPLY completes, the autostart slot is started. -/
  | autostart
  /-- FULL_RESTART (R516): A GLB_RESTART write of class FULL requests a full restart at E. -/
  | fullRestart (v : W)
  /-- FW_RESTART (R516): A GLB_RESTART write of class FW requests a firmware restart at E. -/
  | fwRestart (v : W)
  /-- RESTART_EFFECT (R503): At E the restart acts, releasing the loan and resetting the blocks of its class. -/
  | restartEffect (w : Machine.LoadWorld)
  /-- WDT_KICK (R519): A write of kick restarts the watchdog count. -/
  | wdtKick (v : W)
  /-- WATCHDOG_EXPIRY (R519): Watchdog expiry raises GLB_WDT and with restart_en starts a FW restart. -/
  | watchdogExpiry
  /-- PERST_RESET (R545): PERST_N low resets the PCIe domain while the fabric continues. -/
  | perstReset
  /-- NVL_READ (R518): NVL_CMD READ moves bytes from the NOR into the page buffer. -/
  | nvlRead (v : W)
  /-- NVL_PROGRAM (R518): NVL_CMD PROGRAM writes the page buffer to the NOR outside the copy in force. -/
  | nvlProgram (v : W)
  /-- NVL_ERASE (R518): NVL_CMD ERASE erases a 64 KiB sector outside the copy in force. -/
  | nvlErase (v : W)
  /-- NVL_DONE (R518): A NOR operation completes with its status. -/
  | nvlDone (bad : Bool)
  /-- SVN_COMMIT (R509): A write of GLB_SVN_COMMIT fuses min_svn to the svn in force. -/
  | svnCommit (v : W)
  /-- MATRIX_GRANT (R527): A free target grants its port to the highest-priority requesting master. -/
  | matrixGrant (t : Fin 12) (reqs : List Machine.MatrixReq)
  /-- MATRIX_RESPONSE (R530): A transaction ends with OK, DECERR or SLVERR and the first error is recorded. -/
  | matrixResponse (t : Fin 12) (err : Fin 4) (beat : BitVec 9)
  /-- TARGET_TIMEOUT (R530): A target silent for 10 µs ends the transaction with SLVERR and releases the path. -/
  | targetTimeout (t : Fin 12)
  /-- MASTER_RESET (R531): A master reset mid-burst finishes the burst with strobes off and raises XBR_MASTER_RESET. -/
  | masterReset (m : Fin 14) (beats : BitVec 10)
  /-- PATROL_SCRUB (R536): The patrol scrub visits memory, correcting and reporting errors. -/
  | patrolScrub (a : BitVec 36) (bits : Fin 3)
  /-- DDR_RETRAIN (R534): Periodic retraining in service adjusts a channel's timing. -/
  | ddrRetrain (ch : Fin 4) (moved : Bool)
  /-- BAR2_WIN_WRITE (R542): A write of XBR_BAR2_WIN moves the BAR2 window for later requests. -/
  | bar2WinWrite (v : W)
  /-- PCIE_REQUEST (R543): A PCIe request is passed to the matrix and completed or reported through AER. -/
  | pcieRequest (bar2 : Bool) (off : BitVec 32) (dws : BitVec 11) (be : BitVec 4) (write : Option (List Byte))
  /-- PCIE_LINK_UP (R556): The PCIe link comes up. -/
  | pcieLinkUp (speed : Fin 6) (width : BitVec 4) (bus : Byte) (cfg : BitVec 4)
  /-- PCIE_LINK_DOWN (R545): A hot reset or link loss resets the PCIe domain. -/
  | pcieLinkDown
  /-- MSIX_PENDING_SEND (R544): A pending MSI-X message is sent once its conditions hold. -/
  | msixPendingSend (vec : Byte)
  /-- SMB_ADDR (R547): The SMBus ADDR command sets the window address and may start a read. -/
  | smbAddr (data : List Byte) (pec : Fin 3)
  /-- SMB_WRITE (R547): The SMBus WRITE command writes at the window address. -/
  | smbWrite (data : List Byte) (pec : Fin 3)
  /-- SMB_READ (R547): The SMBus READ command returns the last read and may start the next. -/
  | smbRead
  /-- SMB_STATUS (R547): The SMBus STATUS command returns the last access status. -/
  | smbStatus
  /-- SMB_IDENT (R547): The SMBus IDENT command returns GLB_ID and SBM_STAT. -/
  | smbIdent
  /-- SMBUS_TIMEOUT (R546): SCL held low over 25 ms makes the target release the bus. -/
  | smbusTimeout
  /-- ALERT_RESPONSE (R549): The target answers the Alert Response Address with its own address. -/
  | alertResponse
  /-- DOMAIN_ON (R559): A PDM_DOMdd ON command requests a domain switched on at E. -/
  | domainOn (d : Fin 56) (v : W)
  /-- DOMAIN_OFF (R559): A PDM_DOMdd OFF command requests a domain switched off at E. -/
  | domainOff (d : Fin 56) (v : W)
  /-- DOMAIN_SWITCH (R559): At E the domain command is checked and switching starts, or it is refused. -/
  | domainSwitch (d : Fin 56)
  /-- DOMAIN_OFF_DONE (R559): The domain is OFF by E + 16. -/
  | domainOffDone (d : Fin 56)
  /-- DOMAIN_ON_DONE (R559): The domain's supply is good, isolation opens and its blocks start from reset. -/
  | domainOnDone (d : Fin 56)
  /-- DOMAIN_FAULT (R559): A supply not good by E + 128 puts the domain in FAULT. -/
  | domainFault (d : Fin 56)
  /-- ASM_UP (R564): ASM_UP starts the power-up sequence of the assembly's rails at E. -/
  | asmUp (v : W)
  /-- ASM_DOWN (R564): ASM_DOWN starts the power-down sequence at E. -/
  | asmDown (v : W)
  /-- ASM_CLEAR (R593): ASM_CLEAR sends CLEAR_FAULTS to every valid rail. -/
  | asmClear (v : W)
  /-- SEQ_GROUP_DONE (R564): A sequence group completes and the next group starts. -/
  | seqGroupDone
  /-- SEQ_GROUP_TIMEOUT (R564): A group incomplete after 10 ms ends the sequence PARTIAL. -/
  | seqGroupTimeout
  /-- PMB_WRITE_BYTE (R591): A PDM_PMB_XFER write-byte transaction is issued. -/
  | pmbWriteByte (v : W)
  /-- PMB_WRITE_WORD (R591): A PDM_PMB_XFER write-word transaction is issued. -/
  | pmbWriteWord (v : W)
  /-- PMB_READ_BYTE (R591): A PDM_PMB_XFER read-byte transaction is issued. -/
  | pmbReadByte (v : W)
  /-- PMB_READ_WORD (R591): A PDM_PMB_XFER read-word transaction is issued. -/
  | pmbReadWord (v : W)
  /-- PMB_TRANSACTION_DONE (R562): A PMBus transaction ends, is retried, or sets pmb_err after the third failure. -/
  | pmbTransactionDone (res : Fin 4) (data : BitVec 16)
  /-- PMB_POLL (R565): The poller reads the next rail's status, voltage, current and temperature. -/
  | pmbPoll (status vout iout temp : BitVec 16)
  /-- PMB_ALERT (R565): A falling edge on PMB_ALERT_N makes the poller read every rail's status. -/
  | pmbAlert
  /-- RAIL_FAULT_DOWN (R567): With fault_act a rail fault starts a DOWN sequence at the next boundary. -/
  | railFaultDown
  /-- PDM_TEMP_CRIT (R569): 125 °C for four periods raises the GRAVE PDM_TEMP_CRIT. -/
  | pdmTempCrit
  /-- ADC_SEQ_GO (R573): A software go starts or pends an ADC sequence. -/
  | adcSeqGo (n : Fin 4) (v : W)
  /-- ADC_TIMER_TRIGGER (R573): A sequence's timer interval expires and triggers it. -/
  | adcTimerTrigger (n : Fin 4)
  /-- ADC_URGENT (R575): A write of AUX_URG requests one urgent conversion, refused if one waits. -/
  | adcUrgent (v : W)
  /-- ADC_CONVERSION_DONE (R577): A conversion ends and its result is queued and held, chaining the next conversion. -/
  | adcConversionDone (code : BitVec 16) (ovr : Bool)
  /-- ADC_POWER_DOWN (R572): After 10 µs without a conversion the converter powers down. -/
  | adcPowerDown
  /-- ADC_RESULT_POP (R577): A host read of AUX_RESQ pops the head result. -/
  | adcResultPop
  /-- TRIM_GO (R579): A write of trim_go starts a trim. -/
  | trimGo (v : W)
  /-- TRIM_INTERVAL (R579): trim_interval seconds after the last trim a new trim starts. -/
  | trimInterval
  /-- TRIM_DONE (R579): A trim ends, advancing trace_gen or failing with trim_fail. -/
  | trimDone (ok : Bool) (offset gain : Byte) (hi lo : BitVec 22)
  /-- DAC_CODE (R582): A DAC code write is latched at its boundary E. -/
  | dacCode (k : Fin 16) (v : W)
  /-- DAC_RANGE (R584): A DAC range write sets the range, starting a change or returning to UNSET. -/
  | dacRange (k : Fin 16) (v : W)
  /-- DAC_CHANGE_DONE (R584): Within 60 periods of a range change the pin drives the zero code. -/
  | dacChangeDone (k : Fin 16)
  /-- TEC_STEP (R587): Firmware runs one 1 kHz PI step of each TEC zone. -/
  | tecStep
  /-- TEC_EVT (R589): A write of AUX_TEC_EVT raises TEC_FAULT for a zone. -/
  | tecEvt (v : W)
  /-- IDCODE (R623): The IDCODE instruction selects the identification register. -/
  | idcodeIr
  /-- SAMPLE_PRELOAD (R623): The SAMPLE/PRELOAD instruction acts under IEEE 1149.1. -/
  | samplePreload
  /-- EXTEST (R623): The EXTEST instruction drives the boundary-scan cells when TEST_EN is set. -/
  | extestIr
  /-- CLAMP (R623): The CLAMP instruction acts under IEEE 1149.1 when TEST_EN is set. -/
  | clampIr
  /-- HIGHZ (R623): The HIGHZ instruction acts under IEEE 1149.1 when TEST_EN is set. -/
  | highzIr
  /-- EXTEST_PULSE (R623): The EXTEST_PULSE instruction acts under IEEE 1149.6 when TEST_EN is set. -/
  | extestPulse
  /-- EXTEST_TRAIN (R623): The EXTEST_TRAIN instruction acts under IEEE 1149.6 when TEST_EN is set. -/
  | extestTrain
  /-- DEBUG (R623): The DEBUG instruction connects the JTAG debug master. -/
  | debugIr
  /-- BYPASS (R623): The BYPASS instruction selects the bypass register. -/
  | bypassIr
  /-- JTAG_DEBUG_ACCESS (R624): The JTAG debug master makes a matrix access, refused for state changes in a twin device. -/
  | jtagDebugAccess (a : BitVec 40) (write : Option W)
  /-- PORT_BLOCK_LOCK (R406): A service port's receiver gains block lock, lane alignment and FEC alignment lock, setting pcs_lock and fec_lock and starting the 1 ms count toward link_up. -/
  | portBlockLock (n : Fin 4)
  /-- AUTONEG_COMPLETE (R405): Clause 73 auto-negotiation with the link partner completes on the configured mode and sets an_done. -/
  | autonegComplete (n : Fin 4)
  /-- PKT_COPY_DONE (R425): The copy of the active rule-set bank into the shadow bank ends within 2 periods of E and busy clears. -/
  | pktCopyDone
  /-- REFRESH_DERATE (R534): An LPDDR6 device's temperature report raises or lowers the channel's refresh rate, changing derate and raising DDR_DERATE when it rises. -/
  | refreshDerate (ch : Fin 4) (raised : Bool)
  /-- SINGLE_DEVICE_AFTER_LOSS (R353): A keeper that saw its partner's heartbeat edge after a twin link loss runs as a single device, with E = P + 2, from loss + 2.0 ms. -/
  | singleDeviceAfterLoss
  deriving DecidableEq, Repr

end Sys2Proof
end

