-- ==== Sys2Proof/Decode.lean ====
section
/-! DEFINITION. The words of the table: the spec's table of commands gives no row any bits, so no word spells a
command (log entry 2). -/

namespace Sys2Proof

/-- The command that the `nbits` bits of `w` spell by the table's bits: none, since no row gives any (log entry 2). -/
def decodeTableWord (nbits w : Nat) : Option Instr :=
  match nbits, w with
  | _, _ => none

end Sys2Proof
end

