-- ==== Sys2Proof/Config.lean ====
section
/-! DEFINITION. What an implementation fixes and the spec leaves open: free values, opaque to every proof. -/

namespace Sys2Proof

/-- The free value number `n`: a value the spec leaves open (log entry 10). -/
opaque Config.freeValue : Nat → Nat

/-- The injection command u_i that a characterization code stands for in the observer (R111 gives the code and not
u_i; log entry 13). -/
opaque Config.charCommand : Nat → Int

/-- The factory stamp compensation of a port mode, as the word of TMR_Pn_COMP (R73 names it and gives no value; log
entry 14). -/
opaque Config.stampComp : Nat → W

/-- The start address of a vendor routine whose microwords the spec does not print (R182; log entry 16). -/
opaque Config.routineStart : Nat → Nat

/-- The signature of an image copy verifies under the fused key of a slot: SHA-384 and ECDSA on P-384 over its bytes,
and the fused key hashes (R509; log entry 25). -/
opaque Config.imageSigned : List Byte → Nat → Bool

/-- The boot ROM by byte address in its 128 KiB, whose content the spec does not give (R515; log entry 26). -/
opaque Config.romByte : Nat → Byte

/-- Vorcel's JEP106 manufacturer identity, from fuses (R623; log entry 7). -/
opaque Config.jepIdentity : Nat → BitVec 11

/-- The fused identifiers of the PCIe function: 0 Vorcel's vendor ID, 1 the subsystem vendor ID, 2 the subsystem ID (R541; log
entry 109). -/
opaque Config.pcieFuse : Nat → BitVec 16

/-- Byte `i` of the content of a snapshot record (R344 gives its length and no layout; log entry 20). -/
opaque Config.snapByte : Nat → Nat → Byte

/-- The addresses of the GT32's registers that bring-up and the link test use (R314, R322, R325; log entry 107): 0 the identity
word, 1 hold timeout and fallback, 2 ARM, 3 TEST, 4 the downlink count of a link test. -/
opaque Config.tileAddr : Nat → W

/-- The word that gives a GT32 its hold timeout and its fallback choice, and the words written for ARM (2) and TEST (3) (R322,
R325; log entry 107). -/
opaque Config.tileConfig : Nat → Nat → W
opaque Config.tileOrder : Nat → W

end Sys2Proof
end

