-- ==== Sys2Proof/Machine/State.lean ====
section
/-! DEFINITION. The state of the machine: the blocks of the device, its registers and memory, and the queue of the
commands that wait; its value at reset; what a step may stop with. -/

namespace Sys2Proof.Machine

/-- The device, all but the queue of waiting commands. -/
structure Chip where
  /-- Every register that differs from its reset value, by BAR0 address. -/
  regs : List (Nat × W)
  /-- Register writes that wait for their E, oldest first. -/
  deferred : List Deferred
  /-- The data of the last register or memory read, and the response of the last access (0 OK, 1 DECERR, 2 SLVERR; R530). -/
  readData : W
  readResp : Nat
  /-- MODEL FIELD: how many free values have been taken (the assumption log says so). -/
  free : Nat
  tmr : Tmr
  att : Att
  twn : Twn
  ldg : Ldg
  glb : Glb
  topo : Option Topo
  /-- LPDDR6, by byte address from 0 (R532). -/
  ddr : List (Nat × Byte)
  svp : Svp
  txs : Txs
  pcie : Pcie
  lpe : Lpe
  ars : Ars
  prg : Prg
  doc : Doc
  cur : Cur
  ngl : Ngl
  cns : Cns
  vit : Vit
  pdm : Pdm
  aux : Aux
  xbr : Xbr
  smb : Smb
  jtag : Jtag
  deriving DecidableEq, Repr

/-- The device at reset. -/
def Chip.reset : Chip :=
  { regs := [], deferred := [], readData := 0, readResp := 0, free := 0,
    tmr := Tmr.reset, att := Att.reset, twn := Twn.reset, ldg := Ldg.reset, glb := Glb.reset, topo := none, ddr := [],
    svp := Svp.reset, txs := Txs.reset, pcie := Pcie.reset, lpe := Lpe.reset,
    ars := Ars.reset, prg := Prg.reset, doc := Doc.reset, cur := Cur.reset, ngl := Ngl.reset,
    cns := Cns.reset, vit := Vit.reset, pdm := Pdm.reset, aux := Aux.reset, xbr := Xbr.reset, smb := Smb.reset,
    jtag := Jtag.reset }

/-- The machine: the device, whether a reset holds it, and the commands that wait, first in, first out. -/
structure State where
  pending : List Instr
  /-- The COLD or PIN reset that is held (R500). -/
  held : Option Hold
  chip : Chip
  deriving DecidableEq, Repr

/-- The machine right after reset: every register at its reset value, no command waiting. -/
def State.reset : State := { pending := [], held := none, chip := Chip.reset }

/-- The faults of a step. The spec gives the block no fault that stops it: a bad access ends with an error
response, a bad block ends in the safe state, and both are next states. -/
inductive Fault where
  /-- Raised by no command. Safe: no run ends in it. -/
  | none
  deriving DecidableEq, Repr

/-- The refusals of a step. -/
inductive Refusal where
  /-- Raised by an arm of exec whose command has no meaning yet. Safe: nothing is claimed of it. -/
  | notModelled (mnemonic : String)
  deriving DecidableEq, Repr

end Sys2Proof.Machine
end

