-- ==== Sys2Proof/Machine/Ops.lean ====
section
/-! DEFINITION. The named operations every block is written in: reading and writing registers and fields (R7, R13,
R14), raising an event (R465), the effective period E of a state change (R57, R343, R345, R347), a free value. -/

namespace Sys2Proof.Machine

/-- The value of the register at a BAR0 address. -/
def rd (c : Chip) (a : Nat) : W := mapRead resetReg c.regs a

/-- Give the register at a BAR0 address a value. -/
def wr (c : Chip) (a : Nat) (v : W) : Chip := { c with regs := mapWrite resetReg c.regs a v }

/-- The value of a register as a number. -/
def rn (c : Chip) (a : Nat) : Nat := (rd c a).toNat

/-- The value of a field (R7). -/
def fld (c : Chip) (f : Fld) : Nat := bitsAt (rd c f.addr).toNat f.lo f.width

/-- A one-bit field as a truth value. -/
def fldB (c : Chip) (f : Fld) : Bool := fld c f == 1

/-- A word with one field replaced; a value too wide for the field is cut off. -/
def putField (w : W) (lo width v : Nat) : W :=
  toW (w.toNat - bitsAt w.toNat lo width * 2 ^ lo + fieldAt v lo width)

/-- Give a field a value. -/
def setFld (c : Chip) (f : Fld) (v : Nat) : Chip := wr c f.addr (putField (rd c f.addr) f.lo f.width v)

/-- Set a one-bit field. -/
def setB (c : Chip) (f : Fld) (b : Bool) : Chip := setFld c f (b2n b)

/-- A 64-bit value held in two registers. -/
def rd64 (c : Chip) (lo hi : Nat) : BitVec 64 := BitVec.ofNat 64 (rn c lo + 2 ^ 32 * rn c hi)

/-- Write a 64-bit value into two registers. -/
def wr64 (c : Chip) (lo hi : Nat) (v : BitVec 64) : Chip :=
  wr (wr c lo (toW (v.toNat % 2 ^ 32))) hi (toW (v.toNat / 2 ^ 32))

/-- Advance a saturating count register by `n`. -/
def countUp (c : Chip) (a n : Nat) : Chip := wr c a (satAdd (rd c a) n)

/-- Advance a saturating count field by `n`. -/
def countFld (c : Chip) (f : Fld) (n : Nat) : Chip := setFld c f (min (2 ^ f.width - 1) (fld c f + n))

/-- The period number P (R21). -/
def period (c : Chip) : W := c.tmr.period

/-- The present boundary has reached period number `e` (R63). -/
def due (c : Chip) (e : W) : Bool := pReached c.tmr.period e

/-- Network time (R54); in the compatible mode T of R70. -/
def netTime (c : Chip) : BitVec 64 :=
  if fldB c TMR_CTL_clk_mode then
    c.tmr.cxFree + rd64 c TMR_CX_OFS_LO TMR_CX_OFS_HI
      + BitVec.ofInt 64 ((sext 64 (c.tmr.cxFree - c.tmr.cxRef).toNat * wInt c.tmr.cxRho) / 2 ^ 40)
  else c.tmr.timeNs

/-- One occurrence of source `src` in the present period (R465). -/
def raise (c : Chip) (src : Nat) (data : W) : Chip :=
  { c with att := { c.att with
      raised := c.att.raised ++ [⟨src, data, false, c.tmr.period, netTime c⟩] } }

/-- Source `src` was last raised under a limit fewer than 1,024 periods ago. -/
def limited (c : Chip) (src : Nat) : Bool :=
  match mapGet c.att.limit src with
  | none => false
  | some p => decide ((c.tmr.period - p).toNat < 1024)

/-- An occurrence raised at most once per 1,024 periods (R161, R210 and the other event tables). -/
def raiseLimited (c : Chip) (src : Nat) (data : W) : Chip :=
  if limited c src then c
  else raise { c with att := { c.att with limit := mapPut c.att.limit src c.tmr.period } } src data

/-- The safe state is in force (R481, R483). -/
def safe (c : Chip) : Bool := fldB c ATT_CTL_grave

/-- The device performs the keeper's duties of R348: a single device always, a twin while it holds the loan, no device
in the safe state (R481). -/
def acting (c : Chip) : Bool := !safe c && (!fldB c TWN_CTL_twin_en || fldB c TWN_STAT_acting)

/-- The ledger writes one record: it takes the next sequence, waits for the ring, and for export where exports are
enabled (R450, R453, R457). -/
def ledgerPut (c : Chip) (typ cls : Nat) (inj real : Bool) (source : Nat) (body : List Byte) : Chip :=
  let r : LRec := ⟨rd c LDG_SEQ, typ, cls, inj, real, acting c, source, body, c.tmr.period⟩
  wr { c with ldg := { c.ldg with
      waiting := c.ldg.waiting ++ [r],
      exports := if fldB c LDG_CTL_export_en then c.ldg.exports ++ [r] else c.ldg.exports } }
    LDG_SEQ (rd c LDG_SEQ + 1)

/-- The TIME_STEP record of R451: both times of the boundary, P and step_cnt. -/
def ledgerStep (c : Chip) (before after : BitVec 64) : Chip :=
  ledgerPut c 3 0 false false 0xFFFF
    (beBytes 8 before.toNat ++ beBytes 8 after.toNat ++ beBytes 4 c.tmr.period.toNat
      ++ beBytes 4 (fld c TMR_STAT_step_cnt * 2 ^ 24))

/-- A DETAIL record of R451: the network time and 16 bytes of detail. -/
def ledgerDetail (c : Chip) (src : Nat) (detail : List Byte) : Chip :=
  ledgerPut c 5 0 false false src (beBytes 8 (netTime c).toNat ++ (detail ++ List.replicate 16 0).take 16)

/-- Take a free value: a value the spec leaves open; nothing constrains it. -/
def freeValue (c : Chip) : Nat := Config.freeValue c.free

/-- The device after a free value is taken. -/
def freeNext (c : Chip) : Chip := { c with free := c.free + 1 }

/-- The device may take writes of state-change registers: a device outside a pair always, a twin only while it
acts (R347). -/
def holdsLoan (c : Chip) : Bool := !fldB c TWN_CTL_twin_en || fldB c TWN_STAT_acting

/-- The present write comes from the journal: its keeper has judged it (R344). -/
def fromJournal (c : Chip) : Bool := c.twn.applying && !c.twn.late

/-- Q of R345: the journal bytes queued ahead of a record of `n` bytes, the record included. -/
def journalQueued (c : Chip) (n : Nat) : Nat := rn c TWN_JQUEUE + n

/-- The later of two period numbers (R63). -/
def laterP (a b : W) : W := if pReached a b then a else b

/-- The effective period of a change whose record has `n` bytes: P + 2 on a single device (R57), the E of R345 on
the keeper of a pair; while a journalled record is applied, the present period (R344). -/
def effOf (c : Chip) (n : Nat) : W :=
  if c.twn.applying then c.tmr.period
  else if c.twn.paired then
    laterP (laterP (c.tmr.period + toW (fld c TWN_CTL_lead)) c.twn.lastE)
      (c.tmr.period + 8 + toW (ceilDiv (journalQueued c n) 1536))
  else c.tmr.period + 2

/-- The effective period of a register write. -/
def effE (c : Chip) : W := effOf c 24

/-- The keeper queues one record with effective period `e` (R344, R345). -/
def journalAppend (c : Chip) (e : W) (p : JPayload) : Chip :=
  if c.twn.paired && !c.twn.applying then
    let n := 16 + p.size
    let r : JRec := ⟨c.twn.seq, e, p, c.twn.source, c.tmr.period⟩
    wr { c with twn := { c.twn with seq := c.twn.seq + 1, lastE := laterP e c.twn.lastE, out := c.twn.out ++ [r] } }
      TWN_JQUEUE (toW (rn c TWN_JQUEUE + n))
  else c

/-- The journal queue of 4 MiB has no room for a record of `n` bytes (R345). -/
def journalFull (c : Chip) (n : Nat) : Bool :=
  c.twn.paired && !c.twn.applying && decide (4194304 < rn c TWN_JQUEUE + n)

/-- A change of the Curator or the Conservator with a record of `n` bytes waits: the journal has no room for it (R345), or the
twin has no verdict yet (R352). -/
def changeWaits (c : Chip) (n : Nat) : Bool := journalFull c n || (!c.twn.applying && fld c TWN_STAT_state == 4)

/-- A state change journalled as payload `p` (R343, R345, R347, R352): a twin without the loan refuses it; a full
journal and a twin without its verdict refuse it; otherwise the keeper journals it and `k` takes it with its effective
period. `data` is the address an event names. -/
def stateChangeAs (c : Chip) (data : W) (p : JPayload) (k : Chip → W → Chip) : Chip :=
  if !c.twn.applying && !holdsLoan c then
    raiseLimited (setB c TWN_STAT_not_keeper true) srcTWN_NOT_KEEPER data
  else if changeWaits c (16 + p.size) then
    raise (setB c TWN_STAT_j_refused true) srcTWN_J_REFUSED data
  else
    let e := effOf c (16 + p.size)
    k (journalAppend c e p) e

/-- A state change is accepted here, as far as the loan decides (R347), or comes from the journal (R344). -/
def mayChange (c : Chip) : Bool := c.twn.applying || holdsLoan c

/-- A write of a state-change register (R343). -/
def stateChange (c : Chip) (addr : Nat) (v : W) (k : Chip → W → Chip) : Chip :=
  stateChangeAs c (toW addr) (.reg addr v) k

/-- `f` acts as the named source of state changes (R344). -/
def withSource (c : Chip) (n : Nat) (f : Chip → Chip) : Chip :=
  let d := f { c with twn := { c.twn with source := n } }
  { d with twn := { d.twn with source := c.twn.source } }

/-- The value last written to a state-change register: in a pair it may still wait for its E (R343). -/
def written (c : Chip) (addr : Nat) : W :=
  match (c.deferred.filter (fun d => d.addr == addr)).getLast? with
  | some d => d.value
  | none => rd c addr

/-- Leave a register write to its effective period: PERIOD_BOUNDARY takes it there. -/
def defer (c : Chip) (e : W) (addr : Nat) (v : W) : Chip :=
  { c with deferred := c.deferred ++ [⟨e, addr, v⟩] }

/-- The first waiting write of a register whose E has come, and the device without it. -/
def takeDeferred (c : Chip) (addr : Nat) : Option (W × Chip) :=
  match c.deferred.find? (fun d => d.addr == addr && due c d.e) with
  | some d => some (d.value, { c with deferred := c.deferred.erase d })
  | none => none

/-- A write of the register waits for its E. -/
def isDeferred (c : Chip) (addr : Nat) : Bool := c.deferred.any (fun d => d.addr == addr)

/-- The power domain that holds the register at a BAR0 address (R557), none where it is always reachable. -/
def domainOf (addr : Nat) : Option Nat :=
  let b := addr / 0x100000
  if b = 8 || b = 9 || (b = 10 && addr < 0xA40000) then some ((addr - 0x800000) / 0x10000)
  else if b = 11 && addr < 0xB90000 then some (36 + (addr - 0xB00000) / 0x18000)
  else if b = 13 then some (42 + min 3 ((addr - 0xD00000) / 0x1000))
  else if b = 16 then some 46
  else if b = 6 then some 50
  else if b = 12 then some 51
  else if b = 14 || b = 15 then some 52
  else if b = 20 then some 53
  else none

/-- Domain `d` is ON (R559). -/
def domainOn (c : Chip) (d : Nat) : Bool := fld c (PDM_DOM_state d) == 1

/-- The device halted at boot (R508). -/
def bootHalted (c : Chip) : Bool := fld c GLB_BOOT_STAT_state == 2

/-- RWL registers are locked from image commit on (R14, R511). -/
def locked (c : Chip) : Bool := fld c GLB_BOOT_STAT_state == 1

/-- The register at a BAR0 address can be reached: in a boot halt only the GLB and NVL blocks can (R508), and a
block whose power domain is not ON cannot (R559). -/
def reachable (c : Chip) (addr : Nat) : Bool :=
  (!bootHalted c || addr < 0x100000 || addr / 0x100000 == 2)
    && (match domainOf addr with
        | none => true
        | some d => domainOn c d)

/-- The status bits of an error kind: 1 DECERR, 2 SLVERR, 3 TIMEOUT, 4 MASTER_RESET, 5 ACCESS, 6 TARGET_OFF, 7 PARITY (R552). -/
def errorBits (kind : Nat) : Nat :=
  if kind = 1 then 2 ^ 31 else if kind = 2 || kind = 6 then 2 ^ 30 else if kind = 3 then 2 ^ 30 + 2 ^ 29
  else if kind = 4 then 2 ^ 28 else if kind = 5 then 2 ^ 27 else 2 ^ 30 + 2 ^ 26

/-- The event of an error kind (R530, R531, R556); an access refused under R12 raises its own. -/
def errorEvent (c : Chip) (kind master beats : Nat) : Chip :=
  if kind = 1 then raiseLimited c srcXBR_DECERR 0
  else if kind = 2 || kind = 6 then raiseLimited c srcXBR_SLVERR 0
  else if kind = 3 then raise c srcXBR_TIMEOUT 0
  else if kind = 4 then raise c srcXBR_MASTER_RESET (toW (master * 2 ^ 24 + beats))
  else if kind = 7 then raise c srcXBR_PARITY 0
  else c

/-- The matrix meets an error: its status bit, its count, its event, and its record where XBR_STAT was clear (R530, R552). -/
def matrixError (c : Chip) (kind master target : Nat) (write : Bool) (addr beats : Nat) : Chip :=
  let clear := rn c XBR_STAT = 0
  let c := wr c XBR_STAT (toW (rn c XBR_STAT ||| errorBits kind))
  let c := if kind = 4 || kind = 5 then c else countUp c XBR_ERR_CNT 1
  let c := if clear then
      wr (wr (wr c XBR_ERR_INFO
        (toW (2 ^ 31 + kind * 2 ^ 28 + master % 16 * 2 ^ 24 + target % 16 * 2 ^ 20 + b2n write * 2 ^ 19 + beats % 1024)))
        XBR_ERR_ADDR_LO (toW (addr % 2 ^ 32))) XBR_ERR_ADDR_HI (toW (addr / 2 ^ 32 % 256))
    else c
  errorEvent c kind master beats

/-- The peripheral bus or window that serves a BAR0 address (R524); 15: none. -/
def busTarget (a : Nat) : Nat :=
  let b := a / 0x100000
  if b < 4 then 4
  else if b < 8 || b = 12 || (b = 10 && 0xA80000 ≤ a) then 5
  else if b < 12 then 6
  else if b < 25 then 7
  else if b = 32 && a < 0x2020000 then 8
  else if b = 48 || (b = 49 && a < 0x3200000) then 9
  else 15

/-- The matrix address of a BAR0 address (R522). -/
def regAddress (a : Nat) : Nat := 2 ^ 36 + a

/-- The master that brings the writes of a source (R344, R523). -/
def sourceMaster (n : Nat) : Nat := if n = 1 then 2 else if n = 2 then 0 else if n = 4 then 7 else 1

/-- An access of a block whose power domain is not ON: SLVERR, recorded (R530, R559). -/
def targetOff (c : Chip) (m : Nat) (write : Bool) (addr : Nat) : Chip :=
  if bootHalted c || c.twn.applying then c else matrixError c 6 m (busTarget addr) write (regAddress addr) 0

/-- A write row of the table: it acts where its register can be reached (R508, R559). -/
def hostWrite (c : Chip) (addr : Nat) (k : Chip → Chip) : Chip :=
  if reachable c addr then k c else targetOff c (sourceMaster c.twn.source) true addr

/-- A state-change write row of the table. -/
def hostChange (c : Chip) (addr : Nat) (v : W) (k : Chip → W → Chip) : Chip :=
  hostWrite c addr (fun c => stateChange c addr v k)

/-- A state-change write row whose register judges it at the write: `judge` gives the device after a refusal. A refused
write is no state change and is not journalled (R343, R345). -/
def hostChangeIf (c : Chip) (addr : Nat) (v : W) (judge : Chip → Option Chip) (k : Chip → W → Chip) : Chip :=
  hostWrite c addr (fun c =>
    match if mayChange c then judge c else none with
    | some d => d
    | none => stateChange c addr v k)

/-- A state-change write with no effective period of its own: taken at once on a single device, at its journalled E in a
pair (R343). -/
def hostChangeNow (c : Chip) (addr : Nat) (v : W) (k : Chip → Chip) : Chip :=
  hostChange c addr v (fun c e => if c.twn.paired && !c.twn.applying then defer c e addr v else k c)

/-- A read answers `v` with OK. -/
def answer (c : Chip) (v : W) : Chip := { c with readData := v, readResp := 0 }

/-- A read row of the table: an unreachable register answers SLVERR, in a boot halt all ones (R508, R530, R559). -/
def hostRead (c : Chip) (addr : Nat) (k : Chip → Chip) : Chip :=
  if reachable c addr then k c
  else if bootHalted c then { c with readData := toW (2 ^ 32 - 1), readResp := 0 }
  else { targetOff c (sourceMaster c.twn.source) false addr with readData := 0, readResp := 2 }

/-- A command's effect on the device answers the next state; the queue of waiting commands stays. While a COLD or PIN
reset is held, the device does nothing (R499, R500). -/
def run (s : State) (f : Chip → Chip) : Host.Outcome State Fault Refusal :=
  .next { s with chip := if s.held.isSome then s.chip else f s.chip }

end Sys2Proof.Machine
end

