-- ==== Sys2Proof/Machine/Rom.lean ====
section
/-! DEFINITION. The ROM tables of the galleries and the Conservator (R95, R373, R630), from their defining formulas. -/

namespace Sys2Proof.Machine

/-- Entries 0 to 63 of cosRom. -/
def cosRom0 : List Nat := [
  0, 201, 402, 603, 804, 1005, 1206, 1407, 1608, 1809, 2011, 2212, 2413, 2614, 2815, 3016,
  3217, 3418, 3619, 3820, 4021, 4222, 4423, 4623, 4824, 5025, 5226, 5427, 5628, 5829, 6030, 6231,
  6431, 6632, 6833, 7034, 7235, 7435, 7636, 7837, 8037, 8238, 8439, 8639, 8840, 9041, 9241, 9442,
  9642, 9843, 10043, 10244, 10444, 10645, 10845, 11045, 11246, 11446, 11646, 11846, 12047, 12247, 12447, 12647]

/-- Entries 64 to 127 of cosRom. -/
def cosRom1 : List Nat := [
  12847, 13047, 13247, 13447, 13647, 13847, 14047, 14247, 14447, 14647, 14847, 15046, 15246, 15446, 15645, 15845,
  16045, 16244, 16444, 16643, 16843, 17042, 17241, 17441, 17640, 17839, 18038, 18237, 18436, 18635, 18834, 19033,
  19232, 19431, 19630, 19829, 20027, 20226, 20425, 20623, 20822, 21020, 21219, 21417, 21615, 21814, 22012, 22210,
  22408, 22606, 22804, 23002, 23200, 23398, 23596, 23794, 23991, 24189, 24387, 24584, 24782, 24979, 25176, 25374]

/-- Entries 128 to 191 of cosRom. -/
def cosRom2 : List Nat := [
  25571, 25768, 25965, 26162, 26359, 26556, 26753, 26950, 27147, 27343, 27540, 27736, 27933, 28129, 28326, 28522,
  28718, 28914, 29110, 29306, 29502, 29698, 29894, 30090, 30285, 30481, 30676, 30872, 31067, 31262, 31458, 31653,
  31848, 32043, 32238, 32433, 32627, 32822, 33017, 33211, 33406, 33600, 33794, 33989, 34183, 34377, 34571, 34765,
  34959, 35152, 35346, 35540, 35733, 35926, 36120, 36313, 36506, 36699, 36892, 37085, 37278, 37471, 37663, 37856]

/-- Entries 192 to 255 of cosRom. -/
def cosRom3 : List Nat := [
  38048, 38241, 38433, 38625, 38817, 39009, 39201, 39393, 39585, 39776, 39968, 40159, 40350, 40542, 40733, 40924,
  41115, 41306, 41497, 41687, 41878, 42068, 42259, 42449, 42639, 42829, 43019, 43209, 43399, 43588, 43778, 43967,
  44157, 44346, 44535, 44724, 44913, 45102, 45291, 45479, 45668, 45856, 46045, 46233, 46421, 46609, 46797, 46985,
  47172, 47360, 47547, 47734, 47922, 48109, 48296, 48483, 48669, 48856, 49042, 49229, 49415, 49601, 49787, 49973]

/-- Entries 256 to 319 of cosRom. -/
def cosRom4 : List Nat := [
  50159, 50345, 50530, 50716, 50901, 51086, 51271, 51456, 51641, 51826, 52011, 52195, 52380, 52564, 52748, 52932,
  53116, 53300, 53483, 53667, 53850, 54033, 54216, 54399, 54582, 54765, 54948, 55130, 55312, 55495, 55677, 55859,
  56041, 56222, 56404, 56585, 56766, 56948, 57129, 57310, 57490, 57671, 57851, 58032, 58212, 58392, 58572, 58752,
  58931, 59111, 59290, 59470, 59649, 59828, 60007, 60185, 60364, 60542, 60720, 60899, 61076, 61254, 61432, 61610]

/-- Entries 320 to 383 of cosRom. -/
def cosRom5 : List Nat := [
  61787, 61964, 62141, 62318, 62495, 62672, 62848, 63025, 63201, 63377, 63553, 63729, 63904, 64080, 64255, 64430,
  64605, 64780, 64955, 65129, 65304, 65478, 65652, 65826, 66000, 66173, 66347, 66520, 66693, 66866, 67039, 67212,
  67384, 67557, 67729, 67901, 68073, 68245, 68416, 68588, 68759, 68930, 69101, 69272, 69442, 69613, 69783, 69953,
  70123, 70293, 70463, 70632, 70801, 70970, 71139, 71308, 71477, 71645, 71814, 71982, 72150, 72317, 72485, 72652]

/-- Entries 384 to 447 of cosRom. -/
def cosRom6 : List Nat := [
  72820, 72987, 73154, 73320, 73487, 73653, 73820, 73986, 74152, 74317, 74483, 74648, 74813, 74978, 75143, 75308,
  75472, 75637, 75801, 75965, 76128, 76292, 76455, 76619, 76782, 76945, 77107, 77270, 77432, 77594, 77756, 77918,
  78079, 78241, 78402, 78563, 78724, 78885, 79045, 79205, 79366, 79525, 79685, 79845, 80004, 80163, 80322, 80481,
  80640, 80798, 80956, 81114, 81272, 81430, 81587, 81745, 81902, 82058, 82215, 82372, 82528, 82684, 82840, 82996]

/-- Entries 448 to 511 of cosRom. -/
def cosRom7 : List Nat := [
  83151, 83307, 83462, 83617, 83771, 83926, 84080, 84234, 84388, 84542, 84696, 84849, 85002, 85155, 85308, 85460,
  85613, 85765, 85917, 86069, 86220, 86371, 86523, 86673, 86824, 86975, 87125, 87275, 87425, 87575, 87724, 87873,
  88023, 88171, 88320, 88469, 88617, 88765, 88913, 89060, 89208, 89355, 89502, 89649, 89795, 89942, 90088, 90234,
  90379, 90525, 90670, 90815, 90960, 91105, 91249, 91394, 91538, 91681, 91825, 91968, 92111, 92254, 92397, 92540]

/-- Entries 512 to 575 of cosRom. -/
def cosRom8 : List Nat := [
  92682, 92824, 92966, 93107, 93249, 93390, 93531, 93672, 93812, 93953, 94093, 94233, 94372, 94512, 94651, 94790,
  94929, 95067, 95205, 95343, 95481, 95619, 95756, 95894, 96030, 96167, 96304, 96440, 96576, 96712, 96847, 96983,
  97118, 97253, 97388, 97522, 97656, 97790, 97924, 98058, 98191, 98324, 98457, 98589, 98722, 98854, 98986, 99117,
  99249, 99380, 99511, 99642, 99772, 99903, 100033, 100162, 100292, 100421, 100550, 100679, 100808, 100936, 101064, 101192]

/-- Entries 576 to 639 of cosRom. -/
def cosRom9 : List Nat := [
  101320, 101447, 101575, 101702, 101828, 101955, 102081, 102207, 102333, 102458, 102584, 102709, 102833, 102958, 103082, 103206,
  103330, 103454, 103577, 103700, 103823, 103946, 104068, 104190, 104312, 104434, 104555, 104676, 104797, 104918, 105038, 105158,
  105278, 105398, 105517, 105636, 105755, 105874, 105992, 106110, 106228, 106346, 106463, 106580, 106697, 106814, 106930, 107047,
  107162, 107278, 107394, 107509, 107624, 107738, 107853, 107967, 108081, 108194, 108308, 108421, 108534, 108646, 108758, 108871]

/-- Entries 640 to 703 of cosRom. -/
def cosRom10 : List Nat := [
  108982, 109094, 109205, 109316, 109427, 109538, 109648, 109758, 109868, 109977, 110087, 110196, 110304, 110413, 110521, 110629,
  110737, 110844, 110951, 111058, 111165, 111271, 111377, 111483, 111589, 111694, 111799, 111904, 112009, 112113, 112217, 112321,
  112424, 112527, 112630, 112733, 112836, 112938, 113040, 113141, 113243, 113344, 113445, 113545, 113645, 113746, 113845, 113945,
  114044, 114143, 114242, 114340, 114438, 114536, 114634, 114731, 114828, 114925, 115022, 115118, 115214, 115310, 115405, 115500]

/-- Entries 704 to 767 of cosRom. -/
def cosRom11 : List Nat := [
  115595, 115690, 115784, 115878, 115972, 116066, 116159, 116252, 116345, 116437, 116529, 116621, 116713, 116804, 116895, 116986,
  117077, 117167, 117257, 117347, 117436, 117525, 117614, 117703, 117791, 117879, 117967, 118054, 118142, 118229, 118315, 118402,
  118488, 118574, 118659, 118744, 118829, 118914, 118998, 119083, 119166, 119250, 119333, 119416, 119499, 119582, 119664, 119746,
  119827, 119909, 119990, 120070, 120151, 120231, 120311, 120391, 120470, 120549, 120628, 120706, 120785, 120863, 120940, 121018]

/-- Entries 768 to 831 of cosRom. -/
def cosRom12 : List Nat := [
  121095, 121172, 121248, 121324, 121400, 121476, 121551, 121626, 121701, 121776, 121850, 121924, 121997, 122071, 122144, 122217,
  122289, 122361, 122433, 122505, 122576, 122647, 122718, 122789, 122859, 122929, 122998, 123068, 123137, 123206, 123274, 123342,
  123410, 123478, 123545, 123612, 123679, 123745, 123811, 123877, 123943, 124008, 124073, 124138, 124202, 124266, 124330, 124393,
  124457, 124519, 124582, 124644, 124706, 124768, 124830, 124891, 124952, 125012, 125073, 125133, 125192, 125252, 125311, 125370]

/-- Entries 832 to 895 of cosRom. -/
def cosRom13 : List Nat := [
  125428, 125486, 125544, 125602, 125659, 125716, 125773, 125829, 125886, 125941, 125997, 126052, 126107, 126162, 126216, 126270,
  126324, 126378, 126431, 126484, 126536, 126588, 126640, 126692, 126744, 126795, 126845, 126896, 126946, 126996, 127046, 127095,
  127144, 127193, 127241, 127289, 127337, 127384, 127432, 127479, 127525, 127571, 127617, 127663, 127709, 127754, 127799, 127843,
  127887, 127931, 127975, 128018, 128061, 128104, 128146, 128188, 128230, 128272, 128313, 128354, 128394, 128434, 128474, 128514]

/-- Entries 896 to 959 of cosRom. -/
def cosRom14 : List Nat := [
  128553, 128593, 128631, 128670, 128708, 128746, 128783, 128821, 128858, 128894, 128931, 128967, 129002, 129038, 129073, 129108,
  129142, 129177, 129210, 129244, 129277, 129310, 129343, 129375, 129408, 129439, 129471, 129502, 129533, 129563, 129594, 129624,
  129653, 129683, 129712, 129740, 129769, 129797, 129825, 129852, 129880, 129906, 129933, 129959, 129985, 130011, 130036, 130062,
  130086, 130111, 130135, 130159, 130182, 130206, 130228, 130251, 130273, 130295, 130317, 130338, 130360, 130380, 130401, 130421]

/-- Entries 960 to 1023 of cosRom. -/
def cosRom15 : List Nat := [
  130441, 130460, 130480, 130499, 130517, 130536, 130554, 130571, 130589, 130606, 130623, 130639, 130655, 130671, 130687, 130702,
  130717, 130731, 130746, 130760, 130774, 130787, 130800, 130813, 130825, 130838, 130849, 130861, 130872, 130883, 130894, 130904,
  130914, 130924, 130933, 130942, 130951, 130960, 130968, 130976, 130983, 130990, 130997, 131004, 131010, 131016, 131022, 131027,
  131033, 131037, 131042, 131046, 131050, 131053, 131057, 131060, 131062, 131064, 131066, 131068, 131070, 131071, 131071, 131072]

/-- The quarter-wave table of R95: entry i holds sin(π i / 2,048) in UQ1.17. -/
def cosRom : List Nat :=
  cosRom0 ++ cosRom1 ++ cosRom2 ++ cosRom3 ++ cosRom4 ++ cosRom5 ++ cosRom6 ++ cosRom7 ++ cosRom8 ++ cosRom9 ++ cosRom10 ++ cosRom11 ++ cosRom12 ++ cosRom13 ++ cosRom14 ++ cosRom15

/-- Entries 0 to 63 of ditherRom. -/
def ditherRom0 : List Nat := [
  25, 75, 126, 176, 226, 276, 327, 377, 427, 478, 528, 578, 628, 679, 729, 779,
  829, 880, 930, 980, 1030, 1081, 1131, 1181, 1231, 1281, 1332, 1382, 1432, 1482, 1533, 1583,
  1633, 1683, 1733, 1784, 1834, 1884, 1934, 1984, 2034, 2085, 2135, 2185, 2235, 2285, 2335, 2385,
  2436, 2486, 2536, 2586, 2636, 2686, 2736, 2786, 2836, 2887, 2937, 2987, 3037, 3087, 3137, 3187]

/-- Entries 64 to 127 of ditherRom. -/
def ditherRom1 : List Nat := [
  3237, 3287, 3337, 3387, 3437, 3487, 3537, 3587, 3637, 3687, 3737, 3787, 3836, 3886, 3936, 3986,
  4036, 4086, 4136, 4186, 4236, 4285, 4335, 4385, 4435, 4485, 4534, 4584, 4634, 4684, 4733, 4783,
  4833, 4883, 4932, 4982, 5032, 5081, 5131, 5181, 5230, 5280, 5329, 5379, 5429, 5478, 5528, 5577,
  5627, 5676, 5726, 5775, 5825, 5874, 5924, 5973, 6023, 6072, 6121, 6171, 6220, 6269, 6319, 6368]

/-- Entries 128 to 191 of ditherRom. -/
def ditherRom2 : List Nat := [
  6417, 6467, 6516, 6565, 6614, 6664, 6713, 6762, 6811, 6860, 6910, 6959, 7008, 7057, 7106, 7155,
  7204, 7253, 7302, 7351, 7400, 7449, 7498, 7547, 7596, 7645, 7694, 7742, 7791, 7840, 7889, 7938,
  7986, 8035, 8084, 8133, 8181, 8230, 8279, 8327, 8376, 8424, 8473, 8521, 8570, 8618, 8667, 8715,
  8764, 8812, 8861, 8909, 8957, 9006, 9054, 9102, 9151, 9199, 9247, 9295, 9344, 9392, 9440, 9488]

/-- Entries 192 to 255 of ditherRom. -/
def ditherRom3 : List Nat := [
  9536, 9584, 9632, 9680, 9728, 9776, 9824, 9872, 9920, 9968, 10016, 10064, 10112, 10159, 10207, 10255,
  10303, 10350, 10398, 10446, 10493, 10541, 10588, 10636, 10684, 10731, 10779, 10826, 10873, 10921, 10968, 11016,
  11063, 11110, 11157, 11205, 11252, 11299, 11346, 11393, 11441, 11488, 11535, 11582, 11629, 11676, 11723, 11770,
  11816, 11863, 11910, 11957, 12004, 12051, 12097, 12144, 12191, 12237, 12284, 12330, 12377, 12424, 12470, 12517]

/-- Entries 256 to 319 of ditherRom. -/
def ditherRom4 : List Nat := [
  12563, 12609, 12656, 12702, 12748, 12795, 12841, 12887, 12933, 12980, 13026, 13072, 13118, 13164, 13210, 13256,
  13302, 13348, 13394, 13440, 13485, 13531, 13577, 13623, 13668, 13714, 13760, 13805, 13851, 13896, 13942, 13987,
  14033, 14078, 14124, 14169, 14214, 14260, 14305, 14350, 14395, 14440, 14485, 14530, 14576, 14621, 14665, 14710,
  14755, 14800, 14845, 14890, 14935, 14979, 15024, 15069, 15113, 15158, 15202, 15247, 15291, 15336, 15380, 15425]

/-- Entries 320 to 383 of ditherRom. -/
def ditherRom5 : List Nat := [
  15469, 15513, 15557, 15602, 15646, 15690, 15734, 15778, 15822, 15866, 15910, 15954, 15998, 16042, 16086, 16129,
  16173, 16217, 16261, 16304, 16348, 16391, 16435, 16478, 16522, 16565, 16608, 16652, 16695, 16738, 16781, 16825,
  16868, 16911, 16954, 16997, 17040, 17083, 17126, 17168, 17211, 17254, 17297, 17339, 17382, 17425, 17467, 17510,
  17552, 17594, 17637, 17679, 17721, 17764, 17806, 17848, 17890, 17932, 17974, 18016, 18058, 18100, 18142, 18184]

/-- Entries 384 to 447 of ditherRom. -/
def ditherRom6 : List Nat := [
  18226, 18268, 18309, 18351, 18393, 18434, 18476, 18517, 18559, 18600, 18641, 18683, 18724, 18765, 18806, 18848,
  18889, 18930, 18971, 19012, 19053, 19093, 19134, 19175, 19216, 19256, 19297, 19338, 19378, 19419, 19459, 19500,
  19540, 19580, 19621, 19661, 19701, 19741, 19781, 19821, 19861, 19901, 19941, 19981, 20021, 20061, 20100, 20140,
  20180, 20219, 20259, 20298, 20338, 20377, 20416, 20456, 20495, 20534, 20573, 20612, 20652, 20691, 20729, 20768]

/-- Entries 448 to 511 of ditherRom. -/
def ditherRom7 : List Nat := [
  20807, 20846, 20885, 20923, 20962, 21001, 21039, 21078, 21116, 21155, 21193, 21231, 21270, 21308, 21346, 21384,
  21422, 21460, 21498, 21536, 21574, 21612, 21649, 21687, 21725, 21762, 21800, 21838, 21875, 21912, 21950, 21987,
  22024, 22061, 22099, 22136, 22173, 22210, 22247, 22284, 22320, 22357, 22394, 22431, 22467, 22504, 22540, 22577,
  22613, 22649, 22686, 22722, 22758, 22794, 22830, 22866, 22902, 22938, 22974, 23010, 23046, 23081, 23117, 23153]

/-- Entries 512 to 575 of ditherRom. -/
def ditherRom8 : List Nat := [
  23188, 23224, 23259, 23295, 23330, 23365, 23400, 23436, 23471, 23506, 23541, 23576, 23610, 23645, 23680, 23715,
  23749, 23784, 23819, 23853, 23888, 23922, 23956, 23991, 24025, 24059, 24093, 24127, 24161, 24195, 24229, 24263,
  24296, 24330, 24364, 24397, 24431, 24464, 24498, 24531, 24564, 24598, 24631, 24664, 24697, 24730, 24763, 24796,
  24829, 24861, 24894, 24927, 24959, 24992, 25024, 25057, 25089, 25121, 25154, 25186, 25218, 25250, 25282, 25314]

/-- Entries 576 to 639 of ditherRom. -/
def ditherRom9 : List Nat := [
  25346, 25378, 25410, 25441, 25473, 25504, 25536, 25567, 25599, 25630, 25662, 25693, 25724, 25755, 25786, 25817,
  25848, 25879, 25910, 25940, 25971, 26002, 26032, 26063, 26093, 26124, 26154, 26184, 26214, 26244, 26275, 26305,
  26334, 26364, 26394, 26424, 26454, 26483, 26513, 26542, 26572, 26601, 26630, 26660, 26689, 26718, 26747, 26776,
  26805, 26834, 26863, 26892, 26920, 26949, 26977, 27006, 27034, 27063, 27091, 27119, 27147, 27176, 27204, 27232]

/-- Entries 640 to 703 of ditherRom. -/
def ditherRom10 : List Nat := [
  27260, 27287, 27315, 27343, 27371, 27398, 27426, 27453, 27481, 27508, 27535, 27562, 27590, 27617, 27644, 27671,
  27698, 27724, 27751, 27778, 27805, 27831, 27858, 27884, 27910, 27937, 27963, 27989, 28015, 28041, 28067, 28093,
  28119, 28145, 28170, 28196, 28222, 28247, 28273, 28298, 28323, 28349, 28374, 28399, 28424, 28449, 28474, 28499,
  28523, 28548, 28573, 28597, 28622, 28646, 28671, 28695, 28719, 28743, 28767, 28791, 28815, 28839, 28863, 28887]

/-- Entries 704 to 767 of ditherRom. -/
def ditherRom11 : List Nat := [
  28911, 28934, 28958, 28981, 29005, 29028, 29051, 29075, 29098, 29121, 29144, 29167, 29190, 29212, 29235, 29258,
  29280, 29303, 29325, 29348, 29370, 29392, 29415, 29437, 29459, 29481, 29503, 29525, 29546, 29568, 29590, 29611,
  29633, 29654, 29675, 29697, 29718, 29739, 29760, 29781, 29802, 29823, 29844, 29864, 29885, 29906, 29926, 29947,
  29967, 29987, 30008, 30028, 30048, 30068, 30088, 30108, 30127, 30147, 30167, 30186, 30206, 30225, 30245, 30264]

/-- Entries 768 to 831 of ditherRom. -/
def ditherRom12 : List Nat := [
  30283, 30302, 30322, 30341, 30360, 30378, 30397, 30416, 30435, 30453, 30472, 30490, 30509, 30527, 30545, 30563,
  30581, 30599, 30617, 30635, 30653, 30671, 30688, 30706, 30723, 30741, 30758, 30776, 30793, 30810, 30827, 30844,
  30861, 30878, 30895, 30911, 30928, 30945, 30961, 30977, 30994, 31010, 31026, 31042, 31059, 31074, 31090, 31106,
  31122, 31138, 31153, 31169, 31184, 31200, 31215, 31230, 31246, 31261, 31276, 31291, 31305, 31320, 31335, 31350]

/-- Entries 832 to 895 of ditherRom. -/
def ditherRom13 : List Nat := [
  31364, 31379, 31393, 31408, 31422, 31436, 31450, 31464, 31478, 31492, 31506, 31520, 31534, 31547, 31561, 31574,
  31588, 31601, 31614, 31627, 31641, 31654, 31667, 31679, 31692, 31705, 31718, 31730, 31743, 31755, 31768, 31780,
  31792, 31804, 31816, 31828, 31840, 31852, 31864, 31875, 31887, 31899, 31910, 31921, 31933, 31944, 31955, 31966,
  31977, 31988, 31999, 32010, 32021, 32031, 32042, 32052, 32063, 32073, 32083, 32093, 32104, 32114, 32124, 32133]

/-- Entries 896 to 959 of ditherRom. -/
def ditherRom14 : List Nat := [
  32143, 32153, 32163, 32172, 32182, 32191, 32201, 32210, 32219, 32228, 32237, 32246, 32255, 32264, 32273, 32281,
  32290, 32298, 32307, 32315, 32323, 32332, 32340, 32348, 32356, 32364, 32372, 32379, 32387, 32395, 32402, 32410,
  32417, 32424, 32432, 32439, 32446, 32453, 32460, 32467, 32473, 32480, 32487, 32493, 32500, 32506, 32512, 32518,
  32525, 32531, 32537, 32543, 32548, 32554, 32560, 32566, 32571, 32577, 32582, 32587, 32592, 32598, 32603, 32608]

/-- Entries 960 to 1023 of ditherRom. -/
def ditherRom15 : List Nat := [
  32613, 32618, 32622, 32627, 32632, 32636, 32641, 32645, 32649, 32654, 32658, 32662, 32666, 32670, 32674, 32677,
  32681, 32685, 32688, 32692, 32695, 32698, 32702, 32705, 32708, 32711, 32714, 32717, 32719, 32722, 32725, 32727,
  32730, 32732, 32734, 32737, 32739, 32741, 32743, 32745, 32747, 32748, 32750, 32752, 32753, 32755, 32756, 32758,
  32759, 32760, 32761, 32762, 32763, 32764, 32765, 32765, 32766, 32766, 32767, 32767, 32768, 32768, 32768, 32768]

/-- The sine table of R373: entry i holds sin(π (i + 0.5) / 2,048) in UQ1.15. -/
def ditherRom : List Nat :=
  ditherRom0 ++ ditherRom1 ++ ditherRom2 ++ ditherRom3 ++ ditherRom4 ++ ditherRom5 ++ ditherRom6 ++ ditherRom7 ++ ditherRom8 ++ ditherRom9 ++ ditherRom10 ++ ditherRom11 ++ ditherRom12 ++ ditherRom13 ++ ditherRom14 ++ ditherRom15

/-- Entry `i` of the quarter-wave table, i = 0–1,024; the end of the quarter wave is 1.0 (R95). -/
def cosEntry (i : Nat) : Int := if i < 1024 then ((nth 0 cosRom i : Nat) : Int) else 2 ^ 17

/-- Entry `i` of the reciprocal table of R630, i = 0–1,024: 1 / (1 + i / 1,024) in UQ1.17, rounded to nearest. -/
def recipEntry (i : Nat) : Int := ((2 ^ 28 + (1024 + i)) / (2 * (1024 + i)) : Nat)

/-- The sine of a 32-bit phase from the table of R373. -/
def ditherSine (psi : Nat) : Int :=
  let q := psi / 2 ^ 30 % 4
  let i := psi / 2 ^ 20 % 1024
  if q = 0 then ((nth 0 ditherRom i : Nat) : Int)
  else if q = 1 then ((nth 0 ditherRom (1023 - i) : Nat) : Int)
  else if q = 2 then -((nth 0 ditherRom i : Nat) : Int)
  else -((nth 0 ditherRom (1023 - i) : Nat) : Int)

/-- Entries 0 to 63 of trimRom. -/
def trimRom0 : List Nat := [
  0, 59008, 83457, 102221, 118045, 131989, 144598, 156197, 166995, 177139, 186736, 195867, 204593, 212965, 221022, 228798,
  236321, 243614, 250697, 257588, 264301, 270851, 277247, 283501, 289623, 295619, 301498, 307267, 312931, 318496, 323968, 329350,
  334647, 339864, 345004, 350069, 355064, 359992, 364854, 369654, 374394, 379076, 383703, 388276, 392798, 397269, 401692, 406068,
  410400, 414687, 418932, 423135, 427299, 431424, 435511, 439562, 443576, 447557, 451503, 455416, 459298, 463148, 466968, 470758]

/-- Entries 64 to 127 of trimRom. -/
def trimRom1 : List Nat := [
  474519, 478251, 481956, 485634, 489286, 492912, 496512, 500088, 503639, 507167, 510672, 514153, 517613, 521051, 524467, 527863,
  531238, 534592, 537927, 541243, 544539, 547817, 551076, 554317, 557541, 560747, 563936, 567108, 570263, 573402, 576526, 579633,
  582725, 585801, 588863, 591910, 594942, 597959, 600963, 603953, 606929, 609891, 612841, 615777, 618700, 621610, 624508, 627393,
  630267, 633128, 635977, 638815, 641640, 644455, 647258, 650050, 652831, 655602, 658361, 661110, 663849, 666577, 669295, 672003]

/-- Entries 128 to 191 of trimRom. -/
def trimRom2 : List Nat := [
  674701, 677389, 680068, 682737, 685396, 688046, 690687, 693319, 695941, 698555, 701160, 703756, 706344, 708923, 711493, 714055,
  716609, 719155, 721692, 724222, 726743, 729257, 731763, 734261, 736752, 739235, 741711, 744180, 746641, 749095, 751541, 753981,
  756413, 758839, 761258, 763670, 766075, 768474, 770866, 773251, 775630, 778002, 780368, 782728, 785081, 787429, 789770, 792105,
  794434, 796757, 799074, 801385, 803690, 805990, 808283, 810572, 812854, 815131, 817402, 819668, 821929, 824184, 826433, 828678]

/-- Entries 192 to 255 of trimRom. -/
def trimRom3 : List Nat := [
  830917, 833151, 835380, 837603, 839822, 842035, 844244, 846447, 848645, 850839, 853028, 855212, 857391, 859565, 861735, 863900,
  866061, 868216, 870368, 872514, 874656, 876794, 878927, 881056, 883181, 885301, 887417, 889529, 891636, 893739, 895838, 897933,
  900024, 902110, 904193, 906272, 908346, 910417, 912483, 914546, 916605, 918660, 920711, 922758, 924802, 926842, 928878, 930910,
  932938, 934963, 936985, 939002, 941016, 943027, 945034, 947037, 949037, 951034, 953027, 955017, 957003, 958986, 960965, 962941]

/-- Entries 256 to 319 of trimRom. -/
def trimRom4 : List Nat := [
  964914, 966884, 968850, 970813, 972773, 974729, 976682, 978633, 980580, 982523, 984464, 986402, 988336, 990268, 992196, 994122,
  996044, 997963, 999880, 1001793, 1003704, 1005611, 1007516, 1009418, 1011317, 1013213, 1015106, 1016997, 1018884, 1020769, 1022651, 1024531,
  1026407, 1028281, 1030152, 1032021, 1033887, 1035750, 1037610, 1039468, 1041323, 1043176, 1045026, 1046874, 1048719, 1050561, 1052401, 1054238,
  1056073, 1057905, 1059735, 1061563, 1063388, 1065210, 1067030, 1068848, 1070663, 1072476, 1074287, 1076095, 1077900, 1079704, 1081505, 1083304]

/-- Entries 320 to 383 of trimRom. -/
def trimRom5 : List Nat := [
  1085101, 1086895, 1088687, 1090477, 1092264, 1094049, 1095832, 1097613, 1099392, 1101168, 1102942, 1104714, 1106484, 1108252, 1110018, 1111781,
  1113542, 1115302, 1117059, 1118814, 1120567, 1122318, 1124067, 1125814, 1127558, 1129301, 1131042, 1132781, 1134518, 1136252, 1137985, 1139716,
  1141445, 1143172, 1144897, 1146620, 1148341, 1150060, 1151778, 1153493, 1155207, 1156919, 1158628, 1160336, 1162043, 1163747, 1165449, 1167150,
  1168849, 1170546, 1172241, 1173935, 1175627, 1177317, 1179005, 1180691, 1182376, 1184059, 1185740, 1187420, 1189097, 1190774, 1192448, 1194121]

/-- Entries 384 to 447 of trimRom. -/
def trimRom6 : List Nat := [
  1195792, 1197461, 1199129, 1200795, 1202459, 1204122, 1205783, 1207443, 1209100, 1210757, 1212411, 1214064, 1215716, 1217366, 1219014, 1220661,
  1222306, 1223949, 1225591, 1227232, 1228871, 1230508, 1232144, 1233779, 1235412, 1237043, 1238673, 1240301, 1241928, 1243554, 1245178, 1246800,
  1248421, 1250041, 1251659, 1253276, 1254891, 1256505, 1258117, 1259728, 1261338, 1262946, 1264553, 1266158, 1267762, 1269365, 1270966, 1272566,
  1274165, 1275762, 1277358, 1278953, 1280546, 1282138, 1283728, 1285317, 1286905, 1288492, 1290077, 1291661, 1293244, 1294825, 1296405, 1297984]

/-- Entries 448 to 511 of trimRom. -/
def trimRom7 : List Nat := [
  1299562, 1301138, 1302713, 1304287, 1305859, 1307430, 1309001, 1310569, 1312137, 1313703, 1315268, 1316832, 1318395, 1319956, 1321517, 1323076,
  1324634, 1326190, 1327746, 1329300, 1330853, 1332406, 1333956, 1335506, 1337055, 1338602, 1340148, 1341693, 1343237, 1344780, 1346322, 1347862,
  1349402, 1350940, 1352478, 1354014, 1355549, 1357083, 1358616, 1360147, 1361678, 1363208, 1364736, 1366264, 1367790, 1369316, 1370840, 1372363,
  1373885, 1375406, 1376927, 1378446, 1379964, 1381481, 1382997, 1384512, 1386026, 1387539, 1389051, 1390562, 1392071, 1393580, 1395088, 1396595]

/-- Entries 512 to 575 of trimRom. -/
def trimRom8 : List Nat := [
  1398101, 1399606, 1401110, 1402613, 1404116, 1405617, 1407117, 1408616, 1410114, 1411612, 1413108, 1414603, 1416098, 1417591, 1419084, 1420576,
  1422066, 1423556, 1425045, 1426533, 1428020, 1429506, 1430992, 1432476, 1433960, 1435442, 1436924, 1438405, 1439885, 1441364, 1442842, 1444319,
  1445796, 1447271, 1448746, 1450220, 1451693, 1453165, 1454636, 1456107, 1457576, 1459045, 1460513, 1461980, 1463446, 1464912, 1466376, 1467840,
  1469303, 1470765, 1472226, 1473687, 1475147, 1476606, 1478064, 1479521, 1480978, 1482433, 1483888, 1485343, 1486796, 1488249, 1489700, 1491151]

/-- Entries 576 to 639 of trimRom. -/
def trimRom9 : List Nat := [
  1492602, 1494051, 1495500, 1496948, 1498395, 1499842, 1501288, 1502733, 1504177, 1505620, 1507063, 1508505, 1509947, 1511387, 1512827, 1514266,
  1515704, 1517142, 1518579, 1520015, 1521451, 1522886, 1524320, 1525753, 1527186, 1528618, 1530049, 1531480, 1532910, 1534339, 1535768, 1537195,
  1538623, 1540049, 1541475, 1542900, 1544325, 1545748, 1547172, 1548594, 1550016, 1551437, 1552858, 1554277, 1555697, 1557115, 1558533, 1559950,
  1561367, 1562783, 1564198, 1565613, 1567027, 1568441, 1569854, 1571266, 1572677, 1574088, 1575499, 1576909, 1578318, 1579726, 1581134, 1582542]

/-- Entries 640 to 703 of trimRom. -/
def trimRom10 : List Nat := [
  1583948, 1585354, 1586760, 1588165, 1589569, 1590973, 1592376, 1593779, 1595181, 1596582, 1597983, 1599383, 1600783, 1602182, 1603581, 1604979,
  1606376, 1607773, 1609169, 1610565, 1611960, 1613355, 1614749, 1616142, 1617535, 1618928, 1620320, 1621711, 1623102, 1624492, 1625882, 1627271,
  1628660, 1630048, 1631435, 1632823, 1634209, 1635595, 1636981, 1638366, 1639750, 1641134, 1642518, 1643901, 1645283, 1646665, 1648046, 1649427,
  1650808, 1652188, 1653567, 1654946, 1656325, 1657703, 1659080, 1660457, 1661834, 1663210, 1664586, 1665961, 1667335, 1668710, 1670083, 1671456]

/-- Entries 704 to 767 of trimRom. -/
def trimRom11 : List Nat := [
  1672829, 1674202, 1675573, 1676945, 1678316, 1679686, 1681056, 1682426, 1683795, 1685164, 1686532, 1687899, 1689267, 1690634, 1692000, 1693366,
  1694732, 1696097, 1697462, 1698826, 1700190, 1701553, 1702916, 1704279, 1705641, 1707003, 1708364, 1709725, 1711085, 1712445, 1713805, 1715164,
  1716523, 1717881, 1719240, 1720597, 1721954, 1723311, 1724668, 1726024, 1727379, 1728735, 1730089, 1731444, 1732798, 1734152, 1735505, 1736858,
  1738211, 1739563, 1740915, 1742266, 1743617, 1744968, 1746318, 1747668, 1749018, 1750367, 1751716, 1753064, 1754412, 1755760, 1757108, 1758455]

/-- Entries 768 to 831 of trimRom. -/
def trimRom12 : List Nat := [
  1759802, 1761148, 1762494, 1763840, 1765185, 1766530, 1767875, 1769219, 1770563, 1771907, 1773250, 1774593, 1775935, 1777278, 1778620, 1779961,
  1781303, 1782644, 1783984, 1785325, 1786665, 1788004, 1789344, 1790683, 1792022, 1793360, 1794698, 1796036, 1797374, 1798711, 1800048, 1801384,
  1802721, 1804057, 1805392, 1806728, 1808063, 1809398, 1810732, 1812066, 1813400, 1814734, 1816067, 1817401, 1818733, 1820066, 1821398, 1822730,
  1824062, 1825393, 1826724, 1828055, 1829386, 1830716, 1832046, 1833376, 1834706, 1836035, 1837364, 1838693, 1840021, 1841349, 1842677, 1844005]

/-- Entries 832 to 895 of trimRom. -/
def trimRom13 : List Nat := [
  1845332, 1846660, 1847987, 1849313, 1850640, 1851966, 1853292, 1854618, 1855943, 1857268, 1858593, 1859918, 1861243, 1862567, 1863891, 1865215,
  1866539, 1867862, 1869185, 1870508, 1871831, 1873153, 1874475, 1875798, 1877119, 1878441, 1879762, 1881083, 1882404, 1883725, 1885046, 1886366,
  1887686, 1889006, 1890326, 1891645, 1892965, 1894284, 1895603, 1896921, 1898240, 1899558, 1900876, 1902194, 1903512, 1904829, 1906147, 1907464,
  1908781, 1910098, 1911414, 1912731, 1914047, 1915363, 1916679, 1917995, 1919310, 1920625, 1921941, 1923256, 1924571, 1925885, 1927200, 1928514]

/-- Entries 896 to 959 of trimRom. -/
def trimRom14 : List Nat := [
  1929828, 1931142, 1932456, 1933770, 1935083, 1936397, 1937710, 1939023, 1940336, 1941649, 1942961, 1944274, 1945586, 1946898, 1948210, 1949522,
  1950834, 1952146, 1953457, 1954768, 1956080, 1957391, 1958701, 1960012, 1961323, 1962633, 1963944, 1965254, 1966564, 1967874, 1969184, 1970494,
  1971803, 1973113, 1974422, 1975732, 1977041, 1978350, 1979659, 1980967, 1982276, 1983585, 1984893, 1986202, 1987510, 1988818, 1990126, 1991434,
  1992742, 1994050, 1995357, 1996665, 1997972, 1999280, 2000587, 2001894, 2003201, 2004508, 2005815, 2007122, 2008428, 2009735, 2011042, 2012348]

/-- Entries 960 to 1023 of trimRom. -/
def trimRom15 : List Nat := [
  2013655, 2014961, 2016267, 2017573, 2018879, 2020185, 2021491, 2022797, 2024103, 2025409, 2026714, 2028020, 2029325, 2030631, 2031936, 2033242,
  2034547, 2035852, 2037157, 2038462, 2039767, 2041072, 2042377, 2043682, 2044987, 2046292, 2047596, 2048901, 2050206, 2051510, 2052815, 2054119,
  2055424, 2056728, 2058032, 2059337, 2060641, 2061945, 2063250, 2064554, 2065858, 2067162, 2068466, 2069770, 2071074, 2072378, 2073682, 2074986,
  2076290, 2077594, 2078898, 2080202, 2081506, 2082810, 2084114, 2085418, 2086722, 2088025, 2089329, 2090633, 2091937, 2093241, 2094544, 2095848]

/-- The trim table of R149: entry i holds (2/π) arcsin(√(i / 2,048)) in units of 2^-22, for the trims 0 to 0.5 (log entry 12). -/
def trimRom : List Nat :=
  trimRom0 ++ trimRom1 ++ trimRom2 ++ trimRom3 ++ trimRom4 ++ trimRom5 ++ trimRom6 ++ trimRom7
    ++ trimRom8 ++ trimRom9 ++ trimRom10 ++ trimRom11 ++ trimRom12 ++ trimRom13 ++ trimRom14 ++ trimRom15

/-- Entry `i` of the trim table; entry 1,024 is the end point 0.5, which a trim of 0.5 stands for. -/
def trimEntry (i : Nat) : Int := trimRom.getD i (2 ^ 21)

end Sys2Proof.Machine
end

