-- ==== Sys2Proof/Machine/Law.lean ====
section
/-! DEFINITION. The arithmetic of the loop law (R87–R124, R630). Q2.22 values are integers in units of 2^-22. -/

namespace Sys2Proof.Machine

/-- `x` / 2^s rounded to nearest, ties toward plus infinity (R92). -/
def roundShift (x : Int) (s : Nat) : Int := if s = 0 then x else (x + 2 ^ (s - 1)) / 2 ^ s

/-- `x` × 2^-s for a signed shift, rounded where it drops bits. -/
def scaleBy (x : Int) (s : Int) : Int := if s ≤ 0 then x * 2 ^ (-s).toNat else roundShift x s.toNat

/-- A value held in the range of Q2.22 (R93). -/
def sat22 (x : Int) : Int := clampI (-(2 ^ 23)) (2 ^ 23 - 1) x

/-- A value lies outside the range of Q2.22: its saturation counts one (R93). -/
def over22 (x : Int) : Nat := if x < -(2 ^ 23) || 2 ^ 23 - 1 < x then 1 else 0

/-! ### Law sets and parameters -/

/-- The bits of word `i` of the law window that are not reserved (R13, R113–R117). -/
def lawMask (i : Nat) : Nat :=
  let o := i % 512
  if 0x8000 ≤ i then (if i < 0x8400 then 2 ^ 18 - 1 else 0)
  else if o < 256 then (if o % 64 < 59 then 2 ^ 18 - 1 else if o % 64 = 59 then 2 ^ 20 - 1 else 0)
  else if o < 288 then 2 ^ 28 - 1
  else if o = 288 then 2 ^ 24 - 1
  else if o = 289 then 2 ^ 18 - 1
  else if o = 290 then 2 ^ 32 - 1 else 0

/-- A word of the law window as it is stored: reserved bits are zero. -/
def lawStored (i : Nat) (v : W) : W := v &&& toW (lawMask i)

/-- A shaping entry as it is stored: bits 31:28 are reserved (R118). -/
def shapeStored (v : W) : W := v &&& toW (2 ^ 28 - 1)

/-- The bits of word `i` of a cell's parameters that hold a format; the others are zero (R119). -/
def paramMask (i : Nat) : Nat :=
  if i = 0 then 2 ^ 24 - 1
  else if i = 10 then 0x3FFF3FFF
  else if 11 ≤ i && i ≤ 13 then 2 ^ 32 - 1
  else if i = 15 then 0xFF000003 else 2 ^ 18 - 1

/-- Word `i` of a cell's parameters as a bank holds it (R119). -/
def paramStored (i : Nat) (v : W) : W := v &&& toW (paramMask (i % 16))

/-- Word `i` of the law window (R112). -/
def lawWord (c : Chip) (i : Nat) : W := mapRead (fun _ => 0) c.lpe.law i

/-- The first word of law slot `slot` of class `cls` (R112, R113). -/
def slotBase (cls slot : Nat) : Nat := cls * 512 + slot * 64

/-- Coefficient word `i` of a slot: an 18-bit two's-complement integer (R91, R114). -/
def coef (c : Chip) (base i : Nat) : Int := sext 18 (lawWord c (base + i)).toNat

/-- Exponent `k` of a slot: 0 A, 1 B, 2 L, 3 F, 4 G (R115). -/
def slotExp (c : Chip) (base k : Nat) : Nat := wbits (lawWord c (base + 59)) (4 * k) 4

/-- Word `i` of a class header (R116). -/
def classWord (c : Chip) (cls i : Nat) : W := lawWord c (cls * 512 + 0x120 + i)

def trLen (c : Chip) (cls : Nat) : Nat := wbits (classWord c cls 0) 16 8
def holdCap (c : Chip) (cls : Nat) : Nat := wbits (classWord c cls 0) 8 8
def leakThr (c : Chip) (cls : Nat) : Nat := wbits (classWord c cls 0) 0 8
def darkMin (c : Chip) (cls : Nat) : Nat := wbits (classWord c cls 1) 4 14
def expW (c : Chip) (cls : Nat) : Nat := wbits (classWord c cls 1) 0 4

/-- Entry `i` of the innovation weight table, Q8.10 (R117). -/
def weightEntry (c : Chip) (i : Nat) : Int := sext 18 (lawWord c (0x8000 + i % 1024)).toNat

/-- Entry `m` of the working shaping table of a class (R118). -/
def shapeWord (c : Chip) (cls m : Nat) : W := mapRead (fun _ => 0) c.lpe.shaping (cls * 32 + m)

/-- α of a shaping entry, UQ1.17, at most 1.0 (R118). -/
def alphaOf (w : W) : Nat := min (wbits w 10 18) (2 ^ 17)

/-- cap_mult of a shaping entry, at most 512 (R118). -/
def capMultOf (w : W) : Nat := min (wbits w 0 10) 512

/-- Gallery of a physical cell (R17). -/
def galleryOf (cell : Nat) : Nat := cell / 128

/-- Bank B of the cell's gallery is active (R120, R131). -/
def bankBActive (c : Chip) (g : Nat) : Bool := fldB c (LPE_LAW_STAT_active_bank g)

/-- Word `i` of a cell's parameters in the active bank (R119, R120). -/
def param (c : Chip) (cell i : Nat) : W :=
  mapRead (fun _ => 0) (if bankBActive c (galleryOf cell) then c.lpe.bankB else c.lpe.bankA) (16 * cell + i)

/-- The parameters of one cell as the gallery reads them (R119). -/
structure Par where
  phaseOffset : Int
  heatScale : Int
  heatRecip : Int
  injRatio : Int
  injLin : Int
  injCurv : Int
  tapRatio : Int
  extFloor : Int
  halfContrast : Int
  darkBar : Int
  darkCross : Int
  nbW : List Int
  injSpan : Int
  valid : Bool
  deriving DecidableEq, Repr

/-- The active parameters of a cell (R119). -/
def params (c : Chip) (cell : Nat) : Par :=
  let w := fun i => (param c cell i).toNat
  { phaseOffset := sext 24 (w 0), heatScale := bitsAt (w 1) 0 18, heatRecip := bitsAt (w 2) 0 18,
    injRatio := sext 18 (w 4), injLin := sext 18 (w 5), injCurv := sext 18 (w 6), tapRatio := bitsAt (w 7) 0 18,
    extFloor := bitsAt (w 8) 0 18, halfContrast := bitsAt (w 9) 0 18, darkBar := bitsAt (w 10) 0 14,
    darkCross := bitsAt (w 10) 16 14,
    nbW := [sext 16 (w 11), sext 16 (w 11 / 2 ^ 16), sext 16 (w 12), sext 16 (w 12 / 2 ^ 16), sext 16 (w 13),
      sext 16 (w 13 / 2 ^ 16)],
    injSpan := sext 18 (w 14), valid := wbit (param c cell 15) 0 }

/-! ### The computation -/

/-- 1/σ of R630 for σ with 16 fractional bits, σ ≥ 1: r with 17 fractional bits and the exponent e of σ. -/
def recipSigma (sigma : Nat) : Int × Int :=
  let n := sigma.log2
  let frac := sigma - 2 ^ n
  let i := frac * 1024 / 2 ^ n
  let f := frac * 1024 % 2 ^ n
  (roundShift (recipEntry i * 2 ^ n + (recipEntry (i + 1) - recipEntry i) * f) n, (n : Int) - 16)

/-- t_b of R630: b′ × r × 2^-e rounded to Q2.22. -/
def ratioB (b : Int) (r : Int × Int) : Int := scaleBy (b * r.1) (r.2 - 5)

/-- t_c of R630: c′, with 16 fractional bits, × r × 2^-e rounded to Q2.22. -/
def ratioC (cc : Int) (r : Int × Int) : Int := scaleBy (cc * r.1) (r.2 + 11)

/-- φ̂ of R88, reduced modulo 2.0 into −1.0 to 1.0 (R94). -/
def phiHat (p : Par) (x : Obs) : Int :=
  sext 23 (twos 23 (p.phaseOffset + roundShift (p.heatScale * (x.x2 + x.x3 + x.x4 + x.x5)) 12))

/-- cos(πφ̂) of R95, rounded to Q2.22 (R630). -/
def cosPi (phi : Int) : Int :=
  let a := phi.natAbs
  let neg := decide (2 ^ 21 < a)
  let b := if neg then a - 2 ^ 21 else 2 ^ 21 - a
  let i := b / 2 ^ 11
  let v : Int := cosEntry i * 2 ^ 11 + (cosEntry (i + 1) - cosEntry i) * (b % 2 ^ 11 : Nat)
  roundShift (if neg then -v else v) 6

/-- t̂_b of R99. -/
def predictB (p : Par) (phi : Int) : Int :=
  (p.extFloor + p.halfContrast) * 2 ^ 4 - roundShift (p.halfContrast * cosPi phi) 18

/-- q of R100 at φ̂: the weight table interpolated, rounded to 22 fractional bits (R630). -/
def innovWeight (c : Chip) (phi : Int) : Int :=
  let k := (phi + 2 ^ 22).toNat
  let i := k / 2 ^ 13
  roundShift (weightEntry c i * 2 ^ 13 + (weightEntry c (i + 1) - weightEntry c i) * (k % 2 ^ 13 : Nat)) 1

/-- Element `r` of a product of a row-major matrix of `n` columns with a vector, 46 fractional bits (R92). -/
def rowSum (c : Chip) (base first n e : Nat) (r : Nat) (v : List Int) : Int :=
  ((List.range n).map (fun k => coef c base (first + n * r + k) * 2 ^ e * nth 0 v k)).sum

/-- x̂ as a vector. -/
def Obs.vec (x : Obs) : List Int := [x.x1, x.x2, x.x3, x.x4, x.x5]

/-- u as a vector: the heater code over 65,536 in FS and the clamped injection command (R89). -/
def Drive.vec (u : Drive) : List Int := [(u.heat : Int) * 64, u.ui]

/-- W · n of R101: the six weights on the neighbour codes, each over 65,536, 46 fractional bits. -/
def neighbourSum (p : Par) (ew : Nat) (n : List Nat) : Int :=
  ((List.range 6).map (fun k => nth 0 p.nbW k * 2 ^ ew * (((nth 0 n k : Nat) : Int) * 64))).sum

/-- State `r` of the observer update before saturation (R101): A and B of slot `ab`, L of slot `l`. -/
def obsRow (c : Chip) (ab l ew : Nat) (p : Par) (x : Obs) (u : Drive) (nu : List Int) (n : List Nat) (r : Nat) : Int :=
  roundShift (rowSum c ab 0 5 (slotExp c ab 0) r x.vec + rowSum c ab 25 2 (slotExp c ab 1) r u.vec
    + rowSum c l 35 2 (slotExp c l 2) r nu + (if r = 4 then neighbourSum p ew n else 0)) 24

/-- The observer update of R101. -/
def obsStep (c : Chip) (ab l ew : Nat) (p : Par) (x : Obs) (u : Drive) (nu : List Int) (n : List Nat) : Obs × Nat :=
  let y := fun r => obsRow c ab l ew p x u nu n r
  (⟨sat22 (y 0), sat22 (y 1), sat22 (y 2), sat22 (y 3), sat22 (y 4)⟩,
    over22 (y 0) + over22 (y 1) + over22 (y 2) + over22 (y 3) + over22 (y 4))

/-- v of R102 for row `r` before saturation, from c_t's row. -/
def lawRow (c : Chip) (fg : Nat) (ct : Int) (x : Obs) (u : Drive) (r : Nat) : Int :=
  roundShift (ct * 2 ^ 24 - rowSum c fg 45 5 (slotExp c fg 3) r x.vec - rowSum c fg 55 2 (slotExp c fg 4) r u.vec) 24

/-- φ_ref of a target in units of 2^-22 π rad: 2b + 1 for BAR and 2b for CROSS (R103). -/
def phiRef (state branch : Nat) : Int := (2 * (branch : Int) + (if state = 0 then 1 else 0)) * 2 ^ 22

/-- h_eq of R103 in units of 2^-22, unclamped: φ_ref with the trim's offset, less phase_offset, times heat_recip. -/
def heatEq (p : Par) (ref : Int) : Int := roundShift ((ref - p.phaseOffset) * p.heatRecip) 18

/-- h_eq × 65,536, rounded (R103). -/
def heatCode (h : Int) : Int := roundShift h 6

/-- c_t of R103 for row `r` before saturation: u_eq + F · x_eq + G · u_eq. -/
def ctRow (c : Chip) (fg : Nat) (h : Int) (r : Nat) : Int :=
  roundShift ((if r = 0 then h * 2 ^ 24 else 0) + rowSum c fg 45 5 (slotExp c fg 3) r [h, h, 0, 0, 0]
    + rowSum c fg 55 2 (slotExp c fg 4) r [h, 0]) 24

/-- The trim's phase offset δ of R149 in units of 2^-22 π rad: the table interpolated linearly on the five bits of |τ| below the
index, rounded, with the sign of τ (log entry 12). -/
def trimPhase (tau : Int) : Int :=
  let i := tau.natAbs / 32
  let v := roundShift (trimEntry i * 32 + (trimEntry (i + 1) - trimEntry i) * (tau.natAbs % 32 : Nat)) 5
  if tau < 0 then -v else v

/-- The heater code of R104 from v_h: rounded, capped, with the dither term. -/
def heaterOut (v cap dither : Int) : Int := clampI 0 65535 (clampI 0 cap (roundShift v 6) + dither)

/-- The heater ceiling of R104 for a multiple of the hold code. -/
def heaterCap (heq mult : Nat) : Nat := min 65535 (heq * mult / 2 ^ 7)

/-- u_i of R105: α × v_i, rounded, held between 0 and inj_span. -/
def injCommand (p : Par) (alpha : Nat) (v : Int) : Int :=
  let u := roundShift ((alpha : Int) * v) 17
  let span := p.injSpan * 2 ^ 5
  if 0 ≤ span then clampI 0 span u else clampI span 0 u

/-- The injection code of R105 from u_i. -/
def injOut (p : Par) (u : Int) : Nat :=
  let g := clampI 0 (2 ^ 22) (roundShift (u * p.injRatio) 10)
  let code := roundShift (g * (p.injLin * 2 ^ 22 + p.injCurv * g)) 39
  (clampI 0 4095 (roundShift code 10)).toNat

/-- The leakage test of R126: the unwanted tap against the wanted one. -/
def leakPass (thr : Nat) (state : Nat) (tb tc : Int) : Bool :=
  if state = 0 then decide (tc * 65536 ≤ thr * tb) else decide (tb * 65536 ≤ thr * tc)

/-- The dither phase ψ of the drive of boundary `b` for frequency index `k` (R373). -/
def ditherPhase (c : Chip) (k : Nat) (b : W) : Nat := rn c (CNS_FREQ k) * (b.toNat % 40000) % 2 ^ 32

/-- The frequency index of a physical cell (R372). -/
def freqIndex (cell : Nat) : Nat := (cell % 32 + 7 * (cell / 32)) % 32

/-- The dither term of amplitude `amp` for the drive of boundary `b` (R373). -/
def ditherTerm (c : Chip) (cell amp : Nat) (b : W) : Int :=
  ((amp : Int) * ditherSine (ditherPhase c (freqIndex cell) b) + 2 ^ 14) / 2 ^ 15

/-- A branch's h_eq code (R146, R281). -/
def branchCode (p : Par) (state b : Nat) : Int := heatCode (heatEq p (phiRef state b))

/-- How far a code lies outside 0–16,383. -/
def codeMiss (h : Int) : Nat := if h < 0 then (-h).toNat else if 16383 < h then (h - 16383).toNat else 0

/-- The lowest branch in range, else the branch nearest the range, the lower one on a tie (R146, R281). -/
def chooseBranch (p : Par) (state : Nat) : Nat :=
  let miss := (List.range 4).map (fun b => codeMiss (branchCode p state b))
  let best := miss.foldl min (nth 0 miss 0)
  (miss.findIdx? (· == best)).getD 0

end Sys2Proof.Machine
end

