-- ==== Sys2Proof/Machine/Numeric.lean ====
section
/-! DEFINITION. Real arithmetic. IEEE 754 binary64 with round-to-nearest for the estimates of the Conservator (R379). Fixed point
in units of 2^-96, with square roots, the cosine, the arc tangent, the logarithm and least squares, for its fits and the
thermistors (R393, R394, R587; log entries 24 and 60). -/

namespace Sys2Proof.Machine

/-- The integer square root: the bits from `k` − 1 down are tried on `r`. -/
def isqrtFrom : Nat → Nat → Nat → Nat
  | 0, _, r => r
  | k + 1, n, r => let t := r + 2 ^ k; isqrtFrom k n (if t * t ≤ n then t else r)

/-- The integer square root. -/
def isqrt (n : Nat) : Nat := isqrtFrom (n.log2 / 2 + 1) n 0

/-- 1.0 in fixed point. -/
def fxOne : Int := 2 ^ 96

/-- π in fixed point. -/
def fxPi : Int := 248902613312231085230521944622

def fxMul (a b : Int) : Int := a * b / 2 ^ 96
def fxDiv (a b : Int) : Int := a * 2 ^ 96 / b
def fxSqrt (a : Int) : Int := isqrt (a.toNat * 2 ^ 96)

/-- A fixed-point value as an integer of `frac` fractional bits, rounded to nearest. -/
def fxRound (frac : Nat) (x : Int) : Int := roundShift x (96 - frac)

/-- The terms of a power series whose next term is −`x2` / (n (n + 1)) of the last. -/
def seriesFrom : Nat → Int → Int → Int → Int → Int
  | 0, _, _, _, acc => acc
  | k + 1, n, x2, term, acc => let t := -(fxMul term x2) / (n * (n + 1)); seriesFrom k (n + 2) x2 t (acc + t)

/-- sin x and cos x for x between 0 and π/2. -/
def sinSeries (x : Int) : Int := seriesFrom 16 2 (fxMul x x) x x
def cosSeries (x : Int) : Int := seriesFrom 16 1 (fxMul x x) fxOne fxOne

/-- cos of an angle in units of 2^-40 π. -/
def fxCos (a : Int) : Int :=
  let u := (a % 2 ^ 41).toNat
  let x := fxPi * (u % 2 ^ 39 : Nat) / 2 ^ 40
  let q := u / 2 ^ 39
  if q = 0 then cosSeries x else if q = 1 then -sinSeries x else if q = 2 then -cosSeries x else sinSeries x

/-- sin of an angle in units of 2^-40 π. -/
def fxSin (a : Int) : Int := fxCos (a - 2 ^ 39)

/-- The largest `t`, by its bits from `k` − 1 down, that `ok` allows. -/
def largestFrom (ok : Nat → Bool) : Nat → Nat → Nat
  | 0, r => r
  | k + 1, r => largestFrom ok k (if ok (r + 2 ^ k) then r + 2 ^ k else r)

/-- arccos of a fixed-point value held in −1 to 1, in units of 2^-40 π. -/
def fxAcos (v : Int) : Int :=
  let v := clampI (-fxOne) fxOne v
  (largestFrom (fun t => decide (t ≤ 2 ^ 40) && decide (v ≤ fxCos t)) 41 0 : Nat)

/-- atan2(y, x) / π rounded to units of 2^-22, reduced into −1.0 to 1.0. -/
def fxAtan2 (y x : Int) : Int :=
  let ay := (y.natAbs : Int)
  let ax := (x.natAbs : Int)
  let t := largestFrom (fun t => decide (t ≤ 2 ^ 22)
    && decide (fxSin ((t : Int) * 2 ^ 17) * ax ≤ fxCos ((t : Int) * 2 ^ 17) * ay)) 23 0
  let m : Int := ((t + 1) / 2 : Nat)
  let a := if 0 ≤ x then m else 2 ^ 22 - m
  sext 23 (twos 23 (if 0 ≤ y then a else -a))

/-- The odd powers of y over their exponents from `n` on: `p` is the power before, `y2` is y squared. -/
def artanhFrom : Nat → Int → Int → Int → Int → Int
  | 0, _, _, _, acc => acc
  | k + 1, n, y2, p, acc => let q := fxMul p y2; artanhFrom k (n + 2) y2 q (acc + q / n)

/-- ln of a fixed-point value between 1 and 2, as 2 artanh ((x − 1) / (x + 1)). -/
def fxLnNear (x : Int) : Int :=
  let y := fxDiv (x - fxOne) (x + fxOne)
  2 * artanhFrom 33 3 (fxMul y y) y y

/-- ln of a positive fixed-point value. -/
def fxLn (x : Nat) : Int :=
  let k := x.log2
  let m := if 96 ≤ k then x / 2 ^ (k - 96) else x * 2 ^ (96 - k)
  fxLnNear m + ((k : Int) - 96) * fxLnNear (2 * fxOne)

/-- The determinant of a matrix of three rows. -/
def det3 (a b c d e f g h i : Int) : Int := a * (e * i - f * h) - b * (d * i - f * g) + c * (d * h - e * g)

/-- A linear least-squares fit of y = A + C cos x + D sin x. -/
structure SineFit where
  a : Int
  c : Int
  d : Int
  residual : Int
  deriving DecidableEq, Repr

/-- √(C² + D²) of a fit. -/
def SineFit.amp (f : SineFit) : Int := isqrt (f.c * f.c + f.d * f.d).toNat

/-- The fit through points of an angle in units of 2^-40 π and a fixed-point value; none where they do not determine
it. -/
def sineFit (l : List (Int × Int)) : Option SineFit :=
  let v := l.map (fun e => (fxCos e.1, fxSin e.1, e.2))
  let n : Int := (l.length : Int) * 2 ^ 96
  let sc := (v.map (fun e => e.1)).sum
  let ss := (v.map (fun e => e.2.1)).sum
  let scc := (v.map (fun e => fxMul e.1 e.1)).sum
  let scs := (v.map (fun e => fxMul e.1 e.2.1)).sum
  let sss := (v.map (fun e => fxMul e.2.1 e.2.1)).sum
  let sy := (v.map (fun e => e.2.2)).sum
  let syc := (v.map (fun e => fxMul e.2.2 e.1)).sum
  let sys := (v.map (fun e => fxMul e.2.2 e.2.1)).sum
  let syy := (v.map (fun e => fxMul e.2.2 e.2.2)).sum
  let det := det3 n sc ss sc scc scs ss scs sss
  if det = 0 then none
  else
    let a := fxDiv (det3 sy sc ss syc scc scs sys scs sss) det
    let c := fxDiv (det3 n sy ss sc syc scs ss sys sss) det
    let d := fxDiv (det3 n sc sy sc scc syc ss scs sys) det
    some ⟨a, c, d, syy - fxMul a sy - fxMul c syc - fxMul d sys⟩

/-! ### Binary64 (R379) -/

/-- A finite binary64 number m × 2^e, with at most 53 bits in m. The exponents of the estimates stay far from the ends of the
format. -/
structure Dbl where
  m : Int
  e : Int
  deriving DecidableEq, Repr

/-- m × 2^e rounded to nearest, ties to even. -/
def Dbl.near (m e : Int) : Dbl :=
  let k := m.natAbs.log2 + 1 - 53
  let q := m.natAbs / 2 ^ k
  let r := m.natAbs % 2 ^ k
  let up := decide (2 ^ k < 2 * r) || (decide (2 ^ k = 2 * r) && q % 2 == 1)
  let n : Int := (q + b2n up : Nat)
  ⟨if m < 0 then -n else n, e + (k : Int)⟩

def Dbl.add (a b : Dbl) : Dbl :=
  let e := min a.e b.e
  Dbl.near (a.m * 2 ^ (a.e - e).toNat + b.m * 2 ^ (b.e - e).toNat) e

def Dbl.neg (a : Dbl) : Dbl := ⟨-a.m, a.e⟩
def Dbl.sub (a b : Dbl) : Dbl := a.add b.neg
def Dbl.mul (a b : Dbl) : Dbl := Dbl.near (a.m * b.m) (a.e + b.e)

/-- A quotient. By zero it is infinite, here 2^200, beyond every bound; 0 by 0 is no number, here the free value `z`. -/
def Dbl.div (z a b : Dbl) : Dbl :=
  if b.m = 0 then (if a.m = 0 then z else ⟨if a.m < 0 then -1 else 1, 200⟩)
  else
    let k := b.m.natAbs.log2 + 57
    let n := a.m.natAbs * 2 ^ k
    let q : Int := (2 * (n / b.m.natAbs) + b2n (n % b.m.natAbs != 0) : Nat)
    Dbl.near (if decide (a.m < 0) != decide (b.m < 0) then -q else q) (a.e - b.e - (k : Int) - 1)

/-- A square root. -/
def Dbl.sqrt (a : Dbl) : Dbl :=
  if a.m ≤ 0 then ⟨0, 0⟩
  else
    let k : Nat := if a.e % 2 = 0 then 112 else 113
    let n := a.m.natAbs * 2 ^ k
    let r := isqrt n
    Dbl.near ((2 * r + b2n (r * r != n) : Nat) : Int) ((a.e - (k : Int)) / 2 - 1)

/-- √(a² + b²). -/
def Dbl.abs2 (a b : Dbl) : Dbl := ((a.mul a).add (b.mul b)).sqrt

/-- π as the nearest binary64 number. -/
def Dbl.pi : Dbl := ⟨7074237752028440, -51⟩

/-- A number in fixed point, in units of 2^-96. -/
def Dbl.toFx (a : Dbl) : Int :=
  if 0 ≤ a.e + 96 then a.m * 2 ^ (a.e + 96).toNat else a.m / 2 ^ (-(a.e + 96)).toNat

/-- A number rounded to nearest in units of 2^-`frac`, in fixed point. -/
def Dbl.toFormat (frac : Nat) (a : Dbl) : Int := fxRound frac a.toFx * 2 ^ (96 - frac)

end Sys2Proof.Machine
end

