-- ==== Sys2Proof/Machine/Gallery.lean ====
section
/-! DEFINITION. The galleries: how samples are judged, which computation a cell receives, the computation of one
period, settling and stuck marks (R87–R153). -/

namespace Sys2Proof.Machine

/-! ### Cells -/

/-- The cell of a physical index. -/
def getCell (c : Chip) (i : Nat) : Cell := mapRead (fun _ => Cell.reset) c.lpe.cells i

/-- Give a cell a state. -/
def putCell (c : Chip) (i : Nat) (x : Cell) : Chip :=
  { c with lpe := { c.lpe with cells := mapWrite (fun _ => Cell.reset) c.lpe.cells i x } }

/-- Pass one cell through `f`. -/
def modCell (c : Chip) (i : Nat) (f : Cell → Cell) : Chip := putCell c i (f (getCell c i))

/-- The map entry of a physical cell; none for an unmapped cell (R35). -/
def mapCellOf (c : Chip) (i : Nat) : Option MapCell :=
  match c.topo with
  | none => none
  | some t => mapGet t.cells i

/-- The cell is mapped and its active bank has valid = 1 (R119). -/
def cellLive (c : Chip) (i : Nat) : Bool := (mapCellOf c i).isSome && (params c i).valid

/-- The mapped cells in physical order, with their map entries. -/
def mappedCells (c : Chip) : List (Nat × MapCell) :=
  match c.topo with
  | none => []
  | some t => t.cells

/-- The mapped cells of a gallery. -/
def galleryCells (c : Chip) (g : Nat) : List (Nat × MapCell) := (mappedCells c).filter (fun e => galleryOf e.1 == g)

/-- The galleries. -/
def galleries : List Nat := List.range 36

/-- The physical state that stands for a logical state in a cell (R30). -/
def physState (mirror : Bool) (state : Nat) : Nat := if mirror && state < 2 then 1 - state else state

/-- The target of a cell in FORCE: branch × 4 + state, KEEP where nothing is listed (R163). -/
def forceOf (c : Chip) (i : Nat) : Nat := mapRead (fun _ => 2) c.lpe.force i

/-- The fabric mode epoch in force: 0 LIVE, 1 HOLD_ALL (R193). -/
def epochMode (c : Chip) : Nat := fld c DOC_EPOCH_STAT_epoch % 4

/-- Tile link `t` is in service (R324); in a pair if either twin's map for the boundary
two before the present one shows it (R343). -/
def linkInService (c : Chip) (t : Nat) : Bool :=
  if c.twn.paired then c.twn.mySvc.contains t || c.twn.peerSvc.contains t else fld c (NGL_L_STAT_state t) == 6

/-! ### Judging samples (R96–R98, R140–R143) -/

/-- A run of equal codes after one sample (R141): `code` the output's code where it is valid on other grounds,
`counting` whether the count runs. The second part: the output is newly declared frozen. -/
def frzStep (f : Frz) (code : Option Nat) (counting : Bool) : Frz × Bool :=
  match code with
  | none => (⟨if f.frozen then f.last else none, 0, f.frozen⟩, false)
  | some v =>
    if f.frozen then
      if f.last = some v then (f, false) else (⟨some v, 0, false⟩, false)
    else if counting && f.last == some v then
      if 63 ≤ f.count + 1 then (⟨some v, 63, true⟩, true) else (⟨some v, f.count + 1, false⟩, false)
    else (⟨some v, 0, false⟩, false)

/-- b′ of R96. -/
def darkB (p : Par) (s : Nat) : Int := max 0 ((s : Int) - p.darkBar)

/-- c′ of R96, with 16 fractional bits. -/
def darkC (p : Par) (s : Nat) : Int := max 0 (p.tapRatio * ((s : Int) - p.darkCross))

/-- σ of R96 with 16 fractional bits. -/
def sigmaOf (p : Par) (sb sc : Nat) : Nat := (darkB p sb * 2 ^ 16 + darkC p sc).toNat

/-- A sample as the gallery judges it: which outputs are valid, the codes, σ as used, and dark (R97, R98). -/
structure Judged where
  okB : Bool
  okC : Bool
  sb : Nat
  sc : Nat
  sigma : Nat
  dark : Bool
  deriving DecidableEq, Repr

/-- Both outputs are missing. -/
def Judged.bothMissing (j : Judged) : Bool := !j.okB && !j.okC

/-- Neither output is missing. -/
def Judged.clean (j : Judged) : Bool := j.okB && j.okC

/-- σ for the outputs that are valid: of this sample with both, the held one with one (R97). -/
def sigmaUsed (p : Par) (x : Cell) (okB okC : Bool) (sb sc : Nat) : Nat :=
  if okB && okC then sigmaOf p sb sc else x.sigmaHeld

/-- Judge the sample of a cell (R97, R98, R140–R142): the cell with its counts, the judgement, the events by their
number within the gallery. -/
def judge (p : Par) (cdark : Nat) (x : Cell) (tap : Option Tap) : Cell × Judged × List Nat :=
  let sb := (tap.map (·.b.toNat)).getD 0
  let sc := (tap.map (·.c.toNat)).getD 0
  let overB := (tap.map (·.bOver)).getD false
  let overC := (tap.map (·.cOver)).getD false
  let rawB := (tap.map (fun t => !t.bOver && !t.bStale)).getD false
  let rawC := (tap.map (fun t => !t.cOver && !t.cStale)).getD false
  let dithered := x.mode == .run || x.mode == .transit || x.mode == .coast
  let darkRaw := decide (sigmaUsed p x rawB rawC sb sc < cdark * 2 ^ 16)
  let counting := dithered && !darkRaw
  let (fb, newB) := frzStep x.frzB (if rawB then some sb else none) counting
  let (fc, newC) := frzStep x.frzC (if rawC then some sc else none) counting
  let okB := rawB && !fb.frozen
  let okC := rawC && !fc.frozen
  let sigma := sigmaUsed p x okB okC sb sc
  let overs := b2n overB + b2n overC
  let one := okB != okC
  let singleRun := if one then x.singleRun + 1 else 0
  let newSingle := singleRun == 1024
  let inv := { x.inv with
    ovrCnt := min 65535 (x.inv.ovrCnt + overs),
    frozenCnt := min 255 (x.inv.frozenCnt + b2n newB + b2n newC),
    cleanRun := if okB && okC then min 4095 (x.inv.cleanRun + 1) else 0,
    single := if okB && okC then false else x.inv.single || newSingle }
  let x := { x with frzB := fb, frzC := fc, singleRun := singleRun, inv := inv,
                    sigmaHeld := if okB && okC then sigma else x.sigmaHeld }
  (x, ⟨okB, okC, sb, sc, sigma, decide (sigma < cdark * 2 ^ 16)⟩,
    (if newB then [2] else []) ++ (if newC then [2] else []) ++ (if 0 < overs then [3] else [])
      ++ (if newSingle then [4] else []))

/-- A gallery event by its number within the gallery: its status bit (R160) and its occurrence (R161). -/
def galleryEvent (c : Chip) (g : Nat) (k : Nat) : Chip :=
  if k = 0 then raiseLimited (setB c (LPE_SUP_STAT_coast_entry g) true) (srcCOAST_ENTRY g) 0
  else if k = 1 then raise c (srcHOLD_ENTRY g) 0
  else if k = 2 then raise (setB c (LPE_SUP_STAT_frozen g) true) (srcFROZEN g) 0
  else if k = 3 then raiseLimited (setB c (LPE_SUP_STAT_overrange g) true) (srcOVERRANGE g) 0
  else if k = 4 then raise (setB c (LPE_SUP_STAT_single_out g) true) (srcSINGLE_OUT g) 0
  else if k = 5 then raise (setB c (LPE_SUP_STAT_auto_block g) true) (srcAUTO_BLOCK g) 0
  else c

/-- Several gallery events in order. -/
def galleryEvents (c : Chip) (g : Nat) (l : List Nat) : Chip := l.foldl (fun c k => galleryEvent c g k) c

/-! ### Mode resolution (R135–R144) -/

/-- What a computation of a cell is told beside its own state: the period, the effective command, the epoch, the
target in force, the parameters of its class. -/
structure CellIn where
  p : W
  newStep : Option W
  epochNow : Option Nat
  epoch : Nat
  tState : Nat
  tBranch : Nat
  trLen : Nat
  coastLimit : Nat
  autoResume : Bool
  mirror : Bool
  par : Par
  ampInit : Nat
  deriving DecidableEq, Repr

/-- Enter HOLD (R139, R144): the codes of the previous computation are frozen, less the dither; for CHAR_LOSS the
codes from before the characterization as they were sent, dither included (log entry 101). Events follow. -/
def enterHold (n : CellIn) (x : Cell) (cause : Nat) : Cell × List Nat :=
  let far := decide (4000000 < (n.p - x.inv.lastHoldP).toNat)
  let recent := if cause = 1 then (if far then 0 else x.inv.autoRecent) else x.inv.autoRecent
  let block := cause == 1 && recent == 4
  let frozen : Drive :=
    if cause = 4 then ⟨x.preChar.heat, 0, 0, 0⟩
    else ⟨(clampI 0 65535 ((x.u1.heat : Int) - x.u1.dither)).toNat, 0, x.u1.inj, x.u1.ui⟩
  let x := { x with
    mode := .hold, holdCause := cause, preChar := frozen,
    under := if cause = 4 then .run else x.under,
    inv := { x.inv with
      holdCnt := min 65535 (x.inv.holdCnt + 1), lastHoldP := n.p, lastFaultP := n.p, autoRecent := recent,
      noAuto := x.inv.noAuto || block } }
  (x, (if cause = 1 || cause = 4 then [1] else []) ++ (if block then [5] else []))

/-- A changed target starts TRANSIT with m = 0 toward it (R121, R151); the switching count advances at the boundary the
drive acts from (R155). -/
def startTransit (x : Cell) (state branch : Nat) : Cell :=
  { x with under := .transit, mode := .transit, m := 0, held := state, branch := branch, tau := 0, swNext := true }

/-- The switching count of a cell at the boundary its drive m = 0 acts from (R155). -/
def countSwitch (x : Cell) : Cell :=
  if x.swNext then { x with swNext := false, inv := { x.inv with switches := (x.inv.switches + 1) % 2 ^ 48 } } else x

/-- The switching counts advance at a boundary (R155). -/
def switchCounts (c : Chip) : Chip :=
  c.lpe.cells.foldl (fun c e => if e.2.swNext then putCell c e.1 (countSwitch e.2) else c) c

/-- The target in force differs from the state held and is not KEEP (R125). -/
def targetChanged (n : CellIn) (x : Cell) : Bool := n.tState != 2 && n.tState != x.held && x.held != 2

/-- Whether a cell in HOLD leaves it (R137 step 4), and whether its cause becomes EPOCH instead. -/
def holdRelease (n : CellIn) (x : Cell) : Bool × Bool :=
  let byCmd := (x.cmd.map (·.1)) == some 4
  let auto := x.holdCause == 1 && n.autoResume && !x.inv.noAuto && decide (4000 ≤ x.inv.cleanRun)
  let live := n.epochNow == some 0 && x.holdCause == 3
  if live then (true, false)
  else if byCmd || auto then (if n.epoch = 1 then (false, true) else (true, false))
  else (false, false)

/-- A cell that has just left HOLD (R137 step 7): an interrupted transition starts again, otherwise the target in
force is compared with the state held; one of that state gives its branch (R103). The count of missing samples starts anew. -/
def afterHold (n : CellIn) (x : Cell) : Cell :=
  let auto := x.holdCause == 1 && (x.cmd.map (·.1)) != some 4
  let x := { x with holdCause := 0, coastRun := 0,
                    inv := { x.inv with autoRecent := if auto then min 4 (x.inv.autoRecent + 1) else x.inv.autoRecent } }
  if x.under = .transit then
    if n.tState = 2 then startTransit x x.held x.branch else startTransit x n.tState n.tBranch
  else if targetChanged n x then startTransit x n.tState n.tBranch
  else { x with mode := .run, under := .run, branch := if n.tState = x.held then n.tBranch else x.branch }

/-- ENABLE takes a cell from OFF into RUN on the hold slot of its state, with x̂ = 0 and u = 0 (R146, R375). -/
def enableCell (n : CellIn) (x : Cell) (logical : Nat) : Cell :=
  let s := physState n.mirror logical
  { x with mode := .run, under := .run, held := s, branch := chooseBranch n.par s, x := ⟨0, 0, 0, 0, 0⟩,
           u0 := Drive.zero, u1 := Drive.zero, m := 0, amp := n.ampInit, ampNext := none, holdCause := 0, coastRun := 0 }

/-- Steps 6 and 7 of R137 for a cell in no HOLD: grants and ends, then a changed target. The second part: a
characterization ends ABANDONED. -/
def takeTarget (n : CellIn) (x : Cell) : Cell × Bool :=
  let ended := match x.charEnd with
    | some e => pReached n.p e
    | none => false
  let x := if x.under = .char && ended then { x with mode := .run, under := .run, charEnd := none } else x
  let granted := match x.grant with
    | some e => pReached n.p e
    | none => false
  let x := if granted then
      (if x.under = .run && x.mode = .run then
        { x with mode := .char, under := .char, grant := none, preChar := x.u1 }
      else { x with grant := none })
    else x
  if n.newStep.isSome && n.tState != 2 then
    if n.tState != x.held then (startTransit x n.tState n.tBranch, x.under == .char)
    else ({ x with branch := n.tBranch }, false)
  else (x, false)

/-- The transit index rises by one per drive, and m = tr_len makes the underlying mode RUN (R121, R137 step 8); it rises on
after that, held at 31 (R124, R133). A cell that no step has moved since ENABLE keeps m = 0. -/
def advanceTransit (n : CellIn) (before : Cell) (x : Cell) : Cell :=
  if before.mode = .hold || before.mode = .off || x.swNext then x
  else if x.under = .transit && before.under = .transit then
    let m := x.m + 1
    if n.trLen ≤ m then { x with m := m, under := .run, mode := .run } else { x with m := m, mode := .transit }
  else if x.m = 0 then x
  else { x with m := min 31 (x.m + 1) }

/-- Step 9 and 10 of R137: both outputs missing coast the cell or hold it. -/
def coastStep (n : CellIn) (before : Cell) (x : Cell) (j : Judged) : Cell × List Nat :=
  if j.bothMissing then
    let run := min 255 (x.coastRun + 1)
    let x := { x with coastRun := run }
    if n.coastLimit < run then enterHold n x (if x.under = .char then 4 else 1)
    else if x.under = .char then ({ x with mode := .char }, [])
    else if before.mode = .coast then ({ x with mode := .coast }, [])
    else ({ x with mode := .coast,
                   inv := { x.inv with coastCnt := min 65535 (x.inv.coastCnt + 1), lastFaultP := n.p } }, [0])
  else ({ x with coastRun := 0, mode := x.under }, [])

/-- In HOLD the count of missing samples only ends, with a sample that has an output (R137, R156; log entry 101). -/
def restRun (x : Cell) (j : Judged) : Cell := { x with coastRun := if j.bothMissing then x.coastRun else 0 }

/-- A grant whose effective period has come takes effect in that computation or never (R148). -/
def lapseGrant (n : CellIn) (x : Cell) : Cell :=
  match x.grant with
  | some e => if pReached n.p e then { x with grant := none } else x
  | none => x

/-- The mode of one computation (R137): the cell, its events, and a characterization it ends (1 ABANDONED,
2 LOST). -/
def resolve (n : CellIn) (x : Cell) (j : Judged) : Cell × List Nat × Nat :=
  let cmd := x.cmd.map (·.1)
  if cmd == some 2 || !n.par.valid then
    ({ x with mode := .off, under := .off, held := 2, holdCause := 0, coastRun := 0, grant := none, charEnd := none }, [],
      if x.under = .char then 1 else 0)
  else if n.epochNow == some 1 && x.mode != .off && x.mode != .hold then
    let (y, l) := enterHold n x 3
    (y, l, if x.under = .char then 1 else 0)
  else if cmd == some 3 && x.mode != .off && x.mode != .hold then
    let (y, l) := enterHold n x 2
    (y, l, if x.under = .char then 1 else 0)
  else if x.mode = .hold then
    let (leave, toEpoch) := holdRelease n x
    if leave then
      let (y, l) := coastStep n x (afterHold n x) j
      (y, l, 0)
    else (restRun (if toEpoch then { x with holdCause := 3 } else x) j, [], 0)
  else if x.mode = .off then
    match x.cmd with
    | some (1, s) =>
      let (y, l) := coastStep n x (enableCell n x s) j
      (y, l, 0)
    | _ => (x, [], 0)
  else
    let (y, abandoned) := takeTarget n x
    let y := advanceTransit n x y
    let (z, l) := coastStep n x y j
    (z, l, if abandoned then 1 else if z.holdCause = 4 && z.mode = .hold then 2 else 0)

/-! ### The computation (R96–R111) -/

/-- The hold slot of the state held: 0 hold-bar, 1 hold-cross (R111). -/
def holdSlot (x : Cell) : Nat := if x.held = 1 then 1 else 0

/-- t_b and t_c of a sample; a missing output's is kept (R96, R97). -/
def ratios (p : Par) (x : Cell) (j : Judged) : Int × Int :=
  if j.bothMissing || j.sigma < 2 ^ 16 then (x.tb, x.tc)
  else
    let r := recipSigma j.sigma
    (if j.okB then sat22 (ratioB (darkB p j.sb) r) else x.tb, if j.okC then sat22 (ratioC (darkC p j.sc) r) else x.tc)

/-- Saturations of the measurement (R93). -/
def ratioSat (p : Par) (j : Judged) : Nat :=
  if j.bothMissing || j.sigma < 2 ^ 16 then 0
  else
    let r := recipSigma j.sigma
    (if j.okB then over22 (ratioB (darkB p j.sb) r) else 0) + (if j.okC then over22 (ratioC (darkC p j.sc) r) else 0)

/-- ν̃_b and ν̃_c of R100, each 0 where its output is missing or the cell is dark, with the saturations. -/
def innovation (c : Chip) (p : Par) (phi tb tc : Int) (j : Judged) : List Int × Nat :=
  if j.dark then ([0, 0], 0)
  else
    let pb := predictB p phi
    let nb := if j.okB then tb - pb else 0
    let nc := if j.okC then tc - (2 ^ 22 - pb) else 0
    let q := roundShift (innovWeight c phi * p.heatRecip) 18
    let vb := roundShift (sat22 q * sat22 nb) 22
    let vc := roundShift (-(sat22 q) * sat22 nc) 22
    ([sat22 vb, sat22 vc], over22 q + over22 nb + over22 nc + over22 vb + over22 vc)

/-- The reference of a cell for slot `fg` (R103): h_eq as used, in units of 2^-22, and whether it was clamped. -/
def referenceHeat (p : Par) (x : Cell) : Int × Bool :=
  let h := heatEq p (phiRef x.held x.branch + trimPhase x.tau)
  let k := heatCode h
  if k < 0 || 16383 < k then (clampI 0 16383 k * 2 ^ 6, true) else (h, false)

/-- The trim ramp of R150. -/
def rampTrim (x : Cell) (tgt slew : Int) : Cell := { x with tau := x.tau + clampI (-slew) slew (tgt - x.tau) }

/-- The law slot of a cell (R111): transit in a transition, under COAST and HOLD too, else the hold slot. -/
def lawSlotOf (x : Cell) : Nat := if x.under == .transit then 2 else holdSlot x

/-- The drive of a cell and its observer after the computation of a period (R101–R105, R111), the saturations, and
whether its target was clamped. `nb` are the neighbour codes n[k], `b` the boundary the drive acts at; `again`: c_t is
recomputed, an input of it having changed (R103). -/
def computeCell (c : Chip) (i : Nat) (mc : MapCell) (p : Par) (x : Cell) (j : Judged) (nb : List Nat) (b : W) (again : Bool) :
    Cell × Nat × Bool :=
  match x.mode with
  | .off =>
    ({ x with x := ⟨0, 0, 0, 0, 0⟩, u0 := x.u1, u1 := Drive.zero, ctH := 0, ctI := 0, heq := 0, slot := 0 }, 0, false)
  | mode =>
    let hs := holdSlot x
    let inTransit := x.under == .transit
    let lawSlot := lawSlotOf x
    let obsSlot := match mode with
      | .run => hs
      | .transit => 2
      | _ => 3
    let gainSlot := match mode with
      | .transit => 2
      | _ => hs
    let (tb, tc) := ratios p x j
    let phi := phiHat p x.x
    let (nu, sat0) := if mode = .coast then ([0, 0], 0) else innovation c p phi tb tc j
    let (x1, sat1) :=
      obsStep c (slotBase mc.cls obsSlot) (slotBase mc.cls gainSlot) (expW c mc.cls) p x.x x.u0 nu nb
    let (h, clamped) := referenceHeat p x
    let fg := slotBase mc.cls lawSlot
    let ct0 := ctRow c fg h 0
    let ct1 := ctRow c fg h 1
    let hc := (heatCode h).toNat
    let base := { x with x := x1, tb := tb, tc := tc, phi := phi, ctH := sat22 ct0, ctI := sat22 ct1, heq := hc,
                         slot := if mode = LoopMode.hold || mode = LoopMode.char then 3 else lawSlot, u0 := x.u1 }
    let sats := ratioSat p j + sat0 + sat1 + (if again then over22 ct0 + over22 ct1 else 0)
    let clamped := clamped && again
    match mode with
    | .hold => ({ base with u1 := x.preChar }, sats, clamped)
    | .char =>
      ({ base with u1 := ⟨x.charHeat, 0, x.charInj, if x.charInj = 0 then 0 else Config.charCommand x.charInj⟩ }, sats, clamped)
    | _ =>
      let vh := lawRow c fg (sat22 ct0) x1 x.u1 0
      let vi := lawRow c fg (sat22 ct1) x1 x.u1 1
      let sh := shapeWord c mc.cls x.m
      let mult :=
        if inTransit then (if x.m < 8 then capMultOf sh else min (capMultOf sh) (holdCap c mc.cls)) else holdCap c mc.cls
      let alpha := if inTransit then alphaOf sh else 0
      let d := ditherTerm c i x.amp b
      let ui := injCommand p alpha (sat22 vi)
      let heat := (heaterOut (sat22 vh) (heaterCap hc mult) d).toNat
      ({ base with u1 := ⟨heat, d, injOut p ui, ui⟩ },
        sats + over22 vh + over22 vi, clamped)

/-! ### Settling and leakage (R125–R129, R152) -/

/-- The sample is tested for leakage (R126): neither dark nor missing an output. -/
def tested (j : Judged) : Bool := j.clean && !j.dark

/-- The score of a step after the sample of boundary `k` (R126, R129, R152). -/
def scoreStep (s : StepScore) (k : W) (missing isTested pass : Bool) : StepScore :=
  let d := pdiff k s.b
  if d < 0 || 8 < d then s
  else
    let s := { s with missed := s.missed || missing }
    if d = 0 then s
    else
      let ok := isTested && pass
      { s with tested := s.tested || isTested, lastPass := ok,
               settled := if s.settled = 0 && ok && s.lastPass && decide (2 ≤ d) then d.toNat else s.settled }

/-- What the sample of boundary `k` adds to a transition (R379): the injection code at m = 0, and ν̃_b and x̂3 at boundary
B + 1. -/
def noteMove (s : StepScore) (k : W) (began : Bool) (inj : Nat) (nu x3 : Int) : StepScore :=
  let s := if began then { s with inj0 := inj } else s
  if k = s.b + 1 then { s with nu1 := nu, x31 := x3 } else s

/-- A counted transition of a cell enters the mean r̄ of its window where it meets the conditions of R379. -/
def countMove (p : Par) (x : Cell) (s : StepScore) : Cell :=
  if 1024 ≤ s.inj0 && s.x31 != 0 && decide (8 * p.injSpan.natAbs ≤ s.x31.natAbs) then
    { x with moves := ⟨x.moves.pairs ++ [(s.nu1, s.x31)]⟩ }
  else x

/-- The mark a failure toward `state` leaves (R153), if it marks. -/
def stuckMark (r : InvRec) (thr state : Nat) : Option Nat :=
  let own := if state = 0 then r.failBar else r.failCross
  let other := if state = 0 then r.failCross else r.failBar
  if own < thr || r.stuck = 3 then none
  else
    let mark :=
      if r.stuck = 1 && state = 0 then 3 else if r.stuck = 2 && state = 1 then 3
      else if other = 0 then (if state = 0 then 2 else 1) else 3
    if mark = r.stuck then none else some mark

/-- stuck_thr of INV_CTL; 0 is stored as 1 (R157). -/
def stuckThr (c : Chip) : Nat := max 1 (fld c INV_CTL_stuck_thr)

/-- INV_STUCK_MAP and stuck_total follow the stuck mark of a cell (R157, R159). -/
def showStuck (c : Chip) (i : Nat) (was now : Nat) : Chip :=
  let a := INV_STUCK_MAP (i / 32)
  let old := rn c a
  let c := wr c a (toW (if now = 0 then old - (if bitsAt old (i % 32) 1 = 1 then 2 ^ (i % 32) else 0) else old ||| 2 ^ (i % 32)))
  setFld c INV_STAT_stuck_total
    (fld c INV_STAT_stuck_total + (if was = 0 && now != 0 then 1 else 0) - (if was != 0 && now = 0 then 1 else 0))

/-- Mark a cell stuck (R153). -/
def markCell (c : Chip) (i mark : Nat) : Chip :=
  let was := (getCell c i).inv.stuck
  let c := modCell c i (fun x => { x with inv := { x.inv with stuck := mark, lastFaultP := period c } })
  let c := showStuck c i was mark
  let g := galleryOf i
  raise (setB (setB c (LPE_SUP_STAT_stuck_new g) true) INV_STAT_stuck_new true) (srcSTUCK_NEW g) 0

/-- One failure of a cell toward a state is scored (R152, R153). -/
def scoreFail (c : Chip) (i state : Nat) : Chip :=
  let c := modCell c i (fun x => { x with inv :=
    if state = 0 then { x.inv with failBar := min 15 (x.inv.failBar + 1) }
    else { x.inv with failCross := min 15 (x.inv.failCross + 1) } })
  match stuckMark (getCell c i).inv (stuckThr c) state with
  | some m => markCell c i m
  | none => c

/-- A transition that counts (R152): from RUN, with no sample of its window missing both outputs. -/
def StepScore.counts (s : StepScore) : Bool := s.moves && s.fromRun && !s.missed

/-- A settled transition that counts ends the failures toward its target (R152), and enters the means of R379. -/
def finishScore (p : Par) (x : Cell) (s : StepScore) : Cell :=
  if !s.counts then x
  else
    let x := countMove p x s
    if s.settled = 0 then x
    else { x with inv := if s.target = 0 then { x.inv with failBar := 0 } else { x.inv with failCross := 0 } }

/-- A reported transition is finished with the sample of boundary B + 8 (R152). -/
def finishTold (p : Par) (k : W) (x : Cell) : Cell :=
  let x := match x.score with
    | some s => if s.told && k = s.b + 8 then { finishScore p x s with score := none } else x
    | none => x
  match x.scoreOld with
  | some s => if s.told && k = s.b + 8 then { finishScore p x s with scoreOld := none } else x
  | none => x

/-- The neighbour codes n[k] a gallery holds for the six slots of a cell; an empty slot is 0 (R101, R107). -/
def ringCodes (c : Chip) (g : Nat) (mc : MapCell) : List Nat :=
  (List.range 6).map (fun k => match mc.nbs[k]? with
    | some i => mapRead (fun _ => 0) c.lpe.ring (g * 8192 + i)
    | none => 0)

/-- What the computation of a cell is told (R135). -/
def cellInput (c : Chip) (i : Nat) (mc : MapCell) : CellIn :=
  let g := galleryOf i
  let t := forceOf c i
  { p := period c, newStep := c.lpe.newStep, epochNow := c.lpe.epochNow, epoch := epochMode c, tState := t % 4,
    tBranch := t / 4, trLen := trLen c mc.cls, coastLimit := max 1 (fld c (LPE_SUP_CTL_coast_limit g)),
    autoResume := fldB c (LPE_SUP_CTL_auto_resume g), mirror := mc.mirror, par := params c i,
    ampInit := fld c CNS_AMP_CTL_amp_init }

/-- The transit state of a step: whether the cell is a changed cell of the step, and its fresh score (R125, R138,
R152). A cell that leaves HOLD in this computation belongs to no step. -/
def freshScore (n : CellIn) (before after : Cell) : Option StepScore :=
  match n.newStep with
  | none => after.score
  | some b =>
    if targetChanged n before && before.mode != .off && (before.mode != .hold || after.mode = .hold) then
      some ⟨b, n.tState, after.swNext, before.mode == .run, false, false, false, false, 0, 0, 0, 0⟩
    else after.score

/-- The trim registers of a cell: trim_tgt and trim_slew (R149). -/
def trimTgt (c : Chip) (i : Nat) : Int := sext 17 (fld c (LPE_TRIM_trim_tgt (galleryOf i) (i % 128)))
def trimSlew (c : Chip) (i : Nat) : Int := (max 1 (fld c (LPE_TRIM_trim_slew (galleryOf i) (i % 128))) : Nat)

/-- An amplitude derived for a later window comes into force with that window's first drive (R375); P holds 107,375 windows, the
last of them the one in which it wraps (R376). -/
def takeAmp (x : Cell) (b : W) : Cell :=
  match x.ampNext with
  | some (w, a) => if (b.toNat / 40000 + 107375 - w) % 107375 < 53688 then { x with amp := a, ampNext := none } else x
  | none => x

/-- The leakage run of a held cell after a sample (R152): the cell, and whether a failure is scored. -/
def leakHold (x : Cell) (enabled isTested pass : Bool) : Cell × Bool :=
  if x.mode = .run && x.tau = 0 && enabled then
    if isTested then
      if pass then ({ x with leakRun := 0 }, false)
      else if 4096 ≤ x.leakRun + 1 then ({ x with leakRun := 0 }, true)
      else ({ x with leakRun := x.leakRun + 1 }, false)
    else (x, false)
  else ({ x with leakRun := 0 }, false)

/-- LPE_Gnn_TGT_CELL and the event of a clamped target (R103). -/
def targetRange (c : Chip) (i : Nat) : Chip :=
  let g := galleryOf i
  raise (setB (wr c (LPE_TGT_CELL g) (toW (2 ^ 31 + i % 128))) (LPE_LAW_STAT_tgt_range g) true) (srcTGT_RANGE g) 0

/-- The saturations of a computation (R93). -/
def lawSat (c : Chip) (g n : Nat) : Chip :=
  if n = 0 then c
  else raiseLimited (setB (countUp c (LPE_SAT_CNT g) n) (LPE_LAW_STAT_sat g) true) (srcLAW_SAT g) 0

/-- The registers a cell's entry to HOLD or COAST writes (R143, R160). -/
def modeRegisters (c : Chip) (i : Nat) (before after : Cell) (coasts : Bool) : Chip :=
  let g := galleryOf i
  let c := if before.mode != .hold && after.mode = .hold then
      setB (wr c (LPE_HOLD_LAST g) (toW (2 ^ 31 + after.holdCause * 2 ^ 28 + i % 128))) (LPE_SUP_STAT_hold_entry g) true
    else c
  if coasts then countUp c (LPE_COAST_CNT g) 1 else c

/-- A cell whose valid bit is 0 runs as an unmapped one: its samples are not judged and raise nothing (R35, R119). -/
def judgeCell (n : CellIn) (cdark : Nat) (x : Cell) (tap : Option Tap) : Cell × Judged × List Nat :=
  if n.par.valid then judge n.par cdark x tap else (x, ⟨false, false, 0, 0, 0, true⟩, [])

/-- One cell's computation in the present period (R106, R135–R151): judged sample, mode, trim, observer, law, leakage
test, scoring and events. Word 13 of its view takes a sample on which the leakage test is not made as not passed (R133; log
entry 101). -/
def galleryCell (c : Chip) (i : Nat) (mc : MapCell) : Chip :=
  let g := galleryOf i
  let n := cellInput c i mc
  let x0 := countSwitch (getCell c i)
  let (x1, j, ev1) := judgeCell n (darkMin c mc.cls) x0 (mapGet c.lpe.taps i)
  let (x2, ev2, charOut) := resolve n x1 j
  let x2 := lapseGrant n x2
  let started := x2.swNext
  let c := if started && x2.held != x1.held then setFld c (LPE_TRIM_trim_tgt g (i % 128)) 0 else c
  let x3 := if x2.under = .run && (x2.mode = .run || x2.mode = .coast) then rampTrim x2 (trimTgt c i) (trimSlew c i) else x2
  let fresh := freshScore n x0 x3
  let x3 := takeAmp { x3 with score := fresh, scoreOld := if fresh = x0.score then none else x0.score } (n.p + 1)
  let again := started || x0.mode = .off || lawSlotOf x3 != lawSlotOf x0 || x3.branch != x0.branch || x3.tau != x0.tau
    || mapGet c.lpe.committed g == some n.p
  let (x4, sats, clamped) := computeCell c i mc n.par x3 j (ringCodes c g mc) (n.p + 1) again
  let pass := leakPass (leakThr c mc.cls) x4.held x4.tb x4.tc
  let k := n.p - 1
  let nu := if x4.mode = .coast then 0 else (innovation c n.par x4.phi x4.tb x4.tc j).1.headD 0
  let scored := fun (s : StepScore) =>
    scoreStep s k j.bothMissing (tested j) (leakPass (leakThr c mc.cls) s.target x4.tb x4.tc)
  let (x5, leakFail) := leakHold x4 (fldB c INV_CTL_hold_leak_en) (tested j) pass
  let steady := if x5.mode = .run && x5.tau = 0 && !started then min 4 (x0.steady + 1) else 0
  let x6 := { x5 with
    seen := true, cmd := none, leak2 := if x5.mode = .off then x5.leak2 else (x5.leak2 * 2 + b2n (tested j && pass)) % 4,
    score := x5.score.map (fun s => noteMove (scored s) k started x5.u1.inj nu x3.x.x3),
    scoreOld := x5.scoreOld.map (fun s => noteMove (scored s) k false x5.u1.inj nu x3.x.x3),
    steady := steady,
    sampleOld := x5.sample,
    sample := ⟨if x5.held = 0 then x5.tc else x5.tb, x5.tb, x5.tc, (j.sb : Int) - n.par.darkBar,
      (j.sc : Int) - n.par.darkCross, x5.phi, phiRef x5.held x5.branch, tested j, steady == 4, k⟩ }
  let c := putCell c i (finishTold n.par k x6)
  let c := modeRegisters c i x0 x6 (ev2.contains 0)
  let c := galleryEvents c g (ev1 ++ ev2)
  let c := lawSat c g sats
  let c := if clamped then targetRange c i else c
  let c := if charOut = 0 then c else { c with lpe := { c.lpe with charOut := c.lpe.charOut ++ [(i, charOut)] } }
  if leakFail then scoreFail c i x6.held else c

/-- How many mapped cells of a gallery are in a mode (R160). -/
def modeCount (c : Chip) (g : Nat) (m : LoopMode) : Nat :=
  ((galleryCells c g).filter (fun e => (getCell c e.1).mode == m)).length

/-- Word `w` of a gallery's map of the cells in a mode (R160). -/
def modeMap (c : Chip) (g w : Nat) (m : LoopMode) : W :=
  toW (bitMask (((galleryCells c g).filter
    (fun e => e.1 % 128 / 32 == w && (getCell c e.1).mode == m)).map (fun e => e.1 % 32)))

/-- The mode counts and maps of a gallery after its computation (R160). -/
def modeReport (c : Chip) (g : Nat) : Chip :=
  let n := modeCount c g
  let off := 128 - n LoopMode.run - n LoopMode.transit - n LoopMode.coast - n LoopMode.hold - n LoopMode.char
  let c := wr c (LPE_MODE_CNT0 g) (toW (n LoopMode.coast * 2 ^ 16 + n LoopMode.run * 2 ^ 8 + off))
  let c := wr c (LPE_MODE_CNT1 g) (toW (n LoopMode.char * 2 ^ 16 + n LoopMode.transit * 2 ^ 8 + n LoopMode.hold))
  let c := (List.range 4).foldl (fun c w => wr c (LPE_HOLD_MAP g w) (modeMap c g w .hold)) c
  (List.range 4).foldl (fun c w => wr c (LPE_COAST_MAP g w) (modeMap c g w .coast)) c

/-- The galleries that hold a mapped cell. -/
def usedGalleries (c : Chip) : List Nat := galleries.filter (fun g => !(galleryCells c g).isEmpty)

/-! ### The neighbour ring (R107, R108) -/

/-- This device repairs tile `t` from its partner's copy, and does not use its own codes in the present period (R355). -/
def inRepair (c : Chip) (t : Nat) : Bool :=
  c.twn.repairs.any (fun r => r.tile == t && !r.owner && (r.again != 0 || pReached (period c) (r.k + 2))
    && pReached (r.k + 5) (period c))

/-- The heater code in force from the present boundary: computed in the period before (R107); the owner's relayed code
for a cell in repair (R355). -/
def codeInForce (c : Chip) (i : Nat) : Nat :=
  let x := getCell c i
  let own := if c.lpe.computedP = c.tmr.period then x.u0.heat else x.u1.heat
  if inRepair c (i / 32) then
    match c.twn.relays.find? (fun e => e.1 == i / 32 && e.2.1.toNat == (period c).toNat % 2 ^ 16) with
    | some e => nth own e.2.2 (i % 32)
    | none => own
  else own

/-- The neighbours that cells of a gallery name. -/
def neededBy (c : Chip) (g : Nat) : List Nat := ((galleryCells c g).flatMap (fun e => e.2.nbs)).dedup

/-- One gallery takes the codes its cells need; a bad one is replaced by the last good one (R107, R108). -/
def ringGallery (c : Chip) (bad : List (Fin 36 × BitVec 13)) (g : Nat) : Chip :=
  let isBad := fun i => bad.any (fun e => e.1.val == g && e.2.toNat == i)
  let need := neededBy c g
  let lost := (need.filter isBad).length
  let ring := need.foldl (fun m i => if isBad i then m else mapWrite (fun _ => 0) m (g * 8192 + i) (codeInForce c i))
    c.lpe.ringNew
  let run := if lost = 0 then 0 else mapRead (fun _ => 0) c.lpe.ringRun g + 1
  let c := { c with lpe := { c.lpe with ringNew := ring, ringRun := mapWrite (fun _ => 0) c.lpe.ringRun g (run % 16) } }
  let c := if lost = 0 then c else setB (countUp c (LPE_RING_CNT g) lost) (LPE_LAW_STAT_ring_err g) true
  if run = 16 then raise c (srcRING_REPLACE g) 0 else c

/-- The neighbour exchange of the present period (R107). -/
def neighbourRing (c : Chip) (bad : List (Fin 36 × BitVec 13)) : Chip :=
  (usedGalleries c).foldl (fun c g => ringGallery c bad g) c

/-! ### Settle reports (R129, R132, R152) -/

/-- The changed cells of a gallery at step boundary `b`, with their scores. -/
def changedCells (c : Chip) (g : Nat) (b : W) : List (Nat × StepScore) :=
  (galleryCells c g).filterMap (fun e =>
    let x := getCell c e.1
    ((x.score.toList ++ x.scoreOld.toList).find? (fun s => s.b == b)).map (fun s => (e.1, s)))

/-- The outcome of one changed cell at the report: a late transition is counted, and late cells and settled ones are scored
if the transition counts, once the sample of B + 8 has been judged (R129, R138, R152, R156). -/
def scoreCell (c : Chip) (e : Nat × StepScore) : Chip :=
  let i := e.1
  let s := e.2
  let state := s.target
  let late := s.tested && s.settled == 0 && s.moves
  let c := if late then
      modCell c i (fun x => { x with inv := { x.inv with lateCnt := min 65535 (x.inv.lateCnt + 1), lastFaultP := period c } })
    else c
  if pReached (period c) (s.b + 9) then
    let c := modCell c i (fun x => { finishScore (params c i) x s with
      score := x.score.filter (fun n => n.b != s.b), scoreOld := none })
    if late && s.counts then scoreFail c i state else c
  else
    let tell : StepScore → StepScore := fun n => if n.b = s.b then { n with told := true } else n
    modCell c i (fun x => { x with score := x.score.map tell, scoreOld := x.scoreOld.map tell })

/-- Tile `t` was in repair in a computation of the periods B − 1 to B + 8 (R357). -/
def repairedIn (c : Chip) (t : Nat) (b : W) : Bool :=
  let meets : W → W → Bool := fun f l => pReached (b + 8) f && pReached l (b - 1)
  c.twn.repairs.any (fun r => r.tile == t && meets (r.k + 1) (r.k + 5))
    || c.twn.repaired.any (fun r => r.1 == t && meets r.2.1 r.2.2)

/-- A gallery reports its open step once every changed cell has settled, in B where none is changed, or by B + 9 (R129,
R166); a gallery of a pair with changed cells in B + 9, those of tiles in repair untested (R357). -/
def settleReport (c : Chip) (g : Nat) : Chip :=
  match mapGet c.lpe.open_ g with
  | none => c
  | some b =>
    let l := (changedCells c g b).map (fun e =>
      if repairedIn c (e.1 / 32) b then (e.1, { e.2 with tested := false, settled := 0 }) else e)
    let done := l.all (fun e => e.2.settled != 0) && (l.isEmpty || !c.twn.paired)
    if (done && pReached (period c) b) || pReached (period c) (b + 9) then
      let late := (l.filter (fun e => e.2.tested && e.2.settled == 0)).length
      let untested := (l.filter (fun e => !e.2.tested)).length
      let worst := if 0 < late then 15 else l.foldl (fun a e => max a e.2.settled) 0
      let c := wr c (LPE_SETTLE_step_tag g).addr
        (toW (b.toNat % 2 ^ 16 * 2 ^ 16 + worst * 2 ^ 12 + min 63 late * 2 ^ 6 + min 63 untested))
      let c := l.foldl scoreCell c
      let c := { c with lpe := { c.lpe with open_ := mapDel c.lpe.open_ g } }
      if 0 < late then raise c (srcSTEP_LATE g) 0 else c
    else c

/-! ### One period (R110) -/

/-- A new step opens a report in every gallery that holds a mapped cell (R129). A report of the step before it that is due in
this period is written first; one that is not is never written (R166). -/
def openSteps (c : Chip) : Chip :=
  match c.lpe.newStep with
  | none => c
  | some b =>
    let c := (usedGalleries c).foldl settleReport c
    { c with lpe := { c.lpe with newStep := none,
                                 open_ := (usedGalleries c).foldl (fun m g => mapPut m g b) c.lpe.open_ } }

/-- The computation of one period in every gallery whose domain is on (R110, R557): all mapped cells in rising physical index
(log entry 101), then the mode reports. -/
def galleryCompute (c : Chip) : Chip :=
  let c := (mappedCells c).foldl (fun c e => if domainOn c (galleryOf e.1) then galleryCell c e.1 e.2 else c) c
  let c := (usedGalleries c).foldl modeReport c
  let c := openSteps c
  { c with lpe := { c.lpe with epochNow := none, computedP := c.tmr.period } }

/-! ### Cell commands (R145, R146, R160) -/

/-- A cell command is refused (R145). -/
def cellReject (c : Chip) (g reason : Nat) : Chip :=
  raise (setFld (setB c (LPE_SUP_STAT_cmd_reject g) true) (LPE_CMD_STAT_reason g) reason) (srcCMD_REJECT g) 0

/-- Reasons 2, 3 and 5 of R145 for command `cmd` on a cell, none where it is allowed. -/
def cellReason (c : Chip) (i cmd : Nat) : Option Nat :=
  let x := getCell c i
  if !cellLive c i then some 2
  else if (cmd == 1 && x.mode != .off) || (cmd == 3 && (x.mode == .off || x.mode == .hold)) || (cmd == 4 && x.mode != .hold) then
    some 3
  else if cmd == 1 && (!linkInService c (i / 32) || epochMode c != 0) then some 5
  else none

/-- The physical cell a command word names in gallery `g` (R160). -/
def cmdCell (g : Nat) (w : W) : Nat := 128 * g + wbits w 0 7

/-- The code in a command word is not one of R160, or an ENABLE names no state. -/
def cmdBad (w : W) : Bool := decide (4 < wbits w 24 4) || (wbits w 24 4 == 1 && decide (1 < wbits w 16 2))

/-- The reason for which a command word is refused at its write, none where it is allowed: 1, then 2, 3, 5, and 4 last (R145;
log entry 101). -/
def cmdReason (c : Chip) (g : Nat) (w : W) : Option Nat :=
  if cmdBad w then some 1
  else
    match if wbit w 8 then none else cellReason c (cmdCell g w) (wbits w 24 4) with
    | some r => some r
    | none => if (mapGet c.lpe.cmds g).isSome then some 4 else none

/-- A write of LPE_Gnn_CELL_CMD is judged at the write and waits for its E; a NOP that is allowed does nothing (R145, R160). -/
def cellCmdWrite (c : Chip) (g : Nat) (w : W) : Chip :=
  hostChangeIf c (LPE_CELL_CMD_cmd g).addr w (fun c => (cmdReason c g w).map (cellReject c g))
    (fun c e =>
      if wbits w 24 4 = 0 then c
      else
        let c := { c with lpe := { c.lpe with cmds := mapPut c.lpe.cmds g ⟨w, e⟩ } }
        wr c (LPE_CMD_STAT_busy g).addr
          (toW (2 ^ 31 + fld c (LPE_CMD_STAT_reason g) * 2 ^ 16 + e.toNat % 2 ^ 16)))

/-- A command becomes effective for a cell's next computation. -/
def giveCmd (c : Chip) (w : W) (i : Nat) : Chip := modCell c i (fun x => { x with cmd := some (wbits w 24 4, wbits w 16 2) })

/-- At E a waiting cell command is judged again and applied or refused (R145). -/
def cellCmdEffect (c : Chip) (g : Nat) : Chip :=
  match mapGet c.lpe.cmds g with
  | none => c
  | some cmd =>
    if due c cmd.e then
      let w := cmd.word
      let c := setB { c with lpe := { c.lpe with cmds := mapDel c.lpe.cmds g } } (LPE_CMD_STAT_busy g) false
      if wbit w 8 then
        (galleryCells c g).foldl
          (fun c e => if (cellReason c e.1 (wbits w 24 4)).isNone then giveCmd c w e.1 else c) c
      else
        match cellReason c (cmdCell g w) (wbits w 24 4) with
        | some r => cellReject c g r
        | none => giveCmd c w (cmdCell g w)
    else c

/-! ### Trims (R149) -/

/-- A trim word as it is stored: trim_tgt held within ±0.5, trim_slew at least 1 (R149, R160). -/
def trimStored (v : W) : W :=
  toW (max 1 (wbits v 17 15) * 2 ^ 17 + twos 17 (clampI (-32768) 32768 (sext 17 v.toNat)))

/-- A write of LPE_Gnn_TRIMjjj waits for E (R149). -/
def trimWrite (c : Chip) (g j : Nat) (v : W) : Chip :=
  hostChange c (LPE_TRIM_trim_tgt g j).addr v (fun c e => defer c e (LPE_TRIM_trim_tgt g j).addr v)

/-- A trim word comes into force (R149). -/
def trimEffect (c : Chip) (g j : Nat) (v : W) : Chip :=
  let t := sext 17 v.toNat
  let c := wr c (LPE_TRIM_trim_tgt g j).addr (trimStored v)
  if t < -32768 || 32768 < t then setB c (LPE_SUP_STAT_trim_clamp g) true else c

/-! ### Windows (R112, R118, R119, R133) -/

/-- A write of the law window reaches the copy of every gallery until the image is committed (R112). -/
def lawWindowWrite (c : Chip) (off : Nat) (v : W) : Chip :=
  hostWrite c (0xA40000 + off) (fun c =>
    if locked c then c
    else { c with lpe := { c.lpe with law := mapWrite (fun _ => 0) c.lpe.law (off / 4) (lawStored (off / 4) v) } })

/-- Word `w` of the state view of a cell (R133). -/
def cellView (c : Chip) (i w : Nat) : W :=
  let x := getCell c i
  let q : Int → W := fun v => toW (twos 32 v)
  if w = 0 then q x.x.x1 else if w = 1 then q x.x.x2 else if w = 2 then q x.x.x3 else if w = 3 then q x.x.x4
  else if w = 4 then q x.x.x5
  else if w = 5 then toW (x.u1.inj * 2 ^ 16 + x.u1.heat)
  else if w = 6 then q x.u1.ui
  else if w = 7 then q x.ctH else if w = 8 then q x.ctI else if w = 9 then q x.phi
  else if w = 10 then q x.tb else if w = 11 then q x.tc
  else if w = 12 then toW (min 31 x.m * 2 ^ 8 + x.slot)
  else if w = 13 then toW x.leak2
  else 0

/-! ### The commands -/

/-- NEIGHBOUR_RING (R107). -/
def execNeighbourRing (bad : List (Fin 36 × BitVec 13)) (s : State) : Host.Outcome State Fault Refusal :=
  run s (neighbourRing · bad)

/-- LAW_WINDOW_WRITE (R112). -/
def execLawWindowWrite (off : BitVec 18) (v : W) (s : State) : Host.Outcome State Fault Refusal :=
  run s (lawWindowWrite · off.toNat v)

/-- SETTLE_REPORT (R129). -/
def execSettleReport (g : Fin 36) (s : State) : Host.Outcome State Fault Refusal := run s (settleReport · g)

/-- A command word with its code set to `k` (R160). -/
def withCode (w : W) (k : Nat) : W := putField w 24 4 k

/-- CELL_CMD_NOP (R160). -/
def execCellCmdNop (g : Fin 36) (w : W) (s : State) : Host.Outcome State Fault Refusal :=
  run s (cellCmdWrite · g (withCode w 0))

/-- ENABLE (R146). -/
def execEnable (g : Fin 36) (w : W) (s : State) : Host.Outcome State Fault Refusal :=
  run s (cellCmdWrite · g (withCode w 1))

/-- DISABLE (R136). -/
def execDisable (g : Fin 36) (w : W) (s : State) : Host.Outcome State Fault Refusal :=
  run s (cellCmdWrite · g (withCode w 2))

/-- HOLD (R136). -/
def execHold (g : Fin 36) (w : W) (s : State) : Host.Outcome State Fault Refusal :=
  run s (cellCmdWrite · g (withCode w 3))

/-- RESUME (R136). -/
def execResume (g : Fin 36) (w : W) (s : State) : Host.Outcome State Fault Refusal :=
  run s (cellCmdWrite · g (withCode w 4))

/-- CELL_CMD_EFFECT (R145). -/
def execCellCmdEffect (g : Fin 36) (s : State) : Host.Outcome State Fault Refusal := run s (cellCmdEffect · g)

/-- TRIM_WRITE (R149). -/
def execTrimWrite (g : Fin 36) (j : Fin 128) (v : W) (s : State) : Host.Outcome State Fault Refusal :=
  run s (trimWrite · g j v)

end Sys2Proof.Machine
end

