-- ==== Sys2Proof/Machine/Epoch.lean ====
section
/-! DEFINITION. Fabric-wide mode changes (R193–R198, R207, R208). -/

namespace Sys2Proof.Machine

/-- Pass the epoch unit through `f`. -/
def modEpoch (c : Chip) (f : Epoch → Epoch) : Chip := { c with doc := { c.doc with epoch := f c.doc.epoch } }

/-- A change is preparing (R194). -/
def epochBusy (c : Chip) : Bool := fldB c DOC_EPOCH_STAT_preparing

/-- EPOCH_HOLD of R174: HOLD_ALL is in force, or a change to it is preparing. -/
def epochHold (c : Chip) : Bool := epochMode c == 1 || (epochBusy c && fld c DOC_EPOCH_STAT_pending % 4 == 1)

/-- The reason a request is refused for, in the order of R194; 0 where it is accepted. -/
def epochReason (c : Chip) (mode : Nat) : Nat :=
  if safe c then 4 else if 2 ≤ mode then 3 else if epochBusy c then 1 else if epochMode c = mode then 2 else 0

/-- The lead of R194. -/
def epochLead (l : Nat) : Nat := clampN 8 255 l

/-- A mode-change request is judged; accepted, it prepares for boundary Q = `q` and commits at Q + L (R194, R195). -/
def epochRequest (c : Chip) (mode lead : Nat) (q : W) : Chip :=
  let r := epochReason c mode
  if r = 0 then
    let byte := (fld c DOC_EPOCH_STAT_epoch / 4 + 1) % 64 * 4 + mode
    let c := setFld (setB c DOC_EPOCH_STAT_preparing true) DOC_EPOCH_STAT_pending byte
    modEpoch c (fun e => { e with
      q := q, c := q + toW (epochLead lead), started := false, parts := [], acks := [], gone := [], peerAcks := [],
      decided := none })
  else raise (setFld (setFld c DOC_EPOCH_STAT_result 3) DOC_EPOCH_STAT_reason r) srcDOC_CMD_REJECT 0

/-- A write of DOC_EPOCH_REQ (R194, R207): a refused write sets cmd_reject. -/
def epochWrite (c : Chip) (v : W) : Chip :=
  hostChangeIf c DOC_EPOCH_REQ v
    (fun c => if epochReason c (wbits v 0 2) = 0 then none
      else some (setB (epochRequest c (wbits v 0 2) (wbits v 8 8) (period c)) DOC_STAT_cmd_reject true))
    (fun c e => epochRequest c (wbits v 0 2) (wbits v 8 8) e)

/-- The number of a tile among the participants. -/
def tilePart (t : Nat) : Nat := 100 + t

/-- The galleries that hold a mapped cell, and the tiles whose links are in service (R196). -/
def participants (c : Chip) : List Nat :=
  galleries.filter (fun g => !(galleryCells c g).isEmpty)
    ++ ((List.range 144).filter (fun t => linkInService c t)).map tilePart

/-- In a pair, the tiles that neither twin's map for the boundary two before shows have left service (R196, R343). -/
def epochGone (c : Chip) : Chip :=
  modEpoch c (fun e => { e with
    gone := e.parts.filter (fun x => e.gone.contains x || (decide (100 ≤ x) && !linkInService c (x - 100))) })

/-- The prepare boundary Q (R195, R196): the participants are fixed, each participating gallery acknowledges. At a later
boundary of PREPARING a pair takes note of the tiles that have left service. -/
def epochPrepare (c : Chip) : Chip :=
  let e := c.doc.epoch
  if epochBusy c && !e.started && due c e.q then
    let p := participants c
    modEpoch c (fun e => { e with started := true, parts := p, acks := p.filter (fun x => decide (x < 36)) })
  else if epochBusy c && e.started && c.twn.paired then epochGone c
  else c

/-- A tile's prep_ack in an accepted frame counts (R195): its frame is received whole by boundary C − 1, in a pair by C − 2
(R197); the frame of the present period is whole by the next boundary. -/
def epochAck (c : Chip) (t : Nat) : Chip :=
  let e := c.doc.epoch
  let last := if c.twn.paired then e.c - 3 else e.c - 2
  if epochBusy c && e.started && e.parts.contains (tilePart t) && !e.acks.contains (tilePart t)
      && decide (pdiff (period c) last ≤ 0) then
    modEpoch c (fun e => { e with acks := e.acks ++ [tilePart t] })
  else c

/-- A tile leaves service: during PREPARING it counts as not acknowledged (R196); in a pair the maps of both twins decide
(R343). -/
def epochLeave (c : Chip) (t : Nat) : Chip :=
  if epochBusy c && c.doc.epoch.started && !c.twn.paired then modEpoch c (fun e => { e with gone := e.gone ++ [tilePart t] }) else c

/-- The participants whose acknowledgement is missing: in a pair those missing in both maps (R195, R197). -/
def epochMissing (c : Chip) : List Nat :=
  let e := c.doc.epoch
  e.parts.filter (fun x =>
    e.gone.contains x || !(e.acks.contains x || (c.twn.paired && e.peerAcks.contains x)))

/-- The data of EPOCH_WITHDRAW (R195): the number missing, and the first one, a gallery before a tile. -/
def withdrawData (missing : List Nat) : W :=
  let n := min 255 missing.length * 2 ^ 24
  match missing.filter (fun x => decide (x < 36)), missing with
  | g :: _, _ => toW (n + 256 + g)
  | [], x :: _ => toW (n + (x - 100))
  | [], [] => toW n

/-- The start of period C − 1: committed where every participant has acknowledged, withdrawn otherwise (R195). -/
def epochDecide (c : Chip) : Chip :=
  let e := c.doc.epoch
  if epochBusy c && e.started && e.decided.isNone && due c (e.c - 1) then
    let missing := epochMissing c
    if missing.isEmpty then modEpoch c (fun e => { e with decided := some true })
    else
      let d := withdrawData missing
      let c := modEpoch c (fun e => { e with started := false, withdrawn := some e.c })
      let c := setB (setFld c DOC_EPOCH_STAT_result 2) DOC_EPOCH_STAT_preparing false
      let c := setFld c DOC_EPOCH_STAT_missing (wbits d 24 8)
      let c := wr c DOC_EPOCH_MISS (toW (2 ^ 31 + wbits d 8 1 * 2 ^ 30 + wbits d 0 8))
      ledgerDetail (raise c srcEPOCH_WITHDRAW d) srcEPOCH_WITHDRAW (beBytes 4 d.toNat)
  else c

/-- The commit boundary C: the new epoch is in force (R147, R193, R195). -/
def epochCommit (c : Chip) : Chip :=
  let e := c.doc.epoch
  if epochBusy c && e.decided = some true && due c e.c then
    let old := fld c DOC_EPOCH_STAT_epoch
    let byte := fld c DOC_EPOCH_STAT_pending
    let c := setFld (setB c DOC_EPOCH_STAT_preparing false) DOC_EPOCH_STAT_epoch byte
    let c := setFld c DOC_EPOCH_STAT_result 1
    let c := modEpoch c (fun e => { e with started := false, decided := none, last := some (e.c, old), behind := [] })
    { c with lpe := { c.lpe with epochNow := some (byte % 4) } }
  else c

/-- The epoch byte a tile reports in an accepted frame (R198): a tile that was behind and now applies the epoch in force
raises EPOCH_LATE with its delay. `x` is the boundary of the frame. -/
def epochReport (c : Chip) (t byte : Nat) (x : W) : Chip :=
  match c.doc.epoch.last with
  | none => c
  | some (b, old) =>
    if byte = fld c DOC_EPOCH_STAT_epoch then
      if c.doc.epoch.behind.contains t then
        let d := min 0xFFFFFF (x - b).toNat
        let v := toW (t * 2 ^ 24 + d)
        let c := modEpoch c (fun e => { e with behind := e.behind.erase t })
        ledgerDetail (raise c srcEPOCH_LATE v) srcEPOCH_LATE (beBytes 4 v.toNat)
      else c
    else if byte = old && decide (0 ≤ pdiff x b) && decide (6 ≤ fld c (NGL_L_STAT_state t)) && !c.doc.epoch.behind.contains t then
      modEpoch c (fun e => { e with behind := e.behind ++ [t] })
    else c

/-! ### The commands -/

/-- DOC_EPOCH_REQ (R194). -/
def execDocEpochReq (v : W) (s : State) : Host.Outcome State Fault Refusal := run s (epochWrite · v)

/-- EPOCH_PREPARE (R195). -/
def execEpochPrepare (s : State) : Host.Outcome State Fault Refusal := run s epochPrepare

/-- EPOCH_DECIDE (R195). -/
def execEpochDecide (s : State) : Host.Outcome State Fault Refusal := run s epochDecide

/-- EPOCH_COMMIT (R147). -/
def execEpochCommit (s : State) : Host.Outcome State Fault Refusal := run s epochCommit

end Sys2Proof.Machine
end

