-- ==== Sys2Proof/Machine/Inventory.lean ====
section
/-! DEFINITION. The inventory: its commands and its records (R154–R159). -/

namespace Sys2Proof.Machine

/-- An inventory command is refused: nothing changes but the status and its event (R158, R159). -/
def invReject (c : Chip) : Chip := raise (setB c INV_STAT_cmd_reject true) srcINV_CMD_REJECT 0

/-- The physical cell an inventory command names (R158). -/
def invCell (w : W) : Nat := wbits w 0 13

/-- The value of an inventory command is one that R158 refuses. -/
def invBad (c : Chip) (w : W) : Bool :=
  decide (4 < wbits w 28 4) || (wbits w 28 4 == 1 && wbits w 26 2 == 0) || (mapCellOf c (invCell w)).isNone

/-- A write of INV_CMD: judged at the write, one command at a time waits for its E (R158). A NOP that is not refused does
nothing. -/
def invWrite (c : Chip) (w : W) : Chip :=
  hostChangeIf c INV_CMD w (fun c => if c.lpe.invCmd.isSome || invBad c w then some (invReject c) else none)
    (fun c e =>
      if wbits w 28 4 = 0 then c
      else setB { c with lpe := { c.lpe with invCmd := some (w, e) } } INV_STAT_cmd_busy true)

/-- The history CLEAR_HIST sets to 0 (R158). -/
def InvRec.clearHist (r : InvRec) : InvRec :=
  { r with holdCnt := 0, coastCnt := 0, lateCnt := 0, ovrCnt := 0, frozenCnt := 0, autoRecent := 0, noAuto := false,
           lastHoldP := 0, lastFaultP := 0 }

/-- MARK_STUCK at E: the mark, the counts unchanged (R154). -/
def markStuck (c : Chip) (i mark : Nat) : Chip :=
  let was := (getCell c i).inv.stuck
  showStuck (modCell c i (fun x => { x with inv := { x.inv with stuck := mark, lastFaultP := period c } })) i was mark

/-- CLEAR_STUCK at E: no mark, both failure counts 0 (R154). -/
def clearStuck (c : Chip) (i : Nat) : Chip :=
  let was := (getCell c i).inv.stuck
  showStuck (modCell c i (fun x => { x with inv := { x.inv with stuck := 0, failBar := 0, failCross := 0 } })) i was 0

/-- CLEAR_HIST at E (R158). -/
def clearHist (c : Chip) (i : Nat) : Chip := modCell c i (fun x => { x with inv := x.inv.clearHist })

/-- CLEAR_SW at E (R158). -/
def clearSw (c : Chip) (i : Nat) : Chip := modCell c i (fun x => { x with inv := { x.inv with switches := 0 } })

/-- The waiting inventory command takes effect at its E (R158). -/
def invEffect (c : Chip) : Chip :=
  match c.lpe.invCmd with
  | none => c
  | some (w, e) =>
    if due c e then
      let c := setB { c with lpe := { c.lpe with invCmd := none } } INV_STAT_cmd_busy false
      let i := invCell w
      let k := wbits w 28 4
      if k = 1 then markStuck c i (wbits w 26 2) else if k = 2 then clearStuck c i
      else if k = 3 then clearHist c i else clearSw c i
    else c

/-- The underlying mode as the record shows it: the mode itself but in COAST (R156). -/
def shownUnder (x : Cell) : LoopMode := if x.mode = .coast then x.under else x.mode

/-- Word `w` of the inventory record of a cell (R156). It reads 0 until a computation of the cell has changed it (R157; log entry
102). -/
def invWord (c : Chip) (i w : Nat) : W :=
  let x := getCell c i
  let r := x.inv
  if w = 0 then
    toW (x.mode.code * 2 ^ 29 + (shownUnder x).code * 2 ^ 26 + x.holdCause * 2 ^ 23 + r.stuck * 2 ^ 21
      + (if x.seen then x.held * 2 ^ 19 + forceOf c i % 4 * 2 ^ 17 else 0) + b2n x.frzB.frozen * 2 ^ 16 + b2n x.frzC.frozen * 2 ^ 15 + b2n r.single * 2 ^ 14
      + b2n r.noAuto * 2 ^ 13 + min 255 x.coastRun)
  else if w = 1 then toW (r.holdCnt * 2 ^ 16 + r.coastCnt)
  else if w = 2 then toW (r.lateCnt * 2 ^ 16 + r.ovrCnt)
  else if w = 3 then
    toW (r.frozenCnt * 2 ^ 24 + r.autoRecent * 2 ^ 20 + r.failBar * 2 ^ 16 + r.failCross * 2 ^ 12 + r.cleanRun)
  else if w = 4 then r.lastHoldP
  else if w = 5 then r.lastFaultP
  else if w = 6 then toW r.switches
  else toW (r.switches / 2 ^ 32 % 2 ^ 16)

/-- An inventory command word with its code set to `k` (R158). -/
def withInvCode (w : W) (k : Nat) : W := putField w 28 4 k

/-! ### The commands -/

/-- INV_NOP (R158). -/
def execInvNop (w : W) (s : State) : Host.Outcome State Fault Refusal := run s (invWrite · (withInvCode w 0))

/-- MARK_STUCK (R154). -/
def execMarkStuck (w : W) (s : State) : Host.Outcome State Fault Refusal := run s (invWrite · (withInvCode w 1))

/-- CLEAR_STUCK (R154). -/
def execClearStuck (w : W) (s : State) : Host.Outcome State Fault Refusal := run s (invWrite · (withInvCode w 2))

/-- CLEAR_HIST (R158). -/
def execClearHist (w : W) (s : State) : Host.Outcome State Fault Refusal := run s (invWrite · (withInvCode w 3))

/-- CLEAR_SW (R158). -/
def execClearSw (w : W) (s : State) : Host.Outcome State Fault Refusal := run s (invWrite · (withInvCode w 4))

/-- INV_CMD_EFFECT (R158). -/
def execInvCmdEffect (s : State) : Host.Outcome State Fault Refusal := run s invEffect

end Sys2Proof.Machine
end

