-- ==== Sys2Proof/Machine/Time.lean ====
section
/-! DEFINITION. Network time and the period grid (R54–R86). -/

namespace Sys2Proof.Machine

/-- Network time of the last boundary, T(P) (R60). -/
def boundaryTime (c : Chip) : BitVec 64 := c.tmr.bndNs

/-- Let `n` ticks of the core clock pass (R54, R70): the native counter gains the increment at each, the free count
of the compatible mode exactly 1.0 ns. -/
def countTicks (c : Chip) (n : Nat) : Chip :=
  let t := c.tmr
  let sum := t.timeNs.toNat * 2 ^ 32 + t.timeFrac.toNat + n * t.inc
  { c with tmr := { t with
      timeNs := BitVec.ofNat 64 (sum / 2 ^ 32), timeFrac := toW sum,
      cxFree := t.cxFree + BitVec.ofNat 64 n, tick := t.tick + n, ticks := t.ticks + n } }

/-- Let `n` ticks pass; the network time of the tick before the last is kept (R79). -/
def runTicks (c : Chip) (n : Nat) : Chip :=
  let d := countTicks c n
  { d with tmr := { d.tmr with lastNs := if n = 0 then c.tmr.lastNs else netTime (countTicks c (n - 1)) } }

/-- Move network time by whole nanoseconds: time_ns, or O in the compatible mode (R65, R71). -/
def moveTime (c : Chip) (d : Int) : Chip :=
  if fldB c TMR_CTL_clk_mode then
    wr64 c TMR_CX_OFS_LO TMR_CX_OFS_HI (rd64 c TMR_CX_OFS_LO TMR_CX_OFS_HI + BitVec.ofInt 64 d)
  else { c with tmr := { c.tmr with timeNs := c.tmr.timeNs + BitVec.ofInt 64 d } }

/-- Give the outstanding slew a value; slewing shows whether it is non-zero (R66). -/
def setSlew (c : Chip) (s : Int) : Chip :=
  setB { c with tmr := { c.tmr with slew := s } } TMR_STAT_slewing (s != 0)

/-- The slew tick `i` of a period, `i` counted from 0: one nanosecond of outstanding slew is taken while `i` is below
slew_rate (R66). -/
def slewMark (c : Chip) (i : Nat) : Chip :=
  if i < fld c TMR_CTL_slew_rate && c.tmr.slew != 0 then
    let d : Int := if 0 < c.tmr.slew then 1 else -1
    let c := setSlew (moveTime c d) (c.tmr.slew - d)
    { c with tmr := { c.tmr with slewed := c.tmr.slewed + d } }
  else c

/-- The in-period indices of the slew ticks (R66). -/
def slewIndex (i : Nat) : Nat := 30 + 60 * i

/-- Run to slew tick `i` and take it, if it still lies ahead and not after `upto`. -/
def takeMark (upto : Nat) (c : Chip) (i : Nat) : Chip :=
  if c.tmr.tick < slewIndex i && slewIndex i ≤ upto then slewMark (runTicks c (slewIndex i - c.tmr.tick)) i else c

/-- Ticks until network time first reaches `target`, in the compatible mode: counted tick by tick (R59, R70). -/
def cxTicks (c : Chip) (target : BitVec 64) : Nat → Nat → Nat
  | 0, n => n
  | fuel + 1, n =>
    if 0 ≤ tdiff (netTime { c with tmr := { c.tmr with cxFree := c.tmr.cxFree + BitVec.ofNat 64 n } }) target then n
    else cxTicks c target fuel (n + 1)

/-- Ticks until network time first reaches `target` (R59); none where it has passed it. -/
def ticksTo (c : Chip) (target : BitVec 64) : Nat :=
  if fldB c TMR_CTL_clk_mode then cxTicks c target 300 0
  else if 0 ≤ tdiff c.tmr.timeNs target then 0
  else ceilDiv ((target - c.tmr.timeNs).toNat * 2 ^ 32 - c.tmr.timeFrac.toNat) c.tmr.inc

/-- Let time pass to the tick of in-period index `k`, the slew ticks on the way included; a tick already past is
the present one, and the last tick before the next boundary is passed by PERIOD_BOUNDARY alone (R59). -/
def advanceTo (c : Chip) (k : Nat) : Chip :=
  let c := takeMark k (takeMark k (takeMark k (takeMark k c 0) 1) 2) 3
  runTicks c (min (k - c.tmr.tick) (ticksTo c (c.tmr.bndNs + 250) - 1))

/-- The in-period index of the next slew tick, none after the fourth. -/
def nextMark (c : Chip) : Option Nat := ([0, 1, 2, 3].map slewIndex).find? (fun k => decide (c.tmr.tick < k))

/-- Time runs to the next boundary: the first tick at which network time reaches or passes the next multiple of 250
(R59). The period number advances by one (R21). -/
def advanceBoundary (c : Chip) : Chip :=
  let c := takeMark 210 (takeMark 210 (takeMark 210 (takeMark 210 c 0) 1) 2) 3
  let target := c.tmr.bndNs + 250
  let c := runTicks c (ticksTo c target)
  { c with tmr := { c.tmr with bndNs := target, tick := 0, slewed := 0, period := c.tmr.period + 1 } }

/-- The committed increment of R56, held between 0.999 ns and 1.001 ns. -/
def clampInc (v : Nat) : Nat := clampN 0x0FFBE76C9 0x100418937 v

/-- TMR_INC_NS and TMR_INC_FRAC read as one value in 2^-32 ns, the fraction as given (R56). -/
def incPair (c : Chip) (v : W) : Nat := wbits (rd c TMR_INC_NS) 0 4 * 2 ^ 32 + v.toNat

/-- A write of TMR_INC_NS stages its half (R56). -/
def incStage (c : Chip) (v : W) : Chip :=
  hostChange c TMR_INC_NS v (fun c _ => wr c TMR_INC_NS (toW (wbits v 0 4)))

/-- A write of TMR_INC_FRAC commits the pair, clamped at the write; the counter uses it from E. A later commit
replaces one that waits (R56, R57). -/
def incCommit (c : Chip) (v : W) : Chip :=
  hostChange c TMR_INC_FRAC v (fun c e =>
    let raw := incPair c v
    let inc := clampInc raw
    let c := wr (wr c TMR_INC_NS (toW (inc / 2 ^ 32))) TMR_INC_FRAC (toW inc)
    let c := { c with tmr := { c.tmr with incPend := some (inc, e) } }
    if inc = raw then c else raise (setB c TMR_STAT_inc_clamped true) srcTMR_INC_CLAMP 0)

/-- A write of TMR_CX_RATE reads back at once; in the compatible mode it acts at its E, otherwise it is no state change
(R57, R71). -/
def cxRateWrite (c : Chip) (v : W) : Chip :=
  if fldB c TMR_CTL_clk_mode then
    hostChange c TMR_CX_RATE v (fun c e =>
      let c := wr c TMR_CX_RATE v
      { c with tmr := { c.tmr with cxPend := some (v, e) } })
  else hostWrite c TMR_CX_RATE (fun c => wr c TMR_CX_RATE v)

/-- The increment that waits comes into force at its E (R56). -/
def incEffect (c : Chip) : Chip :=
  match c.tmr.incPend with
  | some (v, e) => if due c e then { c with tmr := { c.tmr with inc := v, incPend := none } } else c
  | none => c

/-- The rate that waits comes into force at its E: O takes what the old rate has gathered, F_ref moves up (R71). -/
def cxEffect (c : Chip) : Chip :=
  match c.tmr.cxPend with
  | some (v, e) =>
    if due c e then
      let gain : Int := sext 64 (c.tmr.cxFree - c.tmr.cxRef).toNat * wInt c.tmr.cxRho / 2 ^ 40
      let c := wr64 c TMR_CX_OFS_LO TMR_CX_OFS_HI (rd64 c TMR_CX_OFS_LO TMR_CX_OFS_HI + BitVec.ofInt 64 gain)
      { c with tmr := { c.tmr with cxRef := c.tmr.cxFree, cxRho := v, cxPend := none } }
    else c
  | none => c

/-- A go or tod_arm write is refused (R68). -/
def adjReject (c : Chip) : Chip := raise (setB c TMR_STAT_adj_reject true) srcTMR_ADJ_REJECT 0

/-- An adjustment starts to wait for E (R64). -/
def startAdj (c : Chip) (a : Adj) : Chip :=
  setB { c with tmr := { c.tmr with adj := some a } } TMR_STAT_adj_busy true

/-- A write of TMR_ADJ_CTL (R64, R68, R78, R84): go starts an adjustment, tod_arm arms a time-of-day set; both at
once, either while one is pending, and tod_arm without tod_src are refused. A go that comes from the journal has been
accepted by the keeper, and ends an armed set that a PPS edge has started there (R57, R343). -/
def adjWrite (c : Chip) (v : W) : Chip :=
  let go := wbit v 0
  let arm := wbit v 3
  hostChangeIf c TMR_ADJ_CTL_go.addr v
    (fun c =>
      let busy := !fromJournal c && (fldB c TMR_STAT_adj_busy || fldB c TMR_STAT_tod_armed)
      if (go && arm) || ((go || arm) && busy) || (arm && !fldB c TMR_CTL_tod_src) then some (adjReject c) else none)
    (fun c e =>
      if go then
        startAdj (setB c TMR_STAT_tod_armed false)
          ⟨BitVec.ofNat 64 ((written c TMR_ADJ_LO).toNat + 2 ^ 32 * (written c TMR_ADJ_HI).toNat), wbit v 2, wbit v 1, e⟩
      else if arm then setB c TMR_STAT_tod_armed true
      else c)

/-- Δ of an adjustment at the boundary it acts at (R64): the value, or for a target time its distance from T(E). -/
def adjDelta (c : Chip) (a : Adj) : Int :=
  if a.absolute then tdiff a.value c.tmr.bndNs else sext 64 a.value.toNat

/-- k of R65: the whole periods of a correction. -/
def stepPeriods (d : Int) : Int := (d + 125) / 250

/-- The step of `k` periods at a boundary (R65, R67): time moves, step_cnt advances, the ledger writes both network
times, TMR_STEP is raised and every block that schedules by network time is told. -/
def timeStep (c : Chip) (k : Int) : Chip :=
  let before := c.tmr.bndNs
  let c := moveTime c (250 * k)
  let c := { c with tmr := { c.tmr with bndNs := before + BitVec.ofInt 64 (250 * k) } }
  let c := setFld c TMR_STAT_step_cnt ((fld c TMR_STAT_step_cnt + 1) % 256)
  let c := ledgerStep c before c.tmr.bndNs
  let c := raise c srcTMR_STEP 0
  { c with tmr := { c.tmr with stepAt := some (c.tmr.period, before), lastNs := netTime c } }

/-- The adjustment that waits takes effect at its E (R65): the whole correction is slewed if it is within the limit,
not forced and time is valid; otherwise it is split into a step of whole periods and a remainder to slew.
time_valid becomes 1 (R58). -/
def adjustmentEffect (c : Chip) : Chip :=
  match c.tmr.adj with
  | some a =>
    if due c a.e then
      let d := adjDelta c a + c.tmr.slew
      let c := setB { c with tmr := { c.tmr with adj := none } } TMR_STAT_adj_busy false
      let slewed := decide (d.natAbs ≤ rn c TMR_SLEW_LIMIT) && !a.forceStep && fldB c TMR_STAT_time_valid
      let c :=
        if slewed then setSlew c d
        else
          let k := stepPeriods d
          let c := if k = 0 then c else timeStep c k
          setSlew c (d - 250 * k)
      setB c TMR_STAT_time_valid true
    else c
  | none => c

/-- A read of TMR_TIME_LO returns time_ns bits 31:0 and latches the rest of the pair (R60, R81). -/
def timeReadLatch (c : Chip) : Chip :=
  hostRead c TMR_TIME_LO (fun c =>
    let t := netTime c
    let c := wr c TMR_TIME_HI (toW (t.toNat / 2 ^ 32))
    let c := wr c TMR_TIME_FRAC (if fldB c TMR_CTL_clk_mode then 0 else c.tmr.timeFrac)
    let c := wr c TMR_TIME_P c.tmr.period
    let c := wr64 c TMR_CX_FREE_LO TMR_CX_FREE_HI c.tmr.cxFree
    answer c (toW t.toNat))

/-- A PPS_IN edge is not accepted (R77). -/
def ppsGlitch (c : Chip) : Chip := raise (setB c TMR_STAT_pps_in_glitch true) srcTMR_PPS_GLITCH 0

/-- The adjustment of an armed PPS edge starts (R57, R78). In a pair it reaches the copyist as the writes that start it: the
value and go (R343; log entry 99). -/
def todStart (c : Chip) (d : BitVec 64) : Chip :=
  if c.twn.paired then
    let lo := toW d.toNat
    let hi := toW (d.toNat / 2 ^ 32)
    let c := stateChange c TMR_ADJ_LO lo (fun c e => defer c e TMR_ADJ_LO lo)
    let c := stateChange c TMR_ADJ_HI hi (fun c e => defer c e TMR_ADJ_HI hi)
    stateChange c TMR_ADJ_CTL 1 (fun c e => startAdj c ⟨d, false, false, e⟩)
  else startAdj c ⟨d, false, false, effE c⟩

/-- The time-of-day set of R78 at an accepted edge with stamp `s`: an adjustment of TOD × 10^9 − S starts, as though
go had been written in this period; a set once armed acts whatever tod_src holds by then (log entry 99). A twin without the
loan takes no adjustment of its own (R57, R342). -/
def todSet (c : Chip) (s : BitVec 64) : Chip :=
  if fldB c TMR_STAT_tod_armed && holdsLoan c then
    let tod : Nat := rn c TMR_TOD_SEC_LO + 2 ^ 32 * wbits (rd c TMR_TOD_SEC_HI) 0 16
    todStart (setB c TMR_STAT_tod_armed false) (BitVec.ofInt 64 (Int.ofNat tod * 1000000000 - Int.ofNat s.toNat))
  else c

/-- A rising edge of PPS_IN sampled high at the tick of in-period index `tick`, high for `highNs` (R77, R78). -/
def ppsInEdge (c : Chip) (tick highNs : Nat) : Chip :=
  let c := advanceTo c tick
  if fldB c TMR_CTL_pps_in_en then
    let early := match c.tmr.ppsEdge with
      | none => false
      | some t => decide (c.tmr.ticks - t < 500000000)
    if highNs < 100 || early then ppsGlitch c
    else
      let s := netTime c - BitVec.ofInt 64 (wInt (rd c TMR_PPS_IN_COMP))
      let unread := fldB c TMR_STAT_pps_in_new
      let c := { c with tmr := { c.tmr with ppsStamp := s, ppsEdge := some c.tmr.ticks } }
      let c := setB (wr c TMR_PPS_IN_LO (toW s.toNat)) TMR_STAT_pps_in_new true
      let c := if unread then raise (setB c TMR_STAT_pps_in_ovr true) srcTMR_PPS_OVR 0 else c
      todSet c s
  else c

/-- A read of TMR_PPS_IN_LO returns the low stamp word, latches the high one and clears pps_in_new (R81). -/
def ppsInRead (c : Chip) : Chip :=
  hostRead c TMR_PPS_IN_LO (fun c =>
    let v := rd c TMR_PPS_IN_LO
    let c := wr c TMR_PPS_IN_HI (toW (c.tmr.ppsStamp.toNat / 2 ^ 32))
    answer (setB c TMR_STAT_pps_in_new false) v)

/-- Distance of a network time past the latest edge time n × 10^9 + TMR_PPS_OUT_OFS (R79). -/
def ppsPhase (c : Chip) (t : BitVec 64) : Nat :=
  (((t.toNat : Int) - wInt (rd c TMR_PPS_OUT_OFS)) % 1000000000).toNat

/-- The PPS_OUT engine drives pulses (R79). -/
def ppsOutEnabled (c : Chip) : Bool :=
  fldB c TMR_CTL_pps_out_en && (!fldB c TMR_CTL_pps_out_valid_only || fldB c TMR_STAT_time_valid)

/-- PPS_OUT rises at the tick at which network time first reaches an edge time (R79): the tick of in-period index
`tick`, if network time passes one from the tick before. -/
def ppsOutRise (c : Chip) (tick : Nat) : Chip :=
  let c := advanceTo c tick
  let d := (tdiff (netTime c) c.tmr.lastNs).toNat
  if ppsOutEnabled c && c.tmr.ppsOut.isNone && decide (ppsPhase c (netTime c) < d) then
    { c with tmr := { c.tmr with ppsOut := some c.tmr.ticks } }
  else c

/-- A write of TMR_CTL acts: PPS_OUT is held low where its engine no longer drives pulses (R79, R82). -/
def ppsOutHold (c : Chip) : Chip :=
  if ppsOutEnabled c then c else { c with tmr := { c.tmr with ppsOut := none } }

/-- The programmed high time of PPS_OUT in core ticks (R79); 1–500,000 µs. -/
def ppsWidthTicks (c : Chip) : Nat := 1000 * rn c TMR_PPS_OUT_WIDTH

/-- PPS_OUT falls once its programmed width of real time has passed (R79, R80). -/
def ppsOutFall (c : Chip) (tick : Nat) : Chip :=
  let c := advanceTo c tick
  match c.tmr.ppsOut with
  | some t => if ppsWidthTicks c ≤ c.tmr.ticks - t then { c with tmr := { c.tmr with ppsOut := none } } else c
  | none => c

/-- The stamp of the present tick with a compensation in UQ12.4 ns added (R73, R74). -/
def stampNow (c : Chip) (comp : Int) : Stamp :=
  let frac : Nat := if fldB c TMR_CTL_clk_mode then 0 else c.tmr.timeFrac.toNat / 2 ^ 28
  let v : Int := Int.ofNat ((netTime c).toNat * 16 + frac) + comp
  ⟨BitVec.ofInt 64 (v / 16), BitVec.ofInt 4 (v % 16), BitVec.ofNat 4 (fld c TMR_STAT_step_cnt)⟩

/-- The ingress stamp of port `n`: the raw stamp minus rx_comp (R73). -/
def ingressStamp (c : Chip) (n : Nat) : Stamp := stampNow c (-(fld c (TMR_P_COMP_rx_comp n) : Int))

/-- The egress stamp of port `n`: the raw stamp plus tx_comp (R73). -/
def egressStamp (c : Chip) (n : Nat) : Stamp := stampNow c (fld c (TMR_P_COMP_tx_comp n))

/-- A two-step egress stamp enters the port's queue of 32; a full queue drops it and the next one stored carries
lost = 1 (R75). -/
def pushTxStamp (c : Chip) (n : Nat) (s : Stamp) (tag : BitVec 16) : Chip :=
  let q := nth [] c.tmr.txq n
  if q.length < 32 then
    { c with tmr := { c.tmr with
        txq := setNth c.tmr.txq n (q ++ [⟨s, tag, nth false c.tmr.txLost n⟩]),
        txLost := setNth c.tmr.txLost n false } }
  else raise { c with tmr := { c.tmr with txLost := setNth c.tmr.txLost n true } } (srcTMR_TXTS_LOST n) 0

/-- The word TMR_Pn_TXTS_META shows of a queue entry (R86). -/
def txtsWord (e : TxStamp) : W :=
  toW (2 ^ 31 + b2n e.lost * 2 ^ 30 + e.stamp.step.toNat * 2 ^ 26 + e.stamp.frac.toNat * 2 ^ 22 + e.tag.toNat)

/-- A host read of TMR_Pn_TXTS_META returns the head of the queue, pops it and latches its nanoseconds (R86). -/
def txtsPop (c : Chip) (p : Nat) : Chip :=
  hostRead c (TMR_P_TXTS_META_valid p).addr (fun c =>
    match nth [] c.tmr.txq p with
    | [] => answer c 0
    | e :: t =>
      let c := { c with tmr := { c.tmr with txq := setNth c.tmr.txq p t } }
      answer (wr64 c (TMR_P_TXTS_LO p) (TMR_P_TXTS_HI p) e.stamp.ns) (txtsWord e))

/-! ### The commands -/

/-- INC_STAGE (R56). -/
def execIncStage (v : W) (s : State) : Host.Outcome State Fault Refusal := run s (incStage · v)

/-- INC_COMMIT (R56). -/
def execIncCommit (v : W) (s : State) : Host.Outcome State Fault Refusal := run s (incCommit · v)

/-- TIME_WRITE_EFFECT (R57): the increment and the rate that wait come into force at their E. -/
def execTimeWriteEffect (s : State) : Host.Outcome State Fault Refusal := run s (fun c => cxEffect (incEffect c))

/-- ADJ_GO (R64, R68). -/
def execAdjGo (v : W) (s : State) : Host.Outcome State Fault Refusal := run s (adjWrite · (v ||| 1))

/-- TOD_ARM (R78, R68). -/
def execTodArm (v : W) (s : State) : Host.Outcome State Fault Refusal := run s (adjWrite · (v ||| 8))

/-- SLEW_CORRECTION (R66): time runs to the next slew tick of the period, where one nanosecond is taken. -/
def execSlewCorrection (s : State) : Host.Outcome State Fault Refusal :=
  run s (fun c => match nextMark c with
    | some k => advanceTo c k
    | none => c)

/-- TIME_READ_LATCH (R60). -/
def execTimeReadLatch (s : State) : Host.Outcome State Fault Refusal := run s timeReadLatch

/-- PPS_IN_EDGE (R77). -/
def execPpsInEdge (tick highNs : Nat) (s : State) : Host.Outcome State Fault Refusal := run s (ppsInEdge · tick highNs)

/-- PPS_IN_READ (R81). -/
def execPpsInRead (s : State) : Host.Outcome State Fault Refusal := run s ppsInRead

/-- PPS_OUT_RISE (R79). -/
def execPpsOutRise (tick : Nat) (s : State) : Host.Outcome State Fault Refusal := run s (ppsOutRise · tick)

/-- PPS_OUT_FALL (R79). -/
def execPpsOutFall (tick : Nat) (s : State) : Host.Outcome State Fault Refusal := run s (ppsOutFall · tick)

/-- TXTS_POP (R86). -/
def execTxtsPop (p : Fin 4) (s : State) : Host.Outcome State Fault Refusal := run s (txtsPop · p)

end Sys2Proof.Machine
end

