-- ==== Sys2Proof/Machine/Mem.lean ====
section
/-! DEFINITION. LPDDR6 by byte (R10, R534), the masters' accesses of it (R530, R537), CRC-32C (R265), MSI-X messages (R544) and the PTP form of a time (R24):
what several blocks share. -/

namespace Sys2Proof.Machine

/-- The canonical form of LPDDR6: addresses strictly rising, no entry that an unlisted address reads as. -/
abbrev Memory.wf (m : List (Nat × Byte)) : Bool := mapWf (fun _ => 0) m

/-- A byte of LPDDR6; one that nothing has written reads 0 (log entry 4). -/
def ddrByte (c : Chip) (a : Nat) : Byte := mapRead (fun _ => 0) c.ddr a

/-- `n` bytes of LPDDR6 from address `a`. -/
def ddrBytes (c : Chip) (a n : Nat) : List Byte := mapReadRun (fun _ => 0) c.ddr a n

/-- Write bytes to LPDDR6 from address `a`. -/
def ddrWrite (c : Chip) (a : Nat) (l : List Byte) : Chip := { c with ddr := mapWriteRun (fun _ => 0) c.ddr a l }

/-- The little-endian word of LPDDR6 at address `a` (R10). -/
def ddrWord (c : Chip) (a : Nat) : Nat := leNat (ddrBytes c a 4)

/-! ### The partitions of LPDDR6 (R537) -/

/-- The usable capacity of LPDDR6 in bytes (R535). -/
def ddrUsable (c : Chip) : Nat :=
  let k := fld c DDR_STAT_capacity
  (if k = 0 then 14 else if k = 1 then 28 else 56) * 2 ^ 30

/-- The bytes of partition `n`: its base and its size (R537). -/
def partBase (c : Chip) (n : Nat) : Nat := bitsAt (rn c (DDR_PART_BASE n)) 0 16 * 2 ^ 20
def partSize (c : Chip) (n : Nat) : Nat := bitsAt (rn c (DDR_PART_SIZE n)) 0 17 * 2 ^ 20

/-- Some partition that contains every byte of the access grants it to master `m` (R537). -/
def partGrants (c : Chip) (m : Nat) (write : Bool) (a n : Nat) : Bool :=
  (List.range 8).any (fun p =>
    decide (partBase c p ≤ a) && decide (a + n ≤ partBase c p + partSize c p)
      && wbit (rd c (if write then DDR_PART_WR p else DDR_PART_RD p)) m)

/-- An access of LPDDR6 by master `m` succeeds: usable capacity and rights (R535, R537). -/
def ddrMay (c : Chip) (m : Nat) (write : Bool) (a n : Nat) : Bool :=
  decide (a + n ≤ ddrUsable c) && partGrants c m write a n

/-- The channel of a bus address (R524). -/
def ddrChannel (a : Nat) : Nat := a / 2 ^ 14 % 4

/-- What the matrix makes of an access of LPDDR6: a denied one ends with DECERR (R530, R537). -/
def ddrNote (c : Chip) (m : Nat) (write : Bool) (a n : Nat) : Chip :=
  if ddrMay c m write a n then c else matrixError c 1 m (ddrChannel a) write a 0

/-- The bytes a master reads; zeros where it is denied (R530). -/
def memBytes (c : Chip) (m a n : Nat) : List Byte := if ddrMay c m false a n then ddrBytes c a n else List.replicate n 0

/-- A master writes bytes; a denied write leaves memory as it is (R530). -/
def memWrite (c : Chip) (m a : Nat) (l : List Byte) : Chip :=
  if ddrMay c m true a l.length then ddrWrite c a l else ddrNote c m true a l.length

/-- One bit step of CRC-32C, reflected polynomial 0x82F6_3B78 (R265). -/
def crcBit (x : Nat) : Nat := if x % 2 = 1 then (x / 2) ^^^ 0x82F63B78 else x / 2

/-- One byte of CRC-32C. -/
def crcByte (x : Nat) (b : Byte) : Nat :=
  crcBit (crcBit (crcBit (crcBit (crcBit (crcBit (crcBit (crcBit (x ^^^ b.toNat))))))))

/-- CRC-32C of a byte list (R265). -/
def crc32c (l : List Byte) : Nat := l.foldl crcByte 0xFFFFFFFF ^^^ 0xFFFFFFFF

/-- Word `k` of an MSI-X table entry; after reset every entry is masked (log entry 8). -/
def msixWord (c : Chip) (v k : Nat) : W := mapRead (fun i => if i % 4 = 3 then 1 else 0) c.pcie.table (4 * v + k)

/-- A message for vector `v` may be sent (R544). -/
def msixReady (c : Chip) (v : Nat) : Bool :=
  c.pcie.enable && !c.pcie.funcMask && !wbit (msixWord c v 3) 0 && c.pcie.busMaster

/-- The message of a vector leaves; a vector without an address gets none (R544). -/
def msixEmit (c : Chip) (v : Nat) : Chip :=
  let c := { c with pcie := { c.pcie with pend := c.pcie.pend &&& ~~~(BitVec.ofNat 256 (2 ^ v)) } }
  if msixWord c v 0 = 0 && msixWord c v 1 = 0 then raise c srcPCIE_MSIX_DROP 0
  else { c with pcie := { c.pcie with sent := c.pcie.sent + 1, last := some v } }

/-- A block asks for a message on a vector: it is sent, or its pending bit is set (R544). -/
def msixSend (c : Chip) (v : Nat) : Chip :=
  if msixReady c v then msixEmit c v
  else { c with pcie := { c.pcie with pend := c.pcie.pend ||| BitVec.ofNat 256 (2 ^ v) } }

/-- A network time in PTP form: 48 bits of seconds and 32 bits of nanoseconds, big-endian (R24). -/
def ptpBytes (t : BitVec 64) : List Byte := beBytes 6 (t.toNat / 1000000000) ++ beBytes 4 (t.toNat % 1000000000)

/-- A list with the bytes from `off` replaced; a list too short is unchanged past its end. -/
def putBytes (l : List Byte) (off : Nat) (new : List Byte) : List Byte :=
  (l.take off ++ new ++ l.drop (off + new.length)).take l.length

end Sys2Proof.Machine
end

