-- ==== Sys2Proof/Machine/TwinBase.lean ====
section
/-! DEFINITION. What other blocks ask of twin operation: the registers that are state changes, the roles of a device, a message
of the twin link, and a copyist that becomes UNFIT (R339, R343, R348, R358, R367). -/

namespace Sys2Proof.Machine

/-! ### Addresses of arrays of registers -/

/-- The index of a register in an array of `n` at a stride. -/
def indexIn (a base n stride : Nat) : Option Nat :=
  if base ≤ a && a < base + n * stride && (a - base) % stride = 0 then some ((a - base) / stride) else none

/-- The indexes of a register in an array of arrays. -/
def indexIn2 (a base n1 s1 n2 s2 : Nat) : Option (Nat × Nat) :=
  if base ≤ a && a < base + n1 * s1 then (indexIn ((a - base) % s1) 0 n2 s2).map (fun j => ((a - base) / s1, j)) else none

/-- An offset in the galleries' space: the gallery and the offset in its 64 KiB (R16). -/
def galleryPlace (a : Nat) : Option (Nat × Nat) :=
  if 0x800000 ≤ a && a < 0xA40000 then some ((a - 0x800000) / 0x10000, (a - 0x800000) % 0x10000) else none

/-- The device may write the register: a bit of its row is RW. -/
def isRw (a : Nat) : Bool := match rowOf a with | some r => r.rw != 0 | none => false

/-- The DAC channel a register of the DAC belongs to, and which of its four words it is (R595). -/
def dacWord (addr : Nat) : Option (Nat × Nat) :=
  if 0x1400400 ≤ addr && addr < 0x1400500 then some ((addr - 0x1400400) / 16, addr % 16 / 4) else none

/-! ### State-change registers (R57, R162, R199, R255, R288, R334, R381, R426, R463, R590) -/

/-- The base of the shadow bank and of the active bank (R430). -/
def PKT_SHADOW : Nat := 0xE10000
def PKT_ACTIVE : Nat := 0xE20000

/-- A write of the register is a state change (R343). -/
def changeReg (a : Nat) : Bool :=
  let b := a / 0x100000
  let o := a % 0x100000
  if b = 1 then
    a == PDM_CTL || a == PDM_PMB_CTL || a == PDM_ASM_CTL || (indexIn a (PDM_DOM 0) 56 4).isSome
      || (decide (PDM_RAIL_CFG 0 ≤ a) && decide (a < PDM_RAIL_CFG 16) && a % 16 != 12)
  else if b = 3 then isRw a || a == TMR_ADJ_CTL
  else if b = 4 then isRw a || a == PRG_CMD || (decide (0x10000 ≤ o) && decide (o < 0x30000))
  else if b = 5 then a == ARS_CTL || a == ARS_CUR_RANGE || a == ARS_CMD
  else if b = 6 then isRw a
  else if b = 7 then
    isRw a || a == DOC_ABORT || a == DOC_URG || a == DOC_EPOCH_REQ || (decide (0x400 ≤ o) && decide (o < 0x800))
  else if b = 11 then a == NGL_CTL || (indexIn a (NGL_L_CTL 0) 144 0x1000).isSome
  else if b = 12 then
    a == CNS_CTL || a == CNS_AMP_CTL || a == CNS_COMMIT || (indexIn a (CNS_RAIL 0) 36 4).isSome
      || (indexIn a (CNS_CHAR_RES_B 0) 16 8).isSome
  else if b = 13 then (indexIn a (SVP_P_CTL 0) 4 0x1000).isSome
  else if b = 14 then
    a == PKT_CTL || a == PKT_GEN || (decide (PKT_SHADOW ≤ a) && decide (a < PKT_SHADOW + 0x2000))
      || (decide (PKT_POL_RATE 0 ≤ a) && decide (a < PKT_POL_RATE 16))
      || (indexIn a (PKT_Q_CTL 0) 16 0x20).isSome || (indexIn a (PKT_Q_BASE 0) 16 0x20).isSome
      || (indexIn a (PKT_Q_SLOTS 0) 16 0x20).isSome
  else if b = 15 then isRw a && !(decide (0x40 ≤ o % 0x1000) && decide (o % 0x1000 < 0x60) && decide (o < 0x4000))
  else if b = 19 then a == LDG_CTL
  else if b = 20 then
    (dacWord a).isSome || (indexIn a (AUX_TEC_CFG 0) 8 16).isSome || (indexIn a (AUX_TEC_SET 0) 8 16).isSome
  else if b = 32 then true
  else if a == INV_CTL || a == INV_CMD then true
  else match galleryPlace a with
    | some (_, o) => o == 0 || o == 0x10 || (decide (0x100 ≤ o) && decide (o < 0x300)) || (decide (0xA000 ≤ o) && decide (o < 0xC000))
    | none => false

/-! ### The roles of a device, and its messages -/

/-- The role of this device (R367): 0 none, 1 keeper, 2 copyist. -/
def twinRole (c : Chip) : Nat := fld c TWN_STAT_role

/-- The state of this device in the pair (R367): 0 DETACHED, 1 JOINING, 2 IN_STEP, 3 ALONE, 4 UNDECIDED. -/
def twinState (c : Chip) : Nat := fld c TWN_STAT_state

/-- The device is a twin (R366). -/
def isTwin (c : Chip) : Bool := fldB c TWN_CTL_twin_en

/-- The device runs the loops, the Docent and the programmes and sends FRAMEs (R348): a single device always, a twin in
step, alone or before its verdict, and a keeper; a twin DETACHED by a heartbeat edge up to the next boundary (R353). -/
def runsFabric (c : Chip) : Bool :=
  !isTwin c || 2 ≤ twinState c || twinRole c == 1 || (twinState c == 0 && c.twn.change == some (0, 0, false))

/-- The device makes the computations of its galleries: as it runs the fabric, and as a joining copyist from step LINKS on, so
that a cell whose copy has been replayed goes on in step (R355, R360; log entry 108). -/
def computesCells (c : Chip) : Bool := runsFabric c || (twinState c == 1 && decide (5 ≤ fld c TWN_JOIN_STAT_step))

/-- The octets 1–7 of the MSG block of a message of type `typ` and `n` bytes of data (R339). -/
def msgHead (typ n : Nat) : List Byte := beBytes 1 typ ++ beBytes 2 (n / 8) ++ [0, 0, 0, 0]

/-- The data of a message with payload `p`: padded with zeros to whole blocks, the last four bytes the check word (R340). -/
def msgOf (typ : Nat) (p : List Byte) : List Byte :=
  let l := p ++ List.replicate (7 - (p.length + 3) % 8) 0
  l ++ beBytes 4 (crc32c (msgHead typ (l.length + 4) ++ l))

/-- A message waits for its place in the capacity of the link (R340). -/
def msgSend (c : Chip) (typ : Nat) (p : List Byte) : Chip :=
  let l := msgOf typ p
  { c with twn := { c.twn with msgWait := c.twn.msgWait ++ [(typ, (l, 1 + l.length / 8))] } }

/-- Give the device a role, a state and the keeper's duties. -/
def setTwin (c : Chip) (role st : Nat) (act : Bool) : Chip :=
  setB (setFld (setFld c TWN_STAT_role role) TWN_STAT_state st) TWN_STAT_acting act

/-- The partner is healthy (R482): in step, with the twin link up and its heartbeat present. -/
def partnerHealthy (c : Chip) : Bool :=
  isTwin c && twinState c == 2 && fldB c TWN_STAT_link_up && fldB c TWN_STAT_partner_hb

/-- A device that becomes acting reads every valid rail (R568). -/
def railsWanted (c : Chip) : Chip :=
  { c with pdm := { c.pdm with reading := some ((List.range 16).filter (fun r => fldB c (PDM_RAIL_CFG_valid r))) } }

/-- A role and a state that begin at the next boundary (R349–R351, R358). -/
def changeTwin (c : Chip) (role st : Nat) (act : Bool) : Chip := { c with twn := { c.twn with change := some (role, st, act) } }

/-- The copyist becomes UNFIT for a cause of R358: it raises TWN_DIVERGED, stops its FRAMEs from the next period, is
DETACHED and resynchronises where auto_resync is set. -/
def copyistUnfit (c : Chip) (cause tile : Nat) : Chip :=
  if twinRole c = 2 && c.twn.paired && c.twn.change != some (0, 0, false) then
    let c := wr c TWN_DIV (toW (2 ^ 31 + cause * 2 ^ 27 + tile * 2 ^ 16 + (period c).toNat % 2 ^ 16))
    let c := changeTwin (raise (setB c TWN_STAT_unfit true) srcTWN_DIVERGED 0) 0 0 false
    { c with twn := { c.twn with wantJoin := fldB c TWN_CTL_auto_resync, resync := true } }
  else c

end Sys2Proof.Machine
end

