-- ==== Sys2Proof/Machine/Ports.lean ====
section
/-! DEFINITION. The service ports, the parser, the policers and the ingress queues (R404–R434). -/

namespace Sys2Proof.Machine

/-- Service port `n`. -/
def port (c : Chip) (n : Nat) : Port := nth Port.reset c.svp.ports n

/-- Pass service port `n` through `f`. -/
def modPort (c : Chip) (n : Nat) (f : Port → Port) : Chip :=
  { c with svp := { c.svp with ports := modNth c.svp.ports n f } }

/-- link_up of a port (R406). -/
def linkUp (c : Chip) (n : Nat) : Bool := fldB c (SVP_P_STAT_link_up n)

/-- The port runs in a 100G mode (R404). -/
def port100 (c : Chip) (n : Nat) : Bool := fld c (SVP_P_CTL_mode n) == 1 || fld c (SVP_P_CTL_mode n) == 2

/-! ### Port control (R404–R407) -/

/-- A write of SVP_Pn_CTL waits for its E; modes 5–7 are refused (R407). -/
def portCtlWrite (c : Chip) (n : Nat) (v : W) : Chip :=
  hostChangeIf c (SVP_P_CTL n) v
    (fun c => if 5 ≤ wbits v 29 3 then some (raise (setB c (SVP_P_STAT_mode_reject n) true) srcSVP_MODE_REJECT 0) else none)
    (fun c e => defer c e (SVP_P_CTL n) v)

/-- The bits of SVP_Pn_CTL that hold values (R428). -/
def portCtlStored (v : W) : W := v &&& 0xFC0000FF

/-- link_up clears: link_down, its count and its event; a frame being received ends with an FCS error (R406). -/
def portLoseLink (c : Chip) (n : Nat) (receiving : Bool) : Chip :=
  let c := modPort c n (fun p => { p with lockAt := none })
  if linkUp c n then
    let c := if receiving then countUp c (SVP_P_RX_FCS n) 1 else c
    let c := setB (setB c (SVP_P_STAT_link_up n) false) (SVP_P_STAT_link_down n) true
    raise (countUp c (SVP_P_LINK_DOWN n) 1) (srcSVP_LINK_DOWN n) 0
  else c

/-- Lock, negotiation and link of a port are lost at its restart (R406, R407). -/
def portClear (c : Chip) (n : Nat) (receiving : Bool) : Chip :=
  let c := portLoseLink c n receiving
  let c := setB (setB c (SVP_P_STAT_pcs_lock n) false) (SVP_P_STAT_fec_lock n) false
  setB c (SVP_P_STAT_an_done n) false

/-- SVP_Pn_CTL takes a value at its E: a change of mode, fec, an_en or train_en restarts the port and loads the mode's
factory stamp compensation (R407, R73). -/
def portCtlEffect (c : Chip) (n : Nat) (v : W) (receiving : Bool) : Chip :=
  let changed := wbits (rd c (SVP_P_CTL n)) 26 6 != wbits v 26 6
  let c := wr c (SVP_P_CTL n) (portCtlStored v)
  if changed then wr (portClear c n receiving) (TMR_P_COMP_rx_comp n).addr (Config.stampComp (wbits v 29 3)) else c

/-- The waiting writes of the port's control whose E has come are in force, in their order (R57, R407); `receiving`: a frame is
being received. -/
def portRestart (c : Chip) (n : Nat) (receiving : Bool) : Chip :=
  (c.deferred.filter (fun d => d.addr == SVP_P_CTL n && due c d.e)).foldl
    (fun c d => portCtlEffect { c with deferred := c.deferred.erase d } n d.value receiving) c

/-- Block lock, alignment and FEC alignment lock are gained: the 1 ms count starts (R406). -/
def portBlockLock (c : Chip) (n : Nat) : Chip :=
  if fld c (SVP_P_CTL_mode n) = 0 then c
  else
    let c := setB (setB c (SVP_P_STAT_pcs_lock n) true) (SVP_P_STAT_fec_lock n) true
    modPort c n (fun p => { p with lockAt := some (p.lockAt.getD c.tmr.period) })

/-- Auto-negotiation lets the link come up: it is off, or it has completed (R405). -/
def anAllows (c : Chip) (n : Nat) : Bool := !fldB c (SVP_P_CTL_an_en n) || fldB c (SVP_P_STAT_an_done n)

/-- link_up is set once the conditions have held for 4,000 periods (R406); with auto-negotiation the partner has agreed (R405). -/
def portLinkUp (c : Chip) (n : Nat) : Chip :=
  match (port c n).lockAt with
  | some k =>
    if 4000 ≤ (c.tmr.period - k).toNat && !linkUp c n && anAllows c n then
      raise (setB c (SVP_P_STAT_link_up n) true) (srcSVP_LINK_UP n) 0
    else c
  | none => c

/-- A lock condition is lost: 0 block lock, 1 lane alignment, which only a 100G port has, 2 FEC alignment lock, 3 hi_ber. link_up
clears (R406). -/
def portLinkDown (c : Chip) (n cause : Nat) (receiving : Bool) : Chip :=
  if cause = 1 && !port100 c n then c
  else
    let c := if cause < 2 then setB c (SVP_P_STAT_pcs_lock n) false
      else if cause = 2 then setB c (SVP_P_STAT_fec_lock n) false else setB c (SVP_P_STAT_hi_ber n) true
    portLoseLink c n receiving

/-- The partner offers no common mode: an_fail, and the link stays down (R405). -/
def anFail (c : Chip) (n : Nat) : Chip :=
  if fldB c (SVP_P_CTL_an_en n) && !linkUp c n then
    raise (setB (setB c (SVP_P_STAT_an_done n) false) (SVP_P_STAT_an_fail n) true) (srcSVP_AN_FAIL n) 0
  else c

/-- Auto-negotiation completes (R405, R429). -/
def anDone (c : Chip) (n : Nat) : Chip :=
  if fldB c (SVP_P_CTL_an_en n) then setB c (SVP_P_STAT_an_done n) true else c

/-! ### Rule sets (R411–R421, R433) -/

/-- Word `i` of the rule-set bank of a generation. -/
def ruleWord (c : Chip) (gen i : Nat) : W := mapRead (fun _ => 0) (if gen = 0 then c.svp.bank0 else c.svp.bank1) i

/-- Word `j` of template `k` (R433). -/
def tplWord (c : Chip) (gen k j : Nat) : W := ruleWord c gen (32 * k + j)

/-- The big-endian 16-bit value at a place of the pass data; bytes beyond the end read zero (R411, R412). -/
def passHalf (d : List Byte) (o : Nat) : Nat := beNat [nth 0 d o, nth 0 d (o + 1)]

/-- Template `k` meets the conditions of a pass (R411). -/
def tplMatches (c : Chip) (gen k pass n : Nat) (d : List Byte) : Bool :=
  let w := tplWord c gen k 3
  wbit w (if pass = 1 then 30 else 31) && wbit w (24 + n)
    && [0, 1, 2].all (fun m =>
      let x := tplWord c gen k m
      (passHalf d (12 + 4 * m) &&& wbits x 16 16) == (wbits x 0 16 &&& wbits x 16 16))

/-- The template a pass selects, 8 for NONE (R411). -/
def selectTpl (c : Chip) (gen pass n : Nat) (d : List Byte) : Nat :=
  ((List.range 8).find? (fun k => tplMatches c gen k pass n d)).getD 8

/-- The bytes of window `w` of a template; none for an invalid window (R412). -/
def windowBytes (c : Chip) (gen k w : Nat) (d : List Byte) : List Byte :=
  if k = 8 then []
  else
    let x := tplWord c gen k (4 + w)
    let len := wbits x 8 2 + 1
    let o := wbits x 0 6
    if wbit x 15 && o + len ≤ 64 then (List.range len).map (fun i => nth 0 d (o + i)) else []

/-- All windows of a template. -/
def windows (c : Chip) (gen k : Nat) (d : List Byte) : List (List Byte) :=
  (List.range 16).map (fun w => windowBytes c gen k w d)

/-- Outcomes of a length check (R415). -/
inductive LenCheck where
  | pass | trunc | lenmis
  deriving DecidableEq, Repr

/-- Length check `j` of a template on `L` bytes of pass data (R415). -/
def lenCheck (c : Chip) (gen k j : Nat) (d : List Byte) : LenCheck :=
  let x := tplWord c gen k (20 + j)
  let v := beNat (windowBytes c gen k (wbits x 16 4) d)
  let fin := wbits x 0 8 + (if wbit x 29 then 4 else 1) * (if wbit x 28 then v % 16 else v)
  let len := d.length
  let kind := wbits x 30 2
  if kind = 1 then (if len < fin then .trunc else .pass)
  else if kind = 2 then
    if len < fin then .trunc else if fin < len then (if len ≤ 60 then .pass else .lenmis) else .pass
  else .pass

/-- The first failing length check of a template decides (R415). -/
def lenChecks (c : Chip) (gen k : Nat) (d : List Byte) : LenCheck :=
  if k = 8 then .pass
  else ((List.range 3).map (fun j => lenCheck c gen k j d)).find? (· != .pass) |>.getD .pass

/-- strip of a template, at most 96 (R433). -/
def tplStrip (c : Chip) (gen k : Nat) : Nat := if k = 8 then 0 else min 96 (wbits (tplWord c gen k 3) 8 7)

/-- recirc of a template; NONE does not recirculate (R411, R413). -/
def tplRecirc (c : Chip) (gen k : Nat) : Bool := k != 8 && wbit (tplWord c gen k 3) 29

/-- pay of a template (R414). -/
def tplPay (c : Chip) (gen k : Nat) : Nat := if k = 8 then 0 else wbits (tplWord c gen k 3) 0 7

/-- Bit `r` of the comparator vector (R417). -/
def comparator (c : Chip) (gen r : Nat) (inner outer : List (List Byte)) : Bool :=
  let w0 := ruleWord c gen (0x100 + 4 * r)
  let sel := wbits w0 0 5
  let v := beNat (if sel < 16 then nth [] inner sel else nth [] outer (sel - 16))
  wbit w0 31 && decide ((ruleWord c gen (0x101 + 4 * r)).toNat ≤ v) && decide (v ≤ (ruleWord c gen (0x102 + 4 * r)).toNat)

/-- The comparator vector (R417). -/
def comparators (c : Chip) (gen : Nat) (inner outer : List (List Byte)) : W :=
  toW (bitMask ((List.range 32).filter (fun r => comparator c gen r inner outer)))

/-- Rule `i` matches (R418). -/
def ruleMatches (c : Chip) (gen i n tpl : Nat) (two : Bool) (vec : W) : Bool :=
  let b := 0x200 + 8 * i
  let w := ruleWord c gen (b + 2)
  let pc := wbits w 28 2
  wbit w 31 && wbit w (24 + n) && wbit w tpl && (pc == 0 || (pc == 1 && !two) || (pc == 2 && two))
    && (vec &&& ruleWord c gen b) == (ruleWord c gen (b + 1) &&& ruleWord c gen b)

/-- The matching rule of lowest index, with its action word; none gives the default action (R418). -/
def classify (c : Chip) (gen n tpl : Nat) (two : Bool) (vec : W) : Option Nat × W :=
  match (List.range 64).find? (fun i => ruleMatches c gen i n tpl two vec) with
  | some i => (some i, ruleWord c gen (0x203 + 8 * i))
  | none => (none, ruleWord c gen 0x480)

/-- The hash of a frame under profile `h` (R421). -/
def frameHash (c : Chip) (gen h : Nat) (inner outer : List (List Byte)) : Nat :=
  let p := ruleWord c gen (0x400 + h)
  let pick := fun (l : List (List Byte)) base =>
    ((List.range 16).filter (fun k => wbit p (base + k))).flatMap (fun k => nth [] l k)
  crc32c (BitVec.ofNat 8 h :: (pick outer 16 ++ pick inner 0))

/-- The queue of an indirection entry (R421, R433). -/
def indirection (c : Chip) (gen e : Nat) : Nat := wbits (ruleWord c gen (0x440 + e / 8)) (4 * (e % 8)) 4

/-! ### Policers (R422) -/

/-- The depth of a policer's bucket in tokens. -/
def bucketFull (c : Chip) (p : Nat) : Nat := wbits (rd c (PKT_POL_DEPTH p)) 0 24 * 256

/-- The tokens of a policer. -/
def tokens (c : Chip) (p : Nat) : Nat := mapRead (fun _ => 0) c.svp.tokens p

/-- Give a policer's bucket a fill. -/
def setTokens (c : Chip) (p n : Nat) : Chip :=
  { c with svp := { c.svp with tokens := mapWrite (fun _ => 0) c.svp.tokens p n } }

/-- Every bucket is refilled at a period boundary (R422). -/
def policerRefill (c : Chip) : Chip :=
  (List.range 16).foldl
    (fun c p => setTokens c p (min (bucketFull c p) (tokens c p + wbits (rd c (PKT_POL_RATE p)) 0 24))) c

/-- The tokens a frame of `len` bytes costs at a policer. -/
def policerCost (c : Chip) (p len : Nat) : Nat := 256 * (if wbit (rd c (PKT_POL_RATE p)) 31 then len else 1)

/-- A policer word comes into force and its bucket is full (R422); a depth of 0 is stored as 1. -/
def policerEffect (c : Chip) (p : Nat) (depth : Bool) (v : W) : Chip :=
  let c := if depth then wr c (PKT_POL_DEPTH p) (toW (max 1 (wbits v 0 24)))
    else wr c (PKT_POL_RATE p) (v &&& 0x80FFFFFF)
  setTokens c p (bucketFull c p)

/-- A write of a policer word waits for its E (R422). -/
def policerWrite (c : Chip) (p : Nat) (depth : Bool) (v : W) : Chip :=
  let a := if depth then PKT_POL_DEPTH p else PKT_POL_RATE p
  hostChange c a v (fun c e => defer c e a v)

/-! ### Drops and queues (R416, R420, R423, R426, R431) -/

/-- A frame is dropped for reason `r` (R416, R431). -/
def pktDrop (c : Chip) (r : Nat) : Chip :=
  let c := countUp c (PKT_DROP r) 1
  let c := wr c PKT_STAT (rd c PKT_STAT ||| toW (2 ^ r))
  if 1 ≤ r && r ≤ 3 then raiseLimited c (srcPKT_PARSE_DROP (r - 1)) 0 else c

/-- A frame is dropped at queue `q` for reason 7, 8 or 10 (R420, R434). -/
def queueDrop (c : Chip) (q r : Nat) : Chip :=
  raiseLimited (countUp (pktDrop c r) (PKT_Q_DROP q) 1) (srcPKT_QUEUE_FULL q) 0

/-- owner, kib and the slot size of a queue (R423, R424). -/
def queueOwner (c : Chip) (q : Nat) : Nat := wbits (rd c (PKT_Q_CTL q)) 30 2
def queueKib (c : Chip) (q : Nat) : Nat := wbits (rd c (PKT_Q_CTL q)) 0 11
def slotSize (c : Chip) (q : Nat) : Nat := if wbit (rd c (PKT_Q_CTL q)) 29 then 10240 else 2048

/-- The entries an ingress queue holds. -/
def queue (c : Chip) (q : Nat) : List QEntry := nth [] c.svp.queues q

/-- Give an ingress queue its entries. -/
def setQueue (c : Chip) (q : Nat) (l : List QEntry) : Chip :=
  { c with svp := { c.svp with queues := setNth c.svp.queues q l } }

/-- Bytes of an entry: record and frame. -/
def QEntry.size (e : QEntry) : Nat := e.record.length + e.data.length

/-- Bytes an ingress queue holds. -/
def queueBytes (c : Chip) (q : Nat) : Nat := ((queue c q).map QEntry.size).sum

/-- The device is the copyist of a pair. -/
def isCopyist (c : Chip) : Bool := fldB c TWN_CTL_twin_en && fld c TWN_STAT_role == 2

/-- A frame is offered to a queue; `full` is the reason of a drop for want of room: 7, or 10 for a mirror copy (R419,
R420, R423, R426). -/
def queueOffer (c : Chip) (q full : Nat) (e : QEntry) : Chip :=
  let o := queueOwner c q
  if o = 0 then queueDrop c q full
  else if o = 3 && slotSize c q < e.size then queueDrop c q 8
  else if queueKib c q * 1024 < queueBytes c q + e.size then queueDrop c q full
  else if isCopyist c && (o == 1 || !fldB c PKT_CTL_copyist_rx) then pktDrop c 9
  else countUp (setQueue c q (queue c q ++ [e])) (PKT_Q_CNT q) 1

/-- The queue can take the entry: what a DEPTH copy asks before it is made (R413, R431). -/
def queueTakes (c : Chip) (q : Nat) (e : QEntry) : Bool :=
  queueOwner c q != 0 && decide (queueBytes c q + e.size ≤ queueKib c q * 1024)

/-- What the parser found of a frame (R410). -/
structure Found where
  port : Nat
  two : Bool
  tpl : Nat
  payOfs : Nat
  strip : Nat
  deriving DecidableEq, Repr

/-- The receive record of R410. -/
def rxRecord (f : RxFrame) (d : Found) (reason rule q hash : Nat) : List Byte :=
  leBytes 8 f.stamp.ns.toNat
    ++ leBytes 4 (f.stamp.step.toNat * 2 ^ 28 + f.stamp.frac.toNat * 2 ^ 24 + d.port * 2 ^ 22 + f.gen * 2 ^ 21
      + b2n d.two * 2 ^ 20 + d.tpl * 2 ^ 16 + reason * 2 ^ 14 + (f.data.length + 4) % 2 ^ 14)
    ++ leBytes 4 (rule * 2 ^ 24 + q * 2 ^ 20 + d.payOfs % 256 * 2 ^ 8 + d.strip) ++ leBytes 4 hash
    ++ List.replicate 12 0

/-- The management queue (R419, R432). -/
def mgmtQueue (c : Chip) : Nat := fld c PKT_CTL_mgmt_queue

/-- The conforming frame is offered to its queue, and mirrored if its action says so (R419–R421). -/
def deliver (c : Chip) (f : RxFrame) (d : Found) (act : W) (rule : Option Nat) (hash : Nat) : Chip :=
  let reason := if rule.isNone then 3 else 0
  let r := rule.getD 0xFF
  let kind := wbits act 30 2
  let c :=
    if kind = 1 || kind = 2 then
      let q := if kind = 2 then indirection c f.gen (hash % 256) else wbits act 16 4
      queueOffer c q 7 ⟨rxRecord f d reason r q hash, f.data⟩
    else pktDrop c (if rule.isNone then 4 else 5)
  if wbit act 29 then
    let q := mgmtQueue c
    queueOffer c q 10 ⟨rxRecord f d 1 r q hash, f.data⟩
  else c

/-- Classification of a frame that passed the parser's checks: rule, policer, queue (R417–R422). -/
def classifyFrame (c : Chip) (f : RxFrame) (d : Found) (inner outer : List (List Byte)) : Chip :=
  let (rule, act) := classify c f.gen d.port d.tpl d.two (comparators c f.gen inner outer)
  let kind := wbits act 30 2
  let hash := if kind = 2 then frameHash c f.gen (wbits act 22 2) inner outer else 0
  if wbit act 28 && (kind == 1 || kind == 2) then
    let p := wbits act 24 4
    let cost := policerCost c p (f.data.length + 4)
    if cost ≤ tokens c p then deliver (setTokens c p (tokens c p - cost)) f d act rule hash
    else raiseLimited (countUp (pktDrop c 6) (PKT_POL_DROP p) 1) (srcPKT_POLICE_DROP p) 0
  else deliver c f d act rule hash

/-- The stages after a frame's last pass (R414, R416): the payload offset, then classification. -/
def finishFrame (c : Chip) (f : RxFrame) (d : Found) (inner outer : List (List Byte)) : Chip :=
  if f.data.length ≤ d.payOfs then pktDrop c 1 else classifyFrame c f d inner outer

/-! ### Reception and the passes (R408, R409, R411–R416) -/

/-- The receive MAC takes a frame whole (R406, R408, R409); `tick` is the tick of its start-of-frame delimiter. -/
def frameReceive (c : Chip) (n tick : Nat) (data : List Byte) (fcsOk : Bool) (fecCorr fecUncorr : Nat) : Chip :=
  let c := advanceTo c tick
  let c := countUp (countUp c (SVP_P_FEC_CORR n) fecCorr) (SVP_P_FEC_UNCORR n) fecUncorr
  let c := if fecUncorr = 0 then c else raiseLimited c (srcSVP_FEC_UNCORR n) 0
  let len := data.length + 4
  if !linkUp c n then c
  else if !fcsOk then countUp c (SVP_P_RX_FCS n) 1
  else if len < 64 || 9216 < len then countUp c (SVP_P_RX_LEN n) 1
  else if passHalf data 12 = 0x8808 then countUp c (SVP_P_RX_MACCTL n) 1
  else
    let c := countUp c (SVP_P_RX_FRAMES n) 1
    let c := modPort c n (fun p => { p with octets := p.octets + BitVec.ofNat 64 len })
    let used := ((port c n).rx.map (fun f => f.data.length + 4)).sum
    if 32768 < used + len then raiseLimited (pktDrop c 0) (srcPKT_OVF n) 0
    else
      let s := ingressStamp c n
      modPort c n (fun p => { p with rx := p.rx ++ [⟨data, s, 0, none⟩] })

/-- The active generation (R425). -/
def activeGen (c : Chip) : Nat := fld c PKT_GEN_active_gen

/-- The first pass of the next frame of a port (R411–R416, R425). -/
def firstPass (c : Chip) (n : Nat) : Chip :=
  match (port c n).rx with
  | [] => c
  | f :: rest =>
    let c := modPort c n (fun p => { p with rx := rest })
    let gen := activeGen c
    let f := { f with gen := gen }
    let k := selectTpl c gen 1 n f.data
    let w := windows c gen k f.data
    match lenChecks c gen k f.data with
    | .trunc => pktDrop c 1
    | .lenmis => pktDrop c 2
    | .pass =>
      if tplRecirc c gen k then
        let strip := tplStrip c gen k
        if f.data.length < strip then pktDrop c 1
        else modPort c n (fun p => { p with second := p.second ++ [{ f with first := some ⟨strip, w⟩ }] })
      else finishFrame c f ⟨n, false, k, tplPay c gen k, 0⟩ w w

/-- A DEPTH frame: dropped, or with depth_copy copied to the management queue (R413, R431). -/
def depthFrame (c : Chip) (f : RxFrame) (d : Found) : Chip :=
  if fldB c PKT_CTL_depth_copy then
    let q := mgmtQueue c
    let e : QEntry := ⟨rxRecord f d 2 0xFF q 0, f.data⟩
    if queueTakes c q e then queueOffer c q 3 e else pktDrop c 3
  else pktDrop c 3

/-- The second pass of the next recirculated frame of a port, under the generation it carries (R413, R425). -/
def secondPass (c : Chip) (n : Nat) : Chip :=
  match (port c n).second with
  | [] => c
  | f :: rest =>
    let c := modPort c n (fun p => { p with second := rest })
    let fp := f.first.getD ⟨0, []⟩
    let d := f.data.drop fp.strip
    let k := selectTpl c f.gen 2 n d
    let found : Found := ⟨n, true, k, fp.strip + tplPay c f.gen k, fp.strip⟩
    if tplRecirc c f.gen k then depthFrame c f found
    else
      match lenChecks c f.gen k d with
      | .trunc => pktDrop c 1
      | .lenmis => pktDrop c 2
      | .pass => finishFrame c f found (windows c f.gen k d) fp.outer

/-! ### Host rings (R424) -/

/-- slots of a host ring. -/
def ringSlots (c : Chip) (q : Nat) : Nat := rn c (PKT_Q_SLOTS q)

/-- A host-owned queue writes its oldest frame into a free slot of its ring and advances PROD; one message is sent per
write of CONS (R424). -/
def ringSlotWrite (c : Chip) (q : Nat) : Chip :=
  match queue c q with
  | [] => c
  | e :: rest =>
    let prod := wbits (rd c (PKT_Q_PROD q)) 0 16
    let next := (prod + 1) % ringSlots c q
    if queueOwner c q != 3 || c.svp.ringOff.contains q || next == wbits (rd c (PKT_Q_CONS q)) 0 16 then c
    else
      let c := memWrite (setQueue c q rest) 10 (rn c (PKT_Q_BASE q) * 4096 + prod * slotSize c q) (e.record ++ e.data)
      let c := wr c (PKT_Q_PROD q) (toW next)
      if nth false c.svp.told q then c
      else msixSend { c with svp := { c.svp with told := setNth c.svp.told q true } } (wbits (rd c (PKT_Q_CTL q)) 16 8)

/-- A host write of PKT_Qq_CONS frees slots and rearms the message (R424). -/
def consWrite (c : Chip) (q : Nat) (v : W) : Chip :=
  hostWrite c (PKT_Q_CONS q) (fun c =>
    wr { c with svp := { c.svp with told := setNth c.svp.told q false } } (PKT_Q_CONS q) (toW (wbits v 0 16)))

/-! ### Rule-set generations and shares (R423, R425) -/

/-- A write of the parser is refused or ignored (R423, R425, R432). -/
def pktReject (c : Chip) : Chip := raise (setB c PKT_STAT_reject true) srcPKT_REJECT 0

/-- A write of PKT_GEN: swap and copy are requests that wait for their E, refused while one is in progress (R425). -/
def pktGenWrite (c : Chip) (v : W) : Chip :=
  hostChangeIf c PKT_GEN v
    (fun c =>
      if !wbit v 31 && !wbit v 30 then some c
      else if fldB c PKT_GEN_busy && !fromJournal c then some (pktReject c) else none)
    (fun c e =>
      let c := setB c PKT_GEN_busy true
      if wbit v 31 then { c with svp := { c.svp with swapAt := some e } }
      else { c with svp := { c.svp with copyAt := some e } })

/-- At E the shadow bank becomes the active one (R425). -/
def ruleSetSwap (c : Chip) : Chip :=
  match c.svp.swapAt with
  | some e =>
    if due c e then
      setFld { c with svp := { c.svp with swapAt := none, retiring := true } } PKT_GEN_active_gen (1 - activeGen c)
    else c
  | none => c

/-- The old bank is retired when no frame of its generation is left in the parser (R425). -/
def bankRetire (c : Chip) : Chip :=
  let old := 1 - activeGen c
  if c.svp.retiring && c.svp.ports.all (fun p => p.second.all (fun f => f.gen != old)) then
    raise (setB { c with svp := { c.svp with retiring := false } } PKT_GEN_busy false) srcPKT_SWAP_DONE 0
  else c

/-- The copy of the active bank into the shadow bank ends (R425). -/
def pktCopyDone (c : Chip) : Chip :=
  match c.svp.copyAt with
  | some e =>
    if due c e then
      let c := setB { c with svp := { c.svp with copyAt := none } } PKT_GEN_busy false
      if activeGen c = 0 then { c with svp := { c.svp with bank1 := c.svp.bank0 } }
      else { c with svp := { c.svp with bank0 := c.svp.bank1 } }
    else c
  | none => c

/-- The bits of a rule-set word that hold values, by its byte offset in the bank (R433); the others are reserved (R13). -/
def ruleMask (off : Nat) : W :=
  let action : W := 0xFFCF0000
  let j := off / 4 % 32
  if off < 0x400 then
    if j < 3 then 0xFFFFFFFF else if j = 3 then 0xEF007F7F else if j < 20 then 0x0000833F else if j < 23 then 0xF00F00FF else 0
  else if off < 0x600 then
    if j % 4 = 0 then 0x8000001F else if j % 4 = 3 then 0 else 0xFFFFFFFF
  else if off < 0x800 then 0
  else if off < 0x1000 then
    if j % 8 < 2 then 0xFFFFFFFF else if j % 8 = 2 then 0xBF0001FF else if j % 8 = 3 then action else 0
  else if off < 0x1010 || (0x1100 ≤ off && off < 0x1180) then 0xFFFFFFFF
  else if off = 0x1200 then action else 0

/-- A rule-set word as it is stored: reserved bits zero, strip at most 96 (R13, R433). -/
def shadowStored (off : Nat) (v : W) : W :=
  let w := v &&& ruleMask off
  if off < 0x400 && off / 4 % 32 == 3 then putField w 8 7 (min 96 (wbits w 8 7)) else w

/-- A word of the shadow bank takes a value (R425). -/
def shadowEffect (c : Chip) (off : Nat) (v : W) : Chip :=
  if activeGen c = 0 then { c with svp := { c.svp with bank1 := mapWrite (fun _ => 0) c.svp.bank1 (off / 4) (shadowStored off v) } }
  else { c with svp := { c.svp with bank0 := mapWrite (fun _ => 0) c.svp.bank0 (off / 4) (shadowStored off v) } }

/-- A write of the shadow bank: ignored while a swap or copy is in progress; taken at once on a single device, at its journalled E
in a pair (R425, R426). -/
def shadowWrite (c : Chip) (off : Nat) (v : W) : Chip :=
  hostChangeIf c (PKT_SHADOW + off) v
    (fun c => if fldB c PKT_GEN_busy && !fromJournal c then some (pktReject c) else none)
    (fun c e => if c.twn.paired && !c.twn.applying then defer c e (PKT_SHADOW + off) v else shadowEffect c off v)

/-- The shares of the enabled queues with queue `q` given control word `v`, as last written. -/
def sharesWith (c : Chip) (q : Nat) (v : W) : Nat :=
  ((List.range 16).map (fun i =>
    let w := if i = q then v else written c (PKT_Q_CTL i)
    if wbits w 30 2 = 0 then 0 else wbits w 0 11)).sum

/-- A write of PKT_Qq_CTL waits for its E, or is refused if its shares overflow or fall short (R423). -/
def queueShareWrite (c : Chip) (q : Nat) (v : W) : Chip :=
  hostChangeIf c (PKT_Q_CTL q) v
    (fun c =>
      if !fromJournal c && (1024 < sharesWith c q v || (wbits v 30 2 != 0 && wbits v 0 11 < 16)) then some (pktReject c) else none)
    (fun c e => defer c e (PKT_Q_CTL q) (v &&& 0xE0FF07FF))

/-- A read of SVP_Pn_RX_OCT_LO latches the high word and clears the count (R427). -/
def octetRead (c : Chip) (n : Nat) : Chip :=
  hostRead c (SVP_P_RX_OCT_LO n) (fun c =>
    let o := (port c n).octets.toNat
    let c := wr (modPort c n (fun p => { p with octets := 0 })) (SVP_P_RX_OCT_HI n) (toW (o / 2 ^ 32))
    answer c (toW o))

/-! ### The commands -/

/-- PORT_CTL_WRITE (R407). -/
def execPortCtlWrite (n : Fin 4) (v : W) (s : State) : Host.Outcome State Fault Refusal := run s (portCtlWrite · n v)
/-- PORT_RESTART (R407). -/
def execPortRestart (n : Fin 4) (receiving : Bool) (s : State) : Host.Outcome State Fault Refusal :=
  run s (portRestart · n receiving)
/-- PORT_BLOCK_LOCK (R406). -/
def execPortBlockLock (n : Fin 4) (s : State) : Host.Outcome State Fault Refusal := run s (portBlockLock · n)
/-- PORT_LINK_UP (R406). -/
def execPortLinkUp (n : Fin 4) (s : State) : Host.Outcome State Fault Refusal := run s (portLinkUp · n)
/-- PORT_LINK_DOWN (R406). -/
def execPortLinkDown (n cause : Fin 4) (receiving : Bool) (s : State) : Host.Outcome State Fault Refusal :=
  run s (portLinkDown · n cause receiving)
/-- AN_FAIL (R405). -/
def execAnFail (n : Fin 4) (s : State) : Host.Outcome State Fault Refusal := run s (anFail · n)
/-- AUTONEG_COMPLETE (R405). -/
def execAutonegComplete (n : Fin 4) (s : State) : Host.Outcome State Fault Refusal := run s (anDone · n)
/-- FRAME_RECEIVE (R408). -/
def execFrameReceive (n : Fin 4) (tick : Nat) (data : List Byte) (fcsOk : Bool) (fecCorr fecUncorr : Nat) (s : State) :
    Host.Outcome State Fault Refusal :=
  run s (frameReceive · n tick data fcsOk fecCorr fecUncorr)
/-- FIRST_PASS (R411). -/
def execFirstPass (n : Fin 4) (s : State) : Host.Outcome State Fault Refusal := run s (firstPass · n)
/-- SECOND_PASS (R413). -/
def execSecondPass (n : Fin 4) (s : State) : Host.Outcome State Fault Refusal := run s (secondPass · n)
/-- RING_SLOT_WRITE (R424). -/
def execRingSlotWrite (q : Fin 16) (s : State) : Host.Outcome State Fault Refusal := run s (ringSlotWrite · q)
/-- CONS_WRITE (R424). -/
def execConsWrite (q : Fin 16) (v : W) (s : State) : Host.Outcome State Fault Refusal := run s (consWrite · q v)
/-- PKT_SWAP (R425). -/
def execPktSwap (v : W) (s : State) : Host.Outcome State Fault Refusal := run s (pktGenWrite · (v ||| 0x80000000))
/-- RULE_SET_SWAP (R425). -/
def execRuleSetSwap (s : State) : Host.Outcome State Fault Refusal := run s ruleSetSwap
/-- BANK_RETIRE (R425). -/
def execBankRetire (s : State) : Host.Outcome State Fault Refusal := run s bankRetire
/-- PKT_COPY (R425): the copy bit set and the swap bit clear. -/
def execPktCopy (v : W) (s : State) : Host.Outcome State Fault Refusal :=
  run s (pktGenWrite · ((v ||| 0x40000000) &&& 0x7FFFFFFF))
/-- PKT_COPY_DONE (R425). -/
def execPktCopyDone (s : State) : Host.Outcome State Fault Refusal := run s pktCopyDone
/-- SHADOW_BANK_WRITE (R425). -/
def execShadowBankWrite (off : BitVec 13) (v : W) (s : State) : Host.Outcome State Fault Refusal :=
  run s (shadowWrite · off.toNat v)
/-- POLICER_WRITE (R422). -/
def execPolicerWrite (n : Fin 16) (depth : Bool) (v : W) (s : State) : Host.Outcome State Fault Refusal :=
  run s (policerWrite · n depth v)
/-- QUEUE_SHARE_WRITE (R423). -/
def execQueueShareWrite (q : Fin 16) (v : W) (s : State) : Host.Outcome State Fault Refusal := run s (queueShareWrite · q v)
/-- OCTET_READ (R427). -/
def execOctetRead (n : Fin 4) (s : State) : Host.Outcome State Fault Refusal := run s (octetRead · n)

end Sys2Proof.Machine
end

