-- ==== Sys2Proof/Machine/Egress.lean ====
section
/-! DEFINITION. The egress queues: sources and room, descriptor rings, scheduling, gate lists, marks, the frames the
device forms (R435–R449). -/

namespace Sys2Proof.Machine

/-- The egress side of port `n`. -/
def txPort (c : Chip) (n : Nat) : TxPort := nth TxPort.reset c.txs.ports n

/-- Pass the egress side of port `n` through `f`. -/
def modTx (c : Chip) (n : Nat) (f : TxPort → TxPort) : Chip :=
  { c with txs := { c.txs with ports := modNth c.txs.ports n f } }

/-- Bytes of a frame with its FCS. -/
def TxFrame.size (f : TxFrame) : Nat := f.data.length + 4

/-- The frames of egress queue `q` of port `n`. -/
def txQueue (c : Chip) (n q : Nat) : List TxFrame := nth [] (txPort c n).queues q

/-- Bytes held by an egress queue: its depth (R445). -/
def txDepth (c : Chip) (n q : Nat) : Nat := ((txQueue c n q).map TxFrame.size).sum

/-- U of R436, in bytes. -/
def txUse (c : Chip) (n : Nat) : Nat := ((List.range 8).map (txDepth c n)).sum

/-- A frame of `size` bytes finds room in queue `q` (R436). -/
def txRoom (c : Chip) (n q size : Nat) : Bool :=
  decide (txDepth c n q + size ≤ wbits (rd c (TXS_PQ_SHARE n q)) 0 9 * 1024)
    && (q != 0 || decide (txUse c n < fld c (TXS_P_CTL_trace_limit n) * 1024))
    && (q != 4 || decide (txUse c n < fld c (TXS_P_CTL_export_limit n) * 1024))

/-- Set bit `q` of an 8-bit field of TXS_Pn_STAT. -/
def txStatBit (c : Chip) (f : Fld) (q : Nat) : Chip := setFld c f (fld c f ||| 2 ^ q)

/-- A frame meant for queue `q` is dropped (R436). -/
def txDrop (c : Chip) (n q : Nat) : Chip :=
  txStatBit (countUp c (TXS_PQ_DROP n q) 1) (TXS_P_STAT_drop n) q

/-- The port may transmit (R449): the device acts, and the safe state does not silence it. -/
def txActing (c : Chip) (n : Nat) : Bool := acting c && !fldB c (TXS_P_STAT_silenced n)

/-! ### Weighted fair queueing (R440) -/

/-- The weight of queues 0–5 (R440, R458). -/
def txWeight (c : Chip) (n q : Nat) : Nat :=
  max 1 (if q < 4 then wbits (rd c (TXS_P_WGT0 n)) (8 * q) 8 else wbits (rd c (TXS_P_WGT1 n)) (8 * (q - 4)) 8)

/-- The finish tag of a head that starts at `s` (R440). -/
def finishTag (c : Chip) (n q : Nat) (f : TxFrame) (s : BitVec 48) : BitVec 48 :=
  s + BitVec.ofNat 48 ((f.size + fld c (TXS_P_CTL_ovh n)) * (2 ^ 20 / txWeight c n q))

/-- The head of a queue of 0–5 takes its finish tag, if the queue holds one (R440). -/
def tagHead (c : Chip) (n q : Nat) : Chip :=
  match txQueue c n q with
  | [] => modTx c n (fun p => { p with finish := setNth p.finish q none })
  | f :: _ =>
    if 6 ≤ q then c
    else
      let p := txPort c n
      let t := finishTag c n q f (if f.woke then p.v else nth 0 p.fLast q)
      modTx c n (fun p => { p with finish := setNth p.finish q (some t), fLast := setNth p.fLast q t })

/-! ### Gate lists (R441–R444) -/

/-- The interval and the mask of a gate list entry (R441, R458). -/
def gateNs (w : W) : Nat := wbits w 0 24
def gateOpen (w : W) (q : Nat) : Bool := wbit w (24 + q)

/-- The cycle time of a gate list (R441). -/
def GateList.cycle (g : GateList) : Nat := (g.entries.map gateNs).sum

/-- The entry that holds place `t` of the cycle, and the time left in it. -/
def gateAt : List W → Nat → Nat → Option (Nat × Nat)
  | [], _, _ => none
  | w :: rest, i, t => if t < gateNs w then some (i, gateNs w - t) else gateAt rest (i + 1) (t - gateNs w)

/-- The list gates the queues at network time `t`; otherwise every gate is open (R441). -/
def GateList.active (g : GateList) (t : BitVec 64) : Bool := g.enable && g.cycle != 0 && decide (0 ≤ tdiff t g.base)

/-- The entry in force at network time `t` and the time left in it (R441, R444). -/
def GateList.position (g : GateList) (t : BitVec 64) : Option (Nat × Nat) :=
  gateAt g.entries 0 ((tdiff t g.base).toNat % g.cycle)

/-- The time queue `q` stays open from the start of the listed entries, and whether it closes among them. -/
def openRun (q : Nat) : List W → Nat × Bool
  | [] => (0, false)
  | w :: rest => if gateOpen w q then ((gateNs w + (openRun q rest).1), (openRun q rest).2) else (0, true)

/-- The window left for queue `q` at network time `t`: none for an unbounded one, 0 for a closed gate (R442). -/
def GateList.window (g : GateList) (q : Nat) (t : BitVec 64) : Option Nat :=
  if !g.active t || g.entries.all (fun w => gateOpen w q) then none
  else
    match g.position t with
    | none => none
    | some (e, left) =>
      if gateOpen (nth 0 g.entries e) q then
        some (left + (openRun q (g.entries.drop (e + 1) ++ g.entries.take (e + 1))).1)
      else some 0

/-- The longest window of queue `q`, none for an unbounded one (R442). -/
def GateList.longest (g : GateList) (q : Nat) : Option Nat :=
  if !g.enable || g.cycle == 0 || g.entries.all (fun w => gateOpen w q) then none
  else some ((List.range g.entries.length).foldl
    (fun m e => max m (openRun q (g.entries.drop e ++ g.entries.take e)).1) 0)

/-- The window left for a queue of a port; a list that waits ends it at T_s (R442, R443). -/
def txWindow (c : Chip) (n q : Nat) : Option Nat :=
  let p := txPort c n
  let t := netTime c
  let w := p.gates.window q t
  match p.gatePend with
  | none => w
  | some (_, ts) =>
    let left := (tdiff ts t).toNat
    if p.gates.active t then some (match w with
      | none => left
      | some x => min x left) else w

/-- The transmission time of a frame (R442). -/
def txTime (c : Chip) (n : Nat) (f : TxFrame) : Nat := ceilDiv ((f.size + 20) * 8) (if port100 c n then 100 else 25)

/-- The head of a queue is eligible: its gate is open and it fits its window (R439, R442). -/
def txEligible (c : Chip) (n q : Nat) : Bool :=
  match txQueue c n q with
  | [] => false
  | f :: _ =>
    match txWindow c n q with
    | none => true
    | some w => decide (0 < w) && decide (txTime c n f ≤ w)

/-! ### Descriptors (R437, R438) -/

/-- The descriptor ring `r` of a port. -/
def descRing (c : Chip) (n r : Nat) : DescRing := nth ⟨0, [], false⟩ (txPort c n).rings r

/-- Pass a descriptor ring through `f`. -/
def modRing (c : Chip) (n r : Nat) (f : DescRing → DescRing) : Chip :=
  modTx c n (fun p => { p with rings := modNth p.rings r f })

/-- Entries of a descriptor ring. -/
def descSize (c : Chip) (n r : Nat) : Nat := wbits (rd c (TXS_PRING_SIZE n r)) 0 13

/-- The address of descriptor `i`. -/
def descAddr (c : Chip) (n r i : Nat) : Nat := rn c (TXS_PRING_BASE n r) * 4096 + 16 * i

/-- CONS passes every completed descriptor at the head of the ring. -/
def advanceCons (c : Chip) (n r : Nat) : Nat → Chip
  | 0 => c
  | fuel + 1 =>
    let i := rn c (TXS_PRING_CONS n r)
    if (descRing c n r).done.contains i then
      let c := modRing c n r (fun d => { d with done := d.done.erase i })
      advanceCons (wr c (TXS_PRING_CONS n r) (toW ((i + 1) % descSize c n r))) n r fuel
    else c

/-- A descriptor completes with a status: done and status are written back, CONS advances, ring 1 sends its message
(R437, R438). -/
def descComplete (c : Chip) (n r i status : Nat) : Chip :=
  let a := descAddr c n r i + 8
  let w := putField (putField (toW (leNat (memBytes c 11 a 4))) 26 1 1) 22 4 status
  let c := memWrite c 11 a (leBytes 4 w.toNat)
  let c := modRing c n r (fun d => { d with done := d.done ++ [i] })
  let c := advanceCons c n r ((descRing c n r).done.length)
  if r = 1 && !(descRing c n r).told then
    msixSend (modRing c n r (fun d => { d with told := true })) (wbits (rd c (TXS_PRING_SIZE n r)) 16 8)
  else c

/-- The descriptor of a frame, if it has one, completes. -/
def frameComplete (c : Chip) (n : Nat) (f : TxFrame) (status : Nat) : Chip :=
  match f.desc with
  | some (r, i) => descComplete c n r i status
  | none => c

/-- Heads longer than the longest window of their queue are dropped (R442). -/
def dropOversize (c : Chip) (n q : Nat) : Nat → Chip
  | 0 => c
  | fuel + 1 =>
    match txQueue c n q, (txPort c n).gates.longest q with
    | f :: rest, some w =>
      if w < txTime c n f then
        let c := modTx c n (fun p => { p with queues := setNth p.queues q rest })
        let c := raiseLimited (txDrop c n q) (srcTXS_OVERSIZE_GATE n) 0
        dropOversize (tagHead (frameComplete c n f 7) n q) n q fuel
      else c
    | _, _ => c

/-- The head of a queue has just become its head: it takes its tag, or is dropped as oversize (R440, R442). -/
def newHead (c : Chip) (n q : Nat) : Chip := dropOversize (tagHead c n q) n q ((txQueue c n q).length + 1)

/-- A frame enters queue `q` of a port (R436, R440, R445). -/
def txEnqueue (c : Chip) (n q : Nat) (f : TxFrame) : Chip :=
  let empty := (txQueue c n q).isEmpty
  let f := { f with woke := empty, tick := c.tmr.ticks }
  let c := modTx c n (fun p => { p with queues := modNth p.queues q (· ++ [f]) })
  let c := if empty then newHead c n q else c
  let d := txDepth c n q
  let c := wr c (TXS_PQ_MAX_DEPTH n q) (toW (max (rn c (TXS_PQ_MAX_DEPTH n q)) d))
  let mark := wbits (rd c (TXS_PQ_HWM_DEPTH n q)) 0 18
  if mark != 0 && mark < d then
    raiseLimited (txStatBit c (TXS_P_STAT_depth_hwm n) q) (srcTXS_DEPTH_HWM n q) 0
  else c

/-- A frame the device forms, ready for a queue. -/
def plainFrame (data : List Byte) : TxFrame := ⟨data, 0, 0, 0, 0, 0, none, false⟩

/-- A ring may name a queue (R437). -/
def ringQueue (r q : Nat) : Bool := if r = 0 then q == 7 || q == 3 || q == 0 else q == 2

/-- The device takes the next descriptor of a ring whose frame finds room, and queues it (R435–R438, R449). -/
def descriptorTake (c : Chip) (n r : Nat) : Chip :=
  let d := descRing c n r
  let i := d.take
  if i = wbits (rd c (TXS_PRING_PROD n r)) 0 12 || c.txs.ringOff.contains (2 * n + r) then c
  else
    let a := descAddr c n r i
    let l := memBytes c 11 a 16
    let c := ddrNote c 11 false a 16
    let w0 := leAt l 0 4
    let w1 := leAt l 4 4
    let w2 := leAt l 8 4
    let w3 := leAt l 12 4
    let q := bitsAt w2 29 3
    let ts := bitsAt w2 27 2
    let len := bitsAt w2 0 14
    let tsOfs := bitsAt w3 8 8
    let next := modRing c n r (fun d => { d with take := (i + 1) % descSize c n r })
    let stop := fun (c : Chip) status => descComplete c n r i status
    if len < 60 || 9212 < len then raise (stop next 1) srcTXS_DESC_ERR 0
    else if !ringQueue r q then raise (stop next 2) srcTXS_DESC_ERR 0
    else if ts = 3 || (ts = 2 && len < tsOfs + 10) then raise (stop next 3) srcTXS_DESC_ERR 0
    else if fldB c (TXS_P_STAT_silenced n) then stop (txDrop next n q) 6
    else if !linkUp c n then stop (txDrop next n q) 4
    else if !txActing c n then stop next 5
    else if txRoom c n q (len + 4) then
      txEnqueue (ddrNote next 11 false (w0 + bitsAt w1 0 4 * 2 ^ 32) len) n q
        ⟨memBytes c 11 (w0 + bitsAt w1 0 4 * 2 ^ 32) len, 0, ts, BitVec.ofNat 16 (bitsAt w3 16 16), tsOfs,
          bitsAt w3 0 8, some (r, i), false⟩
    else if q = 0 then stop (txDrop next n q) 8
    else c

/-! ### Transmission (R439, R445) -/

/-- The queue the free transmitter serves (R439): 7, then 6, then the smallest finish tag, the higher index on a tie. -/
def txChoose (c : Chip) (n : Nat) : Option Nat :=
  if txEligible c n 7 then some 7
  else if txEligible c n 6 then some 6
  else
    [0, 1, 2, 3, 4, 5].foldl (fun best q =>
      if txEligible c n q then
        match best with
        | none => some q
        | some b =>
          let fb := (nth none (txPort c n).finish b).getD 0
          let fq := (nth none (txPort c n).finish q).getD 0
          if sext 48 (fq - fb).toNat ≤ 0 then some q else some b
      else best) none

/-- The frame as it leaves, with a one-step stamp written into it (R76). -/
def stampFrame (f : TxFrame) (s : Stamp) : TxFrame :=
  if f.ts = 2 then
    let d := putBytes f.data f.tsOfs (ptpBytes s.ns)
    { f with data := if f.csumOfs = 0 then d else putBytes d f.csumOfs [0, 0] }
  else f

/-- The delay of a frame and its mark (R445). -/
def delayMark (c : Chip) (n q delay : Nat) : Chip :=
  let c := wr c (TXS_PQ_MAX_DELAY n q) (toW (min (2 ^ 32 - 1) (max (rn c (TXS_PQ_MAX_DELAY n q)) delay)))
  let mark := wbits (rd c (TXS_PQ_HWM_DELAY n q)) 0 24
  if mark != 0 && mark < delay then
    raiseLimited (txStatBit c (TXS_P_STAT_delay_hwm n) q) (srcTXS_DELAY_HWM n q) 0
  else c

/-- The free transmitter starts the head frame of the first eligible queue (R439, R440, R75, R76, R445, R449). -/
def transmitStart (c : Chip) (n tick : Nat) : Chip :=
  let c := advanceTo c tick
  if (txPort c n).sending.isSome || !txActing c n || !linkUp c n then c
  else
    match txChoose c n with
    | none => c
    | some q =>
      match txQueue c n q with
      | [] => c
      | f :: rest =>
        let s := egressStamp c n
        let v := if q < 6 then (nth none (txPort c n).finish q).getD 0 else (txPort c n).v
        let c := modTx c n (fun p => { p with
          queues := setNth p.queues q rest, v := v, sending := some (stampFrame f s, q) })
        let c := if f.ts = 1 then pushTxStamp c n s f.tag else c
        let c := delayMark c n q (c.tmr.ticks - f.tick)
        newHead c n q

/-- A transmission completes (R437, R438). -/
def transmitEnd (c : Chip) (n tick : Nat) : Chip :=
  let c := advanceTo c tick
  match (txPort c n).sending with
  | none => c
  | some (f, q) =>
    let c := countUp (modTx c n (fun p => { p with sending := none })) (TXS_PQ_CNT n q) 1
    frameComplete c n f 0

/-! ### Gate list changes (R443, R444) -/

/-- The gate list the admin entries and control registers spell (R443, R460). -/
def adminList (c : Chip) (n : Nat) : GateList :=
  { enable := fldB c (TXS_P_GCL_CTL_enable n), base := rd64 c (TXS_P_GCL_BASE_LO n) (TXS_P_GCL_BASE_HI n),
    entries := (List.range (fld c (TXS_P_GCL_CTL_count n))).map (fun e => rd c (TXS_P_GCL_ADMIN n e)) }

/-- T_s of R443: the first base + k × cycle, k ≥ 0, at or after a network time. -/
def gateStart (g : GateList) (t : BitVec 64) : BitVec 64 :=
  let d := tdiff t g.base
  if d ≤ 0 || g.cycle = 0 then g.base else g.base + BitVec.ofNat 64 (ceilDiv d.toNat g.cycle * g.cycle)

/-- A write of TXS_Pn_GCL_CTL waits for its E; a commit while pending is 1 is refused (R443). -/
def gclWrite (c : Chip) (n : Nat) (v : W) : Chip :=
  hostChangeIf c (TXS_P_GCL_CTL n) v
    (fun c =>
      if !fromJournal c && wbit v 30 && fldB c (TXS_P_GCL_CTL_pending n) then some (raise c srcTXS_DESC_ERR 0) else none)
    (fun c e => defer c e (TXS_P_GCL_CTL n) v)

/-- The control word of a gate list comes into force at its E; a commit fixes T_s (R443, R460). -/
def gclEffect (c : Chip) (n : Nat) (v : W) : Chip :=
  let c := setB c (TXS_P_GCL_CTL_enable n) (wbit v 31)
  let c := setFld c (TXS_P_GCL_CTL_count n) (clampN 1 64 (wbits v 0 7))
  if wbit v 30 then
    let g := adminList c n
    let c := modTx c n (fun p => { p with gatePend := some (g, gateStart g c.tmr.bndNs) })
    setB c (TXS_P_GCL_CTL_pending n) true
  else c

/-- TXS_Pn_GCL_STAT shows the entry in force (R441, R458). -/
def gateShow (c : Chip) (n : Nat) : Chip :=
  let g := (txPort c n).gates
  if g.active (netTime c) then
    match g.position (netTime c) with
    | some (e, _) => wr c (TXS_P_GCL_STAT n) (toW (2 ^ 31 + e))
    | none => wr c (TXS_P_GCL_STAT n) 0
  else wr c (TXS_P_GCL_STAT n) 0

/-- A list change makes heads longer than their longest window drop (R442). -/
def dropAllOversize (c : Chip) (n : Nat) : Chip :=
  (List.range 8).foldl (fun c q => dropOversize c n q ((txQueue c n q).length + 1)) c

/-- At T_s the new list comes into force (R443). -/
def gclTake (c : Chip) (n : Nat) : Chip :=
  match (txPort c n).gatePend with
  | some (g, ts) =>
    if 0 ≤ tdiff (netTime c) ts then
      let c := modTx c n (fun p => { p with gates := g, gatePend := none })
      let c := wr (setB c (TXS_P_GCL_CTL_pending n) false) (TXS_P_GCL_CYCLE n) (toW g.cycle)
      dropAllOversize (gateShow c n) n
    else c
  | none => c

/-- Time runs to T_s (R443). -/
def gclSwitch (c : Chip) (n tick : Nat) : Chip := gclTake (advanceTo c tick) n

/-- At a step boundary each port's position is found anew from the new network time, against which a pending T_s is compared
(R444). -/
def gateStep (c : Chip) : Chip := [0, 1, 2, 3].foldl (fun c n => gateShow (gclTake c n) n) c

/-- The interval of an entry ends and the next entry's mask takes effect (R441). -/
def gateEntryChange (c : Chip) (n tick : Nat) : Chip := gateShow (advanceTo c tick) n

/-! ### Frames formed by the device (R446, R447) -/

/-- The ports in the mask of a kind (R447, R458). -/
def kindPorts (c : Chip) (k : Nat) : List Nat := setBits (wbits (rd c TXS_SRC_PORTS) (4 * k) 4) 4

/-- The queue of a kind (R447). -/
def kindQueue (k : Nat) : Nat := if k = 1 then 6 else if k = 2 then 5 else if k = 3 then 4 else 1

/-- The next sequence of a kind (R446). -/
def kindSeq (c : Chip) (k : Nat) : W := mapRead (fun _ => 0) c.txs.seqs k

/-- The sequence of a kind advances (R446). -/
def kindNext (c : Chip) (k : Nat) : Chip :=
  { c with txs := { c.txs with seqs := mapWrite (fun _ => 0) c.txs.seqs k (kindSeq c k + 1) } }

/-- The frame of a kind on a port, without its FCS: header, export header, payload, padding (R446). -/
def formFrame (c : Chip) (n k : Nat) (summary : Bool) (count : Nat) (seq : W) (payload : List Byte) : List Byte :=
  let hi := rd c (TXS_K_DST_HI (k - 1))
  let tag := rd c (TXS_K_TAG (k - 1))
  let d := beBytes 2 (wbits hi 0 16) ++ beBytes 4 (rn c (TXS_K_DST_LO (k - 1)))
    ++ beBytes 2 (wbits (rd c (TXS_P_MAC_HI n)) 0 16) ++ beBytes 4 (rn c (TXS_P_MAC_LO n))
    ++ (if wbit hi 31 then [0x81, 0x00] ++ beBytes 2 (wbits tag 16 16) else [])
    ++ beBytes 2 (wbits tag 0 16)
    ++ [BitVec.ofNat 8 k, 1, BitVec.ofNat 8 (b2n c.glb.straps.twinId + 2 * b2n summary), BitVec.ofNat 8 count]
    ++ beBytes 4 seq.toNat ++ payload
  d ++ List.replicate (60 - d.length) 0

/-- A formed frame is queued on one port, or finds no room: `none` (R436, R449). -/
def queueFormed (c : Chip) (n k : Nat) (summary : Bool) (count : Nat) (seq : W) (payload : List Byte) : Option Chip :=
  let d := formFrame c n k summary count seq payload
  if txRoom c n (kindQueue k) (d.length + 4) then some (txEnqueue c n (kindQueue k) (plainFrame d)) else none

/-- An announcement is formed and queued on every port of its mask; one that finds no room is dropped as ANN_FULL, one
for a port whose link is down is dropped on arrival (R435, R447–R449). -/
def announce (c : Chip) (payload : List Byte) : Chip :=
  if acting c then
    let seq := kindSeq c 1
    (kindPorts c 1).foldl (fun c n =>
      if linkUp c n && txActing c n then
        match queueFormed c n 1 false 1 seq payload with
        | some c => c
        | none => raise (txDrop c n 6) srcTXS_ANN_DROP 0
      else txDrop c n 6) (kindNext c 1)
  else c

/-! ### Silencing (R449) -/

/-- The safe state silences a port: every queued frame is discarded and counted, its descriptor SILENCED (R449). -/
def silencePort (c : Chip) (n : Nat) : Chip :=
  let c := (List.range 8).foldl (fun c q =>
    let l := txQueue c n q
    let c := modTx c n (fun p => { p with queues := setNth p.queues q [], finish := setNth p.finish q none })
    l.foldl (fun c f => frameComplete (txDrop c n q) n f 6) c) c
  setB (setB c (TXS_P_STAT_silenced n) true) (TXS_P_STAT_acting n) false

/-- A write of a ring's PROD submits descriptors and rearms the message (R437). -/
def ringProdWrite (c : Chip) (n r : Nat) (v : W) : Chip :=
  hostWrite c (TXS_PRING_PROD n r) (fun c =>
    wr (modRing c n r (fun d => { d with told := false })) (TXS_PRING_PROD n r) (toW (wbits v 0 12)))

/-! ### The commands -/

/-- RING_PROD_WRITE (R437). -/
def execRingProdWrite (n : Fin 4) (r : Fin 2) (v : W) (s : State) : Host.Outcome State Fault Refusal :=
  run s (ringProdWrite · n r v)
/-- DESCRIPTOR_TAKE (R437). -/
def execDescriptorTake (n : Fin 4) (r : Fin 2) (s : State) : Host.Outcome State Fault Refusal := run s (descriptorTake · n r)
/-- TRANSMIT_START (R439). -/
def execTransmitStart (n : Fin 4) (tick : Nat) (s : State) : Host.Outcome State Fault Refusal := run s (transmitStart · n tick)
/-- TRANSMIT_END (R438). -/
def execTransmitEnd (n : Fin 4) (tick : Nat) (s : State) : Host.Outcome State Fault Refusal := run s (transmitEnd · n tick)
/-- GCL_COMMIT (R443): a write with commit set. -/
def execGclCommit (n : Fin 4) (v : W) (s : State) : Host.Outcome State Fault Refusal :=
  run s (gclWrite · n (v ||| 0x40000000))
/-- GCL_SWITCH (R443). -/
def execGclSwitch (n : Fin 4) (tick : Nat) (s : State) : Host.Outcome State Fault Refusal := run s (gclSwitch · n tick)
/-- GATE_ENTRY_CHANGE (R441). -/
def execGateEntryChange (n : Fin 4) (tick : Nat) (s : State) : Host.Outcome State Fault Refusal :=
  run s (gateEntryChange · n tick)

end Sys2Proof.Machine
end

