-- ==== Sys2Proof/Machine/Ledger.lean ====
section
/-! DEFINITION. The ledger: records, coalescing, the ring and the log, the incident vault, alarms and exports
(R450–R457). -/

namespace Sys2Proof.Machine

/-! ### Records (R450–R453) -/

/-- The 32 bytes of a record (R450). -/
def LRec.bytes (c : Chip) (r : LRec) : List Byte :=
  beBytes 4 r.seq.toNat
    ++ [BitVec.ofNat 8 r.typ,
        BitVec.ofNat 8 (r.cls * 64 + b2n r.inj * 32 + b2n r.real * 16 + b2n c.glb.straps.twinId * 8 + b2n r.acting * 4)]
    ++ beBytes 2 r.source ++ (r.body ++ List.replicate 24 0).take 24

/-- Bytes 8–31 of an EVENT record (R451). -/
def OpenRec.body (o : OpenRec) : List Byte :=
  beBytes 8 o.firstT.toNat ++ beBytes 4 o.pFirst.toNat ++ beBytes 4 o.count ++ beBytes 2 o.lastDp ++ [0, 0]
    ++ beBytes 4 o.data.toNat

/-- A record enters the ring; one overwritten before it was copied is lost (R453). -/
def ringPut (c : Chip) (r : LRec) : Chip :=
  let k := r.seq.toNat % 8192
  let old := mapGet c.ldg.ring k
  let c := { c with ldg := { c.ldg with ring := mapPut c.ldg.ring k r } }
  match old with
  | some o =>
    if pReached o.seq c.ldg.copied then
      let c := { c with ldg := { c.ldg with copied := o.seq + 1 } }
      raise (setB (countUp c LDG_LOG_LOST 1) LDG_STAT_log_lost true) srcLDG_LOG_LOST 0
    else c
  | none => c

/-- The ledger takes up to four records in a period (R453). -/
def ledgerTake (c : Chip) : Chip :=
  let l := c.ldg.waiting
  (l.take 4).foldl ringPut { c with ldg := { c.ldg with waiting := l.drop 4 } }

/-- The LPDDR6 address of a record's slot in a log region (R453). -/
def logSlot (c : Chip) (region : Nat) (seq : W) : Nat :=
  wbits (rd c LDG_LOG_BASE) 0 10 * 2 ^ 26 + region * 2 ^ 26 + seq.toNat % 2097152 * 32

/-- The next record may be copied: during a freeze none after the FREEZE record (R454). -/
def copyAllowed (c : Chip) : Bool :=
  match c.ldg.freeze with
  | none => true
  | some f => pReached f.seq c.ldg.copied

/-- The next record in sequence is copied from the ring to the log region (R453). -/
def logCopyOne (c : Chip) : Chip :=
  match mapGet c.ldg.ring (c.ldg.copied.toNat % 8192) with
  | some r =>
    if r.seq = c.ldg.copied && copyAllowed c then
      let c := memWrite c 8 (logSlot c (fld c LDG_STAT_log_region) r.seq) (r.bytes c)
      { c with ldg := { c.ldg with copied := r.seq + 1 } }
    else c
  | none => c

/-- Up to `n` records are copied in sequence (R453). -/
def logCopy (c : Chip) : Nat → Chip
  | 0 => c
  | n + 1 => logCopy (logCopyOne c) n

/-! ### Alarms (R456) -/

/-- alarm_depth follows the alarm store. -/
def showAlarms (c : Chip) : Chip := setFld c LDG_STAT_alarm_depth (min 512 c.ldg.alarms.length)

/-- A summary count of a source rises by one (R456). -/
def summarise (c : Chip) (src cls : Nat) : Chip :=
  let old := (mapGet c.ldg.summary src).getD (0, 0)
  { c with ldg := { c.ldg with summary := mapPut c.ldg.summary src (old.1 + 1, max old.2 cls) } }

/-- alarm_budget; 0 is stored as 1 (R462). -/
def alarmBudget (c : Chip) : Nat := max 1 (fld c LDG_CTL_alarm_budget)

/-- An opened record of class alarm_min or above forms an alarm, with the record as it stands; its seq is not assigned
yet and is a free value (R456, log entry 15). -/
def formAlarm (c : Chip) (src : Nat) (o : OpenRec) : Chip :=
  if o.cls < fld c LDG_CTL_alarm_min then c
  else if c.ldg.budget < alarmBudget c && c.ldg.alarms.length < 512 then
    let r : LRec := ⟨toW (freeValue c), 1, o.cls, o.inj, o.real, acting c, src, o.body, c.tmr.period⟩
    let a : Alarm := ⟨r.bytes c, 1, false, none, []⟩
    let c := freeNext c
    showAlarms { c with ldg := { c.ldg with alarms := c.ldg.alarms ++ [a], budget := c.ldg.budget + 1 } }
  else summarise c src o.cls

/-- A summary frame's payload (R447). -/
def summaryBytes (l : List (Nat × (Nat × Nat))) : List Byte :=
  l.flatMap (fun e => beBytes 2 e.1 ++ [BitVec.ofNat 8 e.2.2, 0] ++ beBytes 4 e.2.1)

/-- Entries of the alarm store for the summaries of a window, 32 sources each (R456). -/
def summaryAlarms (l : List (Nat × (Nat × Nat))) : Nat → List Alarm
  | 0 => []
  | n + 1 =>
    if l.isEmpty then []
    else ⟨summaryBytes (l.take 32), (l.take 32).length, true, none, []⟩ :: summaryAlarms (l.drop 32) n

/-- An alarm window ends where P is a multiple of 40,000 (R456). -/
def alarmWindowEnd (c : Chip) : Chip :=
  if c.tmr.period.toNat % 40000 = 0 then
    let l := c.ldg.summary
    let c := { c with ldg := { c.ldg with summary := [], budget := 0, alarms := c.ldg.alarms ++ summaryAlarms l 1280 } }
    if l.isEmpty then c
    else
      let c := countUp c LDG_ALARM_SUMM ((l.map (fun e => e.2.1)).sum)
      raise (setB (showAlarms c) LDG_STAT_alarm_summ true) srcLDG_ALARM_SUMMARY 0
  else c

/-- A stored alarm is queued on the ports of its mask whose link is up; it leaves the store once it is on all of them
(R449, R456). -/
def alarmSend (c : Chip) : Chip :=
  match c.ldg.alarms with
  | [] => c
  | a :: rest =>
    if !acting c then c
    else
      let up := (kindPorts c 2).filter (fun n => linkUp c n && txActing c n)
      let (c, seq) := match a.seq with
        | some s => (c, s)
        | none => if up.isEmpty then (c, kindSeq c 2) else (kindNext c 2, kindSeq c 2)
      let (c, ports) := up.foldl (fun (x : Chip × List Nat) n =>
        if x.2.contains n then x
        else match queueFormed x.1 n 2 a.summary a.count seq a.payload with
          | some c => (c, x.2 ++ [n])
          | none => x) (c, a.ports)
      if up.isEmpty then c
      else if up.all ports.contains then showAlarms { c with ldg := { c.ldg with alarms := rest } }
      else { c with ldg := { c.ldg with alarms := { a with seq := some seq, ports := ports } :: rest } }

/-! ### EVENT records and freezes (R452, R454, R455) -/

/-- An open record is closed and written (R452). -/
def closeRec (c : Chip) (src : Nat) : Chip :=
  match mapGet c.ldg.opened src with
  | some o =>
    ledgerPut { c with ldg := { c.ldg with opened := mapDel c.ldg.opened src } } 1 o.cls o.inj o.real src o.body
  | none => c

/-- Every record that has been open for 4,000 periods is closed (R452). -/
def closeDue (c : Chip) : Chip :=
  (c.ldg.opened.filter (fun e => decide (4000 ≤ pdiff c.tmr.period e.2.pFirst))).foldl (fun c e => closeRec c e.1) c

/-- A freeze is made: every open record is closed and written, the freezing event's own first, then the FREEZE record
(R454). `written` is the sequence of the freezing event's record if it is written already. -/
def vaultFreeze (c : Chip) (src : Nat) (written : W) (cls : Nat) : Chip :=
  let eventSeq := if (mapGet c.ldg.opened src).isSome then rd c LDG_SEQ else written
  let c := closeRec c src
  let c := c.ldg.opened.foldl (fun c e => closeRec c e.1) c
  let s := rd c LDG_SEQ
  let c := ledgerPut c 6 0 false false 0xFFFF
    (beBytes 8 (netTime c).toNat ++ beBytes 4 c.tmr.period.toNat ++ beBytes 4 eventSeq.toNat
      ++ [BitVec.ofNat 8 cls, 0, 0, 0])
  raise { c with ldg := { c.ldg with freeze := some ⟨s, cls⟩ } } srcLDG_VAULT_FROZEN 0

/-- The class of the vault held, or of the freeze in progress. -/
def heldClass (c : Chip) : Option Nat :=
  match c.ldg.freeze with
  | some f => some f.cls
  | none => if fldB c LDG_STAT_vault_held then some (fld c LDG_STAT_vault_class) else none

/-- A serious event freezes the vault, replaces a held SEVERE vault if it is GRAVE, or is missed (R454, R455). -/
def freezeOn (c : Chip) (src : Nat) (written : W) (cls : Nat) : Chip :=
  match heldClass c with
  | none => vaultFreeze c src written cls
  | some h =>
    if h = 2 && cls == 3 then vaultFreeze c src written cls
    else raise (setB c LDG_STAT_vault_missed true) srcLDG_VAULT_MISSED 0

/-- An occurrence opens a record of its source or adds to the open one (R452); a record of class SEVERE or GRAVE is
written at once, and a real one freezes the vault, an injected one with vault_on_inj (R454). -/
def ledgerEvent (c : Chip) (o : Occ) (cls : Nat) : Chip :=
  let add := match mapGet c.ldg.opened o.src with
    | some r => decide (pdiff o.period r.pFirst < 4000)
    | none => false
  let c :=
    if add then
      { c with ldg := { c.ldg with opened := match mapGet c.ldg.opened o.src with
        | some r => mapPut c.ldg.opened o.src
            { r with count := min (2 ^ 32 - 1) (r.count + 1), lastDp := (o.period - r.pFirst).toNat % 2 ^ 16,
                     cls := max r.cls cls, inj := r.inj || o.injected, real := r.real || !o.injected }
        | none => c.ldg.opened } }
    else
      let c := closeRec c o.src
      let r : OpenRec := ⟨o.time, o.period, 1, 0, o.data, cls, o.injected, !o.injected⟩
      formAlarm { c with ldg := { c.ldg with opened := mapPut c.ldg.opened o.src r } } o.src r
  let full := match mapGet c.ldg.opened o.src with
    | some r => r.count == 2 ^ 32 - 1
    | none => false
  let seq := rd c LDG_SEQ
  let c := if full || (!add && 2 ≤ cls) then closeRec c o.src else c
  if 2 ≤ cls && (!o.injected || fldB c LDG_CTL_vault_on_inj) then freezeOn c o.src seq cls else c

/-- The FREEZE record is copied: the log region becomes the held vault and logging goes on in the other (R454). -/
def vaultHeld (c : Chip) : Chip :=
  match c.ldg.freeze with
  | some f =>
    if pReached c.ldg.copied (f.seq + 1) then
      let first := if 2097152 ≤ (f.seq - c.ldg.logFirst).toNat then f.seq - 2097151 else c.ldg.logFirst
      let c := setFld (setB c LDG_STAT_vault_held true) LDG_STAT_vault_class f.cls
      let c := wr (wr c LDG_VAULT_FIRST first) LDG_VAULT_FREEZE f.seq
      let c := setFld c LDG_STAT_log_region (1 - fld c LDG_STAT_log_region)
      { c with ldg := { c.ldg with freeze := none, logFirst := f.seq + 1 } }
    else c
  | none => c

/-- A write of LDG_VAULT_CTL with release = 1 clears vault_held (R455). -/
def vaultRelease (c : Chip) (v : W) : Chip :=
  hostWrite c LDG_VAULT_CTL (fun c => if wbit v 31 then setB c LDG_STAT_vault_held false else c)

/-- A write of go in LDG_FW_SUBMIT writes a FIRMWARE record; with 192 or more records waiting it is refused (R453). -/
def fwRecordSubmit (c : Chip) (v : W) : Chip :=
  hostWrite c LDG_FW_SUBMIT (fun c =>
    if !wbit v 31 then c
    else if 192 ≤ c.ldg.waiting.length then setB c LDG_STAT_fw_busy true
    else ledgerPut c 7 0 false false (wbits v 0 16) ((List.range 6).flatMap (fun i => beBytes 4 (rn c (LDG_FW_REC i)))))

/-! ### Exports (R457) -/

/-- A ledger export frame is due: 32 records are pending, or the oldest has waited 4,000 periods (R457). -/
def exportDue (c : Chip) : Bool :=
  match c.ldg.exports with
  | [] => false
  | r :: _ => decide (32 ≤ c.ldg.exports.length) || decide (4000 ≤ pdiff c.tmr.period r.at_)

/-- A ledger export frame is formed and queued on the ports of its mask; where it finds no room it is dropped and its
records are counted as not exported (R435, R446, R457). -/
def ledgerExport (c : Chip) : Chip :=
  if fldB c LDG_CTL_export_en && acting c && exportDue c then
    let l := c.ldg.exports.take 32
    let payload := l.flatMap (LRec.bytes c)
    let seq := kindSeq c 3
    let c := kindNext { c with ldg := { c.ldg with exports := c.ldg.exports.drop 32 } } 3
    (kindPorts c 3).foldl (fun c n =>
      if linkUp c n && txActing c n then
        match queueFormed c n 3 false l.length seq payload with
        | some c => c
        | none =>
          let c := countUp (txDrop c n 4) LDG_EXPORT_DROP l.length
          raiseLimited (setB c LDG_STAT_export_drop true) srcLDG_EXPORT_DROP 0
      else txDrop c n 4) c
  else c

/-! ### The commands -/

/-- EVENT_RECORD_CLOSE (R452). -/
def execEventRecordClose (s : State) : Host.Outcome State Fault Refusal := run s closeDue
/-- LOG_COPY (R453): up to `n` records. -/
def execLogCopy (n : Nat) (s : State) : Host.Outcome State Fault Refusal := run s (logCopy · n)
/-- VAULT_HELD (R454). -/
def execVaultHeld (s : State) : Host.Outcome State Fault Refusal := run s vaultHeld
/-- VAULT_RELEASE (R455). -/
def execVaultRelease (v : W) (s : State) : Host.Outcome State Fault Refusal := run s (vaultRelease · v)
/-- FW_RECORD_SUBMIT (R453). -/
def execFwRecordSubmit (v : W) (s : State) : Host.Outcome State Fault Refusal := run s (fwRecordSubmit · v)
/-- ALARM_WINDOW_END (R456). -/
def execAlarmWindowEnd (s : State) : Host.Outcome State Fault Refusal := run s alarmWindowEnd
/-- ALARM_SEND (R456). -/
def execAlarmSend (s : State) : Host.Outcome State Fault Refusal := run s alarmSend
/-- LEDGER_EXPORT (R457). -/
def execLedgerExport (s : State) : Host.Outcome State Fault Refusal := run s ledgerExport

end Sys2Proof.Machine
end

