-- ==== Sys2Proof/Machine/Fabric.lean ====
section
/-! DEFINITION. The fabric: wiring, tracing of ports through the stages (R36–R39, R243). Cells are named by their
logical index, stage × cells per stage + row. -/

namespace Sys2Proof.Machine

/-- Rotate bits k−1..0 of a wire index right by one (R39). -/
def rotr (w k : Nat) : Nat := (w - w % 2 ^ k) + w % 2 ^ k / 2 + w % 2 * 2 ^ (k - 1)

/-- Rotate bits k−1..0 of a wire index left by one (R39). -/
def rotl (w k : Nat) : Nat := (w - w % 2 ^ k) + w % 2 ^ k * 2 % 2 ^ k + w % 2 ^ k / 2 ^ (k - 1)

/-- The wiring from stage s to stage s + 1 in a plane of 2^n ports; `x` is 1 with an extra stage (R39). -/
def nextWire (w s n x : Nat) : Nat :=
  if x = 1 && s == 0 then rotr w n
  else
    let j := s - x
    if j + 2 ≤ n then rotr w (n - j) else rotl w (n - (2 * n - 3 - j))

/-- The wire at stage s that `nextWire` takes to `w`: the inverse rotation. -/
def prevWire (w s n x : Nat) : Nat :=
  if x = 1 && s == 0 then rotl w n
  else
    let j := s - x
    if j + 2 ≤ n then rotl w (n - j) else rotr w (n - (2 * n - 3 - j))

/-- The extra stage of families 1 and 3 (R37). -/
def Topo.extra (t : Topo) : Nat := t.family % 2

/-- Ports of the topology and of one plane (R36, R38). -/
def Topo.ports (t : Topo) : Nat := 2 * t.cellsPerStage
def Topo.planePorts (t : Topo) : Nat := if t.planes = 0 then t.ports else t.ports / t.planes

/-- n of R39: a plane has 2^n ports. -/
def Topo.bits (t : Topo) : Nat := t.planePorts.log2

/-- The wiring between stages, planes included (R38, R39). -/
def Topo.wire (t : Topo) (w s : Nat) : Nat :=
  let base := w / t.planePorts * t.planePorts
  base + nextWire (w - base) s t.bits t.extra

/-- The plane of a port (R38). -/
def Topo.plane (t : Topo) (p : Nat) : Nat := p / t.planePorts

/-- The physical cell and the map entry of a logical cell (R42). -/
def Topo.cell (t : Topo) (l : Nat) : Option (Nat × MapCell) := t.cells.find? (fun e => e.2.logical == l)

/-- The logical indexes with their physical cells, in logical order. -/
def Topo.logical (t : Topo) : List (Nat × Nat) := t.cells.foldl (fun m e => mapPut m e.2.logical e.1) []

/-- One stage of a trace: from the input-side wire of stage `s`, the cell crossed and the output-side wire, with the
logical state of the cell. -/
def stageOut (w state : Nat) : Nat := if state = 1 then w / 2 * 2 + (1 - w % 2) else w

/-- The path of a wire from stage `s` on: the logical cells crossed, and the wire it ends on. `st` gives the logical
state of a logical cell. -/
def Topo.follow (t : Topo) (st : Nat → Nat) : Nat → Nat → Nat → List Nat × Nat
  | 0, _, w => ([], w)
  | k + 1, s, w =>
    let l := s * t.cellsPerStage + w / 2
    let o := stageOut w (st l)
    let rest := t.follow st k (s + 1) (if k = 0 then o else t.wire o s)
    (l :: rest.1, rest.2)

/-- The cells an input port crosses and the output port it reaches (R36–R39, R243). -/
def Topo.trace (t : Topo) (st : Nat → Nat) (p : Nat) : List Nat × Nat := t.follow st t.stages 0 p

/-- A plane's permutation entry is allowed by R38. -/
def Topo.samePlane (t : Topo) (p q : Nat) : Bool := t.plane p == t.plane q

end Sys2Proof.Machine
end

