-- ==== Sys2Proof/Machine/Arr.lean ====
section
/-! DEFINITION. Arrangements: their layout and their checks (R211–R220), the target banks of the galleries (R163–R166),
the store and the cache (R217–R224). -/

namespace Sys2Proof.Machine

/-! ### Layout (R211–R216) -/

/-- The bytes of an arrangement (R216). -/
def arrBytes : Nat := 0x4C00

/-- The target words of an arrangement, by physical cell (R213). -/
def arrTargets (l : List Byte) : List W := bytesToWords 4608 (l.drop 0x400)

/-- The permutation record of an arrangement (R211, R216). -/
def arrPerm (l : List Byte) : List Byte := bytesAt l 0x40 640

/-- Entry `i` of a permutation record (R211). -/
def permEntry (rec : List Byte) (i : Nat) : Nat := bitsAt (leAt rec (10 * i / 8) 2) (10 * i % 8) 10

/-- The 512 entries of a permutation record. -/
def permEntries (rec : List Byte) : List Nat :=
  let v := leNat rec
  (List.range 512).map (fun i => bitsAt v (10 * i) 10)

/-- A permutation record of 512 entries (R211). -/
def permBytes (l : List Nat) : List Byte := leBytes 640 (l.foldr (fun x a => x % 1024 + 1024 * a) 0)

/-- The target of a word: branch × 4 + state (R213, R214). -/
def targetOf (w : W) : Nat := wbits w 0 4

/-- A permutation is valid for the loaded topology (R212). -/
def permValid (t : Topo) (l : List Nat) : Bool :=
  let pairs := (List.range 512).zip l
  let used := (l.filter (fun x => x != 0x3FF))
  pairs.all (fun e => e.2 == 0x3FF || (e.1 < t.ports && e.2 < t.ports && t.samePlane e.1 e.2))
    && decide used.Nodup

/-- Reserved fields of a header are zero, magic and version as R215 says. -/
def hdrForm (h : List Byte) : Bool :=
  h.take 4 == [0x47, 0x58, 0x41, 0x4E] && leAt h 6 2 == 1 && bitsAt (leAt h 18 2) 2 14 == 0 && leAt h 32 28 == 0

/-- The header of an arrangement. -/
def arrHdr (l : List Byte) : List Byte := l.take 64

/-- hdr_crc of R215 matches. -/
def hdrCrcOk (l : List Byte) : Bool := leAt l 60 4 == crc32c (l.take 60)

/-- body_crc of R215 matches the target table. -/
def bodyCrcOk (l : List Byte) : Bool := leAt l 20 4 == crc32c (bytesAt l 0x400 18432)

/-- A target word is one that BAD_TARGET does not name (R218). -/
def targetOk (mapped : Nat → Bool) (i : Nat) (w : W) : Bool :=
  let st := wbits w 0 2
  st != 3 && wbits w 16 13 == i && wbits w 29 3 == 0 && wbits w 4 12 == 0
    && (if st == 2 then wbits w 2 2 == 0 else mapped i)

/-- The permutation of an arrangement as R218's BAD_PERM judges it. -/
def permOk (t : Topo) (l : List Byte) : Bool :=
  let rec_ := arrPerm l
  let entries := permEntries rec_
  if bitsAt (leAt l 18 2) 0 1 == 1 then
    leAt l 24 4 == crc32c rec_ && permValid t entries
      && leAt l 16 2 == (entries.filter (fun x => x != 0x3FF)).length
  else leNat rec_ == 0 && leAt l 16 2 == 0 && leAt l 24 4 == 0

/-- The first of checks 2–9 of R218 that an arrangement fails for the ID `id`; none if it passes them all. -/
def arrCheck (c : Chip) (id : Nat) (l : List Byte) : Option Nat :=
  match c.topo with
  | none => some 5
  | some t =>
    let words := arrTargets l
    let lit := (words.filter (fun w => wbits w 0 2 != 2)).length
    let known := t.cells.map (fun e => e.1)
    if !hdrForm (arrHdr l) then some 2
    else if !hdrCrcOk l then some 3
    else if leAt l 4 2 == 0xFFFF || leAt l 4 2 != id then some 4
    else if leAt l 8 4 != t.topologyId.toNat then some 5
    else if leAt l 12 2 != t.cells.length || leAt l 14 2 != lit then some 6
    else if !bodyCrcOk l then some 7
    else if !((List.range 4608).zip words).all (fun e => targetOk (fun i => known.contains i) e.1 e.2) then some 8
    else if !permOk t l then some 9
    else none

/-! ### The target banks (R163–R165) -/

/-- The targets of an arrangement as a bank: the words that are not KEEP with branch 0. -/
def bankOfTargets (ws : List W) : List (Nat × Nat) :=
  ((List.range ws.length).zip ws).filterMap (fun e => if targetOf e.2 = 2 then none else some (e.1, targetOf e.2))

/-- PEND becomes empty (R164). -/
def emptyPend (c : Chip) : Chip := { c with lpe := { c.lpe with pend := [], pendId := 0xFFFF, pendEmpty := true } }

/-- DOC_STEP_ARR shows the IDs of ENTRY and FORCE (R201). -/
def showForce (c : Chip) : Chip := wr c DOC_STEP_ARR (toW (c.lpe.entryId.toNat * 2 ^ 16 + c.lpe.forceId.toNat))

/-- A swap acts at the present boundary (R164): ENTRY takes FORCE, FORCE takes PEND, PEND becomes empty; the step
boundary is the next one. -/
def swapTargets (c : Chip) : Chip :=
  let l := c.lpe
  showForce (emptyPend { c with lpe := { l with
    entry := l.force, entryId := l.forceId, force := l.pend, forceId := l.pendId, newStep := some (period c + 1) } })

/-- A revert acts at the present boundary (R165): FORCE takes ENTRY, PEND is emptied. -/
def revertTargets (c : Chip) : Chip :=
  let l := c.lpe
  showForce (emptyPend { c with lpe := { l with
    force := l.entry, forceId := l.entryId, newStep := some (period c + 1) } })

/-! ### The store and the cache (R217–R224) -/

/-- The store state of an ID: 0 ABSENT, 1 STORED, 2 CORRUPT, 3 ACCEDING. -/
def storeState (c : Chip) (id : Nat) : Nat := mapRead (fun _ => 0) c.ars.store id

/-- ARS_COUNT shows the RESIDENT entries and the STORED IDs (R246). -/
def showCounts (c : Chip) : Chip :=
  wr c ARS_COUNT (toW ((c.ars.cache.filter (fun e => e.2.st == 2)).length * 2 ^ 24
    + (c.ars.store.filter (fun e => e.2 == 1)).length))

/-- Give an ID a store state. -/
def setStore (c : Chip) (id st : Nat) : Chip :=
  showCounts { c with ars := { c.ars with store := mapWrite (fun _ => 0) c.ars.store id st } }

/-- A cache entry. -/
def entryOf (c : Chip) (e : Nat) : CacheEntry := mapRead (fun _ => CacheEntry.empty) c.ars.cache e

/-- Give a cache entry a content. -/
def setEntry (c : Chip) (e : Nat) (x : CacheEntry) : Chip :=
  showCounts { c with ars := { c.ars with cache := mapWrite (fun _ => CacheEntry.empty) c.ars.cache e x } }

/-- The RESIDENT entry that holds an ID (R221). -/
def residentEntry (c : Chip) (id : BitVec 16) : Option Nat :=
  match c.ars.cache.find? (fun e => e.2.st == 2 && e.2.id == id) with
  | some e => some e.1
  | none => none

/-- The pins in force on an entry: those of LOOKUP and those of the programme engine (R223). -/
def entryPins (c : Chip) (e : Nat) : Nat :=
  (c.prg.pins.filter (fun p => p.2 == e)).length
    + ([c.doc.cur, c.doc.saved].filter (fun r => match r with | some r => r.pins.contains e | none => false)).length

/-- Base of the store in LPDDR6 (R217, R246). -/
def storeBase (c : Chip) : Nat := bitsAt (rn c ARS_STORE_BASE) 0 8 * 2 ^ 28

/-- Address of an ID's slot (R217). -/
def slotAddr (c : Chip) (id : Nat) : Nat := storeBase c + id * 0x5000

/-- Address of a staging buffer (R217). -/
def stagingAddr (c : Chip) (b : Nat) : Nat := storeBase c + 0x50000000 + b * 0x5000

/-- The steps of a slot's programme, as the two words of each (R230). -/
def slotWords (c : Chip) (s : Nat) : List (Nat × W) :=
  (c.prg.mem.filter (fun e => 8192 * s ≤ e.1 && e.1 < 8192 * (s + 1))).map (fun e => (e.1 - 8192 * s, e.2))

/-- A programme step (R230): its ID, guard, opsel, quiet, reserved field and time. -/
structure PrgStep where
  id : BitVec 16
  guard : Nat
  opsel : Nat
  quiet : Bool
  rsvd : Nat
  time : Nat
  deriving DecidableEq, Repr

/-- The programme step of two words. -/
def stepOf (lo hi : W) : PrgStep :=
  ⟨BitVec.ofNat 16 (wbits hi 16 16), wbits hi 8 8, wbits hi 6 2, wbit hi 5, wbits hi 0 5, lo.toNat⟩

/-- Steps from step memory: `n` steps from word `k`. -/
def stepsFrom (m : List (Nat × W)) : Nat → Nat → List PrgStep
  | _, 0 => []
  | k, n + 1 => stepOf (mapRead (fun _ => 0) m k) (mapRead (fun _ => 0) m (k + 1)) :: stepsFrom m (k + 2) n

/-- The steps of a slot, at most 4,096 (R230). -/
def slotSteps (c : Chip) (s : Nat) : List PrgStep := stepsFrom (slotWords c s) 0 (min 4096 (fld c (PRG_S_HDR_step_count s)))

/-- The slots of the active, armed and staged programmes. -/
def liveSlots (c : Chip) : List Nat :=
  (match c.prg.run with | some r => [r.slot] | none => [])
    ++ (match c.prg.staged with | some (r, _) => [r.slot] | none => [])

/-- An ID is in use (R219); 0xFFFF is none (R199, R230). -/
def inUse (c : Chip) (id : BitVec 16) : Bool :=
  id != 0xFFFF && (id == c.lpe.forceId || (id == c.lpe.pendId && !c.lpe.pendEmpty) || id == c.lpe.entryId
    || c.ars.cache.any (fun e => e.2.id == id && (e.2.st == 1 || (e.2.st == 2 && decide (0 < entryPins c e.1))))
    || (liveSlots c).any (fun s => (slotSteps c s).any (fun p => p.id == id)))

/-- The result of the query of ARS_QUERY (R250). -/
def arsQuery (c : Chip) : W :=
  let id := BitVec.ofNat 16 (bitsAt (rn c ARS_QUERY) 0 16)
  let st := storeState c id.toNat
  match residentEntry c id with
  | some e => toW (st * 2 ^ 30 + 2 ^ 29 + e * 2 ^ 23 + b2n (inUse c id) * 2 ^ 22)
  | none => toW (st * 2 ^ 30 + b2n (inUse c id) * 2 ^ 22)

/-- The tag of a cache entry (R250). -/
def arsTag (c : Chip) (e : Nat) : W :=
  let x := entryOf c e
  toW (x.st * 2 ^ 30 + b2n x.dirty * 2 ^ 29 + min 31 (entryPins c e) * 2 ^ 24 + x.id.toNat)

/-- A word of the cache window (R221): a RESIDENT entry's content, zero otherwise. -/
def cacheWord (c : Chip) (off : Nat) : W :=
  let x := entryOf c (off / 0x8000)
  if x.st = 2 then toW (leAt x.content (off % 0x8000) 4) else 0

end Sys2Proof.Machine
end

