-- ==== Sys2Proof/Machine/Prg.lean ====
section
/-! DEFINITION. The programme engine: slots, positions, the residency test, misses, time steps, guards and
announcements (R229–R245, R251–R254). -/

namespace Sys2Proof.Machine

/-! ### Slots and positions (R229–R231) -/

/-- The pager lead of R227. -/
def pagerLead (c : Chip) : Nat := fld c ARS_CTL_lead

/-- State of a slot (R229): 0 EMPTY, 1 LOADING, 2 READY, 3 ARMED, 4 ACTIVE, 5 STAGED, 6 DONE, 7 REFUSED. -/
def slotState (c : Chip) (s : Nat) : Nat := bitsAt (fld c PRG_STAT_slot_state) (3 * s) 3

/-- Give a slot a state. -/
def setSlot (c : Chip) (s st : Nat) : Chip := wr c PRG_STAT (putField (rd c PRG_STAT) (3 * s) 3 st)

/-- PRG_STAT shows the armed or active slot and the staged one (R253). -/
def showRuns (c : Chip) : Chip :=
  let c := match c.prg.run with
    | some r => setB (setFld c PRG_STAT_active r.slot) PRG_STAT_active_v true
    | none => setB (setFld c PRG_STAT_active 0) PRG_STAT_active_v false
  match c.prg.staged with
  | some (r, _) => setB (setFld c PRG_STAT_staged r.slot) PRG_STAT_staged_v true
  | none => setB (setFld c PRG_STAT_staged 0) PRG_STAT_staged_v false

/-- Give the engine its armed or active programme. -/
def setRun (c : Chip) (r : Option PrgRun) : Chip := showRuns { c with prg := { c.prg with run := r } }

/-- Give the engine its staged programme. -/
def setStaged (c : Chip) (r : Option (PrgRun × Bool)) : Chip := showRuns { c with prg := { c.prg with staged := r } }

/-- A programme before its first step. -/
def PrgRun.fresh (s : Nat) (origin : Option W) : PrgRun :=
  { slot := s, origin := origin, cycle := 0, step := 0, joinAt := none, catchUp := false, last := none, high := none,
    stop := none, sent := [], coming := [], passed := [], absent := [] }

/-- A programme command is refused (R252). -/
def prgRefuse (c : Chip) (reason : Nat) : Chip :=
  raise (setFld (setB c PRG_STAT_cmd_reject true) PRG_STAT_reason reason) srcPRG_REJECT 0

/-- span of a slot (R231). -/
def slotSpan (c : Chip) (s : Nat) : Nat := rn c (PRG_S_SPAN s)

/-- A slot's programme is cyclic. -/
def slotCyclic (c : Chip) (s : Nat) : Bool := fldB c (PRG_S_HDR_cyclic s)

/-- Steps of a slot's programme. -/
def slotCount (c : Chip) (s : Nat) : Nat := min 4096 (fld c (PRG_S_HDR_step_count s))

/-- The offsets of DWELL timing, from offset `o` (R231). -/
def dwellOffsets : Nat → List PrgStep → List Nat
  | _, [] => []
  | o, p :: t => o :: dwellOffsets (o + p.time) t

/-- o_0 to o_(n − 1) of a slot (R231). -/
def startOffsets (c : Chip) (s : Nat) : List Nat :=
  if fldB c (PRG_S_HDR_at s) then (slotSteps c s).map (fun p => p.time) else dwellOffsets 0 (slotSteps c s)

/-- o_0 to o_n of a slot: o_n is the sum of the dwells until CHECK has found it equal to span, or span (R231). -/
def dwells (c : Chip) (s : Nat) : List Int :=
  let o := startOffsets c s
  let times := (slotSteps c s).map (fun p => (p.time : Int))
  if fldB c (PRG_S_HDR_at s) then
    ((o.drop 1 ++ [slotSpan c s]).zip o).map (fun e => (e.1 : Int) - (e.2 : Int))
  else times

/-- The guard of a step after substitution (R230). -/
def stepGuard (c : Chip) (s : Nat) (p : PrgStep) : Nat := if p.guard = 0 then fld c (PRG_S_HDR_guard_default s) else p.guard

/-- The opcode of a step (R230). -/
def stepOpcode (c : Chip) (s : Nat) (p : PrgStep) : Nat :=
  if p.opsel = 0 then 0x10 else bitsAt (rn c (PRG_S_OPC s)) (8 * (p.opsel - 1)) 8

/-- One step of a programme in time (R231): its boundary, cycle, index, and how many periods ahead its boundary lies. -/
structure StepRef where
  b : W
  cycle : Nat
  index : Nat
  p : PrgStep
  dist : Int
  deriving DecidableEq, Repr

/-- How many periods boundary `b` of a programme lies ahead of the present one. A step to come lies less than 2^31 periods
and a few behind the step before it (R232), which the difference of R63 would take for the past. -/
def ahead (c : Chip) (b : W) : Int := ((b - period c + 0x40000000).toNat : Int) - 0x40000000

/-- The offset of step `k`, o_n being span (R231). -/
def offsetOf (c : Chip) (s k : Nat) : Nat := (startOffsets c s).getD k (slotSpan c s)

/-- How far ahead the origin of a programme lies, reckoned from its position, or from the end of a step joined: negative
once it is past. -/
def originAhead (c : Chip) (r : PrgRun) (o : W) : Int :=
  let at0 := r.cycle * slotSpan c r.slot + offsetOf c r.slot (r.step + b2n r.joinAt.isSome)
  ahead c (o + toW at0) - at0

/-- The steps of one cycle from index `k` on; `base`: how far ahead the origin lies. -/
def cycleRefs (origin : W) (base : Int) (span cycle k : Nat) (steps : List (PrgStep × Nat)) : List StepRef :=
  ((List.range steps.length).zip steps).filterMap (fun e =>
    if e.1 < k then none
    else some ⟨origin + toW (cycle * span + e.2.2), cycle, e.1, e.2.1, base + (cycle * span + e.2.2 : Nat)⟩)

/-- The first of a list of steps takes the boundary of a JOIN (R235). -/
def joinFirst (c : Chip) (j : Option W) : List StepRef → List StepRef
  | [] => []
  | r :: t => match j with
    | some b => { r with b := b, dist := ahead c b } :: t
    | none => r :: t

/-- The steps of a programme still to be tested, of `cycles` cycles of a cyclic one, before boundary `lim`. -/
def stepsToCome (c : Chip) (r : PrgRun) (lim : Option W) (cycles : Nat) : List StepRef :=
  match r.origin with
  | none => []
  | some o =>
    let span := slotSpan c r.slot
    let steps := (slotSteps c r.slot).zip (startOffsets c r.slot)
    let all := (List.range (if slotCyclic c r.slot then cycles else 1)).flatMap (fun i =>
      cycleRefs o (originAhead c r o) span (r.cycle + i) (if i = 0 then r.step else 0) steps)
    (joinFirst c r.joinAt all).filter (fun x => match lim with | some l => decide (x.dist < ahead c l) | none => true)

/-- Those of them whose boundary lies at most `n` periods ahead. -/
def upcoming (c : Chip) (r : PrgRun) (lim : Option W) (n : Nat) : List StepRef :=
  (stepsToCome c r lim (n / max 1 (slotSpan c r.slot) + 2)).filter (fun x => decide (x.dist ≤ n))

/-- The tested steps of a programme whose own boundary lies ahead, before boundary `lim` (R225, R236). -/
def passedSteps (c : Chip) (r : PrgRun) (lim : Option W) : List StepRef :=
  (r.passed.map (fun e =>
    (⟨e.1, e.2.1, e.2.2, (slotSteps c r.slot).getD e.2.2 ⟨0xFFFF, 0, 0, false, 0, 0⟩, ahead c e.1⟩ : StepRef))).filter
    (fun x => decide (0 < x.dist) && (match lim with | some l => decide (x.dist < ahead c l) | none => true))

/-- The boundary from which the active programme's own steps no longer count: its stop, or the staged swap (R236,
R237). -/
def runLimit (c : Chip) (r : PrgRun) : Option W :=
  match r.stop with
  | some x => some x
  | none => match c.prg.staged with
    | some (s, _) => s.origin
    | none => none

/-- The steps to come of the active or armed programme, then of the staged one, each with its slot. -/
def dueSteps (c : Chip) (n : Nat) : List (Nat × StepRef) :=
  (match c.prg.run with
    | some r => (upcoming c r (runLimit c r) n).map (fun x => (r.slot, x))
    | none => [])
  ++ (match c.prg.staged with
    | some (r, _) => (upcoming c r none n).map (fun x => (r.slot, x))
    | none => [])

/-- The steps of one programme whose boundary lies 1 to `n` periods ahead, tested or not, with its slot. -/
def runSteps (c : Chip) (r : PrgRun) (lim : Option W) (n : Nat) : List (Nat × StepRef) :=
  ((passedSteps c r lim ++ upcoming c r lim n).filter (fun x => decide (0 < x.dist) && decide (x.dist ≤ (n : Int)))).map
    (fun x => (r.slot, x))

/-- Every step of the active, armed and staged programmes whose boundary lies at most `n` periods ahead, tested or not, each
with its slot (R225). -/
def allSteps (c : Chip) (n : Nat) : List (Nat × StepRef) :=
  (match c.prg.run with | some r => runSteps c r (runLimit c r) n | none => [])
    ++ (match c.prg.staged with | some (r, _) => runSteps c r none n | none => [])

/-- The boundaries ahead at which one programme has a step, the nearest first. -/
def nextSteps (c : Chip) (r : PrgRun) (lim : Option W) : List W :=
  ((passedSteps c r lim ++ stepsToCome c r lim 2).filter (fun x => decide (0 < x.dist))).map (fun x => x.b)

/-- The boundary of the next step (R251): a step tested or to come of the active programme, or the staged one's first. -/
def nextStepB (c : Chip) : W :=
  ((match c.prg.run with | some r => nextSteps c r (runLimit c r) | none => [])
    ++ (match c.prg.staged with | some (r, _) => nextSteps c r none | none => [])).headD 0

/-! ### CHECK (R232) -/

/-- The place of the first element that fails. -/
def firstBad {α : Type} (l : List α) (bad : α → Bool) : Option Nat := l.findIdx? bad

/-- The first failing check of R232 and its first failing step; code 0 if none fails. -/
def prgCheck (c : Chip) (s : Nat) : Nat × Nat :=
  let n := fld c (PRG_S_HDR_step_count s)
  let steps := slotSteps c s
  let d := dwells c s
  let at_ := fldB c (PRG_S_HDR_at s)
  let words := slotWords c s
  let crc := crc32c (wordsToBytes (mapReadRun (fun _ => 0) words 0 (2 * n)))
  if n = 0 || 4096 < n then (1, 0)
  else if crc != rn c (PRG_S_CRC s) then (2, 0)
  else match firstBad d (fun x => decide (x < 24)) with
  | some k => (3, k)
  | none => match firstBad (steps.zip d) (fun e => decide (e.2 ≤ (stepGuard c s e.1 : Int))) with
  | some k => (4, k)
  | none =>
    if at_ && (startOffsets c s).head? != some 0 then (5, 0)
    else if (!at_ && (steps.map (fun p => p.time)).sum != slotSpan c s) || 2 ^ 31 - 1 < slotSpan c s then (6, 0)
    else match firstBad steps (fun p => decide (stepOpcode c s p < 0x10)) with
    | some k => (7, k)
    | none => match firstBad steps (fun p => p.rsvd != 0) with
    | some k => (8, k)
    | none => (0, 0)

/-- PRG_Sn_STAT takes the code and the first failing step of a CHECK (R251). -/
def showCheck (c : Chip) (s : Nat) (r : Nat × Nat) : Chip :=
  wr c (PRG_S_STAT s) (putField (putField (rd c (PRG_S_STAT s)) 28 4 r.1) 0 12 r.2)

/-- run of PRG_Sn_STAT, and its advance modulo 256 (R251). -/
def runCount (c : Chip) (s : Nat) : Nat := wbits (rd c (PRG_S_STAT s)) 16 8
def advanceRun (c : Chip) (s : Nat) : Chip :=
  wr c (PRG_S_STAT s) (putField (rd c (PRG_S_STAT s)) 16 8 (runCount c s + 1))

/-- CHECK at its E: the slot becomes READY or REFUSED (R232). -/
def checkSlot (c : Chip) (s : Nat) : Chip :=
  let r := prgCheck c s
  setSlot (showCheck c s r) s (if r.1 = 0 then 2 else 7)

/-! ### Guards and announcements (R242–R245) -/

/-- An arrangement laid over the states of the logical cells: the new states, the cells not KEEP, the changed cells
(R125, R243). -/
def overlay (t : Topo) (ws : List W) (sh : List (Nat × Nat)) : List (Nat × Nat) × List Nat × List Nat :=
  let m := bankOfTargets ws
  let lit := t.cells.filterMap (fun e =>
    match mapGet m e.1 with
    | some x => if x % 4 < 2 then some (e.2.logical, physState e.2.mirror (x % 4)) else none
    | none => none)
  let chg := lit.filter (fun e => mapRead (fun _ => 2) sh e.1 != e.2)
  (chg.foldl (fun m e => mapPut m e.1 e.2) sh, lit.map (fun e => e.1), chg.map (fun e => e.1))

/-- The path of an input port over the states of the logical cells; none where a cell on it holds no state (R243). -/
def shadowPath (t : Topo) (sh : List (Nat × Nat)) (p : Nat) : Option (List Nat × Nat) :=
  let r := t.trace (fun l => mapRead (fun _ => 2) sh l) p
  if r.1.all (fun l => decide (mapRead (fun _ => 2) sh l < 2)) then some r else none

/-- The input ports affected by a step, and the output ports (R243). -/
def affectedPorts (t : Topo) (sh : List (Nat × Nat)) (lit0 : List Nat) (ws : List W) : List Nat × List Nat :=
  let o := overlay t ws sh
  let rows := (List.range t.ports).filterMap (fun p =>
    let before := shadowPath t sh p
    let after := shadowPath t o.1 p
    let carries := (match before with | some r => r.1.all lit0.contains | none => false)
      || (match after with | some r => r.1.all o.2.1.contains | none => false)
    let paths := before.toList ++ after.toList
    if carries && paths.any (fun r => r.1.any o.2.2.contains) then some (p, paths.map (fun r => r.2)) else none)
  (rows.map (fun r => r.1), (rows.flatMap (fun r => r.2)).dedup)

/-- The content of the RESIDENT entry that holds an ID. -/
def residentContent (c : Chip) (id : BitVec 16) : Option (List Byte) :=
  match residentEntry c id with
  | some e => some (entryOf c e).content
  | none => none

/-- The shadow takes an executed arrangement (R243). -/
def shadowTake (c : Chip) (id : BitVec 16) (content : List Byte) : Chip :=
  match c.topo with
  | none => c
  | some t =>
    let o := overlay t (arrTargets content) c.prg.shadow
    { c with prg := { c.prg with shadow := o.1, lit := o.2.1, shadowId := id } }

/-- The shadow as it stands before boundary `b`: with the resident arrangements of the steps that come before it. -/
def shadowBefore (c : Chip) (b : W) : Chip :=
  ((dueSteps c 65535).filter (fun e => decide (e.2.dist < ahead c b))).foldl (fun c e =>
    match residentContent c e.2.p.id with
    | some l => shadowTake c e.2.p.id l
    | none => c) c

/-- The shadow starts from the states the cells hold and the targets in force (R243). -/
def seedShadow (c : Chip) : Chip :=
  match c.topo with
  | none => c
  | some t =>
    let held := t.cells.map (fun e => (e.2.logical, physState e.2.mirror (getCell c e.1).held))
    { c with prg := { c.prg with
        shadow := held.foldl (fun m e => mapWrite (fun _ => 2) m e.1 e.2) [],
        lit := t.cells.filterMap (fun e => if forceOf c e.1 % 4 < 2 then some e.2.logical else none),
        shadowId := c.lpe.forceId } }

/-- Network time of boundary `b` on the present grid. -/
def timeOfBoundary (c : Chip) (b : W) : BitVec 64 := c.tmr.bndNs + BitVec.ofInt 64 (250 * pdiff b (period c))

/-- A map of ports as the 64 bytes of R245. -/
def portMap (l : List Nat) : List Byte := beBytes 64 (bitMask l)

/-- The announcement payload of R245. -/
def annPayload (c : Chip) (typ flags arr prev slot step guard cycle : Nat) (b : W) (ins outs : List Nat) : List Byte :=
  beBytes 1 typ ++ beBytes 1 flags ++ beBytes 2 arr ++ beBytes 2 prev ++ beBytes 1 slot ++ beBytes 1 (runCount c slot)
    ++ beBytes 2 step ++ beBytes 2 guard ++ beBytes 4 cycle ++ beBytes 4 b.toNat
    ++ ptpBytes (timeOfBoundary c b) ++ ptpBytes (timeOfBoundary c (b + toW guard))
    ++ beBytes 2 ins.length ++ beBytes 2 0 ++ portMap ins ++ portMap outs

/-- An announcement is sent where ann_en is 1 (R244): of type `typ` for boundary `b`, with the arrangement that takes
effect there and, where given, its content for the port maps. -/
def sendAnn (c : Chip) (typ flags arr slot step guard cycle : Nat) (b : W) (content : Option (List Byte)) : Chip :=
  if wbit (rd c PRG_CTL) 16 then
    let cyc := slotCyclic c slot
    let base := shadowBefore c b
    let ports := match content, c.topo with
      | some l, some t => affectedPorts t base.prg.shadow base.prg.lit (arrTargets l)
      | _, _ => ([], [])
    announce c (annPayload c typ (flags + (if cyc then 8 else 0)) arr base.prg.shadowId.toNat slot step guard
      (if cyc then cycle else 0) b ports.1 ports.2)
  else c

/-- ann_lead as R244 takes it: 8–4,000, at most the pager lead. -/
def annLead (c : Chip) : Nat := min (clampN 8 4000 (wbits (rd c PRG_CTL) 0 16)) (pagerLead c)

/-- The announcement of a step became late: it is sent after B − ann_lead (R244). -/
def annLate (c : Chip) (b : W) : Nat := b2n (decide (pdiff b (period c) < annLead c))

/-- Note that a step's announcement is sent, in the programme of slot `s`. -/
def noteSent (c : Chip) (s : Nat) (cyc idx : Nat) : Chip :=
  let mark : PrgRun → PrgRun := fun r => if r.slot = s then { r with sent := r.sent ++ [(cyc, idx)] } else r
  { c with prg := { c.prg with run := c.prg.run.map mark, staged := c.prg.staged.map (fun e => (mark e.1, e.2)) } }

/-- A step's announcement has been sent. -/
def isSent (c : Chip) (s : Nat) (x : StepRef) : Bool :=
  let has : PrgRun → Bool := fun r => r.slot == s && r.sent.contains (x.cycle, x.index)
  (match c.prg.run with | some r => has r | none => false)
    || (match c.prg.staged with | some (r, _) => has r | none => false)

/-- Announce one step if it is resident, not yet announced, and neither a hold step nor quiet (R230, R233, R244). -/
def announceStep (c : Chip) (e : Nat × StepRef) : Chip :=
  let x := e.2
  if x.p.quiet || x.p.id = 0xFFFF || isSent c e.1 x then c
  else match residentContent c x.p.id with
    | none => c
    | some l => sendAnn (noteSent c e.1 x.cycle x.index) 1 (annLate c x.b) x.p.id.toNat e.1 x.index
        (stepGuard c e.1 x.p) x.cycle x.b (some l)

/-- The announcements that are due: steps whose B − ann_lead has come (R244). -/
def announceDue (c : Chip) : Chip :=
  if wbit (rd c PRG_CTL) 16 then (dueSteps c (annLead c)).foldl announceStep c else c

/-! ### Starting, joining, staging, stopping (R234–R237) -/

/-- The number of the first boundary at or after network time `t` (R62). -/
def boundaryAt (c : Chip) (t : BitVec 64) : W :=
  period c + BitVec.ofInt 32 (-((-(tdiff t c.tmr.bndNs)) / 250))

/-- The position after a step: the next index, the next cycle of a cyclic programme, or past the last step. -/
def nextPos (c : Chip) (s cyc k : Nat) : Nat × Nat :=
  if k + 1 < slotCount c s then (cyc, k + 1) else if slotCyclic c s then (cyc + 1, 0) else (cyc, slotCount c s)

/-- A one-shot programme is over: its slot becomes DONE, the arrangement stays (R231, R235). -/
def finishRun (c : Chip) (r : PrgRun) : Chip := setRun (setSlot c r.slot 6) none

/-- JOIN at boundary `j` (R235): the position and the boundary of its first step; none where a one-shot is over. -/
def joinRun (c : Chip) (r : PrgRun) (j : W) (catchUp : Bool) : Option PrgRun :=
  match r.origin with
  | none => some r
  | some o =>
    let span := slotSpan c r.slot
    let e0 := pdiff j o
    let cyclic := slotCyclic c r.slot
    if !cyclic && decide ((span : Int) ≤ e0) then none
    else
      let turns := if cyclic then e0 / (span : Int) else 0
      let e := (e0 - turns * span).toNat
      -- A cycle before the origin counts as cycle 0 of an origin moved there.
      let o' := if turns < 0 then o + BitVec.ofInt 32 (turns * span) else o
      let cyc := turns.toNat
      let k := ((startOffsets c r.slot).filter (fun x => decide (x ≤ e))).length - 1
      if 24 ≤ offsetOf c r.slot (k + 1) - e then
        some { r with origin := some o', cycle := cyc, step := k, joinAt := some j, catchUp := catchUp }
      else
        let n := nextPos c r.slot cyc k
        some { r with origin := some o', cycle := n.1, step := n.2, joinAt := none, catchUp := false }

/-- A programme whose origin is known at boundary `e` is on time, or is handled by its START_LATE policy (R235). -/
def judgeStart (c : Chip) (r : PrgRun) (e : W) : Chip :=
  let lead := toW (pagerLead c)
  match r.origin with
  | none => setRun c (some r)
  | some o =>
    if 0 ≤ pdiff o (e + lead) then setRun c (some r)
    else
      let c := raise (setB c PRG_STAT_late_start true) srcPRG_LATE_START 0
      let pol := wbits (rd c PRG_START_LATE) (2 * r.slot) 2
      if pol = 0 then prgRefuse (setRun (setSlot c r.slot 2) none) 7
      else if pol = 2 then
        setRun c (some { r with origin := some (e + 1 + lead), cycle := 0, step := 0, joinAt := none, catchUp := false })
      else match joinRun c r (e + lead) false with
        | some r => setRun c (some r)
        | none => finishRun c r

/-- The origin of a START: with start_now E + 1 + lead; otherwise from T0, once time is valid (R234). -/
def startOrigin (c : Chip) (s : Nat) (e : W) : Option W :=
  if fldB c (PRG_S_HDR_start_now s) then some (e + 1 + toW (pagerLead c))
  else if fldB c TMR_STAT_time_valid then some (boundaryAt c (rd64 c (PRG_S_T0_LO s) (PRG_S_T0_HI s)))
  else none

/-- The START announcement of a programme, of its step 0 (R244). -/
def announceStart (c : Chip) (r : PrgRun) : Chip :=
  let p := (slotSteps c r.slot).headD ⟨0xFFFF, 0, 0, false, 0, 0⟩
  sendAnn c 3 0 p.id.toNat r.slot 0 (stepGuard c r.slot p) 0 (r.origin.getD (period c)) none

/-- A slot begins anew: residency outcomes of an earlier run of it no longer count (R240). -/
def forgetResidency (c : Chip) (s : Nat) : Chip :=
  { c with prg := { c.prg with
      resid := c.prg.resid.filter (fun o => o.1 != s), residTold := c.prg.residTold.filter (fun o => o.1 != s) } }

/-- START at its E (R234, R235). -/
def startSlot (c : Chip) (s : Nat) : Chip :=
  if slotState c s != 2 && slotState c s != 6 then prgRefuse c 2
  else if c.prg.run.isSome then prgRefuse c 4
  else
    let c := seedShadow (forgetResidency (setSlot c s 3) s)
    let c := judgeStart c (PrgRun.fresh s (startOrigin c s (period c))) (period c)
    let c := if slotState c s = 2 then c else advanceRun c s
    match c.prg.run with
    | some r => announceStart c r
    | none => c

/-- The first cycle boundary of a programme at least `n` periods after the present one: where a cycle of a cyclic programme
begins, or where a one-shot ends (R236, R237). -/
def cycleBoundary (c : Chip) (r : PrgRun) (o : W) (n : Nat) : Option W :=
  let span := slotSpan c r.slot
  if slotCyclic c r.slot then
    ((List.range (n / max 1 span + 3)).find? (fun i =>
      decide ((n : Int) ≤ originAhead c r o + ((r.cycle + i) * span : Nat)))).map (fun i => o + toW ((r.cycle + i) * span))
  else some (o + toW span)

/-- The first step boundary of a programme, or its first cycle boundary, at least `n` periods after the present one. The end
of a one-shot serves where no step boundary is left (R236, R237). -/
def boundaryFrom (c : Chip) (r : PrgRun) (cycleOnly : Bool) (n : Nat) : Option W :=
  match r.origin with
  | none => none
  | some o =>
    if cycleOnly then cycleBoundary c r o n
    else
      let refs := passedSteps c r none ++ stepsToCome c r none (n / max 1 (slotSpan c r.slot) + 3)
      match refs.find? (fun x => decide ((n : Int) ≤ x.dist)) with
      | some x => some x.b
      | none => some (o + toW (slotSpan c r.slot))

/-- The swap boundary of a staged programme is fixed (R236). -/
def fixStaged (c : Chip) : Chip :=
  match c.prg.run, c.prg.staged with
  | some r, some (s, cyc) =>
    setStaged c (some (PrgRun.fresh s.slot (boundaryFrom c r cyc (pagerLead c)), cyc))
  | _, _ => c

/-- STAGE at its E (R236). -/
def stageSlot (c : Chip) (s : Nat) (cyc : Bool) : Chip :=
  if slotState c s != 2 then prgRefuse c 2
  else if c.prg.run.isNone || c.prg.staged.isSome then prgRefuse c 5
  else fixStaged (setStaged (forgetResidency (setSlot c s 5) s) (some (PrgRun.fresh s none, cyc)))

/-- The active or armed programme is stopped: its slot becomes READY (R237). -/
def endStopped (c : Chip) (r : PrgRun) : Chip := setRun (setSlot c r.slot 2) none

/-- STOP at its E (R237, R244). -/
def stopRun (c : Chip) (cyc : Bool) : Chip :=
  match c.prg.run, c.prg.staged with
  | some r, none =>
    match boundaryFrom c r cyc 9 with
    | some x =>
      setRun (sendAnn c 4 0 0xFFFF r.slot r.step 0 r.cycle x none) (some { r with stop := some x })
    | none => endStopped (sendAnn c 4 0 0xFFFF r.slot 0 0 0 (period c) none) r
  | _, _ => prgRefuse c 6

/-- CLEAR at its E: a READY, DONE or REFUSED slot becomes EMPTY; the STAGED slot becomes READY (R229, R237). -/
def clearSlot (c : Chip) (s : Nat) : Chip :=
  let st := slotState c s
  if st = 5 then setStaged (setSlot c s 2) none
  else if st = 2 || st = 6 || st = 7 then setSlot c s 0
  else prgRefuse c 2

/-- LOAD at its E: an EMPTY or REFUSED slot becomes LOADING (R229). -/
def loadSlot (c : Chip) (s : Nat) : Chip :=
  if slotState c s = 0 || slotState c s = 7 then setSlot c s 1 else prgRefuse c 2

/-- A programme command takes effect at its E (R252). -/
def prgEffect (c : Chip) (w : W) : Chip :=
  let c := setB c PRG_STAT_busy false
  let s := wbits w 24 2
  let k := wbits w 28 4
  if k = 1 then loadSlot c s
  else if k = 2 then (if slotState c s = 1 then checkSlot c s else prgRefuse c 2)
  else if k = 3 then startSlot c s
  else if k = 4 then stageSlot c s (wbit w 16)
  else if k = 5 then stopRun c (wbit w 16)
  else clearSlot c s

/-- A write of PRG_CMD (R252): an unlisted code and a command that meets another are refused at the write; the rest is
judged at E. -/
def prgWrite (c : Chip) (w : W) : Chip :=
  hostChangeIf c PRG_CMD w
    (fun c =>
      let k := wbits w 28 4
      if k = 0 || 6 < k then some (prgRefuse c 1) else if fldB c PRG_STAT_busy then some (prgRefuse c 3) else none)
    (fun c e => if c.twn.applying then prgEffect c w else defer (setB c PRG_STAT_busy true) e PRG_CMD w)

/-! ### Boundaries of a programme (R229, R231, R234–R237) -/

/-- An armed programme comes to its origin (R229). One without an origin receives it when time becomes valid (R234), and
is judged there and then, also at the boundary of a time step. Between a time step and its rejoin an origin that moved has
not been judged, and no boundary of a programme is acted on (R241). -/
def programmeOrigin (c : Chip) : Chip :=
  match c.prg.run with
  | none => c
  | some r =>
    if slotState c r.slot != 3 then c
    else match r.origin with
    | some o => if due c o && c.prg.rejoin.isNone then setSlot c r.slot 4 else c
    | none =>
      if fldB c TMR_STAT_time_valid then
        let c := { c with prg := { c.prg with rejoin := none } }
        let c := judgeStart c { r with origin := startOrigin c r.slot (period c) } (period c)
        if c.prg.staged.isSome then fixStaged c else c
      else c

/-- PRG_POS shows the step whose boundary has come (R251). -/
def showPosition (c : Chip) : Chip :=
  match c.prg.run with
  | none => c
  | some r =>
    let come := r.coming.filter (fun e => due c e.1)
    let c := { c with prg := { c.prg with run := some { r with coming := r.coming.filter (fun e => !due c e.1) } } }
    match come.getLast? with
    | some e => wr c PRG_POS (toW (e.2.2 % 4096 * 2 ^ 20 + e.2.1 % 2 ^ 20))
    | none => c

/-- The staged programme takes over at its swap boundary, its step 0 in force from there (R236, R251). -/
def stageSwap (c : Chip) : Chip :=
  match c.prg.staged with
  | some (s, _) =>
    match s.origin with
    | some x =>
      if due c x && c.prg.rejoin.isNone then
        let c := match c.prg.run with | some r => setSlot c r.slot 2 | none => c
        let c := advanceRun (setSlot c s.slot 4) s.slot
        showPosition (announceStart (setRun (setStaged c none) (some s)) s)
      else c
    | none => c
  | none => c

/-- The boundary of a STOP (R237). -/
def programmeStop (c : Chip) : Chip :=
  match c.prg.run with
  | some r => match r.stop with
    | some x => if due c x then endStopped c r else c
    | none => c
  | none => c

/-- A one-shot programme reaches origin + span (R231); a staged swap at that boundary takes its place (R236). -/
def programmeEnd (c : Chip) : Chip :=
  match c.prg.run with
  | some r => match r.origin with
    | some o =>
      if !slotCyclic c r.slot && due c (o + toW (slotSpan c r.slot)) && slotState c r.slot = 4 && c.prg.staged.isNone
          && c.prg.rejoin.isNone then
        finishRun c r
      else c
    | none => c
  | none => c

/-! ### The residency test and the misses (R238–R240) -/

/-- A new command for a queue of the Docent, with the next serial number. -/
def newDocCmd (c : Chip) (w0 w1 w2 w3 : W) (source : Nat) : DocCmd × Chip :=
  (⟨w0, w1, w2, w3, source, c.doc.serial⟩, { c with doc := { c.doc with serial := c.doc.serial + 1 } })

/-- Give back the programme of a slot: the active or armed one, or the staged one. -/
def putRun (c : Chip) (staged : Bool) (r : PrgRun) : Chip :=
  if staged then { c with prg := { c.prg with staged := c.prg.staged.map (fun e => (r, e.2)) } }
  else { c with prg := { c.prg with run := some r } }

/-- The position moves past a step, which counts as executed from D (R238). -/
def passStep (c : Chip) (r : PrgRun) (x : StepRef) : PrgRun :=
  let n := nextPos c r.slot x.cycle x.index
  { r with cycle := n.1, step := n.2, joinAt := none, catchUp := false, last := some (x.cycle, x.index),
           high := some (max x.index (r.high.getD 0)), sent := r.sent.erase (x.cycle, x.index),
           passed := r.passed.filter (fun e => decide (0 < ahead c e.1)) ++ [(x.b, (x.cycle, x.index))] }

/-- A tested step's residency outcome is spent (R240). -/
def spendResidency (c : Chip) (s : Nat) (x : StepRef) : Chip :=
  { c with prg := { c.prg with
      resid := c.prg.resid.filter (fun o => !(o.1 == s && o.2.1 == x.index && o.2.2.1 == x.cycle)),
      residTold := c.prg.residTold.filter (fun o => o != (s, x.index, x.cycle)) } }

/-- A step that has not missed will be in force from boundary `b` (R238, R251). -/
def comesAt (r : PrgRun) (x : StepRef) (b : W) : PrgRun := { r with coming := r.coming ++ [(b, (x.cycle, x.index))] }

/-- The residency of a step: the journalled outcome in a pair, the cache otherwise (R238, R240). -/
def stepResident (c : Chip) (s : Nat) (x : StepRef) : Bool :=
  match c.prg.resid.find? (fun o => o.1 == s && o.2.1 == x.index && o.2.2.1 == x.cycle) with
  | some o => o.2.2.2
  | none => (residentEntry c x.p.id).isSome

/-- The command of a step enters the Docent's queue with its entry pinned (R223, R238); a full queue is a step
fault. The shadow takes the arrangement (R243). -/
def queueStep (c : Chip) (s : Nat) (x : StepRef) (b : W) : Chip :=
  let tag := s * 2 ^ 14 + x.index
  let c := match residentContent c x.p.id with | some l => shadowTake c x.p.id l | none => c
  if c.doc.prgQ.length < 4 then
    let (cmd, c) := newDocCmd c (toW (stepOpcode c s x.p * 2 ^ 24 + tag)) (toW x.p.id.toNat) b 0 1
    let c := match residentEntry c x.p.id with
      | some e => { c with prg := { c.prg with pins := c.prg.pins ++ [(tag, e)] } }
      | none => c
    { c with doc := { c.doc with prgQ := c.doc.prgQ ++ [cmd] } }
  else raise (setB c PRG_STAT_step_fault true) srcPRG_STEP_FAULT 0

/-- A step has missed (R239). -/
def countMiss (c : Chip) : Chip := countUp (raise (setB c PRG_STAT_miss true) srcPRG_MISS 0) PRG_MISS_CNT 1

/-- The SKIP policy (R239): further steps are tested at the same D, at most `n` of them; the first resident one is
taken at boundary `b`. The programme, and the step taken. -/
def skipSteps (c : Chip) (r : PrgRun) (lim : Option W) (b : W) : Nat → Chip × PrgRun × Option StepRef
  | 0 => (c, r, none)
  | n + 1 =>
    match (stepsToCome c r lim 2).head? with
    | none => (c, r, none)
    | some x =>
      let here := stepResident c r.slot x
      let r := passStep c r x
      let c := spendResidency c r.slot x
      if x.p.id = 0xFFFF then (c, comesAt r x b, none)
      else if here then (c, comesAt r x b, some x)
      else skipSteps (countMiss c) r lim b n

/-- One step at its residency test (R238, R239). -/
def testStep (c : Chip) (staged : Bool) (r : PrgRun) (lim : Option W) (x : StepRef) : Chip :=
  let b := x.b
  let sent := r.sent.contains (x.cycle, x.index)
  let r' := passStep c r x
  let here := stepResident c r.slot x
  let c := spendResidency c r.slot x
  if x.p.id = 0xFFFF then putRun c staged (comesAt r' x b)
  else if here then
    let flags := if r.catchUp then 2 else annLate c b
    let c' := putRun c staged (comesAt r' x b)
    let c' := if (sent && !r.catchUp) || x.p.quiet then c'
      else sendAnn c' 1 flags x.p.id.toNat r.slot x.index (stepGuard c r.slot x.p) x.cycle b (residentContent c x.p.id)
    queueStep c' r.slot x b
  else
    let c := countMiss c
    if wbit (rd c PRG_MISS) r.slot then
      let (c, r', y) := skipSteps c r' lim b 3
      let c := putRun c staged r'
      match y with
      | some y =>
        let c := if x.p.quiet then c
          else sendAnn c 2 4 y.p.id.toNat r.slot x.index (stepGuard c r.slot y.p) x.cycle b (residentContent c y.p.id)
        queueStep c r.slot y b
      | none => if x.p.quiet then c else sendAnn c 2 4 0xFFFF r.slot x.index (stepGuard c r.slot x.p) x.cycle b none
    else
      let c := putRun c staged r'
      if x.p.quiet then c else sendAnn c 2 0 0xFFFF r.slot x.index (stepGuard c r.slot x.p) x.cycle b none

/-- The steps of one programme whose D has come, in order, at most `n`. -/
def testRun (staged : Bool) : Nat → Chip → Chip
  | 0, c => c
  | n + 1, c =>
    let r? := if staged then c.prg.staged.map (fun e => e.1) else c.prg.run
    match r? with
    | none => c
    | some r =>
      let lim := if staged then none else runLimit c r
      match (upcoming c r lim 8).head? with
      | none => c
      | some x => testRun staged n (testStep c staged r lim x)

/-- The residency tests of the present boundary (R238); nothing is queued at the boundary of a time step (R241). -/
def residencyTest (c : Chip) : Chip :=
  if c.prg.rejoin = some (period c) then c else testRun true 4 (testRun false 4 c)

/-- One step's residency is tested and its outcome journalled for D = `d` (R240). The second part: it is resident. -/
def tellResidency (c : Chip) (s : Nat) (x : StepRef) (d : W) : Chip × Bool :=
  let ok := (residentEntry c x.p.id).isSome
  let c := { c with prg := { c.prg with
    residTold := c.prg.residTold ++ [(s, x.index, x.cycle)], resid := c.prg.resid ++ [(s, x.index, x.cycle, ok)] } }
  (if holdsLoan c then withSource c 6 (fun c => journalAppend c d (.resid s x.index x.cycle ok)) else c, ok)

/-- The steps that SKIP may test at the same D, up to the first that is resident or a hold step (R239, R240). -/
def tellSkipped (c : Chip) (s : Nat) (d : W) : List StepRef → Chip
  | [] => c
  | x :: t =>
    if x.p.id = 0xFFFF || c.prg.residTold.contains (s, x.index, x.cycle) then c
    else
      let e := tellResidency c s x d
      if e.2 then e.1 else tellSkipped e.1 s d t

/-- The steps of the programme in slot `s` that follow step `x`, at most `n`. -/
def stepsAfter (c : Chip) (s : Nat) (x : StepRef) (n : Nat) : List StepRef :=
  let of_ : PrgRun → Option W → List StepRef := fun r lim =>
    ((stepsToCome c r lim 3).filter (fun y => decide (x.dist < y.dist))).take n
  match c.prg.run, c.prg.staged with
  | some r, g => if r.slot = s then of_ r (runLimit c r) else match g with | some (g, _) => of_ g none | none => []
  | none, some (g, _) => of_ g none
  | none, none => []

/-- This device tests the residency of steps at B − 24: the keeper of a pair, and a copyist from the loss of the twin link
onward (R240, R352). -/
def testsAhead (c : Chip) : Bool :=
  (c.twn.paired && holdsLoan c) || (twinRole c == 2 && (twinState c == 4 || c.twn.alone))

/-- The keeper of a pair tests each step at B − 24 and journals the outcome with effective period D (R240); where the slot
skips a missed step, those of the steps tested in its place as well (R239). A copyist that has lost the twin link tests for
itself (R352). -/
def keeperResidency (c : Chip) : Chip :=
  if !testsAhead c then c
  else (dueSteps c 24).foldl (fun c e =>
    let x := e.2
    if c.prg.residTold.contains (e.1, x.index, x.cycle) || x.p.id = 0xFFFF then c
    else
      let y := tellResidency c e.1 x (x.b - 8)
      if y.2 || !wbit (rd c PRG_MISS) e.1 then y.1 else tellSkipped y.1 e.1 (x.b - 8) (stepsAfter c e.1 x 3)) c

/-- The Docent's completion of a step (R238): the pin ends, HELD is counted, FAULT and REFUSED are step faults. -/
def stepCompletion (c : Chip) : Chip :=
  match c.prg.done with
  | [] => c
  | (tag, st) :: rest =>
    let c := { c with prg := { c.prg with
      done := rest, pins := c.prg.pins.eraseP (fun p => p.1 == tag) } }
    if st = 3 then countUp c PRG_HELD_CNT 1
    else if st = 5 || st = 6 then raise (setB c PRG_STAT_step_fault true) srcPRG_STEP_FAULT 0
    else c

/-! ### Time steps (R241) -/

/-- A time step of `k` periods at the present boundary: every origin moves by −k, and the engine rejoins at the next
boundary (R241). -/
def programmeTimeStep (c : Chip) (k : Int) : Chip :=
  let c := raise (setB c PRG_STAT_time_step true) srcPRG_TIME_STEP 0
  let move : PrgRun → PrgRun := fun r => { r with
    origin := r.origin.map (fun o => o - BitVec.ofInt 32 k), passed := r.passed.map (fun e => (e.1 - BitVec.ofInt 32 k, e.2)) }
  { c with prg := { c.prg with
      run := c.prg.run.map move, staged := c.prg.staged.map (fun e => (move e.1, e.2)), rejoin := some (period c) } }

/-- The PRG_STEP record of R451. -/
def ledgerPrgStep (c : Chip) (x : W) (slot old new cyc : Nat) : Chip :=
  ledgerPut c 4 0 false false 0xFFFF
    (beBytes 8 (timeOfBoundary c x).toNat ++ beBytes 4 x.toNat ++ beBytes 1 slot ++ beBytes 1 0 ++ beBytes 2 old
      ++ beBytes 2 new ++ beBytes 2 0 ++ beBytes 4 cyc)

/-- The position of a programme at boundary `j`: its cycle and step, the cycles before the origin being negative; none for a
one-shot before its origin or past its end. -/
def positionAt (c : Chip) (r : PrgRun) (j : W) : Option (Int × Nat) :=
  match joinRun c r j false, r.origin with
  | some _, some o =>
    let span : Int := slotSpan c r.slot
    let e0 := pdiff j o
    let turns := if slotCyclic c r.slot then e0 / span else 0
    let e := e0 - turns * span
    if e < 0 then none
    else some (turns, ((startOffsets c r.slot).filter (fun (x : Nat) => decide ((x : Int) ≤ e))).length - 1)
  | _, _ => none

/-- At X + 1 the active programme rejoins its schedule under the new origin (R241, items 3–7). -/
def rejoinRun (c : Chip) (x : W) (r : PrgRun) : Chip :=
  let j := x + 9
  let old := r.last.getD (0, 0)
  let log := fun c (pos : Nat × Nat) => ledgerPrgStep c x r.slot old.2 pos.2 pos.1
  let same := fun (pos : Int × Nat) => match r.last with | some l => decide (pos = ((l.1 : Int), l.2)) | none => false
  let afterHigh : PrgRun := { r with cycle := 0, step := (r.high.map (· + 1)).getD 0, joinAt := none, catchUp := false }
  match positionAt c r j with
  | some pos =>
    let c := log c (pos.1.toNat, pos.2)
    if same pos then c
    else if !slotCyclic c r.slot && (match r.high with | some h => decide (pos.2 ≤ h) | none => false) then
      setRun c (some afterHigh)
    else match joinRun c r j true with
      | some r => setRun c (some r)
      | none => finishRun c r
  | none =>
    if joinRun c r j false = none then finishRun (log c old) r else setRun (log c old) (some afterHigh)

/-- The boundary after a time step (R241, items 3–9). The record of an armed programme holds the step it will begin with, that
of a device without a programme zeros (log entry 104). -/
def timeStepRejoin (c : Chip) : Chip :=
  match c.prg.rejoin with
  | none => c
  | some x =>
    if period c = x || !due c x then c
    else
      let c := { c with prg := { c.prg with rejoin := none } }
      let c := match c.prg.run with
        | none => ledgerPrgStep c x 0 0 0 0
        | some r =>
          if slotState c r.slot = 3 then
            let c := judgeStart c r (period c)
            let now := match c.prg.run with | some r => (r.cycle, r.step) | none => (0, 0)
            ledgerPrgStep c x r.slot 0 now.2 now.1
          else rejoinRun c x r
      fixStaged c

/-! ### Slot and step memory writes (R229, R230, R251) -/

/-- The offset in the PRG block is a slot register or a word of step memory; its slot. -/
def slotOffset (off : Nat) : Option Nat :=
  if 0x10000 ≤ off && off < 0x30000 then some ((off - 0x10000) / 0x8000)
  else if 0x100 ≤ off && off < 0x200 && off % 0x40 < 0x18 then some ((off - 0x100) / 0x40)
  else none

/-- A slot register keeps its RW bits (R251, R254). -/
def slotRegValue (off : Nat) (v : W) : W :=
  if off % 0x40 = 0 then toW (v.toNat &&& 0xE0FF1FFF) else if off % 0x40 = 0x10 then toW (wbits v 0 24) else v

/-- A write of slot registers or step memory takes effect: in LOADING it is stored, otherwise ignored with PRG_REJECT
(R229). -/
def slotStore (c : Chip) (off : Nat) (v : W) : Chip :=
  match slotOffset off with
  | none => c
  | some s =>
    if slotState c s != 1 then raise c srcPRG_REJECT 0
    else if off < 0x10000 then wr c (0x400000 + off) (slotRegValue off v)
    else { c with prg := { c.prg with mem := mapWrite (fun _ => 0) c.prg.mem ((off - 0x10000) / 4) v } }

/-- A host write of slot registers or step memory (R229, R255). -/
def slotWrite (c : Chip) (off : Nat) (v : W) : Chip :=
  if (slotOffset off).isSome then hostChangeNow c (0x400000 + off) v (fun c => slotStore c off v) else c

/-- A word of step memory (R230). -/
def stepMemWord (c : Chip) (off : Nat) : W := mapRead (fun _ => 0) c.prg.mem ((off - 0x10000) / 4)

/-! ### The commands -/

/-- A PRG_CMD word with its code set to `k` (R252). -/
def withPrgCode (w : W) (k : Nat) : W := putField w 28 4 k

/-- LOAD (R229). -/
def execLoad (w : W) (s : State) : Host.Outcome State Fault Refusal := run s (prgWrite · (withPrgCode w 1))

/-- CHECK (R232). -/
def execCheck (w : W) (s : State) : Host.Outcome State Fault Refusal := run s (prgWrite · (withPrgCode w 2))

/-- START (R234). -/
def execStart (w : W) (s : State) : Host.Outcome State Fault Refusal := run s (prgWrite · (withPrgCode w 3))

/-- STAGE (R236). -/
def execStage (w : W) (s : State) : Host.Outcome State Fault Refusal := run s (prgWrite · (withPrgCode w 4))

/-- STOP (R237). -/
def execStop (w : W) (s : State) : Host.Outcome State Fault Refusal := run s (prgWrite · (withPrgCode w 5))

/-- CLEAR (R229). -/
def execClear (w : W) (s : State) : Host.Outcome State Fault Refusal := run s (prgWrite · (withPrgCode w 6))

/-- STEP_MEMORY_WRITE (R229, R230). -/
def execStepMemoryWrite (off : BitVec 18) (v : W) (s : State) : Host.Outcome State Fault Refusal :=
  run s (slotWrite · off.toNat v)

/-- PROGRAMME_ORIGIN (R229). -/
def execProgrammeOrigin (s : State) : Host.Outcome State Fault Refusal := run s programmeOrigin

/-- STAGE_SWAP (R236). -/
def execStageSwap (s : State) : Host.Outcome State Fault Refusal := run s stageSwap

/-- PROGRAMME_STOP (R237). -/
def execProgrammeStop (s : State) : Host.Outcome State Fault Refusal := run s programmeStop

/-- PROGRAMME_END (R231). -/
def execProgrammeEnd (s : State) : Host.Outcome State Fault Refusal := run s programmeEnd

/-- RESIDENCY_TEST (R238). -/
def execResidencyTest (s : State) : Host.Outcome State Fault Refusal := run s residencyTest

/-- KEEPER_RESIDENCY_TEST (R240). -/
def execKeeperResidencyTest (s : State) : Host.Outcome State Fault Refusal := run s keeperResidency

/-- STEP_COMPLETION (R238). -/
def execStepCompletion (s : State) : Host.Outcome State Fault Refusal := run s stepCompletion

/-- TIME_STEP_REJOIN (R241). -/
def execTimeStepRejoin (s : State) : Host.Outcome State Fault Refusal := run s timeStepRejoin

/-- ANNOUNCEMENT (R244). -/
def execAnnouncement (s : State) : Host.Outcome State Fault Refusal := run s announceDue

end Sys2Proof.Machine
end

