-- ==== Sys2Proof/Machine/Pager.lean ====
section
/-! DEFINITION. Accession, deletion and fetching of arrangements, the cache's fills and copies, and the pager
(R217–R228, R246–R250). -/

namespace Sys2Proof.Machine

/-! ### ARS commands (R218, R219, R228, R248) -/

/-- The ID and the code of an ARS command word (R248). -/
def arsId (w : W) : Nat := wbits w 0 16
def arsCode (w : W) : Nat := wbits w 28 4

/-- A write of ARS_CMD is refused or ignored (R218, R249). -/
def arsReject (c : Chip) : Chip := setB c ARS_STAT_cmd_reject true

/-- The content of the staging buffer a command names (R217). -/
def stagingContent (c : Chip) (w : W) : List Byte := memBytes c 6 (stagingAddr c (wbits w 16 2)) arrBytes

/-- A write of ARS_CMD (R218, R248): one command at a time; in a pair an ACCEDE carries its arrangement in the journal
(R255, R344). -/
def arsWrite (c : Chip) (w : W) : Chip :=
  let accepted := !fldB c ARS_STAT_busy && 1 ≤ arsCode w && arsCode w ≤ 3
  let carry := accepted && arsCode w == 1 && c.twn.paired && !c.twn.applying && reachable c ARS_CMD && holdsLoan c
  let content := stagingContent c w
  let c := if carry then
      stateChangeAs { c with ars := { c.ars with arrIn := some (BitVec.ofNat 16 (arsId w), content) } } (toW ARS_CMD)
        (.arr (BitVec.ofNat 16 (arsId w)) content) (fun c _ => c)
    else c
  hostChangeIf c ARS_CMD w (fun c => if accepted then none else some (arsReject c)) (fun c e =>
    setB { c with ars := { c.ars with cmd := some (w, e) } } ARS_STAT_busy true)

/-- A command ends with a result (R218, R249). -/
def arsEnd (c : Chip) (id result : Nat) : Chip :=
  setB (setFld (setFld c ARS_STAT_result result) ARS_STAT_id id) ARS_STAT_busy false

/-- The Curator is OFF (R257). -/
def curatorOff (c : Chip) : Bool := fld c CUR_STAT_mode == 0

/-- The ID lies in the Curator's range (R220, R246). -/
def curatorId (c : Chip) (id : Nat) : Bool :=
  decide (wbits (rd c ARS_CUR_RANGE) 0 16 ≤ id) && decide (id ≤ wbits (rd c ARS_CUR_RANGE) 16 16)

/-- ID_RESERVED of R218. -/
def idReserved (c : Chip) (id : Nat) : Bool := curatorId c id && !curatorOff c

/-- The checks of an accession, in the order of the result codes (R218); none if all pass. -/
def accedeCheck (c : Chip) (id : Nat) (replace : Bool) (l : List Byte) : Option Nat :=
  match arrCheck c id l with
  | some k => some k
  | none =>
    if (storeState c id = 1 || storeState c id = 2) && !replace then some 10
    else if replace && inUse c (BitVec.ofNat 16 id) then some 11
    else if idReserved c id then some 12
    else none

/-- The content an ACCEDE is judged by: the one that came with the journal, or the staging buffer (R344). -/
def accedeContent (c : Chip) (w : W) : List Byte :=
  match c.ars.arrIn with
  | some (id, l) => if id.toNat = arsId w then l else stagingContent c w
  | none => stagingContent c w

/-- An ACCEDE at its E (R218): refused with its first failing check, or accepted and copied. -/
def accedeEffect (c : Chip) (w : W) : Chip :=
  let id := arsId w
  let l := accedeContent c w
  let c := { c with ars := { c.ars with arrIn := none } }
  match accedeCheck c id (wbit w 27) l with
  | some k => raise (arsEnd c id k) srcARS_ACC_REFUSED 0
  | none => setFld (setStore { c with ars := { c.ars with accede := some (BitVec.ofNat 16 id, l) } } id 3) ARS_STAT_id id

/-- A DELETE at its E (R218, R219): it acts at the boundary after the check. -/
def deleteCheck (c : Chip) (w : W) : Chip :=
  let id := arsId w
  if inUse c (BitVec.ofNat 16 id) then arsEnd c id 11
  else if idReserved c id then arsEnd c id 12
  else if storeState c id != 1 && storeState c id != 2 then arsEnd c id 13
  else setFld { c with ars := { c.ars with delete := some (BitVec.ofNat 16 id) } } ARS_STAT_id id

/-- The boundary after the check of a DELETE (R219): the ID is ABSENT, every entry that holds it FREE. -/
def deleteEffect (c : Chip) : Chip :=
  match c.ars.delete with
  | none => c
  | some id =>
    let hold := c.ars.cache.filter (fun e => e.2.id == id)
    let c := hold.foldl (fun c e => setEntry c e.1 CacheEntry.empty) { c with ars := { c.ars with delete := none } }
    arsEnd (setStore c id.toNat 0) id.toNat 1

/-- A FETCH at its E (R228): the ID enters the due list with next use E + lookahead. -/
def fetchEffect (c : Chip) (w : W) : Chip :=
  let id := arsId w
  if storeState c id != 1 then arsEnd c id 13
  else
    let next := period c + toW (fld c ARS_CTL_lookahead)
    let c := { c with ars := { c.ars with
      fetch := c.ars.fetch ++ [(BitVec.ofNat 16 id, next)], due := c.ars.due ++ [⟨next, BitVec.ofNat 16 id, true⟩] } }
    arsEnd c id 1

/-- The waiting ARS command takes effect at its E (R218). -/
def arsEffect (c : Chip) : Chip :=
  match c.ars.cmd with
  | none => c
  | some (w, e) =>
    if due c e then
      let c := { c with ars := { c.ars with cmd := none } }
      if arsCode w = 1 then accedeEffect c w else if arsCode w = 2 then deleteCheck c w else fetchEffect c w
    else c

/-- The accepted arrangement is copied into its slot; the ID becomes STORED (R218). -/
def accessionStored (c : Chip) : Chip :=
  match c.ars.accede with
  | none => c
  | some (id, l) =>
    let c := { c with ars := { c.ars with accede := none } }
    arsEnd (setStore (memWrite c 6 (slotAddr c id.toNat) l) id.toNat 1) id.toNat 1

/-! ### Fills (R222, R226) -/

/-- The steps within lookahead, with their slots: tested or not, hold steps left out (R225, R233). -/
def pagedSteps (c : Chip) : List (Nat × StepRef) :=
  (allSteps c (fld c ARS_CTL_lookahead)).filter (fun e => e.2.p.id != 0xFFFF)

/-- The due list of a boundary (R225): the steps within lookahead, in order, then the FETCH requests. -/
def dueList (c : Chip) : List Due :=
  (pagedSteps c).map (fun e => ⟨e.2.b, e.2.p.id, false⟩)
    ++ (c.ars.fetch.filter (fun e => decide (0 < pdiff e.2 (period c)))).map (fun e => ⟨e.2, e.1, true⟩)

/-- ARS_ABSENT has been raised for a step of the programme in slot `s` (R226). -/
def absentTold (c : Chip) (s : Nat) (x : StepRef) : Bool :=
  let has : PrgRun → Bool := fun r => r.slot == s && r.absent.contains (x.cycle, x.index)
  (match c.prg.run with | some r => has r | none => false)
    || (match c.prg.staged with | some (r, _) => has r | none => false)

/-- ARS_ABSENT is raised for a step, once (R226, R256). -/
def tellAbsent (c : Chip) (e : Nat × StepRef) : Chip :=
  if absentTold c e.1 e.2 then c
  else
    let mark : PrgRun → PrgRun := fun r =>
      if r.slot = e.1 then
        { r with absent := r.absent.filter (fun a => decide (r.cycle ≤ a.1 + 2)) ++ [(e.2.cycle, e.2.index)] }
      else r
    raise { c with prg := { c.prg with
      run := c.prg.run.map mark, staged := c.prg.staged.map (fun g => (mark g.1, g.2)) } } srcARS_ABSENT 0

/-- The pager forms its due list at a boundary; a step whose ID is not STORED is passed over, and raises ARS_ABSENT
once (R225, R226). -/
def formDueList (c : Chip) : Chip :=
  let l := dueList c
  let absent := (pagedSteps c).filter (fun e => storeState c e.2.p.id.toNat != 1)
  let c := { c with ars := { c.ars with
    due := l, fetch := c.ars.fetch.filter (fun e => decide (0 < pdiff e.2 (period c))),
    lateTold := c.ars.lateTold.filter (fun e => decide (0 < pdiff e.1 (period c))) } }
  absent.foldl tellAbsent c

/-- The place of an ID in the due list; past its end where it has no next use (R225, R226). -/
def nextUse (c : Chip) (id : BitVec 16) : Nat := c.ars.due.findIdx (fun d => d.id == id)

/-- The ID the pager chooses (R226): the first that is STORED, not resident and not FILLING; without pager_en only a
FETCH (R247). -/
def fillChoice (c : Chip) : Option (BitVec 16) :=
  match c.ars.due.find? (fun d => storeState c d.id.toNat == 1 && (d.fetch || fldB c ARS_CTL_pager_en)
      && !c.ars.cache.any (fun e => e.2.id == d.id && e.2.st != 0)) with
  | some d => some d.id
  | none => none

/-- The victim of a fill (R226): the lowest FREE entry; otherwise the unpinned, clean, RESIDENT entry whose next use is
farthest, the lowest index among equals. -/
def fillVictim (c : Chip) : Option Nat :=
  match (List.range 64).find? (fun e => (entryOf c e).st == 0) with
  | some e => some e
  | none =>
    let l := (List.range 64).filter (fun e => (entryOf c e).st == 2 && !(entryOf c e).dirty && entryPins c e == 0)
    let far := l.foldl (fun m e => max m (nextUse c (entryOf c e).id)) 0
    l.find? (fun e => nextUse c (entryOf c e).id == far)

/-- A fill of an ID into an entry starts (R222). -/
def startFill (c : Chip) (e : Nat) (id : BitVec 16) (retry : Bool) : Chip :=
  setEntry { c with ars := { c.ars with fill := some ⟨e, id, retry⟩ } } e ⟨1, false, id, []⟩

/-- With no fill running the pager starts one (R226): the victim is taken only if its next use lies after that of the
chosen ID. -/
def fillStart (c : Chip) : Chip :=
  if c.ars.fill.isSome then c
  else match fillChoice c, fillVictim c with
  | some id, some e =>
    if (entryOf c e).st = 0 || nextUse c id < nextUse c (entryOf c e).id then startFill c e id false else c
  | _, _ => c

/-- The running fill ends (R222): the entry is RESIDENT, and announcements that waited for it are sent (R244); or its
check words fail, and it is started once more or the ID becomes CORRUPT. `bad`: the memory read failed (R536). -/
def fillComplete (c : Chip) (bad : Bool) : Chip :=
  match c.ars.fill with
  | none => c
  | some f =>
    let l := memBytes c 6 (slotAddr c f.id.toNat) arrBytes
    let c := ddrNote c 6 false (slotAddr c f.id.toNat) arrBytes
    let c := { c with ars := { c.ars with fill := none } }
    if !bad && hdrCrcOk l && bodyCrcOk l then announceDue (setEntry c f.entry ⟨2, false, f.id, l⟩)
    else
      let c := setB (raise (setEntry c f.entry CacheEntry.empty) srcARS_FILL_ERR 0) ARS_STAT_fill_err true
      let c := countUp c ARS_FILL_ERR_CNT 1
      if f.retry then setStore c f.id.toNat 2 else startFill c f.entry f.id true

/-- The copy of a dirty entry to its store slot is written (R224). -/
def storeCopyDone (c : Chip) (e : Nat) : Chip :=
  let x := entryOf c e
  if x.st = 2 && x.dirty then
    setEntry (memWrite c 6 (slotAddr c x.id.toNat) x.content) e { x with dirty := false }
  else c

/-- Steps whose B − lead is the present boundary and whose arrangement is not resident (R227). -/
def pageLate (c : Chip) : Chip :=
  let lead := pagerLead c
  ((allSteps c lead).filter (fun e => e.2.dist == (lead : Int) && e.2.p.id != 0xFFFF)).foldl (fun c e =>
    if (residentEntry c e.2.p.id).isSome || c.ars.lateTold.contains (e.2.b, e.2.p.id) then c
    else
      let c := { c with ars := { c.ars with lateTold := c.ars.lateTold ++ [(e.2.b, e.2.p.id)] } }
      countUp (raise (setB c ARS_STAT_page_late true) srcARS_PAGE_LATE 0) ARS_PAGE_LATE_CNT 1) c

/-! ### The commands -/

/-- An ARS_CMD word with its code set to `k` (R248). -/
def withArsCode (w : W) (k : Nat) : W := putField w 28 4 k

/-- ACCEDE (R218). -/
def execAccede (w : W) (s : State) : Host.Outcome State Fault Refusal := run s (arsWrite · (withArsCode w 1))

/-- DELETE (R219). -/
def execDelete (w : W) (s : State) : Host.Outcome State Fault Refusal := run s (arsWrite · (withArsCode w 2))

/-- FETCH (R228). -/
def execFetch (w : W) (s : State) : Host.Outcome State Fault Refusal := run s (arsWrite · (withArsCode w 3))

/-- ARS_CMD_EFFECT (R218). -/
def execArsCmdEffect (s : State) : Host.Outcome State Fault Refusal := run s arsEffect

/-- ACCESSION_STORED (R218). -/
def execAccessionStored (s : State) : Host.Outcome State Fault Refusal := run s accessionStored

/-- FILL_START (R226). -/
def execFillStart (s : State) : Host.Outcome State Fault Refusal := run s fillStart

/-- FILL_COMPLETE (R222). -/
def execFillComplete (bad : Bool) (s : State) : Host.Outcome State Fault Refusal := run s (fillComplete · bad)

/-- STORE_COPY_DONE (R224). -/
def execStoreCopyDone (e : Fin 64) (s : State) : Host.Outcome State Fault Refusal := run s (storeCopyDone · e)

/-- PAGE_LATE (R227). -/
def execPageLate (s : State) : Host.Outcome State Fault Refusal := run s pageLate

end Sys2Proof.Machine
end

