-- ==== Sys2Proof/Machine/Docent.lean ====
section
/-! DEFINITION. The Docent: its control store and microwords, its operations, its commands, its vendor routines, urgent
events, aborts and customer recipes (R168–R210). -/

namespace Sys2Proof.Machine

/-! ### Microwords (R169–R173) -/

/-- The fields of a microword (R171), from its 128 bits. -/
def mwCyc (w : Nat) : Nat := bitsAt w 124 4
def mwIntr (w : Nat) : Bool := bitsAt w 123 1 == 1
def mwSeq (w : Nat) : Nat := bitsAt w 120 3
def mwCond (w : Nat) : Nat := bitsAt w 115 5
def mwAddr (w : Nat) : Nat := bitsAt w 102 13
def mwOp (w : Nat) : Nat := bitsAt w 96 6
def mwDst (w : Nat) : Nat := bitsAt w 92 4
def mwSa (w : Nat) : Nat := bitsAt w 88 4
def mwSb (w : Nat) : Nat := bitsAt w 84 4
def mwBsel (w : Nat) : Nat := bitsAt w 80 4
def mwSub (w : Nat) : Nat := bitsAt w 72 8
def mwImm (w : Nat) : Nat := bitsAt w 40 32

/-- The positions of the data bits in the code of R170, in the order d0 to d119. -/
def eccPositions : List Nat := (List.range 128).filter (fun p => !([0, 1, 2, 4, 8, 16, 32, 64].contains p))

/-- The XOR of the positions of the data bits that are set. -/
def eccFold (w : Nat) : Nat :=
  ((List.range 120).zip eccPositions).foldl (fun a e => if bitsAt w (8 + e.1) 1 = 1 then a ^^^ e.2 else a) 0

/-- The parity of the lowest `n` bits of a number. -/
def parityOf (w n : Nat) : Nat := ((List.range n).filter (fun i => bitsAt w i 1 == 1)).length % 2

/-- A word whose bits 127:8 are given, with its check byte (R170). -/
def withEcc (w : Nat) : Nat :=
  let d := w / 256 * 256 + eccFold w
  d + parityOf d 128 * 128

/-- What the check of a fetched word finds (R170): the word, corrected, and whether it had a single-bit error; none for
a double-bit error. -/
def eccCheck (w : Nat) : Option (Nat × Bool) :=
  let s := eccFold w ^^^ (w % 128)
  let p := parityOf w 128
  if s = 0 && p = 0 then some (w, false)
  else if p = 1 then
    if s = 0 then some (w ^^^ 128, true)
    else if [1, 2, 4, 8, 16, 32, 64].contains s then some (w ^^^ s, true)
    else some (w ^^^ 2 ^ (8 + eccPositions.findIdx (fun x => x == s)), true)
  else none

/-- A microword from its fields (R171). -/
def microword (cyc intr seq cond addr op dst sa sb bsel sub imm : Nat) : Nat :=
  withEcc (cyc * 2 ^ 124 + intr * 2 ^ 123 + seq * 2 ^ 120 + cond * 2 ^ 115 + addr * 2 ^ 102 + op * 2 ^ 96 + dst * 2 ^ 92
    + sa * 2 ^ 88 + sb * 2 ^ 84 + bsel * 2 ^ 80 + sub * 2 ^ 72 + imm * 2 ^ 40)

/-- The microwords of APPLY as R185 prints them, by address. -/
def applyWords : List (Nat × Nat) :=
  [ (0x100, microword 1 1 4 7 0x110 0x00 0 0 0 0 0 0),
    (0x101, microword 2 0 0 0 0 0x01 4 0 0 1 2 0xFFFF),
    (0x102, microword 2 0 5 3 0x111 0x08 5 4 0 0 0 0),
    (0x103, microword 1 0 0 0 0 0x06 6 0 0 0 0 0),
    (0x104, microword 2 0 0 0 0 0x01 6 6 0 1 0 3),
    (0x105, microword 2 0 5 2 0x108 0x01 9 0 0 1 2 0x10000),
    (0x106, microword 2 0 5 1 0x109 0x01 0 1 6 0 8 0),
    (0x107, microword 2 0 0 0 0 0x01 7 0 0 1 7 1),
    (0x108, microword 2 0 0 0 0 0x01 1 0 6 0 7 0),
    (0x109, microword 2 0 5 4 0x112 0x09 0 5 0 0 0 0),
    (0x10A, microword 2 0 0 0 0 0x01 8 1 0 1 1 1),
    (0x10B, microword 2 0 5 5 0x103 0x0A 0 8 0 0 0 0),
    (0x10C, microword 0 1 5 6 0x10C 0x00 0 0 0 0 0 0),
    (0x10D, microword 2 0 0 0 0 0x14 0 15 7 0 0 0),
    (0x10E, microword 2 0 7 0 0 0x19 0 7 0 0 0 1),
    (0x110, microword 2 0 7 0 0 0x19 0 7 0 0 0 3),
    (0x111, microword 2 0 7 0 0 0x19 0 7 0 0 0 4),
    (0x112, microword 2 0 7 0 0 0x19 0 7 0 0 0 6) ]

/-- A word of the control store that nothing has written: APPLY's words, 0 elsewhere (log entry 17). -/
def csDefault (k : Nat) : W :=
  match applyWords.find? (fun e => e.1 == k / 4) with
  | some e => toW (bitsAt e.2 (32 * (k % 4)) 32)
  | none => 0

/-- A 32-bit word of the control store, at 4 × address + word (R169). -/
def csWord (c : Chip) (k : Nat) : W := mapRead csDefault c.doc.cs k

/-- Write a 32-bit word of the control store. -/
def csPut (c : Chip) (k : Nat) (v : W) : Chip := { c with doc := { c.doc with cs := mapWrite csDefault c.doc.cs k v } }

/-- The 128 bits of a microword (R169). -/
def microAt (c : Chip) (a : Nat) : Nat :=
  (csWord c (4 * a)).toNat + (csWord c (4 * a + 1)).toNat * 2 ^ 32 + (csWord c (4 * a + 2)).toNat * 2 ^ 64
    + (csWord c (4 * a + 3)).toNat * 2 ^ 96

/-! ### Dispatch entries (R181, R182) -/

/-- The opcodes of the vendor microcode at stepping A1 that have an entry (R182). -/
def vendorValid (op : Nat) : Bool :=
  [0x00, 0x01, 0x02, 0x08, 0x09, 0x0F, 0x10, 0x12, 0x18, 0x19, 0x28, 0x30].contains op

/-- Their partial policies: RESUME but for CHAR_SWEEP, whose policy is BACK (R182). -/
def vendorPolicy (op : Nat) : Nat := if op = 0x28 then 2 else 0

/-- APPLY and SET_TARGET change targets through swaps (R181, R184). -/
def vendorStep (op : Nat) : Bool := op == 0x10 || op == 0x12

/-- Their start addresses: APPLY's is printed in R185. -/
def vendorStart (op : Nat) : Nat :=
  if op = 0x10 then 0x100 else if vendorValid op then Config.routineStart op % 0x1700 else 0

/-- The entry of an opcode that nothing has written (R181). -/
def vendorEntry (op : Nat) : W :=
  toW (b2n (vendorValid op) * 2 ^ 31 + vendorPolicy op * 2 ^ 29 + b2n (vendorStep op) * 2 ^ 28 + vendorStart op)

/-- The dispatch entry of an opcode. -/
def tableEntry (c : Chip) (op : Nat) : W :=
  match mapGet c.doc.table op with
  | some w => w
  | none => vendorEntry op

/-- A customer opcode (R181). -/
def isCustomer (op : Nat) : Bool := decide (0xC0 ≤ op)

/-- The entry of an opcode counts as valid; customer entries do not while a load is open or the last was refused
(R199). -/
def entryValid (c : Chip) (op : Nat) : Bool :=
  (match mapGet c.doc.table op with | some w => wbit w 31 | none => vendorValid op)
    && !(isCustomer op && (fldB c DOC_CUST_CTL_load || c.doc.custBad))

/-- Policy, step bit and start address of an entry (R181). -/
def entryPolicy (c : Chip) (op : Nat) : Nat :=
  match mapGet c.doc.table op with | some w => wbits w 29 2 | none => vendorPolicy op
def entryStep (c : Chip) (op : Nat) : Bool :=
  match mapGet c.doc.table op with | some w => wbit w 28 | none => vendorStep op
def entryStart (c : Chip) (op : Nat) : Nat :=
  match mapGet c.doc.table op with | some w => wbits w 0 13 | none => vendorStart op

/-- Give an opcode an entry; every written entry is listed. -/
def setTableEntry (c : Chip) (op : Nat) (v : W) : Chip :=
  { c with doc := { c.doc with table := mapPut c.doc.table op v } }

/-! ### The running routine -/

/-- The Docent is STOPPED (R170). -/
def docStopped (c : Chip) : Bool := fld c DOC_STAT_state == 3

/-- DOC_STAT and DOC_RUN show what runs (R201, R203). -/
def showDoc (c : Chip) : Chip :=
  let c := setFld c DOC_STAT_host_depth c.doc.hostQ.length
  if docStopped c then c
  else match c.doc.cur with
  | none => wr (setFld c DOC_STAT_state 0) DOC_RUN 0x01000000
  | some r =>
    wr (setFld c DOC_STAT_state (if r.cmd.source = 4 then 2 else 1)) DOC_RUN
      (toW (r.opcode * 2 ^ 24 + r.cmd.source * 2 ^ 20 + wbits r.cmd.w0 0 16))

/-- Give the Docent its running routine. -/
def setCur (c : Chip) (r : Option Routine) : Chip := showDoc { c with doc := { c.doc with cur := r } }

/-- A routine at its dispatch (R175). -/
def freshRoutine (c : Chip) (op : Nat) (cmd : DocCmd) : Routine :=
  { cmd := cmd, opcode := op, pc := entryStart c op, phase := .fetch, word := 0, waitP := 0, stage := 0,
    regs := [cmd.w1, cmd.w2, cmd.w3, cmd.w0] ++ List.replicate 12 0, lt := false, eq := false, resident := false,
    loadOk := false, swapOk := false, stack := [], badAccess := false, readValue := 0, periods := 0, swap := 0,
    stepB := none, pins := [], movedTold := false, written := false, partial_ := false, roll := 0 }

/-- A work register. -/
def reg (r : Routine) (i : Nat) : W := nth 0 r.regs i

/-- Give a work register a value. -/
def setReg (r : Routine) (i : Nat) (v : W) : Routine := { r with regs := setNth r.regs i v }

/-- The running routine passes through `f`. -/
def withCur (c : Chip) (f : Routine → Chip) : Chip :=
  if docStopped c then c else match c.doc.cur with | some r => f r | none => c

/-! ### Completion records (R183, R204) -/

/-- The word of a completion record in DOC_DONE0 (R204). -/
def DoneRec.word (d : DoneRec) : W := toW (d.opcode * 2 ^ 24 + d.source * 2 ^ 20 + d.status * 2 ^ 16 + d.tag)

/-- The host completion queue shows its depth. -/
def showDone (c : Chip) : Chip := setFld c DOC_STAT_done_depth c.doc.done.length

/-- A completion record goes to its command's source (R183): a full host queue loses its oldest record. -/
def docDeliver (c : Chip) (d : DoneRec) : Chip :=
  if d.source = 0 then
    if 16 ≤ c.doc.done.length then
      showDone (setB { c with doc := { c.doc with done := c.doc.done.drop 1 ++ [d] } } DOC_STAT_done_lost true)
    else showDone { c with doc := { c.doc with done := c.doc.done ++ [d] } }
  else if d.source = 1 then { c with prg := { c.prg with done := c.prg.done ++ [(d.tag, d.status)] } }
  else if d.source = 2 then { c with doc := { c.doc with curDone := c.doc.curDone ++ [d] } }
  else if d.source = 3 then { c with doc := { c.doc with cnsDone := c.doc.cnsDone ++ [d] } }
  else c

/-- The completion record of a routine's command (R204). -/
def recordOf (c : Chip) (r : Routine) (status abortRes : Nat) (moved : Bool) : DoneRec :=
  { opcode := r.opcode, source := r.cmd.source, status := status, tag := wbits r.cmd.w0 0 16, bMoved := moved,
    partial_ := r.partial_, roll := r.roll, abortRes := abortRes,
    stepTag := if entryStep c r.opcode then (match r.stepB with | some b => b.toNat % 2 ^ 16 | none => 0) else 0 }

/-- A command that did not run completes (R179, R191). -/
def completeUnrun (c : Chip) (d : DocCmd) (status abortRes : Nat) : Chip :=
  docDeliver c ⟨wbits d.w0 24 8, d.source, status, wbits d.w0 0 16, false, false, 0, abortRes, 0⟩

/-- APPLY has moved its B: it says so in a7 (R185). -/
def applyMoved (r : Routine) : Bool := r.opcode == 0x10 && decide (r.cmd.source < 4) && wbit (nth 0 r.regs 7) 0

/-- The B of a routine's command has been moved (R184). -/
def bMoved (r : Routine) : Bool := r.movedTold || applyMoved r

/-- The one completion record of a routine is written, with its events (R183, R184, R210); an urgent or internal routine
has none. A routine whose record is written may still end with FAULT, and is interrupted no longer (R203). -/
def complete (c : Chip) (r : Routine) (status abortRes : Nat) (moved : Bool) : Chip × Routine :=
  let c := if status = 6 then raise c srcDOC_FAULT 0 else c
  let c := if r.partial_ && r.cmd.source < 4 then setB c DOC_STAT_partial false else c
  if r.written then (c, r)
  else if 4 ≤ r.cmd.source then (c, { r with written := true })
  else
    let c := if moved && !r.movedTold then raise c srcDOC_B_MOVED 0 else c
    (docDeliver c (recordOf c r status abortRes moved), { r with written := true, movedTold := r.movedTold || moved })

/-! ### Urgent events and the end of a routine (R186–R188) -/

/-- The pending urgent event of the lowest opcode (R186). -/
def nextUrgent (c : Chip) : Option Nat := (c.doc.urgPend.map (fun e => e.1)).min?

/-- The command that stands for a routine no queue gave. -/
def internalCmd (op source : Nat) : DocCmd := ⟨toW (op * 2 ^ 24), 0, 0, 0, source, 0⟩

/-- An urgent event is taken: its routine is dispatched with a0–a15 at 0 (R188). -/
def takeUrgent (c : Chip) (op : Nat) : Chip :=
  let c := { c with doc := { c.doc with
    urgPend := c.doc.urgPend.eraseP (fun e => e.1 == op), urgTold := c.doc.urgTold.filter (fun e => e.1 != op) } }
  let r := freshRoutine c op (internalCmd op 4)
  setCur c (some { r with regs := List.replicate 16 0 })

/-- The Docent turns to what follows a HALT (R187, R188, R192): a pending urgent event, the tail of an abort, the
PARTIAL handler, or IDLE. -/
def afterHalt (c : Chip) : Chip :=
  match nextUrgent c with
  | some op => takeUrgent c op
  | none =>
    if c.doc.tail then
      setCur { c with doc := { c.doc with tail := false } } (some (freshRoutine c 0x02 (internalCmd 0x02 5)))
    else if c.doc.saved.isSome then setCur c (some (freshRoutine c 0x0F (internalCmd 0x0F 5)))
    else setCur c none

/-- A routine ends with a status, its record written if it has none yet (R183). -/
def endRoutine (c : Chip) (r : Routine) (status abortRes : Nat) (moved : Bool) : Chip :=
  afterHalt (setCur (complete c r status abortRes moved).1 none)

/-- A routine ends with status FAULT (R170, R173, R176, R177, R199). A handler that ends so ends the command it served. -/
def faultRoutine (c : Chip) (r : Routine) : Chip :=
  match r.cmd.source, c.doc.saved with
  | 5, some s =>
    let c := (complete c s 6 0 (bMoved s)).1
    afterHalt (setCur { c with doc := { c.doc with saved := none, forceBack := false } } none)
  | _, _ => endRoutine c r 6 0 (bMoved r)

/-- The routine is interrupted at the marked word (R188). -/
def interruptAt (c : Chip) (r : Routine) (op : Nat) : Chip :=
  let c := wr (setB c DOC_STAT_partial true) DOC_RESUME (toW (r.opcode * 2 ^ 24 + r.pc % 2 ^ 13))
  takeUrgent { c with doc := { c.doc with saved := some { r with partial_ := true, phase := .fetch } } } op

/-- At an interruptible point of a routine from a queue a pending urgent event is taken (R187); otherwise `k` goes on. -/
def atPoint (c : Chip) (r : Routine) (k : Chip) : Chip :=
  match nextUrgent c with
  | some op => if r.cmd.source < 4 then interruptAt c r op else k
  | none => k

/-! ### Fetching (R170, R172) -/

/-- Every running and queued command completes with FAULT and the Docent stops (R170). -/
def docFatal (c : Chip) : Chip :=
  let c := raise (setB c DOC_STAT_ecc_fatal true) srcDOC_ECC_FATAL 0
  let running := c.doc.cur.toList ++ c.doc.saved.toList
  let c := running.foldl (fun c r => (complete c r 6 0 (bMoved r)).1) c
  let queued := c.doc.prgQ ++ c.doc.curQ ++ c.doc.hostQ ++ c.doc.cnsQ
  let c := queued.foldl (fun c d => completeUnrun c d 6 0) c
  let c := { c with doc := { c.doc with
    prgQ := [], curQ := [], hostQ := [], cnsQ := [], cur := none, saved := none, tail := false, forceBack := false } }
  wr (showDoc (setB (setFld c DOC_STAT_state 3) DOC_STAT_partial false)) DOC_RUN 0x01000000

/-- The op codes of R176. -/
def opListed (op : Nat) : Bool :=
  [0x00, 0x01, 0x02, 0x03, 0x04, 0x05, 0x06, 0x08, 0x09, 0x0A, 0x0B, 0x0C, 0x0D, 0x10, 0x11, 0x14, 0x15, 0x16, 0x18, 0x19,
    0x1A].contains op

/-- The long operations of R176. -/
def opLong (op : Nat) : Bool := [0x04, 0x05, 0x09, 0x14].contains op

/-- A fetched word is taken for execution: an op or an ALU sub that R176 does not list ends the routine. -/
def takeWord (c : Chip) (r : Routine) (w : Nat) : Chip :=
  let r := { r with word := w, phase := .issue }
  if !opListed (mwOp w) || (mwOp w == 1 && decide (8 < mwSub w)) then faultRoutine c r else setCur c (some r)

/-- The Docent fetches the next microword (R170): corrected, fatal, or taken; at an interruptible point an urgent event
comes first (R188). -/
def microFetch (c : Chip) : Chip :=
  withCur c (fun r =>
    if r.phase != .fetch then c
    else match eccCheck (microAt c (r.pc % 8192)) with
    | none => docFatal c
    | some (w, corrected) =>
      let c := if corrected then raiseLimited (countUp c DOC_ECC_CNT 1) srcDOC_ECC_CORR 0 else c
      if mwIntr w then atPoint c r (takeWord c r w) else takeWord c r w)

/-- A B that the running APPLY has moved raises DOC_B_MOVED, once (R184, R210). -/
def tellMoved (c : Chip) (r : Routine) : Chip × Routine :=
  if applyMoved r && !r.movedTold then (raise c srcDOC_B_MOVED 0, { r with movedTold := true }) else (c, r)

/-- The word's operation is issued: a long one runs on, a word with cyc = 0 waits for the boundary (R172). -/
def issued (c : Chip) (r : Routine) : Chip :=
  let (c, r) := tellMoved c r
  let ph : DocPhase := if opLong (mwOp r.word) then .long else if mwCyc r.word = 0 then .wait else .next
  setCur c (some { r with phase := ph, waitP := period c })

/-! ### Conditions and next addresses (R173, R174) -/

/-- The tag of a step boundary stands in every gallery that holds a mapped cell (R174). -/
def settledAll (c : Chip) : Bool :=
  match c.doc.stepB with
  | none => false
  | some b =>
    decide (0 ≤ pdiff (period c) b)
      && (usedGalleries c).all (fun g => fld c (LPE_SETTLE_step_tag g) == b.toNat % 2 ^ 16)

/-- No command is queued (R174). -/
def queuesEmpty (c : Chip) : Bool :=
  c.doc.prgQ.isEmpty && c.doc.curQ.isEmpty && c.doc.hostQ.isEmpty && c.doc.cnsQ.isEmpty

/-- The conditions of R174. -/
def condTrue (c : Chip) (r : Routine) (n : Nat) : Bool :=
  if n = 0 then true else if n = 1 then r.lt else if n = 2 then r.eq else if n = 3 then r.resident
  else if n = 4 then r.loadOk else if n = 5 then r.swapOk else if n = 6 then settledAll c
  else if n = 7 then epochHold c else if n = 8 then epochBusy c else if n = 9 then queuesEmpty c
  else false

/-- A routine goes on at an address. -/
def goTo (c : Chip) (r : Routine) (a : Nat) : Chip := setCur c (some { r with pc := a % 8192, phase := .fetch })

/-- The head of the first non-empty queue, in the order of R179, and the Docent without it. -/
def popCommand (c : Chip) : Option (DocCmd × Chip) :=
  let d := c.doc
  match d.prgQ, d.curQ, d.hostQ, d.cnsQ with
  | x :: t, _, _, _ => some (x, { c with doc := { d with prgQ := t } })
  | [], x :: t, _, _ => some (x, { c with doc := { d with curQ := t } })
  | [], [], x :: t, _ => some (x, { c with doc := { d with hostQ := t } })
  | [], [], [], x :: t => some (x, { c with doc := { d with cnsQ := t } })
  | [], [], [], [] => none

/-- A DISPATCH word inside a routine (R173, R179): it goes to the dispatch entry of the next queued command, whose routine
takes the place of the running one; that one's command completes as at its HALT (log entry 83). With none queued, or the
head refused, it goes on. -/
def dispatchWord (c : Chip) (r : Routine) : Chip :=
  match if c.doc.csHold then none else popCommand c with
  | none => goTo c r (r.pc + 1)
  | some (d, c) =>
    let op := wbits d.w0 24 8
    if op < 0x10 || !entryValid c op then goTo (completeUnrun c d 5 0) r (r.pc + 1)
    else
      let c := (complete c r 1 0 (bMoved r)).1
      setCur c (some (freshRoutine c op d))

/-- HALT (R173, R183, R187): a command whose routine wrote no record completes COMPLETE. -/
def halt (c : Chip) (r : Routine) : Chip := endRoutine c r 1 0 (bMoved r)

/-- The next address of a word (R173). -/
def nextAddress (c : Chip) (r : Routine) : Chip :=
  let s := mwSeq r.word
  let a := mwAddr r.word
  let cond := condTrue c r (mwCond r.word)
  if s = 0 then goTo c r (r.pc + 1)
  else if s = 1 then goTo c r a
  else if s = 2 then
    if 8 ≤ r.stack.length then faultRoutine c r else goTo c { r with stack := (r.pc + 1) % 8192 :: r.stack } a
  else if s = 3 then
    match r.stack with
    | [] => faultRoutine c r
    | t :: rest => goTo c { r with stack := rest } t
  else if s = 4 then goTo c r (if cond then a else r.pc + 1)
  else if s = 5 then goTo c r (if cond then r.pc + 1 else a)
  else if s = 6 then dispatchWord c r
  else halt c r

/-- A row of the next-address control: it acts on a word of that seq whose operation and wait have ended. -/
def seqRow (c : Chip) (n : Nat) : Chip :=
  withCur c (fun r => if r.phase == .next && mwSeq r.word == n then nextAddress c r else c)

/-- A word with cyc = 0 ends its wait at the next boundary (R172). -/
def waitEnd (c : Chip) : Chip :=
  withCur c (fun r => if r.phase == .wait && period c != r.waitP then setCur c (some { r with phase := .next }) else c)

/-- A long operation ends (R172): LOADT ends the pin (R176), an RDB writes dst, a failed access faults (R177). -/
def longEnd (c : Chip) : Chip :=
  withCur c (fun r =>
    if r.phase != .long then c
    else if r.badAccess then faultRoutine c { r with badAccess := false }
    else
      let op := mwOp r.word
      let r := if op = 9 then { r with pins := [] } else r
      let r := if op = 4 then setReg r (mwDst r.word) r.readValue else r
      setCur c (some { r with phase := if mwCyc r.word = 0 then .wait else .next, waitP := period c }))

/-! ### Operations (R176) -/

/-- The second operand of the ALU: imm, or register sb (R171). -/
def aluOperand (r : Routine) : W := if mwBsel r.word = 1 then toW (mwImm r.word) else reg r (mwSb r.word)

/-- The result of the ALU for a sub (R176). -/
def aluResult (sub : Nat) (a b : W) : W :=
  if sub = 0 then a + b else if sub = 1 then a - b else if sub = 2 then a &&& b else if sub = 3 then a ||| b
  else if sub = 4 then a ^^^ b else if sub = 5 then a <<< b.toNat else if sub = 6 then a >>> b.toNat
  else if sub = 7 then b else a - b

/-- An ALU word (R176): the flags are set, compare writes no register. -/
def opAlu (c : Chip) (r : Routine) : Chip × Routine :=
  let v := aluResult (mwSub r.word) (reg r (mwSa r.word)) (aluOperand r)
  let r := { r with lt := decide (wInt v < 0), eq := v == 0 }
  (c, if mwSub r.word = 8 then r else setReg r (mwDst r.word) v)

/-- The scratch address of LDS and STS. -/
def scratchAddr (r : Routine) : Nat := (reg r (mwSa r.word) + toW (mwImm r.word)).toNat % 1024

/-- LDS (R176). -/
def opLds (c : Chip) (r : Routine) : Chip × Routine :=
  (c, setReg r (mwDst r.word) (mapRead (fun _ => 0) c.doc.scratch (scratchAddr r)))

/-- STS (R176). -/
def opSts (c : Chip) (r : Routine) : Chip × Routine :=
  ({ c with doc := { c.doc with
      scratch := mapWrite (fun _ => 0) c.doc.scratch (scratchAddr r) (reg r (mwSb r.word)) } }, r)

/-- GETP (R176). -/
def opGetp (c : Chip) (r : Routine) : Chip × Routine := (c, setReg r (mwDst r.word) (period c))

/-- LOOKUP (R176): the entry is pinned beside those of earlier LOOKUPs. Where no entry is found, dst is a free value (log
entry 18). -/
def opLookup (c : Chip) (r : Routine) : Chip × Routine :=
  match residentEntry c (BitVec.ofNat 16 (wbits (reg r (mwSa r.word)) 0 16)) with
  | some e => (c, setReg { r with resident := true, pins := e :: r.pins } (mwDst r.word) (toW e))
  | none => (freeNext c, setReg { r with resident := false } (mwDst r.word) (toW (freeValue c)))

/-- Every gallery fills PEND from a cache entry whose check words hold (R176). -/
def fillPend (c : Chip) (x : CacheEntry) : Chip :=
  { c with lpe := { c.lpe with pend := bankOfTargets (arrTargets x.content), pendId := x.id, pendEmpty := false } }

/-- LOADT (R176). A copyist whose entry is not resident has diverged (R240, R358). -/
def opLoadt (c : Chip) (r : Routine) : Chip × Routine :=
  let e := (reg r (mwSa r.word)).toNat
  let x := entryOf c e
  if 63 < e || x.st != 2 then (copyistUnfit c 4 0, { r with loadOk := false })
  else if hdrCrcOk x.content && bodyCrcOk x.content then (fillPend c x, { r with loadOk := true })
  else (emptyPend c, { r with loadOk := false })

/-- A swap or revert is scheduled on the terms of R176. -/
def schedule (c : Chip) (r : Routine) (revert : Bool) (s : W) : Chip × Routine :=
  if 1 ≤ pdiff s (period c) && c.doc.sched.isNone then
    ({ c with doc := { c.doc with sched := some ⟨revert, s, r.cmd.serial⟩, stepB := some (s + 1) } },
      { r with swapOk := true, swap := if revert || r.swap = 2 then r.swap else 1, stepB := some (s + 1) })
  else (c, { r with swapOk := false })

/-- SWAPAT (R176). -/
def opSwapat (c : Chip) (r : Routine) : Chip × Routine := schedule c r false (reg r (mwSa r.word))

/-- REVERT (R176). -/
def opRevert (c : Chip) (r : Routine) : Chip × Routine := schedule c r true (reg r (mwSa r.word))

/-- PEND := FORCE with its ID (R176). -/
def copyPend (c : Chip) : Chip :=
  { c with lpe := { c.lpe with pend := c.lpe.force, pendId := c.lpe.forceId, pendEmpty := false } }

/-- COPYP (R176). -/
def opCopyp (c : Chip) (r : Routine) : Chip × Routine := (copyPend c, r)

/-- One PEND word is set (R176): an empty PEND becomes KEEP everywhere else, with the ID 0xFFFF. -/
def setPend (c : Chip) (cell : Nat) (w : W) : Chip :=
  { c with lpe := { c.lpe with
      pend := mapWrite (fun _ => 2) (if c.lpe.pendEmpty then [] else c.lpe.pend) cell (targetOf w),
      pendId := if c.lpe.pendEmpty then 0xFFFF else c.lpe.pendId, pendEmpty := false } }

/-- A shaping write waits for the next boundary (R176). -/
def shapeSet (c : Chip) (cls m : Nat) (v : W) : Chip :=
  if cls < 64 then { c with doc := { c.doc with shapes := c.doc.shapes ++ [(cls * 32 + m, shapeStored v, period c)] } } else c

/-- The default of a working shaping entry (R113). -/
def shapeDefault (c : Chip) (cls m : Nat) : W := lawWord c (cls * 512 + 0x100 + m)

/-- The shaping entries of a class, or of every class, return to their defaults at the next boundary (R176). -/
def shapeRestore (c : Chip) (cls : Nat) (all : Bool) : Chip :=
  let classes := if all then List.range 64 else [cls]
  classes.foldl (fun c k => (List.range 32).foldl (fun c m => shapeSet c k m (shapeDefault c k m)) c) c

/-- SHAPE (R176). -/
def opShape (c : Chip) (r : Routine) : Chip × Routine :=
  (shapeSet c (reg r (mwSa r.word)).toNat (mwSub r.word % 32) (reg r (mwSb r.word)), r)

/-- SHRST (R176). -/
def opShrst (c : Chip) (r : Routine) : Chip × Routine :=
  (shapeRestore c (reg r (mwSa r.word)).toNat (bitsAt (mwSub r.word) 7 1 == 1), r)

/-- The shaping writes of earlier periods are committed to every gallery (R118, R176). -/
def shapeCommit (c : Chip) : Chip :=
  let due_ := c.doc.shapes.filter (fun e => e.2.2 != period c)
  let c := due_.foldl (fun c e => { c with lpe := { c.lpe with
    shaping := mapWrite (fun _ => 0) c.lpe.shaping e.1 e.2.1 } }) c
  { c with doc := { c.doc with shapes := c.doc.shapes.filter (fun e => e.2.2 == period c) } }

/-- The fabric-wide report of a step (R167, R206), and its ledger record (R451). -/
def collect (c : Chip) (b : W) (revert moved : Bool) : Chip :=
  let tag := b.toNat % 2 ^ 16
  let gs := (usedGalleries c).filter (fun g => fld c (LPE_SETTLE_step_tag g) == tag)
  let worst := gs.foldl (fun m g => max m (fld c (LPE_SETTLE_worst_j g))) 0
  let late := (gs.map (fun g => fld c (LPE_SETTLE_late_cnt g))).sum
  let untested := (gs.map (fun g => fld c (LPE_SETTLE_untested_cnt g))).sum
  let changed := (gs.filter (fun g => fld c (LPE_SETTLE_worst_j g) != 0 || fld c (LPE_SETTLE_late_cnt g) != 0
    || fld c (LPE_SETTLE_untested_cnt g) != 0)).length
  let flags := b2n revert * 2 ^ 27 + b2n moved * 2 ^ 26
  let c := wr c DOC_STEP_STAT0 (toW (tag * 2 ^ 16 + worst * 2 ^ 12 + b2n revert * 2 ^ 11 + b2n moved * 2 ^ 10 + changed))
  let c := wr c DOC_STEP_STAT1 (toW (untested % 2 ^ 13 * 2 ^ 16 + late % 2 ^ 13))
  ledgerPut c 2 0 false false 0xFFFF
    (beBytes 8 (timeOfBoundary c b).toNat ++ beBytes 4 b.toNat ++ beBytes 2 c.lpe.forceId.toNat
      ++ beBytes 2 c.lpe.entryId.toNat ++ beBytes 4 (worst * 2 ^ 28 + flags + changed * 2 ^ 20)
      ++ beBytes 2 untested ++ beBytes 2 late)

/-- COLLECT (R167, R176): for the step of the last accepted swap or revert. -/
def opCollect (c : Chip) (r : Routine) : Chip × Routine :=
  match c.doc.stepB with
  | some b => (collect c b (wbit (reg r (mwSa r.word)) 0) (wbit (reg r (mwSb r.word)) 0), r)
  | none => (c, r)

/-- EPOCH (R176, R194): as a write of DOC_EPOCH_REQ, effective at P + 2 in both twins (R177). -/
def opEpoch (c : Chip) (r : Routine) : Chip × Routine :=
  (epochRequest c (mwSub r.word % 4) (min 255 (reg r (mwSa r.word)).toNat) (period c + 2), r)

/-- EVT (R176): a DETAIL record of the code and the data; its source is a free value (log entry 19). -/
def opEvt (c : Chip) (r : Routine) : Chip × Routine :=
  (ledgerDetail (freeNext c) (freeValue c % 2 ^ 16)
    (beBytes 4 (mwImm r.word % 256) ++ beBytes 4 (reg r (mwSa r.word)).toNat), r)

/-- DONE (R176, R183): executed by an urgent routine it writes nothing; a handler writes the record of the command it
serves. A command has one record: a second DONE writes nothing. -/
def opDone (c : Chip) (r : Routine) : Chip × Routine :=
  let moved := wbit (reg r (mwSa r.word)) 0
  let st := mwImm r.word % 16
  match r.cmd.source, c.doc.saved with
  | 5, some s =>
    if s.written then (c, r)
    else
      let x := complete c s st 0 moved
      ({ x.1 with doc := { x.1.doc with saved := some x.2 } }, r)
  | _, _ => if r.cmd.source < 4 && !r.written then complete c r st 0 moved else (c, r)

/-- An operation that needs no other block, by its op code. -/
def applyOp (c : Chip) (r : Routine) : Chip × Routine :=
  let op := mwOp r.word
  if op = 0x01 then opAlu c r else if op = 0x06 then opGetp c r else if op = 0x08 then opLookup c r
  else if op = 0x09 then opLoadt c r else if op = 0x0A then opSwapat c r else if op = 0x14 then opCollect c r
  else if op = 0x19 then opDone c r else (c, r)

/-- A row of the operations: it acts on a word of that op that has not issued it. -/
def opRow (c : Chip) (op : Nat) (f : Chip → Routine → Chip × Routine) : Chip :=
  withCur c (fun r =>
    if r.phase == .issue && mwOp r.word == op then
      let x := f c r
      issued x.1 x.2
    else c)

/-- A row of the ALU: the op is ALU and the sub is `sub`. -/
def aluRow (c : Chip) (sub : Nat) : Chip :=
  withCur c (fun r => if mwSub r.word == sub then opRow c 0x01 opAlu else c)

/-- SETT (R176): a cell above 4,607 ends the routine with FAULT. -/
def settRow (c : Chip) : Chip :=
  withCur c (fun r =>
    if r.phase == .issue && mwOp r.word == 0x0D then
      if 4607 < (reg r (mwSa r.word)).toNat then faultRoutine c r
      else issued (setPend c (reg r (mwSa r.word)).toNat (reg r (mwSb r.word))) r
    else c)

/-! ### Swaps (R164, R165) -/

/-- The routine of a serial number has its swap performed. -/
def markSwapped (c : Chip) (owner : Nat) : Chip :=
  let f : Routine → Routine := fun r => if r.cmd.serial == owner && r.swap == 1 then { r with swap := 2 } else r
  { c with doc := { c.doc with cur := c.doc.cur.map f, saved := c.doc.saved.map f } }

/-- A scheduled swap acts at its boundary (R164); with PEND empty it is not performed. -/
def targetSwap (c : Chip) : Chip :=
  match c.doc.sched with
  | some s =>
    if !s.revert && due c s.at_ then
      let c := { c with doc := { c.doc with sched := none } }
      if c.lpe.pendEmpty then c else markSwapped (swapTargets c) s.owner
    else c
  | none => c

/-- A scheduled revert acts at its boundary (R165). -/
def targetRevert (c : Chip) : Chip :=
  match c.doc.sched with
  | some s => if s.revert && due c s.at_ then revertTargets { c with doc := { c.doc with sched := none } } else c
  | none => c

/-- The swap a routine has scheduled is cancelled and PEND emptied (R190, R192). -/
def cancelSwap (c : Chip) (r : Routine) : Chip :=
  let c := match c.doc.sched with
    | some s => if s.owner = r.cmd.serial then { c with doc := { c.doc with sched := none } } else c
    | none => c
  emptyPend c

/-! ### Commands and dispatch (R178–R183) -/

/-- The head of the queues is dispatched, or completes REFUSED without running (R179). -/
def dispatchNext (c : Chip) : Chip :=
  if c.doc.csHold then c
  else match popCommand c with
  | none => c
  | some (d, c) =>
    let op := wbits d.w0 24 8
    if op < 0x10 || !entryValid c op then showDoc (completeUnrun c d 5 0)
    else setCur c (some (freshRoutine c op d))

/-- DISPATCH (R179): with no routine running, the next command; or the word inside a routine (R173). -/
def dispatchRow (c : Chip) : Chip :=
  if docStopped c then c
  else match c.doc.cur with
  | none => dispatchNext c
  | some _ => seqRow c 6

/-- One pass of the idle loop (R182, R187): an urgent event first, then the next command. -/
def idlePass (c : Chip) : Chip :=
  if docStopped c then c
  else match c.doc.cur with
  | some _ => c
  | none => match nextUrgent c with
    | some op => takeUrgent c op
    | none => dispatchNext c

/-- A write is refused by the Docent (R203, R210). -/
def docReject (c : Chip) : Chip := raise (setB c DOC_STAT_cmd_reject true) srcDOC_CMD_REJECT 0

/-- Host commands queued or waiting for their E. -/
def hostQueued (c : Chip) : Nat := c.doc.hostQ.length + (c.doc.incoming.filter (fun e => e.1.source == 0)).length

/-- A write of DOC_CMD3 enqueues the command of the words last written at its E; a full queue or host_en = 0 refuses it in
the period of the write (R179). -/
def docCmdWrite (c : Chip) (v : W) : Chip :=
  hostChangeIf c (DOC_CMD 3) v
    (fun c => if !fldB c DOC_CTL_host_en || 8 ≤ hostQueued c then some (docReject (wr c (DOC_CMD 3) v)) else none)
    (fun c e =>
      let (d, c) := newDocCmd (wr c (DOC_CMD 3) v) (written c (DOC_CMD 0)) (written c (DOC_CMD 1)) (written c (DOC_CMD 2)) v 0
      { c with doc := { c.doc with incoming := c.doc.incoming ++ [(d, e)] } })

/-- A command enters its queue (R179); a customer command while a load is open completes REFUSED (R199). -/
def enqueueCmd (c : Chip) (d : DocCmd) : Chip :=
  if isCustomer (wbits d.w0 24 8) && fldB c DOC_CUST_CTL_load then completeUnrun c d 5 0
  else if d.source = 0 then showDoc { c with doc := { c.doc with hostQ := c.doc.hostQ ++ [d] } }
  else if d.source = 1 then { c with doc := { c.doc with prgQ := c.doc.prgQ ++ [d] } }
  else if d.source = 2 then { c with doc := { c.doc with curQ := c.doc.curQ ++ [d] } }
  else { c with doc := { c.doc with cnsQ := c.doc.cnsQ ++ [d] } }

/-- The commands whose E has come enter their queues (R179, R180). -/
def docCmdEnqueue (c : Chip) : Chip :=
  let now := c.doc.incoming.filter (fun e => due c e.2)
  let c := { c with doc := { c.doc with incoming := c.doc.incoming.filter (fun e => !due c e.2) } }
  now.foldl (fun c e => enqueueCmd c e.1) c

/-! ### The vendor routines (R182, R184, R185) -/

/-- One advance of APPLY by the microwords of R185: fetch, operation, end of the long operation, end of the wait, next
address. The second part: the routine goes on in this period. -/
def applyStep (c : Chip) (r : Routine) : Chip × Bool :=
  match r.phase with
  | .fetch =>
    match applyWords.find? (fun e => e.1 == r.pc) with
    | none => (c, false)
    | some e =>
      if mwIntr e.2 && (nextUrgent c).isSome then (atPoint c r c, false) else (takeWord c r e.2, true)
  | .issue => let x := applyOp c r; (issued x.1 x.2, true)
  | .long => (longEnd c, true)
  | .wait => if period c = r.waitP then (c, false) else (waitEnd c, true)
  | .next => (nextAddress c r, mwSeq r.word != 7)

/-- APPLY advances until it waits for a boundary or halts, at most `n` advances. -/
def applyLoop : Nat → Chip → Chip
  | 0, c => c
  | n + 1, c =>
    match c.doc.cur with
    | some r =>
      if r.opcode = 0x10 && r.cmd.source < 4 && !docStopped c then
        let x := applyStep c r
        if x.2 then applyLoop n x.1 else x.1
      else c
    | none => c

/-- APPLY (R184, R185). -/
def applyRoutine (c : Chip) : Chip := applyLoop 96 c

/-- The running routine is that of a vendor opcode at the start of a word, dispatched from a queue. -/
def vendorRun (c : Chip) (op : Nat) (f : Routine → Chip) : Chip :=
  withCur c (fun r => if r.opcode = op && r.phase == .fetch && r.cmd.source < 4 then f r else c)

/-- B of a step command (R184): the earliest, P + 3, with asap or where B lies before it; and whether it was moved. -/
def stepBoundary (c : Chip) (asap : Bool) (b : W) : W × Bool :=
  let early := period c + 3
  if asap then (early, false) else if pdiff b early < 0 then (early, true) else (b, false)

/-- A routine whose swap is scheduled waits, a period at a time, for every gallery's report; `k` follows (R185). -/
def awaitReport (c : Chip) (r : Routine) (k : Chip) : Chip := if period c != r.waitP && settledAll c then k else c

/-- The report of the step of the last swap or revert, as COLLECT forms it. -/
def collectLast (c : Chip) (revert moved : Bool) : Chip :=
  match c.doc.stepB with
  | some b => collect c b revert moved
  | none => c

/-- SET_TARGET (R182, R184): COPYP and SETT in place of APPLY's load, then as APPLY. -/
def setTarget (c : Chip) : Chip :=
  vendorRun c 0x12 (fun r =>
    if r.stage = 0 then
      atPoint c r (
        if epochHold c then endRoutine c r 3 0 false
        else
          let cell := wbits r.cmd.w1 0 13
          if 4607 < cell then faultRoutine c r
          else
            let b := stepBoundary c (wbit r.cmd.w1 16) r.cmd.w3
            let c := if b.2 && !r.movedTold then raise c srcDOC_B_MOVED 0 else c
            let r := { r with movedTold := r.movedTold || b.2 }
            let x := schedule (setPend (copyPend c) cell r.cmd.w2) r false (b.1 - 1)
            setCur x.1 (some (if x.2.swapOk then { x.2 with stage := 1, waitP := period c } else x.2)))
    else atPoint c r (awaitReport c r (halt (collectLast c false (bMoved r)) r)))

/-- SHAPE_SET (R182). -/
def shapeSetRoutine (c : Chip) : Chip :=
  vendorRun c 0x18 (fun r => halt (shapeSet c (wbits r.cmd.w1 0 6) (wbits r.cmd.w1 8 5) r.cmd.w2) r)

/-- SHAPE_RESTORE (R182). -/
def shapeRestoreRoutine (c : Chip) : Chip :=
  vendorRun c 0x19 (fun r => halt (shapeRestore c (wbits r.cmd.w1 0 6) (wbit r.cmd.w1 31)) r)

/-- RESET_ENTRY (R182): entered at reset release; the Docent turns to the idle loop. -/
def resetEntry (c : Chip) : Chip :=
  if c.doc.resetEntry && !docStopped c then setCur { c with doc := { c.doc with resetEntry := false } } none else c

/-- A routine that no queue gave, of opcode `op`. -/
def internalRun (c : Chip) (op : Nat) (f : Routine → Chip) : Chip :=
  withCur c (fun r => if r.opcode = op && 4 ≤ r.cmd.source then f r else c)

/-- URG_HOLD (R182): requests HOLD_ALL with lead 8. -/
def urgHold (c : Chip) : Chip := internalRun c 0x08 (fun r => halt (epochRequest c 1 8 (period c + 2)) r)

/-- URG_STOP (R182, R190): forces BACK for the interrupted routine. -/
def urgStop (c : Chip) : Chip :=
  internalRun c 0x09 (fun r =>
    halt { c with doc := { c.doc with forceBack := c.doc.forceBack || c.doc.saved.isSome } } r)

/-- ABORT_TAIL (R192): waits for the revert's report and collects it. -/
def abortTail (c : Chip) : Chip :=
  internalRun c 0x02 (fun r => if settledAll c then halt (collectLast c true false) r else c)

/-- The interrupted command completes from the handler, which halts (R190). -/
def handlerEnd (c : Chip) (s r : Routine) (status roll : Nat) : Chip :=
  let c := (complete c { s with roll := roll } status 0 (bMoved s)).1
  halt { c with doc := { c.doc with saved := none, forceBack := false } } r

/-- FORWARD before the swap (R190): the arrangement is loaded again and swaps with B = P + 3. -/
def forwardReload (c : Chip) (s r : Routine) : Chip :=
  let c := cancelSwap c s
  match residentEntry c (BitVec.ofNat 16 (wbits s.cmd.w1 0 16)) with
  | none => handlerEnd c s r 4 2
  | some e =>
    let x := entryOf c e
    if hdrCrcOk x.content && bodyCrcOk x.content then
      let b := period c + 3
      let moved := b != s.cmd.w2
      let y := schedule (fillPend c x) s false (b - 1)
      if y.2.swapOk then
        let c := if moved && !s.movedTold then raise y.1 srcDOC_B_MOVED 0 else y.1
        let c := { c with doc := { c.doc with saved := some { y.2 with movedTold := bMoved s || moved } } }
        setCur c (some { r with stage := 2, waitP := period c })
      else setCur y.1 (some r)
    else handlerEnd c s r 6 2

/-- The PARTIAL handler (R190): it resumes, carries forward or rolls back the interrupted command, by the policy of its
dispatch entry, or BACK after URG_STOP. An interrupted command that an abort has ended is dropped. -/
def partialHandler (c : Chip) : Chip :=
  internalRun c 0x0F (fun r =>
    match c.doc.saved with
    | none => halt { c with doc := { c.doc with forceBack := false } } r
    | some s =>
      if r.stage = 0 then
        let policy := if c.doc.forceBack then 2 else entryPolicy c s.opcode
        let step := entryStep c s.opcode
        if policy = 2 then
          if !step then handlerEnd c s r 7 3
          else if s.swap = 2 then
            let y := schedule c s true (period c + 1)
            let c := { y.1 with doc := { y.1.doc with saved := some y.2 } }
            setCur c (some { r with stage := if y.2.swapOk then 4 else 0, waitP := period c })
          else handlerEnd (cancelSwap c s) s r 7 3
        else if policy = 1 && step then
          if s.swap = 2 then setCur c (some { r with stage := 2, waitP := period c }) else forwardReload c s r
        else
          setCur { c with doc := { c.doc with saved := none } } (some { s with roll := 1 })
      else if r.stage = 4 then awaitReport c r (handlerEnd (collectLast c true (bMoved s)) s r 7 3)
      else awaitReport c r (handlerEnd (collectLast c false (bMoved s)) s r 1 2))

/-! ### Urgent requests (R186, R189) -/

/-- An urgent request waits for its E (R186). -/
def urgentWait (c : Chip) (op : Nat) (e : W) : Chip :=
  { c with doc := { c.doc with urgWait := c.doc.urgWait ++ [(op, e)] } }

/-- The opcode names an urgent routine that is valid (R186). -/
def urgentValid (c : Chip) (op : Nat) : Bool := decide (8 ≤ op) && decide (op ≤ 14) && entryValid c op

/-- A write of DOC_URG (R186): refused in the period of the write, or pending at its E. -/
def docUrgWrite (c : Chip) (v : W) : Chip :=
  let op := wbits v 0 8
  if reachable c DOC_URG && !urgentValid c op && (holdsLoan c || c.twn.applying) then docReject c
  else hostWrite c DOC_URG (fun c =>
    stateChangeAs c (toW DOC_URG) (.urgent (BitVec.ofNat 8 op)) (fun c e => urgentWait c op e))

/-- At its E an urgent request becomes pending (R186). -/
def urgPending (c : Chip) : Chip :=
  let now := c.doc.urgWait.filter (fun e => due c e.2)
  { c with doc := { c.doc with
      urgWait := c.doc.urgWait.filter (fun e => !due c e.2),
      urgPend := c.doc.urgPend ++ now.map (fun e => (e.1, period c)) } }

/-- An urgent event that has been pending for more than 16 periods raises DOC_URG_LATE, once (R189). -/
def docUrgLate (c : Chip) : Chip :=
  let late := c.doc.urgPend.filter (fun e => decide (16 < pdiff (period c) e.2) && !c.doc.urgTold.contains e)
  late.foldl (fun c e => raise { c with doc := { c.doc with urgTold := c.doc.urgTold ++ [e] } } srcDOC_URG_LATE 0) c

/-! ### Abort (R191, R192) -/

/-- A command carries the tag of an abort. -/
def hasTag (w : W) (d : DocCmd) : Bool := wbits d.w0 0 16 == wbits w 0 16

/-- The command an abort finds running: the current routine's, or the interrupted one while an urgent routine or a
handler runs (R191). -/
def runningCommand (c : Chip) : Option Routine :=
  match c.doc.cur, c.doc.saved with
  | some r, s => if r.cmd.source < 4 then some r else s
  | none, s => s

/-- The queued commands in dispatch order (R179, R191). -/
def queuedCommands (c : Chip) : List DocCmd := c.doc.prgQ ++ c.doc.curQ ++ c.doc.hostQ ++ c.doc.cnsQ

/-- A write of DOC_ABORT waits for its E; a second one is refused (R191). -/
def docAbortWrite (c : Chip) (v : W) : Chip :=
  hostChangeIf c DOC_ABORT v (fun c => if c.doc.abort.isSome then some (docReject c) else none) (fun c e =>
    let run_ := runningCommand c
    let named := if wbit v 31 then run_.isSome
      else (match run_ with | some r => hasTag v r.cmd | none => false) || (queuedCommands c).any (hasTag v)
    let a : DocAbort := ⟨v, e, named, run_.map (fun r => r.cmd.serial)⟩
    setB { c with doc := { c.doc with abort := some a } } DOC_STAT_abort_busy true)

/-- The result of an abort (R203). -/
def abortResult (c : Chip) (n : Nat) : Chip := setFld c DOC_STAT_abort_res n

/-- An abort takes effect on a running command (R192): before its swap the swap is cancelled, after it FORCE reverts at
this boundary and ABORT_TAIL follows. -/
def abortRunning (c : Chip) (r : Routine) : Chip :=
  let c := abortResult c 1
  let performed := r.swap == 2
  let c := if performed then revertTargets c else cancelSwap c r
  let b := period c + 1
  let r := { r with swap := 0 }
  let c := if performed then { c with doc := { c.doc with stepB := some b, tail := true, sched := none } } else c
  let x := complete c r 2 1 (bMoved r)
  match x.1.doc.cur with
  | some k =>
    if k.cmd.serial = r.cmd.serial && k.cmd.source < 4 then afterHalt (setCur x.1 none)
    else setB { x.1 with doc := { x.1.doc with saved := none } } DOC_STAT_partial false
  | none => setB { x.1 with doc := { x.1.doc with saved := none } } DOC_STAT_partial false

/-- A queued command is removed and completes ABORTED (R191). -/
def abortQueued (c : Chip) (d : DocCmd) : Chip :=
  let rm : List DocCmd → List DocCmd := fun l => l.filter (fun x => x.serial != d.serial)
  let c := { c with doc := { c.doc with
    prgQ := rm c.doc.prgQ, curQ := rm c.doc.curQ, hostQ := rm c.doc.hostQ, cnsQ := rm c.doc.cnsQ } }
  showDoc (completeUnrun (abortResult c 1) d 2 1)

/-- The waiting abort is resolved at its E, before a swap at the same boundary (R191, R192). -/
def abortResolve (c : Chip) : Chip :=
  match c.doc.abort with
  | none => c
  | some a =>
    if due c a.e then
      let c := setB { c with doc := { c.doc with abort := none } } DOC_STAT_abort_busy false
      let missed := abortResult c (if a.named then 2 else 3)
      if wbit a.word 31 then
        match runningCommand c with
        | some r => if a.running = some r.cmd.serial then abortRunning c r else missed
        | none => missed
      else
        let queued := match (queuedCommands c).find? (hasTag a.word) with
          | some d => abortQueued c d
          | none => missed
        match runningCommand c with
        | some r => if hasTag a.word r.cmd then abortRunning c r else queued
        | none => queued
    else c

/-- A routine that has run for more than run_limit periods is ended with FAULT (R199). -/
def runLimitExpiry (c : Chip) : Chip :=
  withCur c (fun r =>
    if fld c DOC_CTL_run_limit < r.periods then faultRoutine (setB c DOC_STAT_run_over true) r else c)

/-- The running routine counts a period (R199). -/
def countPeriod (c : Chip) : Chip :=
  { c with doc := { c.doc with cur := c.doc.cur.map (fun r => { r with periods := r.periods + 1 }) } }

/-! ### Customer recipes (R199, R200) -/

/-- A write of DOC_CUST_CTL at its E (R199, R209): commit starts the check of an open region, which stays open until the
check ends; load asks to open the region, and load = 0 without a commit closes it or withdraws the request (log
entry 84). -/
def custStore (c : Chip) (v : W) : Chip :=
  if wbit v 1 && fldB c DOC_CUST_CTL_load then setFld c DOC_CUST_STAT_result 3
  else if wbit v 0 then { c with doc := { c.doc with custWait := c.doc.custWait || !fldB c DOC_CUST_CTL_load } }
  else setB { c with doc := { c.doc with custWait := false } } DOC_CUST_CTL_load false

/-- A write of DOC_CUST_CTL (R199). -/
def custWrite (c : Chip) (v : W) : Chip := hostChangeNow c DOC_CUST_CTL v (fun c => custStore c v)

/-- A customer routine runs or is interrupted. -/
def customerRuns (c : Chip) : Bool :=
  (c.doc.cur.toList ++ c.doc.saved.toList).any (fun r => isCustomer r.opcode)

/-- The region opens when no customer routine runs; customer commands that are queued complete REFUSED (R199). -/
def custOpen (c : Chip) : Chip :=
  if c.doc.custWait && !customerRuns c then
    let isC : DocCmd → Bool := fun d => isCustomer (wbits d.w0 24 8)
    let gone := (queuedCommands c).filter isC
    let keep : List DocCmd → List DocCmd := fun l => l.filter (fun d => !isC d)
    let c := { c with doc := { c.doc with
      custWait := false, prgQ := keep c.doc.prgQ, curQ := keep c.doc.curQ, hostQ := keep c.doc.hostQ,
      cnsQ := keep c.doc.cnsQ } }
    showDoc (gone.foldl (fun c d => completeUnrun c d 5 0) (setB c DOC_CUST_CTL_load true))
  else c

/-- A write of the control store takes effect (R169, R199): in the customer region while it is open, in the vendor region and
the library until image commit; otherwise it is ignored with DOC_CMD_REJECT. -/
def csStore (c : Chip) (off : Nat) (v : W) : Chip :=
  if off / 16 < 0x2000 && (if 0x1800 ≤ off / 16 then fldB c DOC_CUST_CTL_load else !locked c) then csPut c (off / 4) v
  else docReject c

/-- A host write of the control-store window (R169, R199). -/
def csWrite (c : Chip) (off : Nat) (v : W) : Chip :=
  hostChangeNow c (0x2000000 + off) v (fun c => csStore c off v)

/-- A write of a dispatch entry takes effect (R181, R199): customer entries while the region is open; the others until image
commit. -/
def tableStore (c : Chip) (op : Nat) (v : W) : Chip :=
  let c' := setTableEntry c op (toW (v.toNat &&& 0xF0001FFF))
  if isCustomer op then (if fldB c DOC_CUST_CTL_load then c' else docReject c)
  else if locked c then c else c'

/-- The words of the customer region, by address. -/
def custWords (c : Chip) : List (Nat × Nat) := (List.range 0x800).map (fun i => (0x1800 + i, microAt c (0x1800 + i)))

/-- The CRC of a customer module (R199). -/
def custCrc (c : Chip) : Nat :=
  crc32c ((custWords c).flatMap (fun e => leBytes 16 e.2)
    ++ (List.range 64).flatMap (fun i => leBytes 4 (tableEntry c (0xC0 + i)).toNat))

/-- A word keeps its check byte (R200, rule 1). -/
def wordChecked (w : Nat) : Bool := withEcc w == w

/-- The first failing rule of R200 and its address; none if the region is accepted. -/
def custCheck (c : Chip) : Option (Nat × Nat) :=
  let ws := custWords c
  let bad : (Nat → Bool) → Option Nat := fun f => (ws.find? (fun e => f e.2)).map (fun e => e.1)
  let entries := (List.range 64).map (fun i => (0xC0 + i, tableEntry c (0xC0 + i)))
  match bad (fun w => !wordChecked w) with
  | some a => some (1, a)
  | none => match bad (fun w => [1, 4, 5].contains (mwSeq w) && decide (mwAddr w < 0x1800)) with
  | some a => some (2, a)
  | none => match bad (fun w => mwSeq w == 2 && decide (mwAddr w < 0x1700)) with
  | some a => some (3, a)
  | none => match bad (fun w => mwSeq w == 6 || !opListed (mwOp w) || (mwOp w == 1 && decide (8 < mwSub w))) with
  | some a => some (4, a)
  | none => match entries.find? (fun e => wbit e.2 31 && (decide (wbits e.2 0 13 < 0x1800) || wbits e.2 29 2 == 3)) with
  | some e => some (5, e.1)
  | none => if custCrc c != rn c DOC_CUST_CRC then some (6, 0) else none

/-- The check of the customer region ends (R199, R200): load is cleared and the result recorded. -/
def custDone (c : Chip) : Chip :=
  if fld c DOC_CUST_STAT_result = 3 then
    let r := custCheck c
    let c := setB c DOC_CUST_CTL_load false
    let c := { c with doc := { c.doc with custBad := r.isSome } }
    match r with
    | none => wr c DOC_CUST_STAT (toW (2 ^ 30))
    | some (k, a) => wr c DOC_CUST_STAT (toW (2 * 2 ^ 30 + k * 2 ^ 24 + a % 2 ^ 13))
  else c

/-! ### The host's completion records (R204) -/

/-- A host read of DOC_DONE0 takes the head record and latches its detail into DOC_DONE1 (R204). -/
def docDonePop (c : Chip) : Chip :=
  hostRead c DOC_DONE0 (fun c =>
    match c.doc.done with
    | [] => answer c 0
    | d :: t =>
      let c := showDone { c with doc := { c.doc with done := t } }
      let c := wr c DOC_DONE1 (toW (b2n d.bMoved * 2 ^ 31 + b2n d.partial_ * 2 ^ 30 + d.roll * 2 ^ 28 + d.abortRes * 2 ^ 26
        + d.stepTag))
      answer c d.word)

/-! ### The commands -/

/-- TARGET_SWAP (R164). -/
def execTargetSwap (s : State) : Host.Outcome State Fault Refusal := run s targetSwap

/-- TARGET_REVERT (R165). -/
def execTargetRevert (s : State) : Host.Outcome State Fault Refusal := run s targetRevert

/-- MICROWORD_FETCH (R170). -/
def execMicrowordFetch (s : State) : Host.Outcome State Fault Refusal := run s microFetch

/-- OP_NOP (R176). -/
def execOpNop (s : State) : Host.Outcome State Fault Refusal := run s (opRow · 0x00 (fun c r => (c, r)))

/-- ALU_ADD (R176). -/
def execAluAdd (s : State) : Host.Outcome State Fault Refusal := run s (aluRow · 0)

/-- ALU_SUBTRACT (R176). -/
def execAluSubtract (s : State) : Host.Outcome State Fault Refusal := run s (aluRow · 1)

/-- ALU_AND (R176). -/
def execAluAnd (s : State) : Host.Outcome State Fault Refusal := run s (aluRow · 2)

/-- ALU_OR (R176). -/
def execAluOr (s : State) : Host.Outcome State Fault Refusal := run s (aluRow · 3)

/-- ALU_XOR (R176). -/
def execAluXor (s : State) : Host.Outcome State Fault Refusal := run s (aluRow · 4)

/-- ALU_SHIFT_LEFT (R176). -/
def execAluShiftLeft (s : State) : Host.Outcome State Fault Refusal := run s (aluRow · 5)

/-- ALU_SHIFT_RIGHT (R176). -/
def execAluShiftRight (s : State) : Host.Outcome State Fault Refusal := run s (aluRow · 6)

/-- ALU_MOVE (R176). -/
def execAluMove (s : State) : Host.Outcome State Fault Refusal := run s (aluRow · 7)

/-- ALU_COMPARE (R176). -/
def execAluCompare (s : State) : Host.Outcome State Fault Refusal := run s (aluRow · 8)

/-- LDS (R176). -/
def execLds (s : State) : Host.Outcome State Fault Refusal := run s (opRow · 0x02 opLds)

/-- STS (R176). -/
def execSts (s : State) : Host.Outcome State Fault Refusal := run s (opRow · 0x03 opSts)

/-- GETP (R176). -/
def execGetp (s : State) : Host.Outcome State Fault Refusal := run s (opRow · 0x06 opGetp)

/-- LOOKUP (R176). -/
def execLookup (s : State) : Host.Outcome State Fault Refusal := run s (opRow · 0x08 opLookup)

/-- LOADT (R176). -/
def execLoadt (s : State) : Host.Outcome State Fault Refusal := run s (opRow · 0x09 opLoadt)

/-- SWAPAT (R176). -/
def execSwapat (s : State) : Host.Outcome State Fault Refusal := run s (opRow · 0x0A opSwapat)

/-- REVERT (R176). -/
def execRevert (s : State) : Host.Outcome State Fault Refusal := run s (opRow · 0x0B opRevert)

/-- COPYP (R176). -/
def execCopyp (s : State) : Host.Outcome State Fault Refusal := run s (opRow · 0x0C opCopyp)

/-- SHAPE (R176). -/
def execShape (s : State) : Host.Outcome State Fault Refusal := run s (opRow · 0x10 opShape)

/-- SHRST (R176). -/
def execShrst (s : State) : Host.Outcome State Fault Refusal := run s (opRow · 0x11 opShrst)

/-- COLLECT (R176). -/
def execCollect (s : State) : Host.Outcome State Fault Refusal := run s (opRow · 0x14 opCollect)

/-- EPOCH (R176). -/
def execEpoch (s : State) : Host.Outcome State Fault Refusal := run s (opRow · 0x15 opEpoch)

/-- EVT (R176). -/
def execEvt (s : State) : Host.Outcome State Fault Refusal := run s (opRow · 0x18 opEvt)

/-- DONE (R176). -/
def execDocDone (s : State) : Host.Outcome State Fault Refusal := run s (opRow · 0x19 opDone)

/-- SETT (R176). -/
def execSett (s : State) : Host.Outcome State Fault Refusal := run s settRow

/-- LONG_OP_END (R172). -/
def execLongOpEnd (s : State) : Host.Outcome State Fault Refusal := run s longEnd

/-- SEQ_NEXT (R173). -/
def execSeqNext (s : State) : Host.Outcome State Fault Refusal := run s (seqRow · 0)

/-- JUMP (R173). -/
def execJump (s : State) : Host.Outcome State Fault Refusal := run s (seqRow · 1)

/-- CALL (R173). -/
def execCall (s : State) : Host.Outcome State Fault Refusal := run s (seqRow · 2)

/-- RET (R173). -/
def execRet (s : State) : Host.Outcome State Fault Refusal := run s (seqRow · 3)

/-- BRT (R173). -/
def execBrt (s : State) : Host.Outcome State Fault Refusal := run s (seqRow · 4)

/-- BRF (R173). -/
def execBrf (s : State) : Host.Outcome State Fault Refusal := run s (seqRow · 5)

/-- HALT (R173). -/
def execHalt (s : State) : Host.Outcome State Fault Refusal := run s (seqRow · 7)

/-- DISPATCH (R179). -/
def execDispatchCmd (s : State) : Host.Outcome State Fault Refusal := run s dispatchRow

/-- PERIOD_WAIT_END (R172). -/
def execPeriodWaitEnd (s : State) : Host.Outcome State Fault Refusal := run s waitEnd

/-- DOC_CMD_ENQUEUE (R179). -/
def execDocCmdEnqueue (s : State) : Host.Outcome State Fault Refusal := run s docCmdEnqueue

/-- APPLY (R184). -/
def execApply (s : State) : Host.Outcome State Fault Refusal := run s applyRoutine

/-- SET_TARGET (R182). -/
def execSetTarget (s : State) : Host.Outcome State Fault Refusal := run s setTarget

/-- SHAPE_SET (R182). -/
def execShapeSet (s : State) : Host.Outcome State Fault Refusal := run s shapeSetRoutine

/-- SHAPE_RESTORE (R182). -/
def execShapeRestore (s : State) : Host.Outcome State Fault Refusal := run s shapeRestoreRoutine

/-- RESET_ENTRY (R182). -/
def execResetEntry (s : State) : Host.Outcome State Fault Refusal := run s resetEntry

/-- IDLE (R182, R187). -/
def execIdleLoop (s : State) : Host.Outcome State Fault Refusal := run s idlePass

/-- ABORT_TAIL (R192). -/
def execAbortTail (s : State) : Host.Outcome State Fault Refusal := run s abortTail

/-- URG_HOLD (R182). -/
def execUrgHold (s : State) : Host.Outcome State Fault Refusal := run s urgHold

/-- URG_STOP (R190). -/
def execUrgStop (s : State) : Host.Outcome State Fault Refusal := run s urgStop

/-- PARTIAL (R190). -/
def execPartialHandler (s : State) : Host.Outcome State Fault Refusal := run s partialHandler

/-- URG_PENDING (R186). -/
def execUrgPending (s : State) : Host.Outcome State Fault Refusal := run s urgPending

/-- DOC_URG_LATE (R189). -/
def execDocUrgLate (s : State) : Host.Outcome State Fault Refusal := run s docUrgLate

/-- ABORT_RESOLVE (R192). -/
def execAbortResolve (s : State) : Host.Outcome State Fault Refusal := run s abortResolve

/-- RUN_LIMIT_EXPIRY (R199). -/
def execRunLimitExpiry (s : State) : Host.Outcome State Fault Refusal := run s runLimitExpiry

/-- CUST_REGION_OPEN (R199). -/
def execCustRegionOpen (s : State) : Host.Outcome State Fault Refusal := run s custOpen

/-- CUST_CHECK_DONE (R200). -/
def execCustCheckDone (s : State) : Host.Outcome State Fault Refusal := run s custDone

/-- DOC_DONE_POP (R204). -/
def execDocDonePop (s : State) : Host.Outcome State Fault Refusal := run s docDonePop

/-- DOC_CMD_WRITE (R179). -/
def execDocCmdWrite (v : W) (s : State) : Host.Outcome State Fault Refusal := run s (docCmdWrite · v)

/-- DOC_URG_WRITE (R186). -/
def execDocUrgWrite (v : W) (s : State) : Host.Outcome State Fault Refusal := run s (docUrgWrite · v)

/-- DOC_ABORT (R191). -/
def execDocAbort (v : W) (s : State) : Host.Outcome State Fault Refusal := run s (docAbortWrite · v)

/-- CUST_LOAD (R199): a write of DOC_CUST_CTL with load set. -/
def execCustLoad (v : W) (s : State) : Host.Outcome State Fault Refusal := run s (custWrite · (v ||| 1))

/-- CUST_COMMIT (R199): a write of DOC_CUST_CTL with commit set. -/
def execCustCommit (v : W) (s : State) : Host.Outcome State Fault Refusal := run s (custWrite · (v ||| 2))

/-- CONTROL_STORE_WRITE (R199). -/
def execControlStoreWrite (off : BitVec 17) (v : W) (s : State) : Host.Outcome State Fault Refusal :=
  run s (csWrite · off.toNat v)

end Sys2Proof.Machine
end

