-- ==== Sys2Proof/Machine/Router.lean ====
section
/-! DEFINITION. The Curator's router: constraints, looping, centre repair, trials, repair rounds and drops
(R271–R280). Cells are named by their logical index, stage × cells per stage + row. -/

namespace Sys2Proof.Machine

/-! ### Constraints and references (R271, R272) -/

/-- A cell's constraint (R272). -/
inductive Con where
  | free | closed
  | fixed (state : Nat)
  deriving DecidableEq, Repr

/-- The constraint of a mapped cell (R272): closed first, then stuck, then HOLD. Marks and held states are physical
(R30). -/
def conOf (c : Chip) (i : Nat) (m : MapCell) : Con :=
  let x := getCell c i
  if x.inv.stuck = 3 || x.mode == .off || !cellLive c i then .closed
  else if x.inv.stuck = 1 || x.inv.stuck = 2 then .fixed (physState m.mirror (x.inv.stuck - 1))
  else if x.mode == .hold && decide (x.held < 2) then .fixed (physState m.mirror x.held)
  else .free

/-- The constrained cells by logical index, at the start of a route (R272). -/
def conMap (c : Chip) (t : Topo) : List (Nat × Con) :=
  t.cells.foldl (fun m e => mapWrite (fun _ => Con.free) m e.2.logical (conOf c e.1 e.2)) []

/-- The reference of a route (R271): the logical states, 2 standing for none, the permutation and the target words by
physical cell. -/
structure RouteRef where
  states : List (Nat × Nat)
  perm : List Nat
  words : List W
  deriving DecidableEq, Repr

/-- No reference. -/
def RouteRef.none : RouteRef := ⟨[], List.replicate 512 0x3FF, []⟩

/-- The arrangement as a reference (R271). -/
def refOfArr (t : Topo) (l : List Byte) : RouteRef :=
  let ws := arrTargets l
  ⟨t.cells.foldl (fun m e =>
      let s := targetOf (nth 2 ws e.1) % 4
      mapWrite (fun _ => 2) m e.2.logical (if s < 2 then physState e.2.mirror s else 2)) [],
    permEntries (arrPerm l), ws⟩

/-- A path by cell, input side and output side (R36–R39). -/
def Topo.sides (t : Topo) (st : Nat → Nat) : Nat → Nat → Nat → List (Nat × Nat × Nat)
  | 0, _, _ => []
  | k + 1, s, w =>
    let l := s * t.cellsPerStage + w / 2
    let o := stageOut w (st l)
    (l, w % 2, o % 2) :: t.sides st k (s + 1) (t.wire o s)

/-- What a route is taken from: the permutation, the reference, the common circuits with their reference paths (R271)
and the constraints (R272). -/
structure RouteIn where
  topo : Topo
  perm : List Nat
  ref : RouteRef
  common : List Nat
  paths : List (Nat × List (Nat × Nat × Nat))
  con : List (Nat × Con)

/-- The reference state of a cell. -/
def RouteIn.refState (r : RouteIn) (l : Nat) : Nat := mapRead (fun _ => 2) r.ref.states l

/-- The constraint of a cell. -/
def RouteIn.conAt (r : RouteIn) (l : Nat) : Con := mapRead (fun _ => Con.free) r.con l

/-- The start of a route: common circuits are those that reach the same output in both (R271). -/
def routeIn (t : Topo) (con : List (Nat × Con)) (ref : RouteRef) (perm : List Nat) : RouteIn :=
  let st := fun l => mapRead (fun _ => 2) ref.states l
  let common := (List.range t.ports).filter (fun p => nth 0x3FF perm p != 0x3FF && nth 0x3FF ref.perm p == nth 0x3FF perm p)
  let paths := common.filterMap (fun p =>
    let path := t.sides st t.stages 0 p
    if path.all (fun e => decide (st e.1 < 2)) then some (p, path) else none)
  ⟨t, perm, ref, common, paths, con⟩

/-! ### Looping (R274, R275) -/

/-- A connection of a subnetwork: input position a to output position b, for an input port. -/
structure Conn where
  a : Nat
  b : Nat
  port : Nat
  deriving DecidableEq, Repr

/-- Two connections are mates (R274). -/
def Conn.mates (x y : Conn) : Bool := x.a / 2 == y.a / 2 || x.b / 2 == y.b / 2

/-- A routed subnetwork (R274): a centre cell, or connections with the subnetwork each takes. -/
inductive Net where
  | centre (conns : List Conn)
  | node (conns : List (Conn × Nat)) (upper lower : Net)
  deriving Repr

/-- The component that grows from the connections of `stack`, each with its parity to the anchor (R274): the component
and the connections left. -/
def component : Nat → List (Conn × Nat) → List Conn → List (Conn × Nat) × List Conn
  | 0, stack, rest => (stack, rest)
  | _ + 1, [], rest => ([], rest)
  | n + 1, x :: stack, rest =>
    let mates := rest.filter (fun y => x.1.mates y)
    let r := component n (stack ++ mates.map (fun y => (y, 1 - x.2))) (rest.filter (fun y => !x.1.mates y))
    (x :: r.1, r.2)

/-- The components of connections in ascending order of a: in ascending order of anchor (R274). -/
def components : Nat → List Conn → List (List (Conn × Nat))
  | 0, _ => []
  | _ + 1, [] => []
  | n + 1, x :: rest =>
    let r := component (rest.length + 1) [(x, 0)] rest
    r.1 :: components n r.2

/-- Connections in ascending order of input position. -/
def byInput (l : List Conn) : List Conn := (l.foldl (fun m x => mapPut m x.a x) []).map (fun e => e.2)

/-- Logical index of the cell of stage `s` that position `pos` of a subnetwork at base row `r0` meets. -/
def RouteIn.cellAt (r : RouteIn) (s r0 pos : Nat) : Nat := s * r.topo.cellsPerStage + r0 + pos / 2

/-- The first and the last stage of the subnetworks of level `d` (R39, R274). -/
def RouteIn.firstStage (r : RouteIn) (d : Nat) : Nat := r.topo.extra + d
def RouteIn.lastStage (r : RouteIn) (d : Nat) : Nat := r.topo.extra + 2 * r.topo.bits - 2 - d

/-- The outer cells a component touches, each with its state under orientation 0. -/
def RouteIn.touched (r : RouteIn) (d r0 : Nat) (comp : List (Conn × Nat)) : List (Nat × Nat) :=
  comp.foldl (fun m e =>
    mapPut (mapPut m (r.cellAt (r.firstStage d) r0 e.1.a) ((e.1.a + e.2) % 2))
      (r.cellAt (r.lastStage d) r0 e.1.b) ((e.1.b + e.2) % 2)) []

/-- The common circuits of a component that keep their reference subnetwork under orientation `o` (R275): the reference
path leaves a first-stage cell of this subnetwork, whichever one it is, to the same of its two subnetworks. -/
def RouteIn.kept (r : RouteIn) (d r0 o : Nat) (comp : List (Conn × Nat)) : Nat :=
  let first := r.cellAt (r.firstStage d) r0 0
  let rows := 2 ^ (r.topo.bits - d - 1)
  (comp.filter (fun e => match mapGet r.paths e.1.port with
    | some path => path.any (fun x => decide (first ≤ x.1) && decide (x.1 < first + rows) && x.2.2 == (o + e.2) % 2)
    | none => false)).length

/-- The score of orientation `o` (R275, item 3). -/
def RouteIn.score (r : RouteIn) (d r0 o : Nat) (comp : List (Conn × Nat)) : Nat :=
  1024 * r.kept d r0 o comp
    + ((r.touched d r0 comp).filter (fun e => r.refState e.1 == (e.2 + o) % 2)).length

/-- The orientation of a component (R275): that of the lowest fixed cell it touches, else the higher score, a tie
going to 0. -/
def RouteIn.orient (r : RouteIn) (d r0 : Nat) (comp : List (Conn × Nat)) : Nat :=
  match (r.touched d r0 comp).filterMap (fun e => match r.conAt e.1 with
      | .fixed s => some ((e.2 + s) % 2)
      | _ => none) with
  | o :: _ => o
  | [] => if r.score d r0 0 comp < r.score d r0 1 comp then 1 else 0

/-- The connections that pass into subnetwork `u` (R274). -/
def intoSub (u : Nat) (l : List (Conn × Nat)) : List Conn :=
  (l.filter (fun e => e.2 == u)).map (fun e => ⟨e.1.a / 2, e.1.b / 2, e.1.port⟩)

/-- Recursive looping of a subnetwork of 2^(k + 1) wires at level `d`, whose wires begin at `base` of its plane, the
plane's rows at `prow` (R274, R275). -/
def RouteIn.loopNet (r : RouteIn) (prow : Nat) : Nat → Nat → Nat → List Conn → Net
  | 0, _, _, conns => .centre conns
  | k + 1, d, base, conns =>
    let l := byInput conns
    let oriented := (components l.length l).flatMap (fun comp =>
      let o := r.orient d (prow + base / 2) comp
      comp.map (fun e => (e.1, (o + e.2) % 2)))
    .node oriented (r.loopNet prow k (d + 1) base (intoSub 0 oriented))
      (r.loopNet prow k (d + 1) (base + 2 ^ (k + 1)) (intoSub 1 oriented))

/-- One crossing of a cell by a circuit: the cell, its state, the input port. -/
structure Crossing where
  cell : Nat
  state : Nat
  port : Nat
  deriving DecidableEq, Repr

/-- The crossings of a routed subnetwork (R274, R275). -/
def RouteIn.walk (r : RouteIn) (prow : Nat) : Net → Nat → Nat → Nat → List Crossing
  | .centre conns, _, d, base =>
    conns.map (fun x => ⟨r.cellAt (r.firstStage d) (prow + base / 2) 0, (x.a + x.b) % 2, x.port⟩)
  | .node conns up lo, k, d, base =>
    conns.flatMap (fun e =>
        [⟨r.cellAt (r.firstStage d) (prow + base / 2) e.1.a, (e.2 + e.1.a) % 2, e.1.port⟩,
         ⟨r.cellAt (r.lastStage d) (prow + base / 2) e.1.b, (e.2 + e.1.b) % 2, e.1.port⟩])
      ++ r.walk prow up (k - 1) (d + 1) base ++ r.walk prow lo (k - 1) (d + 1) (base + 2 ^ k)

/-! ### One routing of one plane (R273–R276) -/

/-- One routing of one plane: the extra stage, the looping, the crossings, and the violated cells with their cause
(R279). -/
structure Routed where
  extra : List (Nat × Nat)
  net : Net
  crossings : List Crossing
  viol : List (Nat × Nat)

/-- The state a crossed cell takes; 2 where no circuit crosses it. -/
def Routed.stateAt (x : Routed) (l : Nat) : Nat :=
  match x.crossings.find? (fun e => e.cell == l) with
  | some e => e.state
  | none => 2

/-- The cells an input port's circuit crosses. -/
def Routed.pathOf (x : Routed) (p : Nat) : List Nat := (x.crossings.filter (fun e => e.port == p)).map (fun e => e.cell)

/-- The input ports whose circuits cross a cell, ascending. -/
def portsAcross (x : List Crossing) (l : Nat) : List Nat :=
  (((x.filter (fun e => e.cell == l)).foldl (fun m e => mapPut m e.port ()) []).map (fun e => e.1))

/-- The violated cells of a set of crossings, ascending, with their causes: 1 fixed cells in conflict, 2 a closed cell,
3 a centre cell (R275, R279). -/
def RouteIn.violated (r : RouteIn) (x : List Crossing) : List (Nat × Nat) :=
  let cells := x.foldl (fun m e => mapPut m e.cell e.state) []
  cells.filterMap (fun e => match r.conAt e.1 with
    | .free => none
    | .closed => some (e.1, 2)
    | .fixed s =>
      if s = e.2 then none
      else some (e.1, if e.1 / r.topo.cellsPerStage = r.firstStage (r.topo.bits - 1) then 3 else 1))

/-- The first row of plane `j` (R38). -/
def RouteIn.planeRow (r : RouteIn) (j : Nat) : Nat := j * r.topo.planePorts / 2

/-- The connections of plane `j` at the Beneš part: each input port moved to the wire it reaches through the extra
stage (R273). -/
def RouteIn.entries (r : RouteIn) (j : Nat) (extra : List (Nat × Nat)) : List Conn :=
  let p0 := j * r.topo.planePorts
  (List.range r.topo.planePorts).filterMap (fun i =>
    let p := p0 + i
    let q := nth 0x3FF r.perm p
    if q = 0x3FF then none
    else
      let a := if r.topo.extra = 1 then r.topo.wire (stageOut p (mapRead (fun _ => 0) extra (p / 2))) 0 - p0 else i
      some ⟨a, q - p0, p⟩)

/-- The crossings of the extra stage and of the Beneš part. -/
def RouteIn.derive (r : RouteIn) (j : Nat) (extra : List (Nat × Nat)) (net : Net) : Routed :=
  let own := if r.topo.extra = 1 then
      (r.entries j extra).map (fun x => ⟨x.port / 2, mapRead (fun _ => 0) extra (x.port / 2), x.port⟩)
    else []
  let l := own ++ r.walk (r.planeRow j) net (r.topo.bits - 1) 0 0
  ⟨extra, net, l, r.violated l⟩

/-- A node with the orientation of every component exchanged: the connections take the other subnetwork (R276). -/
def otherWay (l : List (Conn × Nat)) : List (Conn × Nat) := l.map (fun e => (e.1, 1 - e.2))

/-- The subnetworks on the way to the centre cell of row `z` are swapped where `sw` says so, `k` levels being left
(R276). -/
def Net.swapAlong (z : Nat) (sw : Nat → Bool) : Net → Nat → Net
  | .centre l, _ => .centre l
  | .node l up lo, k =>
    if z / 2 ^ (k - 1) % 2 = 0 then
      (if sw k then .node (otherWay l) (lo.swapAlong z sw (k - 1)) up else .node l (up.swapAlong z sw (k - 1)) lo)
    else
      (if sw k then .node (otherWay l) lo (up.swapAlong z sw (k - 1)) else .node l up (lo.swapAlong z sw (k - 1)))

/-- The node with `k` levels left on the way to row `z` holds no fixed or closed cell apart from `cell` (R276). -/
def RouteIn.mayspan (r : RouteIn) (j z cell k : Nat) : Bool :=
  let d := r.topo.bits - 1 - k
  let lo := z / 2 ^ k * 2 ^ k + r.planeRow j
  r.con.all (fun e =>
    let s := e.1 / r.topo.cellsPerStage
    let row := e.1 % r.topo.cellsPerStage
    e.1 == cell || !(decide (r.firstStage d ≤ s) && decide (s ≤ r.lastStage d) && decide (lo ≤ row) && decide (row < lo + 2 ^ k)))

/-- The levels at which the ways to two centre rows differ, given as the levels left (R276). -/
def differ (n z y : Nat) : List Nat := ((List.range n).map (· + 1)).filter (fun k => z / 2 ^ (k - 1) % 2 != y / 2 ^ (k - 1) % 2)

/-- Repair of one violated centre cell (R276): the nearest centre cell of the required state brings its connections; none
qualifying, nothing changes. -/
def RouteIn.repair (r : RouteIn) (j : Nat) (x : Routed) (cell : Nat) : Routed :=
  match r.conAt cell with
  | .fixed s =>
    let n := r.topo.bits - 1
    let centre := r.firstStage n * r.topo.cellsPerStage + r.planeRow j
    let z := cell - centre
    if x.stateAt cell = s then x
    else
      let cands := (List.range (r.topo.planePorts / 2)).filter (fun y =>
        y != z && x.stateAt (centre + y) == s && (differ n z y).all (fun k => r.mayspan j z cell k))
      let least := cands.foldl (fun m y => min m (differ n z y).length) (n + 1)
      match cands.find? (fun y => (differ n z y).length == least) with
      | some y => r.derive j x.extra (x.net.swapAlong z (fun k => (differ n z y).contains k) n)
      | none => x
  | _ => x

/-- Plane `j` routed once with a setting of the extra stage: looping, then the repair of its violated centre cells in
order (R275, R276). -/
def RouteIn.routePlane (r : RouteIn) (j : Nat) (extra : List (Nat × Nat)) : Routed :=
  let x := r.derive j extra (r.loopNet (r.planeRow j) (r.topo.bits - 1) 0 0 (r.entries j extra))
  ((x.viol.filter (fun e => e.2 == 3)).map (fun e => e.1)).foldl (fun x cell => r.repair j x cell) x

/-! ### Trials and repair rounds (R277) -/

/-- X_0 of a plane (R273): a fixed cell's state, else the reference state, else BAR. Cells of stage 0 have their row as
index. -/
def RouteIn.firstExtra (r : RouteIn) (j : Nat) : List (Nat × Nat) :=
  if r.topo.extra = 0 then []
  else (List.range (r.topo.planePorts / 2)).foldl (fun m i =>
    let l := r.planeRow j + i
    let s := match r.conAt l with
      | .fixed s => s
      | _ => if r.refState l = 1 then 1 else 0
    mapWrite (fun _ => 0) m l s) []

/-- A setting of the extra stage with some cells flipped. -/
def flipped (extra : List (Nat × Nat)) (cells : List Nat) : List (Nat × Nat) :=
  cells.foldl (fun m l => mapWrite (fun _ => 0) m l (1 - mapRead (fun _ => 0) m l)) extra

/-- Trials 1–3 (R277): the sets of extra-stage cells to flip for the first violated cell `z`; a trial whose cell is not
free is skipped, and so is the third where both circuits enter through one cell. -/
def RouteIn.trials (r : RouteIn) (x : Routed) (z : Nat) : List (Nat × List Nat) :=
  let sets := match portsAcross x.crossings z with
    | q1 :: q2 :: _ => [(1, [q1 / 2]), (2, [q2 / 2])] ++ (if q1 / 2 = q2 / 2 then [] else [(3, [q1 / 2, q2 / 2])])
    | [q1] => [(1, [q1 / 2])]
    | [] => []
  sets.filter (fun e => e.2.all (fun l => r.conAt l == .free))

/-- The kept trial of a plane and its number (R277). -/
def RouteIn.tryPlane (r : RouteIn) (j : Nat) : Routed × Nat :=
  let x := r.routePlane j (r.firstExtra j)
  match x.viol with
  | [] => (x, 0)
  | (z, _) :: _ =>
    if r.topo.extra = 0 then (x, 0)
    else
      let outs := (r.trials x z).map (fun t => (r.routePlane j (flipped x.extra t.2), t.1))
      match outs.find? (fun o => o.1.viol.isEmpty) with
      | some o => o
      | none => (x, 0)

/-- A common circuit is hitless: no cell on its path changes state (R277). -/
def RouteIn.hitless (r : RouteIn) (x : Routed) (p : Nat) : Bool :=
  (x.pathOf p).all (fun l => r.refState l == x.stateAt l)

/-- The common circuits of a plane that are not hitless, ascending. -/
def RouteIn.brokenIn (r : RouteIn) (j : Nat) (x : Routed) : List Nat :=
  r.common.filter (fun p => r.topo.plane p == j && !r.hitless x p)

/-- The candidates of port `p` (R277): free extra-stage cells that carry circuits, none of them common, all in p's
component at the first Beneš level, by rising row. -/
def RouteIn.candidates (r : RouteIn) (j : Nat) (x : Routed) (p : Nat) : List Nat :=
  let l := byInput (r.entries j x.extra)
  let own := match (components l.length l).find? (fun comp => comp.any (fun (e : Conn × Nat) => e.1.port == p)) with
    | some comp => comp.map (fun (e : Conn × Nat) => e.1.port)
    | none => []
  ((List.range (r.topo.planePorts / 2)).map (fun i => r.planeRow j + i)).filter (fun row =>
    let ps := [2 * row, 2 * row + 1].filter (fun q => nth 0x3FF r.perm q != 0x3FF)
    r.conAt row == .free && !ps.isEmpty && !ps.any r.common.contains && ps.all own.contains)

/-- The repair rounds of one port (R277): the route, the rounds tried and those kept. -/
def RouteIn.roundsFor (r : RouteIn) (j : Nat) (st : Routed × Nat × Nat) (p : Nat) : Routed × Nat × Nat :=
  if (r.brokenIn j st.1).contains p && decide (st.2.1 < 4) then
    (r.candidates j st.1 p).foldl (fun st row =>
      if 4 ≤ st.2.1 then st
      else
        let y := r.routePlane j (flipped st.1.extra [row])
        if y.viol.isEmpty && decide ((r.brokenIn j y).length < (r.brokenIn j st.1).length) then
          (y, st.2.1 + 1, st.2.2 + 1)
        else (st.1, st.2.1 + 1, st.2.2)) st
  else st

/-- A plane routed (R277), `tried` repair rounds of the route being spent: the route, the trial kept, the rounds tried by now
and those kept. -/
def RouteIn.planeResult (r : RouteIn) (j tried : Nat) : Routed × Nat × Nat × Nat :=
  let t := r.tryPlane j
  if t.1.viol.isEmpty && r.topo.extra == 1 then
    let st := r.common.foldl (fun st p => if r.topo.plane p = j then r.roundsFor j st p else st) (t.1, tried, 0)
    (st.1, t.2, st.2)
  else (t.1, t.2, tried, 0)

/-- The planes of a route in order (R273): its four repair rounds go to the lowest ports first (R277). -/
def RouteIn.planeResults (r : RouteIn) : List (Routed × Nat × Nat × Nat) :=
  ((List.range (max 1 r.topo.planes)).foldl (fun st j =>
    let x := r.planeResult j st.2
    (st.1 ++ [x], x.2.2.1)) (([] : List (Routed × Nat × Nat × Nat)), 0)).1

/-! ### The whole route (R273, R279, R294) -/

/-- A route's result: the state of every cell with a circuit by logical index, the permutation after drops, the first
violation as cell, cause and lowest affected port, and the counts of R294. -/
structure RouteOut where
  states : List (Nat × Nat)
  perm : List Nat
  violation : Option (Nat × Nat × Nat)
  trial : Nat
  rounds : Nat
  circuits : Nat
  dropped : Nat
  broken : Nat
  deriving DecidableEq, Repr

/-- One permutation routed on the topology (R271–R279); `drop`: circuits through violated cells are made unassigned. -/
def route (r : RouteIn) (drop : Bool) : RouteOut :=
  let planes := r.planeResults
  let all := planes.flatMap (fun e => e.1.crossings)
  let viol : List (Nat × Nat) := (planes.flatMap (fun e => e.1.viol)).foldl (fun m e => mapPut m e.1 e.2) []
  let bad : List (Nat × Unit) := (viol.flatMap (fun e => portsAcross all e.1)).foldl (fun m p => mapPut m p ()) []
  let out := if drop then bad.map (fun e => e.1) else []
  let left := all.filter (fun e => !out.contains e.port)
  let states := left.foldl (fun m e => mapPut m e.cell e.state) []
  let perm := ((List.range 512).zip r.perm).map (fun e => if out.contains e.1 then 0x3FF else e.2)
  let ok := fun p => ((left.filter (fun e => e.port == p)).all (fun e => r.refState e.cell == e.state))
  { states := states, perm := perm,
    violation := match viol, bad with
      | (z, cause) :: _, (p, _) :: _ => some (z, cause, p)
      | _, _ => none
    trial := planes.foldl (fun m e => max m e.2.1) 0, rounds := (planes.map (fun e => e.2.2.2)).sum,
    circuits := (perm.filter (fun q => q != 0x3FF)).length, dropped := out.length,
    broken := (r.common.filter (fun p => !out.contains p && !ok p)).length }

/-- The status of a route (R279, R287): 1 OK, 2 DEGRADED, 3 UNROUTABLE. -/
def RouteOut.status (o : RouteOut) (drop : Bool) : Nat := if o.violation.isNone then 1 else if drop then 2 else 3

end Sys2Proof.Machine
end

