-- ==== Sys2Proof/Machine/Curator.lean ====
section
/-! DEFINITION. The Curator: modes, demand, matching, the epoch programme, compilation, its commands and their records
(R257–R295). -/

namespace Sys2Proof.Machine

/-! ### Status (R287, R291, R293) -/

/-- The mode in force (R257): 0 OFF, 1 ROUTER, 2 AUTO. -/
def curMode (c : Chip) : Nat := fld c CUR_STAT_mode

/-- The word of a completion record, and its detail (R293). -/
def CurDone.word (d : CurDone) : W := toW (d.cmd * 2 ^ 24 + d.status * 2 ^ 16 + d.tag)
def CurDone.detail (d : CurDone) : W :=
  toW (d.arrId * 2 ^ 16 + d.docStatus * 2 ^ 12 + min 63 d.dropped * 2 ^ 6 + min 63 d.broken)

/-- CUR_STAT and CUR_DONE0 show the queues and whether the Curator works (R291). -/
def showCur (c : Chip) : Chip :=
  let u := c.cur
  let busy := u.job.isSome || u.todo.isSome || !u.writes.isEmpty || !u.script.isEmpty
  let c := setFld (setFld (setB c CUR_STAT_busy busy) CUR_STAT_done_depth u.done.length) CUR_STAT_cmd_depth u.queue.length
  wr c CUR_DONE0 (match u.done with | d :: _ => d.word | [] => 0)

/-- A completion record is queued (R287): one that meets a full queue replaces the oldest. -/
def curComplete (c : Chip) (d : CurDone) : Chip :=
  if c.cur.done.length < 16 then showCur { c with cur := { c.cur with done := c.cur.done ++ [d] } }
  else showCur (setB { c with cur := { c.cur with done := c.cur.done.drop 1 ++ [d] } } CUR_STAT_done_lost true)

/-- A command completes without an arrangement. -/
def curEnd (c : Chip) (x : CurCmd) (status : Nat) : Chip :=
  curComplete c ⟨wbits x.w0 24 8, status, wbits x.w0 0 16, 0xFFFF, 0, 0, 0⟩

/-- A write is refused (R285, R290, R295). -/
def curReject (c : Chip) : Chip := raise (setB c CUR_STAT_cmd_reject true) srcCUR_CMD_REJECT 0

/-! ### Modes (R257, R258, R290) -/

/-- The content of an arrangement: the RESIDENT entry that holds it, or its store slot. -/
def arrContent (c : Chip) (id : BitVec 16) : List Byte :=
  match residentContent c id with
  | some l => l
  | none => memBytes c 5 (slotAddr c id.toNat) arrBytes

/-- The flags of an arrangement (R215): bit 0 has_perm, bit 1 compiled by the Curator. -/
def arrFlags (l : List Byte) : Nat := leAt l 18 2

/-- The Curator's range holds a host arrangement (R258, reason 1). -/
def hostInRange (c : Chip) : Bool :=
  c.ars.store.any (fun e => curatorId c e.1 && (e.2 == 1 || e.2 == 2)
    && bitsAt (arrFlags (arrContent c (BitVec.ofNat 16 e.1))) 1 1 == 0)

/-- The first reason to refuse a mode write (R258); 0 if none. -/
def modeReason (c : Chip) (m : Nat) : Nat :=
  if (m = 1 || m = 2) && hostInRange c then 1
  else if c.cur.modeWait.isSome then 2
  else if m = 3 then 3 else 0

/-- slot_a, slot_b and drop_ok at their E (R290). -/
def curCtlEffect (c : Chip) (v : W) : Chip :=
  setFld (setFld (setFld c CUR_CTL_drop_ok (wbits v 4 1)) CUR_CTL_slot_a (wbits v 8 2)) CUR_CTL_slot_b (wbits v 12 2)

/-- The value of CUR_CTL with its slots as they stand. -/
def keepSlots (c : Chip) (v : W) : W := putField (putField v 8 2 (fld c CUR_CTL_slot_a)) 12 2 (fld c CUR_CTL_slot_b)

/-- A write asks for no change of mode: it names the mode in force with none waiting; a journalled one, the mode asked for
last (R258, R344). -/
def sameMode (c : Chip) (m : Nat) : Bool :=
  (m == curMode c && c.cur.modeWait.isNone) || (c.twn.applying && m == fld c CUR_CTL_mode)

/-- A write of CUR_CTL (R257, R258, R290): the mode is judged at the write and waits for E; the slots are not written
while the mode in force is AUTO. What is refused is not journalled: the record holds the value as it stands. -/
def curCtlWrite (c : Chip) (v : W) : Chip :=
  hostWrite c CUR_CTL (fun c =>
    let moved := curMode c == 2 && keepSlots c v != v
    let v' := if curMode c = 2 then keepSlots c v else v
    let r := if sameMode c (wbits v 0 2) then 0 else modeReason c (wbits v 0 2)
    let v' := if r = 0 then v' else putField v' 0 2 (fld c CUR_CTL_mode)
    stateChange c CUR_CTL v' (fun c e =>
      let c := if moved then curReject c else c
      let c := if r = 0 then c
        else raise (setFld (setB c CUR_STAT_mode_reject true) CUR_STAT_mode_reason r) srcCUR_CMD_REJECT 0
      let c := if c.twn.applying then curCtlEffect c v' else defer c e CUR_CTL v'
      let m := wbits v' 0 2
      if r != 0 || sameMode c m then setFld c CUR_CTL_mode m
      else setFld { c with cur := { c.cur with modeWait := some (m, e) } } CUR_CTL_mode m))

/-- The modes in which a command is allowed (R285). -/
def curAllowed (code mode : Nat) : Bool :=
  if code = 1 || code = 2 then mode == 1 || mode == 2 else mode == 1

/-- The command code is listed (R285). -/
def curListed (code : Nat) : Bool := decide (1 ≤ code) && decide (code ≤ 6)

/-- A command completes with status MODE in a mode (R257, R258): every one in OFF, a listed one that the mode does not
allow. -/
def modeForbids (code mode : Nat) : Bool := mode == 0 || (curListed code && !curAllowed code mode)

/-- The accepted mode comes into force at its E (R257, R258, R263). -/
def curModeEffect (c : Chip) : Chip :=
  match c.cur.modeWait with
  | none => c
  | some (m, e) =>
    if !due c e then c
    else
      let old := curMode c
      let gone := c.cur.queue.filter (fun x => modeForbids (wbits x.w0 24 8) m)
      let u := c.cur
      let c := { c with cur := { u with
        modeWait := none,
        queue := u.queue.filter (fun x => !modeForbids (wbits x.w0 24 8) m),
        next := if m = 0 then none else if old = 0 then some e else u.next,
        todo := if m = 2 then u.todo else none, script := if m = 2 then u.script else [],
        watch := none, lost := [], autoFirst := if m = 2 && old != 2 then true else u.autoFirst,
        autoRef := if m = 2 && old != 2 then none else u.autoRef } }
      let c := setFld c CUR_STAT_mode m
      showCur (gone.foldl (fun c x => curEnd c x 9) c)

/-! ### Demand (R259–R264) -/

/-- The entries of a report's payload as input, output and amount (R259). -/
def reportEntries (l : List Byte) (n : Nat) : List (Nat × Nat × Nat) :=
  (List.range n).map (fun e => (beAt l (8 + 8 * e) 2, beAt l (10 + 8 * e) 2, beAt l (12 + 8 * e) 4))

/-- count of a report. -/
def reportCount (l : List Byte) : Nat := beAt l 2 2

/-- A report has the form of R259 and R260. -/
def reportOk (l : List Byte) : Bool :=
  beAt l 0 1 == 1 && beAt l 1 1 < 16 && decide (4 ≤ l.length) && decide (1 ≤ reportCount l)
    && decide (reportCount l ≤ 180) && decide (8 + 8 * reportCount l ≤ l.length)

/-- An entry of an accepted report is taken (R260). -/
def entryOk (c : Chip) (e : Nat × Nat × Nat) : Bool :=
  match c.topo with
  | none => false
  | some t => decide (e.1 < t.ports) && decide (e.2.1 < t.ports) && t.samePlane e.1 e.2.1

/-- Entries or a report are dropped (R260, R261); the ledger's record of it carries the reporter (R259; log entry 105). -/
def rxDrop (c : Chip) (n reporter : Nat) : Chip :=
  raiseLimited (setB (countUp c CUR_RX_DROP n) CUR_STAT_rx_drop true) srcCUR_RX_DROP (toW reporter)

/-- The payload of a received frame, from byte pay_ofs of it (R410, R414). -/
def reportPayload (e : QEntry) : List Byte := e.data.drop (leAt e.record 13 1)

/-- The report at the head of the ingress queue is checked, and dropped whole or taken into the report buffer (R260,
R261). -/
def demandReport (c : Chip) : Chip :=
  let q := wbits (rd c CUR_RX_CTL) 0 4
  if !wbit (rd c CUR_RX_CTL) 31 || curMode c = 0 || !acting c || queueOwner c q != 1 then c
  else match queue c q with
  | [] => c
  | e :: rest =>
    let c := setQueue c q rest
    let l := reportPayload e
    let n := reportCount l
    let from_ := beAt l 4 4
    if !reportOk l then rxDrop c (if 1 ≤ n && n ≤ 180 && 4 ≤ l.length then n else 1) from_
    else if 2048 < c.cur.reports.length + n then rxDrop c n from_
    else
      let es := reportEntries l n
      let good := es.filter (entryOk c)
      let shift := bitsAt (beAt l 1 1) 0 4
      let c := if good.length < n then rxDrop c (n - good.length) from_ else c
      countUp { c with cur := { c.cur with
        reports := c.cur.reports ++ good.map (fun e => (512 * e.1 + e.2.1, e.2.2 / 2 ^ shift)) } } CUR_RX_CNT good.length

/-- A saturating addition to one counter of FILL (R262). -/
def fillAdd (m : List (Nat × W)) (k n : Nat) : List (Nat × W) := mapWrite (fun _ => 0) m k (satAdd (mapRead (fun _ => 0) m k) n)

/-- Up to 10 entries per period are added to FILL (R261, R262). -/
def demandIntake (c : Chip) : Chip :=
  if curMode c = 0 || !acting c then c
  else
    let now := c.cur.reports.take 10
    { c with cur := { c.cur with
      reports := c.cur.reports.drop 10, fill := now.foldl (fun m e => fillAdd m e.1 e.2) c.cur.fill } }

/-- The carry-over sweep ends: FILL has taken C of the FROZEN bank (R264). -/
def carrySweep (c : Chip) : Chip :=
  match c.cur.sweep with
  | none => c
  | some d =>
    let carry := c.cur.frozen.map (fun e => (e.1, if d = 0 then 0 else e.2.toNat - e.2.toNat / 2 ^ d))
    { c with cur := { c.cur with
      sweep := none, fill := carry.foldl (fun m e => fillAdd m e.1 e.2) c.cur.fill } }

/-! ### Matching (R265–R267) -/

/-- The draw for epoch count c, matching k, iteration t, side and port (R265). -/
def curDraw (seed cnt k t side p : Nat) : Nat :=
  crc32c (beBytes 4 seed ++ beBytes 4 cnt ++ beBytes 1 k ++ beBytes 1 t ++ beBytes 1 side ++ beBytes 1 0 ++ beBytes 2 p
    ++ beBytes 2 0)

/-- The first candidate whose running sum passes `t` (R266). -/
def pickFrom (t : Nat) : Nat → List (Nat × Nat) → Option Nat
  | _, [] => none
  | acc, (p, w) :: rest => if t < acc + w then some p else pickFrom t (acc + w) rest

/-- The weighted pick of R266 among candidates with their weights; none where every weight is 0. -/
def pick (l : List (Nat × Nat)) (r : Nat) : Option Nat := pickFrom (r * (l.map (fun e => e.2)).sum / 2 ^ 32) 0 l

/-- A demand: input, output, weight. -/
structure Demand where
  i : Nat
  j : Nat
  w : Nat
  deriving DecidableEq, Repr

/-- The different values of a list, ascending. -/
def ascending (l : List Nat) : List Nat := (l.foldl (fun m x => mapPut m x ()) []).map (fun e => e.1)

/-- One iteration of a matching (R267): the pairs accepted from the requests of unmatched ports. -/
def matchRound (seed cnt k t : Nat) (reqs : List Demand) : List Demand :=
  let grants := (ascending (reqs.map (fun d => d.j))).filterMap (fun j =>
    let l := reqs.filter (fun d => d.j == j)
    match pick (l.map (fun d => (d.i, d.w))) (curDraw seed cnt k t 0 j) with
    | some i => l.find? (fun d => d.i == i)
    | none => none)
  (ascending (grants.map (fun d => d.i))).filterMap (fun i =>
    let l := grants.filter (fun d => d.i == i)
    match pick (l.map (fun d => (d.j, d.w))) (curDraw seed cnt k t 1 i) with
    | some j => l.find? (fun d => d.j == j)
    | none => none)

/-- The iterations t … 7 of a matching over its candidates, with the pairs matched so far (R267). -/
def matchRounds (seed cnt k : Nat) (cand : List Demand) (usedI usedJ : List Nat) : Nat → List Demand → List Demand
  | 0, got => got
  | n + 1, got =>
    let open_ := cand.filter (fun d => !usedI.contains d.i && !usedJ.contains d.j
      && !got.any (fun g => g.i == d.i || g.j == d.j))
    matchRounds seed cnt k cand usedI usedJ n (got ++ matchRound seed cnt k (7 - n) open_)

/-- The matchings of an epoch from number `k` on, each as its pairs (R267). -/
def matchings (seed cnt : Nat) (usedI usedJ : List Nat) : Nat → Nat → List Demand → List (List Demand)
  | 0, _, _ => []
  | n + 1, k, cand =>
    match matchRounds seed cnt k cand usedI usedJ 8 [] with
    | [] => []
    | got => got :: matchings seed cnt usedI usedJ n (k + 1) (cand.filter (fun d => !got.any (fun g => g.i == d.i && g.j == d.j)))

/-- The working permutation as 512 entries (R211). -/
def workPerm (c : Chip) : List Nat := (List.range 512).map (fun p => mapRead (fun _ => 0x3FF) c.cur.work p)

/-- The persistent circuits, by input and output (R267, R285). -/
def persistPairs (c : Chip) : List (Nat × Nat) :=
  c.cur.work.filter (fun e => c.cur.persist.contains e.1)

/-- The matchings of the present epoch (R267). -/
def epochMatchings (c : Chip) : List (List Demand) :=
  let cand := c.cur.frozen.filterMap (fun e =>
    let d : Demand := ⟨e.1 / 512, e.1 % 512, e.2.toNat⟩
    if entryOk c (d.i, d.j, d.w) && decide (rn c CUR_WMIN ≤ d.w) then some d else none)
  matchings (rn c CUR_SEED) (rn c CUR_EPOCH_CNT) ((persistPairs c).map (fun e => e.1)) ((persistPairs c).map (fun e => e.2))
    (fld c CUR_MATCH_CTL_max_match) 0 cand

/-- A matching as a permutation, with the persistent circuits. -/
def matchPerm (c : Chip) (l : List Demand) : List Nat :=
  let m := (persistPairs c ++ l.map (fun d => (d.i, d.j))).foldl (fun m e => mapPut m e.1 e.2) []
  (List.range 512).map (fun p => mapRead (fun _ => 0x3FF) m p)

/-- The dwells of R268 for the matchings' weights. -/
def epochDwells (v : List Nat) (len g : Nat) : List Nat :=
  let umin := max 1 (24 - g)
  let v := v.take (len / (g + umin))
  let rest := len - v.length * (g + umin)
  let share := v.map (fun x => rest * x / v.sum)
  let left := rest - share.sum
  ((List.range share.length).zip share).map (fun e => g + umin + e.2 + (if e.1 < left then 1 else 0))

/-! ### IDs and compilation (R281–R284) -/

/-- CUR_NEXT_ID moves past an ID, within the range (R283). -/
def idPast (c : Chip) (id : Nat) : Chip :=
  let lo := wbits (rd c ARS_CUR_RANGE) 0 16
  let hi := wbits (rd c ARS_CUR_RANGE) 16 16
  wr c CUR_NEXT_ID (toW (if id < hi then id + 1 else lo))

/-- The ID may be taken (R283): not in use, not being written, ABSENT or STORED from the Curator. -/
def idFree (c : Chip) (id : Nat) : Bool :=
  id != 0xFFFF && !inUse c (BitVec.ofNat 16 id) && !c.cur.writes.any (fun w => w.id.toNat == id)
    && (storeState c id == 0
      || (storeState c id == 1 && bitsAt (arrFlags (arrContent c (BitVec.ofNat 16 id))) 1 1 == 1))

/-- The first ID that qualifies, from CUR_NEXT_ID on and wrapping within the range (R283). -/
def idChoice (c : Chip) : Option Nat :=
  let lo := wbits (rd c ARS_CUR_RANGE) 0 16
  let hi := wbits (rd c ARS_CUR_RANGE) 16 16
  let n := hi + 1 - lo
  let s := wbits (rd c CUR_NEXT_ID) 0 16
  let s := if lo ≤ s && s ≤ hi then s - lo else 0
  ((List.range n).map (fun k => lo + (s + k) % n)).find? (idFree c)

/-- No ID qualifies (R283). -/
def noId (c : Chip) : Chip := raise (setB c CUR_STAT_no_id true) srcCUR_NO_ID 0

/-- The target word of a cell in logical state `s` (R281), and whether no branch lies in range. -/
def compileWord (c : Chip) (i : Nat) (mirror : Bool) (s : Nat) (ref : List W) : W × Bool :=
  let ps := physState mirror s
  let old := nth 2 ref i
  let b := if targetOf old % 4 = ps then targetOf old / 4 else chooseBranch (params c i) ps
  (toW (i * 2 ^ 16 + b * 4 + ps), targetOf old % 4 != ps && codeMiss (branchCode (params c i) ps b) != 0)

/-- The routed states compiled into an arrangement (R215, R216, R281), and whether a branch is out of range. -/
def compileArr (c : Chip) (t : Topo) (id : Nat) (o : RouteOut) (ref : List W) : List Byte × Bool :=
  let cells := t.cells.filterMap (fun e => match mapGet o.states e.2.logical with
    | some s => some (e.1, compileWord c e.1 e.2.mirror s ref)
    | none => none)
  let words := (List.range 4608).map (fun i => match mapGet cells i with
    | some x => x.1
    | none => toW (i * 2 ^ 16 + 2))
  let body := wordsToBytes words
  let rec_ := permBytes o.perm
  let hdr := [0x47, 0x58, 0x41, 0x4E] ++ leBytes 2 id ++ leBytes 2 1 ++ leBytes 4 t.topologyId.toNat
    ++ leBytes 2 t.cells.length ++ leBytes 2 cells.length ++ leBytes 2 o.circuits ++ leBytes 2 3 ++ leBytes 4 (crc32c body)
    ++ leBytes 4 (crc32c rec_) ++ leBytes 4 (period c).toNat ++ List.replicate 28 0
  (hdr ++ leBytes 4 (crc32c hdr) ++ rec_ ++ List.replicate 320 0 ++ body, cells.any (fun e => e.2.2))

/-- The next use of the ID an entry holds: its first place in the due list, as a boundary (R225). -/
def useOf (c : Chip) (id : BitVec 16) : Option W := (c.ars.due.find? (fun d => d.id == id)).map (fun d => d.b)

/-- The entry a compiled arrangement is written into (R284): one that holds the ID, or the victim of R226, whose next use
must lie after the arrangement's, none meaning now. -/
def curVictim (c : Chip) (id : BitVec 16) (next : Option W) : Option Nat :=
  match residentEntry c id with
  | some e => some e
  | none =>
    match fillVictim c with
    | none => none
    | some e =>
      if (entryOf c e).st = 0 then some e
      else match useOf c (entryOf c e).id, next with
        | some b, some n => if decide (0 < pdiff b n) then some e else none
        | _, _ => some e

/-- The write of a compiled arrangement begins (R284); in a pair it is left to its journalled E, at which both twins choose
its entry (R288, R344). -/
def beginWrite (c : Chip) (id : BitVec 16) (l : List Byte) (next : Option W) (e : Option W) : Chip :=
  let v := if e.isSome then none else curVictim c id next
  let c := match v with
    | some k => setEntry c k ⟨1, false, id, []⟩
    | none => c
  showCur { c with cur := { c.cur with writes := c.cur.writes ++ [⟨id, v, l, e, next⟩] } }

/-- The keeper journals a compiled arrangement (R288). -/
def curWriteStart (c : Chip) (id : BitVec 16) (l : List Byte) (next : Option W) : Chip :=
  if c.twn.paired then
    let e := effOf c (20 + l.length)
    beginWrite (withSource c 3 (fun c => journalAppend c e (.arr id l))) id l next (some e)
  else beginWrite c id l next none

/-- The reference of a content; none without one (R271). -/
def refOf (c : Chip) (l : Option (List Byte)) : RouteRef :=
  match c.topo, l with
  | some t, some l => refOfArr t l
  | _, _ => RouteRef.none

/-- CUR_ROUTE_STAT and CUR_UNROUTE describe a route, and its events are raised (R279, R294). -/
def noteRoute (c : Chip) (t : Topo) (o : RouteOut) (drop : Bool) : Chip :=
  let c := wr c CUR_ROUTE_STAT (toW (o.trial * 2 ^ 30 + o.rounds * 2 ^ 26 + o.circuits * 2 ^ 16
    + min 255 o.dropped * 2 ^ 8 + min 255 o.broken))
  let c := wr c CUR_UNROUTE (match o.violation with
    | some (z, cause, p) => toW (2 ^ 31 + cause * 2 ^ 28 + z / t.cellsPerStage % 32 * 2 ^ 23
        + z % t.cellsPerStage % 256 * 2 ^ 15 + p)
    | none => 0)
  let c := if o.violation.isNone then c
    else if drop then raise (setB c CUR_STAT_dropped true) srcCUR_DROPPED 0
    else raise (setB c CUR_STAT_unroutable true) srcCUR_UNROUTABLE 0
  if o.broken = 0 then c else raise c srcCUR_PERSIST_BROKEN 0

/-- A route of a permutation against a reference, with its record (R271–R279). -/
def routePerm (c : Chip) (t : Topo) (perm : List Nat) (ref : RouteRef) (drop : Bool) : RouteOut × Chip :=
  let o := route (routeIn t (conMap c t) ref perm) drop
  (o, noteRoute c t o drop)

/-- A routed permutation is compiled and checked (R281, R282): its content, none where the self-check fails. -/
def compileChecked (c : Chip) (t : Topo) (id : Nat) (o : RouteOut) (ref : RouteRef) : Option (List Byte) × Chip :=
  let x := compileArr c t id o ref.words
  let c := if x.2 then raise c srcCUR_BRANCH_RANGE 0 else c
  if (arrCheck c id x.1).isNone then (some x.1, c) else (none, raise c srcCUR_SELF_CHECK 0)

/-! ### The epoch (R263, R264, R267–R270) -/

/-- The Curator's two slots. -/
def curSlots (c : Chip) : Nat × Nat := (fld c CUR_CTL_slot_a, fld c CUR_CTL_slot_b)

/-- The slot that takes an epoch's programme (R269): the one of the two that is not ARMED or ACTIVE; a STAGED one
first, since only one programme can be staged. -/
def curSlot (c : Chip) : Nat :=
  let s := curSlots c
  let busy : Nat → Bool := fun x => slotState c x == 3 || slotState c x == 4
  if slotState c s.2 = 5 || busy s.1 then s.2 else s.1

/-- A PRG_CMD word (R252). -/
def prgWord (code slot flag : Nat) : W := toW (code * 2 ^ 28 + slot * 2 ^ 24 + flag * 2 ^ 16)

/-- The writes and commands that load an epoch's programme (R269). -/
def epochScript (c : Chip) (x : CurTodo) : List CurOp :=
  let s := curSlot c
  let words := ((x.ids.zip x.dwells).flatMap (fun e => [toW e.2, toW (e.1.toNat * 2 ^ 16)]))
  let st := slotState c s
  let clear := if st = 5 then [CurOp.cmd (prgWord 6 s 0), .cmd (prgWord 6 s 0)]
    else if st = 2 || st = 6 || st = 7 then [.cmd (prgWord 6 s 0)] else []
  let hdr := putField (putField (putField (putField (putField 0 (PRG_S_HDR_cyclic s).lo 1 1) (PRG_S_HDR_start_now s).lo 1 1)
    (PRG_S_HDR_at s).lo 1 0) (PRG_S_HDR_guard_default s).lo 8 x.guard) (PRG_S_HDR_step_count s).lo 13 x.ids.length
  clear ++ [.cmd (prgWord 1 s 0)]
    ++ ((List.range words.length).zip words).map (fun e => .write (0x10000 + 0x8000 * s + 4 * e.1) e.2)
    ++ [.write (PRG_S_HDR s - 0x400000) hdr, .write (PRG_S_SPAN s - 0x400000) (toW x.span),
        .write (PRG_S_OPC s - 0x400000) (resetReg (PRG_S_OPC s)),
        .write (PRG_S_CRC s - 0x400000) (toW (crc32c (wordsToBytes words))), .cmd (prgWord 2 s 0), .launch s]

/-- The boundary at which step `k` of a programme staged now would fall, none where it would start at once (R236,
R284). -/
def stepExpected (c : Chip) (dwells : List Nat) (k : Nat) : Option W :=
  match c.prg.run with
  | some r => (boundaryFrom c r true (pagerLead c)).map (fun b => b + toW (dwells.take k).sum)
  | none => some (period c + 3 + toW (pagerLead c) + toW (dwells.take k).sum)

/-- The permutations of an epoch are routed, compiled and written in order, as far as IDs and the journal reach
(R270–R284). -/
def epochCompile : Nat → Chip → Chip
  | 0, c => c
  | n + 1, c =>
    match c.cur.todo, c.topo with
    | some x, some t =>
      match x.perms with
      | [] => c
      | perm :: rest =>
        match idChoice c with
        | none =>
          let c := if x.told then c else noId c
          { c with cur := { c.cur with todo := some { x with told := true } } }
        | some id =>
          if changeWaits c (20 + arrBytes) then c
          else
            let ref := refOf c c.cur.autoRef
            let r := routePerm c t perm ref true
            match compileChecked (idPast r.2 id) t id r.1 ref with
            | (none, c) => { c with cur := { c.cur with todo := none } }
            | (some l, c) =>
              let c := curWriteStart c (BitVec.ofNat 16 id) l (stepExpected c x.dwells x.ids.length)
              epochCompile n { c with cur := { c.cur with
                autoRef := some l,
                todo := some { x with perms := rest, ids := x.ids ++ [BitVec.ofNat 16 id], told := false } } }
    | _, _ => c

/-- The arrangements of an epoch being written, its programme is to be loaded (R269). -/
def epochLoad (c : Chip) : Chip :=
  match c.cur.todo with
  | some x =>
    if x.perms.isEmpty && c.cur.writes.isEmpty && c.cur.script.isEmpty && !fldB c PRG_STAT_busy then
      { c with cur := { c.cur with todo := none, script := epochScript c x, watch := none } }
    else c
  | none => c

/-- The programme operations of the Curator: writes until a command is issued, a command once none waits (R252, R269). In a
pair each waits for room in the journal (R345, R352). -/
def runScript : Nat → Chip → Chip
  | 0, c => c
  | n + 1, c =>
    if fldB c PRG_STAT_busy || changeWaits c 24 then c
    else match c.cur.script with
    | [] => c
    | op :: rest =>
      let c := { c with cur := { c.cur with script := rest } }
      match op with
      | .write off v => runScript n (withSource c 3 (fun c => slotWrite c off v))
      | .cmd w => withSource c 3 (fun c => prgWrite c w)
      | .launch s =>
        withSource c 3 (fun c => prgWrite c (if c.prg.run.isSome then prgWord 4 s 1 else prgWord 3 s 0))

/-- A slot's state follows from the one the Curator left it in by what its programme does of itself (R229, R236, R270): a
swap activates it or replaces it by the slot now ACTIVE, its origin comes, or its late start is refused (reason 7). -/
def slotFollows (c : Chip) (s left : Nat) : Bool :=
  let now := slotState c s
  let replaced := match c.prg.run with | some r => r.slot != s && slotState c r.slot == 4 | none => false
  left == now || ((left == 5 || left == 3) && now == 4) || (left == 4 && now == 2 && replaced)
    || (left == 5 && now == 2 && replaced) || (left == 3 && now == 2 && (replaced || fld c PRG_STAT_reason == 7))

/-- The Curator looks at its slots (R270): one in a state it did not leave is lost, and is taken back at the next epoch
boundary. -/
def watchSlots (c : Chip) : Chip :=
  if curMode c != 2 || !acting c || !c.cur.script.isEmpty || fldB c PRG_STAT_busy then c
  else
    let s := curSlots c
    let gone := match c.cur.watch with
      | some w => (([(s.1, w.1), (s.2, w.2)] : List (Nat × Nat)).filter (fun e => !slotFollows c e.1 e.2)).map (fun e => e.1)
      | none => []
    let c := { c with cur := { c.cur with
      watch := some (slotState c s.1, slotState c s.2), lost := c.cur.lost ++ gone } }
    if gone.isEmpty then c else raise (setB c CUR_STAT_slot_lost true) srcCUR_SLOT_LOST 0

/-- The commands that take the lost slots back (R229, R237, R270): a STAGED slot takes two CLEARs. -/
def reclaimScript (c : Chip) : List CurOp :=
  c.cur.lost.dedup.flatMap (fun s =>
    let st := slotState c s
    if st = 5 then [CurOp.cmd (prgWord 6 s 0), .cmd (prgWord 6 s 0)]
    else if st = 2 || st = 6 || st = 7 then [.cmd (prgWord 6 s 0)] else [])

/-- The reference of the first epoch after entry to AUTO (R271): the arrangement in FORCE, if it is STORED with
has_perm. -/
def firstRef (c : Chip) : Option (List Byte) :=
  let id := c.lpe.forceId
  if storeState c id.toNat = 1 && bitsAt (arrFlags (arrContent c id)) 0 1 == 1 then some (arrContent c id) else none

/-- The matchings of an epoch begin, and lost slots are taken back (R267–R270). -/
def epochBegin (c : Chip) : Chip :=
  let c := if c.cur.lost.isEmpty then c
    else { c with cur := { c.cur with script := c.cur.script ++ reclaimScript c, lost := [], watch := none } }
  let c := if c.cur.autoFirst then { c with cur := { c.cur with autoFirst := false, autoRef := firstRef c } } else c
  let ms := epochMatchings c
  let len := rn c CUR_EPOCH_LEN
  let g := fld c CUR_MATCH_CTL_guard
  let dwells := epochDwells (ms.map (fun l => (l.map (fun d => d.w)).sum % 2 ^ 64)) len g
  let used := ms.take dwells.length
  let c := wr c CUR_EPOCH_STAT (toW (used.length * 2 ^ 27 + (used.map List.length).sum % 2 ^ 14))
  if used.isEmpty then c
  else epochLoad (epochCompile 16 { c with cur := { c.cur with
    todo := some ⟨used.map (matchPerm c), dwells, len, g, [], false⟩ } })

/-- An epoch boundary (R263, R264, R270). -/
def curatorEpoch (c : Chip) : Chip :=
  match c.cur.next with
  | none => c
  | some x =>
    if !due c x then c
    else
      let c := carrySweep c
      let late := c.cur.todo.isSome || !c.cur.script.isEmpty
      let c := if late && acting c then
          raise (setB { c with cur := { c.cur with todo := none, script := [] } } CUR_STAT_epoch_late true)
            srcCUR_EPOCH_LATE 0
        else c
      let cold := c.cur.cold || !acting c
      let u := c.cur
      let c := { c with cur := { u with
        frozen := if cold then [] else u.fill, fill := [], reports := if acting c then u.reports else [],
        sweep := if cold then none else some (fld c CUR_MATCH_CTL_decay), next := some (x + rd c CUR_EPOCH_LEN),
        cold := !acting c } }
      let c := wr c CUR_EPOCH_CNT (rd c CUR_EPOCH_CNT + 1)
      showCur (if curMode c = 2 && acting c then epochBegin c else c)

/-! ### Host commands (R285–R287) -/

/-- A write of CUR_CMD3 enqueues the command of the words last written at its E; a full queue refuses it (R285). -/
def curCmdWrite (c : Chip) (v : W) : Chip :=
  hostChangeIf c (CUR_CMD 3) v
    (fun c => if 16 ≤ c.cur.queue.length + c.cur.incoming.length then some (curReject (wr c (CUR_CMD 3) v)) else none)
    (fun c e =>
      let x : CurCmd := ⟨written c (CUR_CMD 0), written c (CUR_CMD 1), written c (CUR_CMD 2), v⟩
      let c := wr c (CUR_CMD 3) v
      { c with cur := { c.cur with incoming := c.cur.incoming ++ [(x, e)] } })

/-- BAD_CMD of R287: the code is not listed, or a reserved field of R285 is not zero. -/
def curBad (x : CurCmd) : Bool := !curListed (wbits x.w0 24 8) || wbits x.w0 16 8 != 0 || x.w3 != 0

/-- CONNECT that AUTO does not accept (R285). -/
def autoRefused (x : CurCmd) : Bool := wbits x.w0 24 8 == 1 && !wbit x.w1 30

/-- The status with which a command completes without running (R257, R287); none if it runs. -/
def curRefusal (c : Chip) (x : CurCmd) : Option Nat :=
  if curMode c = 0 then some 9
  else if curBad x then some 13
  else if !curAllowed (wbits x.w0 24 8) (curMode c) then some 9
  else if curMode c = 2 && autoRefused x then some 9 else none

/-- Commands at the head that do not run complete in their turn (R287). -/
def curFlush : Nat → Chip → Chip
  | 0, c => c
  | n + 1, c =>
    if c.cur.job.isSome || safe c then c
    else match c.cur.queue with
    | [] => c
    | x :: rest => match curRefusal c x with
      | some st => curFlush n (curEnd { c with cur := { c.cur with queue := rest } } x st)
      | none => c

/-- The commands whose E has come enter the queue (R285). -/
def curTake (c : Chip) : Chip :=
  let now := c.cur.incoming.filter (fun e => due c e.2)
  curFlush 16 (showCur { c with cur := { c.cur with
    incoming := c.cur.incoming.filter (fun e => !due c e.2), queue := c.cur.queue ++ now.map (fun e => e.1) } })

/-- The command at the head of the queue runs if it has the code `code` and no other runs (R285). -/
def curRun (c : Chip) (code : Nat) (f : Chip → CurCmd → Chip) : Chip :=
  let c := curTake c
  if c.cur.job.isSome || safe c then c
  else match c.cur.queue with
  | [] => c
  | x :: rest =>
    if wbits x.w0 24 8 = code then showCur (f { c with cur := { c.cur with queue := rest } } x) else c

/-- The pair of an input port is removed with its persistent flag (R285). -/
def dropPair (c : Chip) (p : Nat) : Chip :=
  { c with cur := { c.cur with work := mapDel c.cur.work p, persist := c.cur.persist.filter (fun q => q != p) } }

/-- The input port whose pair uses an output port. -/
def userOf (c : Chip) (q : Nat) : Option Nat := (c.cur.work.find? (fun e => e.2 == q)).map (fun e => e.1)

/-- CONNECT (R285). -/
def curConnect (c : Chip) (x : CurCmd) : Chip :=
  let p := wbits x.w1 0 10
  let q := wbits x.w1 16 10
  if !entryOk c (p, q, 0) then curEnd c x 5
  else if !wbit x.w1 31 && ((mapGet c.cur.work p).isSome || (userOf c q).isSome) then curEnd c x 4
  else
    let c := dropPair c p
    let c := match userOf c q with
      | some u => dropPair c u
      | none => c
    curEnd { c with cur := { c.cur with
      work := mapPut c.cur.work p q, persist := if wbit x.w1 30 then c.cur.persist ++ [p] else c.cur.persist } } x 1

/-- DISCONNECT (R285). -/
def curDisconnect (c : Chip) (x : CurCmd) : Chip :=
  let p := wbits x.w1 0 10
  if !entryOk c (p, p, 0) then curEnd c x 5
  else if wbit x.w1 31 then
    match userOf c p with
    | some u => curEnd (dropPair c u) x 1
    | none => curEnd c x 1
  else curEnd (dropPair c p) x 1

/-- The working permutation takes 512 entries; every persistent flag is cleared (R285). -/
def setWork (c : Chip) (l : List Nat) : Chip :=
  { c with cur := { c.cur with
    work := ((List.range l.length).zip l).foldl (fun m e => mapWrite (fun _ => 0x3FF) m e.1 e.2) [], persist := [] } }

/-- CLEAR (R285). -/
def curClear (c : Chip) (x : CurCmd) : Chip := curEnd (setWork c []) x 1

/-- The permutation record of buffer `b`. -/
def permBuffer (c : Chip) (b : Nat) : List Byte := wordsToBytes ((List.range 160).map (fun i => rd c (CUR_PERM b i)))

/-- LOAD_PERM (R285). -/
def curLoadPerm (c : Chip) (x : CurCmd) : Chip :=
  let l := permEntries (permBuffer c (wbits x.w1 0 2))
  match c.topo with
  | some t => if permValid t l then curEnd (setWork c l) x 1 else curEnd c x 6
  | none => curEnd c x 6

/-- LOAD_ARR (R285): the working permutation and the reference become the arrangement's. -/
def curLoadArr (c : Chip) (x : CurCmd) : Chip :=
  let id := BitVec.ofNat 16 (wbits x.w1 0 16)
  let l := arrContent c id
  if storeState c id.toNat != 1 then curEnd c x 10
  else match c.topo with
  | some t =>
    if bitsAt (arrFlags l) 0 1 != 1 || leAt l 8 4 != t.topologyId.toNat then curEnd c x 7
    else
      let c := setWork c (permEntries (arrPerm l))
      curEnd { c with cur := { c.cur with ref := some l } } x 1
  | none => curEnd c x 7

/-- APPLY ends with its record (R287, R293). -/
def applyEnd (c : Chip) (tag status id doc dropped broken : Nat) : Chip :=
  curComplete { c with cur := { c.cur with job := none } } ⟨6, status, tag, id, doc, dropped, broken⟩

/-- The ID an APPLY names is refused (R287, BAD_ID). -/
def badId (c : Chip) (x : CurCmd) : Bool :=
  let named := wbits x.w1 0 16
  named != 0xFFFF && (!curatorId c named || inUse c (BitVec.ofNat 16 named))

/-- APPLY routes, allocates, compiles and begins its write (R279, R281–R286). -/
def applyRun (c : Chip) (x : CurCmd) : Chip :=
  let tag := wbits x.w0 0 16
  let named := wbits x.w1 0 16
  match c.topo with
  | none => curEnd c x 12
  | some t =>
    if badId c x then curEnd c x 7
    else
      let drop := fldB c CUR_CTL_drop_ok
      let ref := refOf c c.cur.ref
      let r := routePerm c t (workPerm c) ref drop
      let o := r.1
      let c := r.2
      if o.status drop = 3 then applyEnd c tag 3 0xFFFF 0 o.dropped o.broken
      else
        let id? := if named = 0xFFFF then idChoice c else some named
        match id? with
        | none => applyEnd (noId c) tag 8 0xFFFF 0 o.dropped o.broken
        | some id =>
          let c := if named = 0xFFFF then idPast c id else c
          match compileChecked c t id o ref with
          | (none, c) => applyEnd c tag 12 0xFFFF 0 o.dropped o.broken
          | (some l, c) =>
            let job : CurJob := ⟨tag, wbit x.w1 16, wbit x.w1 17, x.w2, o.status drop, o.dropped, o.broken,
              BitVec.ofNat 16 id, l, 0⟩
            curWriteStart { c with cur := { c.cur with job := some job } } (BitVec.ofNat 16 id) l none

/-- APPLY on a copyist (R288): it completes BAD_ID, or waits at the head of the queue for the keeper's arrangement. -/
def applyCopy (c : Chip) (x : CurCmd) : Chip :=
  if badId c x then curEnd c x 7 else { c with cur := { c.cur with queue := x :: c.cur.queue } }

/-- CUR_APPLY (R286): it runs where the Curator runs (R348), and waits for room in the journal (R345). -/
def curApply (c : Chip) : Chip :=
  if twinRole c = 2 && c.twn.paired then curRun c 6 applyCopy
  else if !acting c || changeWaits c (20 + arrBytes) then curTake c else curRun c 6 applyRun

/-- The write of an APPLY has ended (R286): with go the command waits for the Docent, else the reference is the compiled
arrangement. -/
def applyWritten (c : Chip) (id : BitVec 16) : Chip :=
  match c.cur.job with
  | some j =>
    if j.id = id && j.stage = 0 then
      if j.go then { c with cur := { c.cur with job := some { j with stage := 1 } } }
      else applyEnd { c with cur := { c.cur with ref := some j.content } } j.tag j.status id.toNat 0 j.dropped j.broken
    else c
  | none => c

/-- A write of the Curator ends (R284): its entry is RESIDENT and dirty, or its slot is written; the ID is STORED. -/
def cacheWriteEnd (c : Chip) : Chip :=
  match c.cur.writes with
  | [] => c
  | w :: rest =>
    if (match w.e with | some e => due c e | none => true) then
      let c := { c with cur := { c.cur with writes := rest } }
      let c := match if w.e.isSome then curVictim c w.id w.next else w.entry with
        | some k => setEntry c k ⟨2, true, w.id, w.content⟩
        | none => memWrite c 5 (slotAddr c w.id.toNat) w.content
      showCur (epochLoad (applyWritten (setStore c w.id.toNat 1) w.id))
    else c

/-- The waiting APPLY enters the Docent's Curator queue of 4 entries; in a pair at its journalled E (R179, R180, R286). -/
def curDocPlace (c : Chip) : Chip :=
  match c.cur.job with
  | some j =>
    let held := c.doc.curQ.length + (c.doc.incoming.filter (fun e => e.1.source == 2)).length
    if j.stage != 1 || 4 ≤ held || changeWaits c 36 then c
    else
      let w0 := toW (0x10 * 2 ^ 24 + j.tag)
      let w1 := toW (b2n j.asap * 2 ^ 16 + j.id.toNat)
      let c := { c with cur := { c.cur with job := some { j with stage := 2 } } }
      if c.twn.paired then
        let e := effOf c 36
        let c := withSource c 3 (fun c => journalAppend c e (.doccmd 1 w0 w1 j.b 0))
        let (d, c) := newDocCmd c w0 w1 j.b 0 2
        { c with doc := { c.doc with incoming := c.doc.incoming ++ [(d, e)] } }
      else
        let (d, c) := newDocCmd c w0 w1 j.b 0 2
        enqueueCmd c d
  | none => c

/-- The Docent's record arrives (R286): APPLY completes, and its arrangement is the reference if the status is
COMPLETE. -/
def curDocRecord (c : Chip) : Chip :=
  match c.doc.curDone with
  | [] => c
  | d :: rest =>
    let c := { c with doc := { c.doc with curDone := rest } }
    match c.cur.job with
    | some j =>
      if j.stage != 2 then c
      else if d.status = 1 then
        showCur (applyEnd { c with cur := { c.cur with ref := some j.content } } j.tag j.status j.id.toNat d.status j.dropped j.broken)
      else showCur (applyEnd c j.tag 11 j.id.toNat d.status j.dropped j.broken)
    | none => c

/-- A host read of CUR_DONE0 pops the head record and latches its detail (R293). -/
def curDonePop (c : Chip) : Chip :=
  hostRead c CUR_DONE0 (fun c => match c.cur.done with
    | [] => answer c 0
    | d :: rest => answer (showCur (wr { c with cur := { c.cur with done := rest } } CUR_DONE1 d.detail)) d.word)

/-! ### The copyist (R288) -/

/-- The circuits of a working permutation that an arrangement lacks. -/
def missingCircuits (c : Chip) (l : List Byte) : Nat :=
  (((workPerm c).zip (permEntries (arrPerm l))).filter (fun e => e.1 != 0x3FF && e.2 == 0x3FF)).length

/-- The common circuits of the reference and an arrangement that change a cell (R277). -/
def brokenCircuits (c : Chip) (l : List Byte) : Nat :=
  match c.topo with
  | none => 0
  | some t =>
    let a := refOf c c.cur.ref
    let b := refOfArr t l
    let sb := fun x => mapRead (fun _ => 2) b.states x
    ((List.range t.ports).filter (fun p => nth 0x3FF b.perm p != 0x3FF && nth 0x3FF a.perm p == nth 0x3FF b.perm p
      && !(t.sides sb t.stages 0 p).all (fun e => mapRead (fun _ => 2) a.states e.1 == sb e.1))).length

/-- An arrangement can be the product of an APPLY of the present working permutation: its circuits are among those asked
for, and it has the ID the command names (R279, R285, R286). -/
def madeBy (c : Chip) (x : CurCmd) (id : BitVec 16) (l : List Byte) : Bool :=
  (wbits x.w1 0 16 == 0xFFFF || wbits x.w1 0 16 == id.toNat)
    && ((workPerm c).zip (permEntries (arrPerm l))).all (fun e => e.2 == 0x3FF || e.2 == e.1)

/-- The copyist's queue up to the APPLY that made an arrangement: the commands before it are carried out, and an APPLY that
cannot have made it is one the keeper ended without an arrangement, UNROUTABLE (log entry 106). None where no APPLY in the
queue can have made it. -/
def reachApply (id : BitVec 16) (l : List Byte) : Nat → Chip → Option (CurCmd × Chip)
  | 0, _ => none
  | n + 1, c =>
    match c.cur.queue with
    | [] => none
    | x :: rest =>
      let c := { c with cur := { c.cur with queue := rest } }
      let k := wbits x.w0 24 8
      match curRefusal c x with
      | some st => reachApply id l n (curEnd c x st)
      | none =>
        if k = 6 then (if madeBy c x id l then some (x, c) else reachApply id l n (curEnd c x 3))
        else reachApply id l n
          (if k = 1 then curConnect c x else if k = 2 then curDisconnect c x else if k = 3 then curClear c x
           else if k = 4 then curLoadPerm c x else curLoadArr c x)

/-- The APPLY that a journalled arrangement completes becomes the copyist's job (R288). -/
def copyJob (c : Chip) (id : BitVec 16) (l : List Byte) : Chip :=
  if curMode c != 1 || c.cur.job.isSome then c
  else match reachApply id l (c.cur.queue.length + 1) c with
  | none => c
  | some (x, c) =>
    let n := missingCircuits c l
    { c with cur := { c.cur with
      job := some ⟨wbits x.w0 0 16, wbit x.w1 16, wbit x.w1 17, x.w2, if n = 0 then 1 else 2, n, brokenCircuits c l, id, l,
        if wbit x.w1 16 then 2 else 0⟩ } }

/-- A journalled Curator arrangement acts at its E on the copyist (R288, R344): it is written, CUR_NEXT_ID and the reference
of R271 follow it, and the APPLY that made it completes without routing. In AUTO its next use is taken from the cycle
boundary its programme would start at (log entry 106). -/
def curArrival (c : Chip) (id : BitVec 16) (l : List Byte) : Chip :=
  let c := copyJob (idPast (curTake c) id.toNat) id l
  let c := match curVictim c id (if curMode c = 2 then stepExpected c [] 0 else none) with
    | some e => setEntry c e ⟨2, true, id, l⟩
    | none => memWrite c 5 (slotAddr c id.toNat) l
  let c := applyWritten (setStore c id.toNat 1) id
  let u := if curMode c = 2 then { c.cur with autoRef := some l, autoFirst := false } else { c.cur with ref := some l }
  showCur { c with cur := u }

/-- What the Curator does at a boundary: commands whose E has come, the demand of the period, and the work of the epoch
that waits. -/
def curatorPeriod (c : Chip) : Chip :=
  let c := demandIntake (curTake c)
  if !acting c then { c with cur := { c.cur with cold := c.cur.next.isSome } }
  else if curMode c = 2 then
    let c := if c.cur.todo.isSome then epochLoad (epochCompile 16 c) else c
    showCur (watchSlots (runScript 64 c))
  else c

/-! ### The commands -/

/-- CUR_MODE_WRITE (R258). -/
def execCurModeWrite (v : W) (s : State) : Host.Outcome State Fault Refusal := run s (curCtlWrite · v)

/-- CUR_MODE_EFFECT (R257). -/
def execCurModeEffect (s : State) : Host.Outcome State Fault Refusal := run s curModeEffect

/-- DEMAND_REPORT (R260). -/
def execDemandReport (s : State) : Host.Outcome State Fault Refusal := run s demandReport

/-- CURATOR_EPOCH (R264). -/
def execCuratorEpoch (s : State) : Host.Outcome State Fault Refusal := run s curatorEpoch

/-- CARRY_SWEEP_END (R264). -/
def execCarrySweepEnd (s : State) : Host.Outcome State Fault Refusal := run s carrySweep

/-- CUR_CMD_ENQUEUE (R285). -/
def execCurCmdEnqueue (v : W) (s : State) : Host.Outcome State Fault Refusal := run s (curCmdWrite · v)

/-- CONNECT (R285). -/
def execConnect (s : State) : Host.Outcome State Fault Refusal := run s (curRun · 1 curConnect)

/-- DISCONNECT (R285). -/
def execDisconnect (s : State) : Host.Outcome State Fault Refusal := run s (curRun · 2 curDisconnect)

/-- CUR_CLEAR (R285). -/
def execCurClear (s : State) : Host.Outcome State Fault Refusal := run s (curRun · 3 curClear)

/-- LOAD_PERM (R285). -/
def execLoadPerm (s : State) : Host.Outcome State Fault Refusal := run s (curRun · 4 curLoadPerm)

/-- LOAD_ARR (R285). -/
def execLoadArr (s : State) : Host.Outcome State Fault Refusal := run s (curRun · 5 curLoadArr)

/-- CUR_APPLY (R286). -/
def execCurApply (s : State) : Host.Outcome State Fault Refusal := run s curApply

/-- CACHE_WRITE_END (R284). -/
def execCacheWriteEnd (s : State) : Host.Outcome State Fault Refusal := run s cacheWriteEnd

/-- CUR_DOC_QUEUE_PLACE (R286). -/
def execCurDocQueuePlace (s : State) : Host.Outcome State Fault Refusal := run s curDocPlace

/-- CUR_DOC_RECORD (R286). -/
def execCurDocRecord (s : State) : Host.Outcome State Fault Refusal := run s curDocRecord

/-- CUR_DONE_POP (R293). -/
def execCurDonePop (s : State) : Host.Outcome State Fault Refusal := run s curDonePop

end Sys2Proof.Machine
end

