-- ==== Sys2Proof/Machine/Links.lean ====
section
/-! DEFINITION. Ngard tile links: frames, echoes, service frames, bring-up, departures from service and link tests
(R296–R335). -/

namespace Sys2Proof.Machine

/-! ### Link states (R322, R324, R328) -/

/-- The link of a tile. -/
def linkOf (c : Chip) (t : Nat) : Link := mapRead (fun _ => Link.reset) c.ngl.links t

/-- Pass one link through `f`. -/
def modLink (c : Chip) (t : Nat) (f : Link → Link) : Chip :=
  { c with ngl := { c.ngl with links := mapWrite (fun _ => Link.reset) c.ngl.links t (f (linkOf c t)) } }

/-- The state of a link (R328): 0 DOWN, 1 TRAIN, 2 ALIGN, 3 IDENT, 4 CONFIG, 5 ARM, 6 SERVICE, 7 RESYNC, 8 TEST,
9 FAILED. -/
def linkState (c : Chip) (t : Nat) : Nat := fld c (NGL_L_STAT_state t)

/-- NGL_STAT and NGL_INSVC follow a change of a link's state (R330). -/
def showLink (c : Chip) (t was now : Nat) : Chip :=
  let move : Chip → Nat → Nat → Chip := fun c st lo =>
    wr c NGL_STAT (putField (rd c NGL_STAT) lo 8
      (wbits (rd c NGL_STAT) lo 8 + b2n (now == st && was != st) - b2n (was == st && now != st)))
  let c := move (move c 6 16) 9 0
  wr c (NGL_INSVC (t / 32)) (putField (rd c (NGL_INSVC (t / 32))) (t % 32) 1 (b2n (now == 6)))

/-- An event of a link, with its code and detail (R466). -/
def linkNote (c : Chip) (t code detail : Nat) : Chip := raise c (srcLINK_NOTE t) (toW (code * 2 ^ 24 + detail))
def linkDegraded (c : Chip) (t code detail : Nat) : Chip := raise c (srcLINK_DEGRADED t) (toW (code * 2 ^ 24 + detail))

/-- A link departs from service (R196, R324). -/
def leaveService (c : Chip) (t fail : Nat) : Chip :=
  epochLeave (linkDegraded (countUp (setB c (NGL_L_STAT_oos t) true) (NGL_L_OOS t) 1) t 1 fail) t

/-- The downlink starts on a block grid whose place the spec leaves open (R297). -/
def startGrid (c : Chip) (t st : Nat) : Chip :=
  if st = 1 then freeNext (modLink c t (fun l => { l with phase := freeValue c })) else c

/-- A service frame of R314, start block and data blocks: the op's words big-endian, zero fill, and the CRC-32C over all but the
type octet, in the last four bytes. -/
def svcFrame (op : Nat) (id : BitVec 8) (count : Nat) (addr : W) (words : List W) : List Byte :=
  let l := ([0x66, BitVec.ofNat 8 op, id, BitVec.ofNat 8 count] : List Byte) ++ beBytes 4 addr.toNat
    ++ words.flatMap (fun w => beBytes 4 w.toNat)
    ++ (if words.length % 2 = 0 then List.replicate 4 0 else [])
  l ++ beBytes 4 (crc32c (l.drop 1))

/-- A service frame is sent in the present period, or in the first one with no other before it (R315). -/
def sendSvc (c : Chip) (t : Nat) (l : List Byte) : Chip :=
  modLink c t (fun k => if k.svcOut.isNone then { k with svcOut := some l } else { k with svcWait := k.svcWait ++ [l] })

/-- A request goes down with an id of its own, a free value (log entry 107), which its reply will carry (R314). -/
def sendRequest (c : Chip) (t op count : Nat) (addr : W) (words : List W) : Chip × BitVec 8 :=
  let id := BitVec.ofNat 8 (freeValue c)
  (sendSvc (freeNext c) t (svcFrame op id count addr words), id)

/-- What bring-up and the link test send on entry to a state (R319, R322, R325): the READ of the identity word, the WRITE of
hold_timeout and fallback, the WRITE of ARM, the WRITE that places the tile in TEST. -/
def stepRequest (c : Chip) (t st : Nat) : Chip :=
  let write := fun k w => sendRequest c t 1 1 (Config.tileAddr k) [w]
  let x := if st = 3 then some (sendRequest c t 2 1 (Config.tileAddr 0) [])
    else if st = 4 then some (write 1 (Config.tileConfig (fld c NGL_CTL_hold_timeout) (fld c NGL_CTL_fallback)))
    else if st = 5 then some (write 2 (Config.tileOrder 2))
    else if st = 8 then some (write 3 (Config.tileOrder 3))
    else none
  match x with
  | some (c, id) => modLink c t (fun l => { l with req := some id })
  | none => c

/-- A link takes a state (R322–R324): a departure from service is counted and raised, an entry raised; the downlink stops
in DOWN, TRAIN, TEST and FAILED. -/
def setLink (c : Chip) (t st : Nat) : Chip :=
  let was := linkState c t
  let c := if was = 6 && st != 6 then leaveService c t (if st = 9 then fld c (NGL_L_STAT_fail_code t) else 0) else c
  let c := startGrid (showLink (setFld c (NGL_L_STAT_state t) st) t was st) t st
  let c := modLink c t (fun l => { l with
    since := period c, count := 0, echoRun := 0, rttRun := 0, loss := 0, heldRun := 0,
    retryAt := if st = 9 then some (period c + 40000) else none,
    sendFrom := if st = 5 then some (period c + 1) else if st = 6 || st = 7 then l.sendFrom else none,
    svcOut := if st = 0 || st = 9 then none else l.svcOut, svcWait := if st = 0 || st = 9 then [] else l.svcWait,
    req := none })
  let c := stepRequest c t st
  if st = 6 && was != 6 then linkNote c t 2 0 else c

/-- A link fails with a code (R323, R324, R328). -/
def failLink (c : Chip) (t code : Nat) : Chip := setLink (setFld c (NGL_L_STAT_fail_code t) code) t 9

/-- The links are held in DOWN: the safe state, from the boundary after the last FRAME (R482). -/
def linkHeld (c : Chip) : Bool := safe c && c.att.final != some (period c)

/-- Every link is DOWN, no departure counted or raised (R482). -/
def holdLinks (c : Chip) : Chip :=
  (List.range 144).foldl (fun c t =>
    if linkState c t = 0 then c
    else
      let c := showLink (setFld c (NGL_L_STAT_state t) 0) t (linkState c t) 0
      modLink c t (fun l => { Link.reset with cmd := l.cmd, alarm := l.alarm, frame := l.frame })) c

/-- FRAMEs go down and are received (R322, R324): in ARM, SERVICE and RESYNC. -/
def linkSends (c : Chip) (t : Nat) : Bool := linkState c t == 5 || linkState c t == 6 || linkState c t == 7

/-- The tile is in the tile mask of the topology (R41). -/
def tileUsed (c : Chip) (t : Nat) : Bool :=
  match c.topo with
  | none => false
  | some p => p.tileMask.contains t

/-! ### The downlink frame (R302–R307, R320) -/

/-- cell_mode of R305. -/
def cellModeCode (c : Chip) (i : Nat) (x : Cell) : Nat :=
  if !cellLive c i then 0
  else match x.mode with
  | .off => 0
  | .hold => 2
  | _ => 1

/-- The drive word of a cell for the boundary after the present one (R304). -/
def driveWord (c : Chip) (i : Nat) : Nat :=
  let x := getCell c i
  let m := cellModeCode c i x
  if m = 0 then 0 else x.u1.heat * 2 ^ 16 + m * 2 ^ 14 + x.u1.inj

/-- The epoch byte and the service slot of the frame for the next boundary (R195, R303, R306). -/
def frameEpoch (c : Chip) : Nat × Nat :=
  let e := c.doc.epoch
  let b := period c + 1
  let old := fld c DOC_EPOCH_STAT_epoch
  let new := fld c DOC_EPOCH_STAT_pending
  let msg := fun k x => k * 2 ^ 56 + x * 2 ^ 48 + e.c.toNat % 2 ^ 16 * 2 ^ 32
  if epochBusy c && e.decided = some true && b = e.c then (new, 0)
  else if epochBusy c && e.started && decide (0 < pdiff b e.q) && decide (pdiff b e.c < 0) then (old, msg 1 new)
  else if e.withdrawn = some b then (old, msg 2 new)
  else (old, 0)

/-- A frame's bytes from its epoch byte, service slot and drive bytes, for tag `tag` (R303, R307). -/
def frameBytes (c : Chip) (tag : BitVec 16) (epoch svc : Nat) (drives : List Byte) : List Byte :=
  let twin := b2n c.twn.paired * 2 ^ 7 + b2n c.glb.straps.twinId
  let l := beBytes 1 epoch ++ beBytes 1 twin ++ beBytes 2 ((period c + 1).toNat / 2 ^ 16) ++ beBytes 8 svc ++ drives
  l ++ beBytes 4 (crc32c (beBytes 2 tag.toNat ++ l))

/-- The drive bytes of a tile's frame. -/
def tileDrives (c : Chip) (t : Nat) : List Byte := (List.range 32).flatMap (fun s => beBytes 4 (driveWord c (32 * t + s)))

/-- The downlink FRAME of the present period is sent (R302, R303): it carries the tag of the next boundary. The final
frame of the safe state repeats the drive words of the last one (R320, R482). -/
def downlinkFrame (c : Chip) (t : Nat) : Chip :=
  let l := linkOf c t
  let begun := match l.sendFrom with
    | some p => due c p
    | none => false
  if !linkSends c t || !begun || linkHeld c || !runsFabric c || inRepair c t then c
  else
    let tag := BitVec.ofNat 16 (period c + 1).toNat
    let bytes := if safe c then
        let drives := match l.frame with
          | some (_, old) => bytesAt old 12 128
          | none => tileDrives c t
        frameBytes c tag (fld c DOC_EPOCH_STAT_epoch / 4 * 4 + 2) 0 drives
      else frameBytes c tag (frameEpoch c).1 (frameEpoch c).2 (tileDrives c t)
    modLink c t (fun l => { l with frame := some (tag, bytes) })

/-! ### The uplink frame (R308–R312) -/

/-- A 16-bit sample (R310): its code, overrange, stale. -/
def sampleOf (v : Nat) : BitVec 14 × Bool × Bool := (BitVec.ofNat 14 v, bitsAt v 15 1 == 1, bitsAt v 14 1 == 1)

/-- The tap samples of a frame's slot (R308). -/
def tapOf (l : List Byte) (s : Nat) : Tap :=
  let b := sampleOf (beAt l (4 + 4 * s) 2)
  let x := sampleOf (beAt l (6 + 4 * s) 2)
  ⟨b.1, b.2.1, b.2.2, x.1, x.2.1, x.2.2⟩

/-- The samples of an accepted frame reach the mapped cells of the tile (R110). -/
def takeSamples (c : Chip) (t : Nat) (l : List Byte) : Chip :=
  (List.range 32).foldl (fun c s =>
    if (mapCellOf c (32 * t + s)).isSome then
      { c with lpe := { c.lpe with tapsNew := mapPut c.lpe.tapsNew (32 * t + s) (tapOf l s) } }
    else c) c

/-- The telemetry item of a frame (R311). -/
def takeTelemetry (c : Chip) (t : Nat) (reply : Nat) : Chip :=
  let i := bitsAt reply 56 8
  if 1 ≤ i && i ≤ 7 then
    wr (wr c (NGL_L_TELEM_LO t (i - 1)) (toW (bitsAt reply 0 32))) (NGL_L_TELEM_HI t (i - 1)) (toW (bitsAt reply 32 16))
  else c

/-- The status word of an accepted frame (R309): epoch, fallback, held, conflict, alarm, acknowledgement. -/
def takeStatus (c : Chip) (t st : Nat) : Chip :=
  let bit := fun n => bitsAt st n 1 == 1
  let c := setFld (setB c (NGL_L_STAT_fallback t) (bit 22)) (NGL_L_STAT_epoch t) (bitsAt st 24 8)
  let c := if bit 20 then countUp c (NGL_L_DL_HELD t) 1 else c
  let c := if bit 21 then
      let c := setB c (NGL_L_STAT_dup_conflict t) true
      raiseLimited c (srcLINK_DEGRADED t) (toW (5 * 2 ^ 24))
    else c
  let c := if bit 17 then setB c (NGL_L_STAT_tile_alarm t) true else c
  let c := if bit 17 && !(linkOf c t).alarm then linkDegraded c t 6 0 else c
  let c := modLink c t (fun l => { l with alarm := bit 17, heldRun := if bit 20 || bit 22 then l.heldRun + 1 else 0 })
  let c := if bit 23 then epochAck c t else c
  epochReport c t (bitsAt st 24 8) (period c)

/-- An uplink FRAME is not accepted (R312, R335): it is counted once in its period. -/
def uplinkBad (c : Chip) (t : Nat) (crc : Bool) : Chip :=
  let c := modLink c t (fun l => { l with counted := true })
  let c := countUp c (if crc then NGL_L_UL_CRC t else NGL_L_UL_ABSENT t) 1
  raiseLimited c (srcLINK_NOTE t) (toW (2 ^ 24))

/-- The CRC of a received frame (R307). -/
def frameCrcOk (tag : BitVec 16) (l : List Byte) : Bool :=
  crc32c (beBytes 2 tag.toNat ++ l.take 140) == beAt l 140 4

/-- An uplink FRAME is received (R299, R312): accepted with the present tag, its reserved octets zero, complete, with a good CRC
and in time. A late one has been counted as absent at its boundary. `errs`: sync-header and block-type errors met in it;
`other`: those met in the blocks around it. -/
def uplinkFrame (c : Chip) (t : Nat) (tag : BitVec 16) (resv : BitVec 40) (l : List Byte) (errs other : Nat) (onTime : Bool) :
    Chip :=
  let c := countUp c (NGL_L_SYNC_ERR t) (errs + other)
  if !linkSends c t || linkHeld c || !onTime || (linkOf c t).got then c
  else if errs != 0 || resv != 0 || l.length != 144 then uplinkBad c t false
  else if !frameCrcOk tag l then uplinkBad c t true
  else if tag != BitVec.ofNat 16 (period c).toNat then uplinkBad c t false
  else
    let c := takeTelemetry (takeSamples c t l) t (beAt l 132 8)
    let c := takeStatus c t (beAt l 0 4)
    let c := modLink c t (fun l => { l with got := true, loss := 0, count := l.count + 1 })
    if linkState c t = 7 && 64 ≤ (linkOf c t).count then setLink c t 6 else c

/-- An ECHO of the tile's boundary (R301, R322, R324): `arrival` counts from the own boundary tick in units of 0.125 ns, a bit
time, and `offset` is the ECHO's; `errs`: errors met in the blocks about it. -/
def echo (c : Chip) (t : Nat) (tag : BitVec 16) (offset : BitVec 8) (arrival : BitVec 16) (errs : Nat) : Chip :=
  let c := countUp c (NGL_L_SYNC_ERR t) errs
  let rtt := arrival - offset.setWidth 16
  let st := linkState c t
  if st = 0 || st = 1 || st = 8 || st = 9 || linkHeld c then c
  else if tag != BitVec.ofNat 16 (period c).toNat then modLink c t (fun l => { l with echoRun := 0 })
  else
    let r := rtt.toNat
    let c := setFld (setFld c (NGL_L_RTT_rtt t) r) (NGL_L_RTT_rtt_max t) (max r (fld c (NGL_L_RTT_rtt_max t)))
    modLink c t (fun l => { l with
      echoed := true, echoRun := if r ≤ 352 then l.echoRun + 1 else 0, rttRun := if r ≤ 352 then 0 else l.rttRun + 1 })

/-- A period ends on a link (R301, R312, R324): a FRAME that did not come is absent, an ECHO that did not come breaks the
runs. -/
def linkPeriod (c : Chip) (t : Nat) : Chip :=
  let l := linkOf c t
  let absent := l.expects && !l.got && !linkHeld c
  let c := if absent && !l.counted then uplinkBad c t false else c
  let c := modLink c t (fun l => { l with
    loss := if absent then l.loss + 1 else l.loss, count := if absent then 0 else l.count,
    echoRun := if l.echoed then l.echoRun else 0, rttRun := if l.echoed then l.rttRun else 0 })
  let sends := linkSends c t && !linkHeld c
  modLink c t (fun l => { l with
    echoed := false, heard := l.got, got := false, counted := false, expects := sends,
    svcOut := l.svcWait.head?, svcWait := l.svcWait.drop 1 })

/-- A boundary on every link; the safe state holds them DOWN (R482). -/
def linksPeriod (c : Chip) : Chip :=
  if linkHeld c then holdLinks c
  else (c.ngl.links.map (fun e => e.1)).foldl linkPeriod c

/-- The MARK of the present boundary on one link (R300, R322, R324): from ALIGN to RESYNC, at the first block from the tick
on; 8 bits pass in a tick and a block has 66. -/
def markLink (c : Chip) (t : Nat) : Chip :=
  let st := linkState c t
  let sends := decide (2 ≤ st) && decide (st ≤ 7) && !linkHeld c
  modLink c t (fun l => { l with
    mark := if sends then some (BitVec.ofNat 16 (period c).toNat, (l.phase + 58 * c.tmr.ticks) % 66) else none })

/-- The MARKs of the present boundary (R300). -/
def markLinks (c : Chip) : Chip := (c.ngl.links.map (fun e => e.1)).foldl markLink c

/-! ### Commands (R322, R325, R327) -/

/-- A link command is refused (R328, R335). -/
def linkReject (c : Chip) (t reason : Nat) : Chip :=
  raise (setFld (setB c (NGL_L_STAT_cmd_reject t) true) (NGL_L_STAT_reason t) reason) srcNGL_CMD_REJECT 0

/-- The reason to refuse a PRBS command (R325, R327); 0 if none. -/
def prbsReason (c : Chip) (t len : Nat) : Nat :=
  let st := linkState c t
  if !tileUsed c t then (if st = 0 || st = 9 then (if len < 64 || 1000000 < len then 4 else 0) else 2)
  else if st != 6 then 2
  else if epochMode c != 1 || epochBusy c then 3
  else if len < 64 || 1000000 < len then 4 else 0

/-- The reason to refuse a link command (R322, R327, R482); 0 if none. -/
def linkReason (c : Chip) (t : Nat) (w : W) : Nat :=
  let k := wbits w 28 4
  if k = 0 || 3 < k then 1
  else if linkHeld c then 2
  else if k = 1 && !tileUsed c t then 2
  else if k = 3 then prbsReason c t (wbits w 0 20) else 0

/-- The reason to refuse a link command at its write (R327); 0 if none: one command waits for its E. -/
def linkRefusal (c : Chip) (t : Nat) (w : W) : Nat :=
  let r := linkReason c t w
  if r = 1 || r = 2 then r else if (linkOf c t).cmd.isSome then 3 else r

/-- A write of NGL_Lttt_CTL (R327, R334). -/
def linkWrite (c : Chip) (t : Nat) (w : W) : Chip :=
  hostChangeIf c (NGL_L_CTL t) w
    (fun c => if linkRefusal c t w = 0 then none else some (linkReject c t (linkRefusal c t w)))
    (fun c e => modLink c t (fun l => { l with cmd := some (w, e) }))

/-- Bring-up starts at step 1 (R322, R323). -/
def startBringup (c : Chip) (t : Nat) : Chip := setLink (modLink c t (fun l => { l with test := none })) t 1

/-- A link test starts (R325): at once on a tile in service, after steps 1–3 on an unused one. -/
def startTest (c : Chip) (t len : Nat) : Chip :=
  let unused := !tileUsed c t
  let c := modLink c t (fun l => { l with test := some (len, unused) })
  setLink c t (if unused then 1 else 8)

/-- The link command whose E has come takes effect (R322, R324, R325). -/
def linkEffect (c : Chip) (t : Nat) : Chip :=
  match (linkOf c t).cmd with
  | none => c
  | some (w, e) =>
    if !due c e then c
    else
      let c := modLink c t (fun l => { l with cmd := none })
      let r := linkReason c t w
      if r != 0 then linkReject c t r
      else
        let c := modLink c t (fun l => { l with expects := false })
        if wbits w 28 4 = 1 then startBringup c t
        else if wbits w 28 4 = 2 then setLink (modLink c t (fun l => { l with test := none })) t 0
        else startTest c t (wbits w 0 20)

/-- Every link command whose E has come. -/
def linkEffects (c : Chip) : Chip :=
  ((c.ngl.links.filter (fun e => e.2.cmd.isSome)).map (fun e => e.1)).foldl linkEffect c

/-! ### Bring-up (R322, R323) -/

/-- A step of bring-up completes, in state `st`. -/
def stepFrom (c : Chip) (t st : Nat) (ok : Link → Bool) (k : Chip → Chip) : Chip :=
  if linkState c t = st && ok (linkOf c t) && !linkHeld c then k c else c

/-- The identity word is read (R322): TILE_ID holds it; another device or link revision fails with code 4. On an unused
tile the test follows (R325). -/
def identDone (c : Chip) (t : Nat) (word : W) : Chip :=
  let c := wr c (NGL_L_TILE_ID t) word
  if wbits word 16 16 != 0x0032 || wbits word 8 8 != 0x01 then linkDegraded (failLink c t 4) t 2 4
  else if (linkOf c t).test.isSome then setLink c t 8
  else setLink c t 4

/-- Limit and fail_code of a step (R322, R328). -/
def stepLimit (st : Nat) : Nat × Nat :=
  if st = 1 then (1600, 1) else if st = 2 then (64, 2) else if st = 3 then (64, 4) else if st = 4 then (64, 8) else (256, 8)

/-- A step has run past its limit (R323). -/
def stepTimeout (c : Chip) (t : Nat) : Chip :=
  let st := linkState c t
  let lim := stepLimit st
  if 1 ≤ st && st ≤ 5 && decide (lim.1 ≤ (period c - (linkOf c t).since).toNat) && !linkHeld c then
    linkDegraded (failLink c t lim.2) t 2 lim.2
  else c

/-- A failed bring-up is tried again after 10 ms with auto_retry (R323). -/
def bringupRetry (c : Chip) (t : Nat) : Chip :=
  match (linkOf c t).retryAt with
  | some p =>
    if linkState c t = 9 && due c p && fldB c NGL_CTL_auto_retry && tileUsed c t && !linkHeld c then startBringup c t else c
  | none => c

/-- A test ends (R325): the error counts are read, the tile's by a service frame, and the link goes to bring-up, or to DOWN on an unused tile. -/
def prbsEnd (c : Chip) (t : Nat) (ul dl : W) : Chip :=
  match linkState c t, (linkOf c t).test with
  | 8, some (len, unused) =>
    if (period c - (linkOf c t).since).toNat < len || linkHeld c then c
    else
      let c := (sendRequest c t 2 1 (Config.tileAddr 4) []).1
      let c := wr (wr c (NGL_L_PRBS_UL t) ul) (NGL_L_PRBS_DL t) dl
      if unused then setLink (modLink c t (fun l => { l with test := none })) t 0 else startBringup c t
  | _, _ => c

/-! ### Departures from service (R198, R321, R324) -/

/-- loss_limit of R331: 4–255. -/
def lossLimit (c : Chip) : Nat := max 4 (fld c NGL_CTL_loss_limit)

/-- loss_limit periods without an accepted FRAME (R324). -/
def linkResync (c : Chip) (t : Nat) : Chip := stepFrom c t 6 (fun l => decide (lossLimit c ≤ l.loss)) (fun c => setLink c t 7)

/-- 4,000 periods in RESYNC (R324). -/
def resyncTimeout (c : Chip) (t : Nat) : Chip :=
  stepFrom c t 7 (fun l => decide (4000 ≤ (period c - l.since).toNat)) (fun c => failLink c t 6)

/-- held or fallback in 32 consecutive accepted FRAMEs (R324). -/
def dlFault (c : Chip) (t : Nat) : Chip :=
  stepFrom c t 6 (fun l => decide (32 ≤ l.heldRun)) (fun c =>
    failLink (linkDegraded (setB c (NGL_L_STAT_dl_fault t) true) t 3 5) t 5)

/-- A round trip above 44 ns in 16 consecutive periods (R324). -/
def rttHigh (c : Chip) (t : Nat) : Chip :=
  stepFrom c t 6 (fun l => decide (16 ≤ l.rttRun)) (fun c =>
    failLink (linkDegraded (setB c (NGL_L_STAT_rtt_high t) true) t 4 3) t 3)

/-- A tile still reports the old epoch 64 periods after C (R198, R321). -/
def epochStray (c : Chip) (t : Nat) : Chip :=
  match c.doc.epoch.last with
  | some (b, _) =>
    if c.doc.epoch.behind.contains t && due c (b + 64) then
      stepFrom c t 6 (fun _ => true) (fun c =>
        let c := modEpoch c (fun e => { e with behind := e.behind.erase t })
        failLink (raise c srcEPOCH_STRAY 0) t 7)
    else c
  | none => c

/-! ### The mailbox (R314, R315, R332, R333) -/

/-- A mailbox transaction ends with a status. -/
def svcEnd (c : Chip) (status : Nat) : Chip :=
  setFld (setB { c with ngl := { c.ngl with svc := none } } NGL_SVC_STAT_busy false) NGL_SVC_STAT_status status

/-- A write of NGL_SVC_CMD (R332). -/
def svcWrite (c : Chip) (w : W) : Chip :=
  hostWrite c NGL_SVC_CMD (fun c =>
    let op := wbits w 28 4
    let n := wbits w 24 3
    let t := wbits w 0 8
    if !wbit w 8 then c
    else if c.ngl.svc.isSome then setFld c NGL_SVC_STAT_status 6
    else if (op != 1 && op != 2) || n = 0 || 144 ≤ t then svcEnd c 7
    else if !holdsLoan c then svcEnd c 5
    else if linkState c t != 6 then svcEnd c 4
    else
      let c := setB (setFld c NGL_SVC_STAT_status 0) NGL_SVC_STAT_busy true
      let words := if op = 1 then (List.range n).map (fun i => rd c (NGL_SVC_DATA i)) else []
      let (c, id) := sendRequest c t op n (rd c NGL_SVC_ADDR) words
      { c with ngl := { c.ngl with svc := some ⟨t, op == 2, n, period c, id⟩ } })

/-- A service frame is received whole with a good CRC (R299, R314): an SVC start block and one to four data blocks. -/
def svcFrameOk (l : List Byte) : Bool :=
  decide (16 ≤ l.length) && decide (l.length ≤ 40) && l.length % 8 == 0 && beAt l 0 1 == 0x66
    && crc32c ((l.take (l.length - 4)).drop 1) == beAt l (l.length - 4) 4

/-- A word of a service frame's data. -/
def svcWord (l : List Byte) (i : Nat) : W := toW (beAt l (8 + 4 * i) 4)

/-- A reply comes up: its sync errors are counted (R326), and one received whole with op `op` and id `id` is taken (R314). -/
def svcIn (c : Chip) (t op errs : Nat) (l : List Byte) (id : Option (BitVec 8)) (k : Chip → Chip) : Chip :=
  let c := countUp c (NGL_L_SYNC_ERR t) errs
  match id with
  | some n => if errs = 0 && svcFrameOk l && beAt l 1 1 == op && beAt l 2 1 == n.toNat then k c else c
  | none => c

/-- A reply to the mailbox request on link `t` (R314, R332): of a WRITE or a READ as `read` says, `none` either. -/
def svcReply (c : Chip) (t op errs : Nat) (l : List Byte) (read : Option Bool) (k : Chip → Nat → Chip) : Chip :=
  match c.ngl.svc with
  | some r =>
    let mine := r.link = t && (match read with | some b => r.read == b | none => true)
    svcIn c t op errs l (if mine then some r.id else none) (fun c => k c r.count)
  | none => svcIn c t op errs l none (fun c => c)

/-- Read data are stored in NGL_SVC_DATA (R330). -/
def svcStore (c : Chip) (n : Nat) (l : List W) : Chip :=
  ((List.range n).zip l).foldl (fun c e => wr c (NGL_SVC_DATA e.1) e.2) c

/-- No reply within 64 periods (R315). -/
def svcTimeout (c : Chip) : Chip :=
  match c.ngl.svc with
  | some r => if 64 ≤ (period c - r.start).toNat then raise (svcEnd c 2) srcNGL_SVC_TIMEOUT 0 else c
  | none => c

/-! ### The commands -/

/-- A word of NGL_Lttt_CTL with its command set to `k` (R327). -/
def withLinkCmd (w : W) (k : Nat) : W := putField w 28 4 k

/-- A word of NGL_SVC_CMD with its op set to `k` and go set (R332). -/
def withSvcOp (w : W) (k : Nat) : W := putField (putField w 28 4 k) 8 1 1

/-- ECHO (R301). -/
def execEcho (t : Fin 144) (tag : BitVec 16) (offset : BitVec 8) (arrival : BitVec 16) (errs : Nat) (s : State) :
    Host.Outcome State Fault Refusal :=
  run s (echo · t tag offset arrival errs)

/-- DOWNLINK_FRAME (R302). -/
def execDownlinkFrame (t : Fin 144) (s : State) : Host.Outcome State Fault Refusal := run s (downlinkFrame · t)

/-- UPLINK_FRAME (R312). -/
def execUplinkFrame (t : Fin 144) (tag : BitVec 16) (resv : BitVec 40) (data : List Byte) (errs other : Nat) (onTime : Bool)
    (s : State) : Host.Outcome State Fault Refusal :=
  run s (uplinkFrame · t tag resv data errs other onTime)

/-- SVC_WRITE (R332). -/
def execSvcWrite (v : W) (s : State) : Host.Outcome State Fault Refusal := run s (svcWrite · (withSvcOp v 1))

/-- SVC_READ (R332). -/
def execSvcRead (v : W) (s : State) : Host.Outcome State Fault Refusal := run s (svcWrite · (withSvcOp v 2))

/-- WRITE_ACK (R314). -/
def execWriteAck (t : Fin 144) (frame : List Byte) (errs : Nat) (s : State) : Host.Outcome State Fault Refusal :=
  run s (svcReply · t 0x81 errs frame (some false) (fun c _ => svcEnd c 1))

/-- READ_DATA (R314): the words asked for are stored. -/
def execReadData (t : Fin 144) (frame : List Byte) (errs : Nat) (s : State) : Host.Outcome State Fault Refusal :=
  run s (svcReply · t 0x82 errs frame (some true) (fun c n =>
    svcEnd (svcStore c n ((List.range n).map (svcWord frame))) 1))

/-- SVC_ERROR (R314): word 0 is the tile's error code. -/
def execSvcError (t : Fin 144) (frame : List Byte) (errs : Nat) (s : State) : Host.Outcome State Fault Refusal :=
  run s (svcReply · t 0x8F errs frame none (fun c _ =>
    setFld (svcEnd c 3) NGL_SVC_STAT_tile_err (wbits (svcWord frame 0) 0 16)))

/-- SVC_TIMEOUT (R315). -/
def execSvcTimeout (s : State) : Host.Outcome State Fault Refusal := run s svcTimeout

/-- BRINGUP (R322). -/
def execBringup (t : Fin 144) (v : W) (s : State) : Host.Outcome State Fault Refusal :=
  run s (linkWrite · t (withLinkCmd v 1))

/-- DOWN (R324). -/
def execLinkDown (t : Fin 144) (v : W) (s : State) : Host.Outcome State Fault Refusal :=
  run s (linkWrite · t (withLinkCmd v 2))

/-- PRBS (R325). -/
def execPrbs (t : Fin 144) (v : W) (s : State) : Host.Outcome State Fault Refusal :=
  run s (linkWrite · t (withLinkCmd v 3))

/-- TRAIN_DONE (R322). -/
def execTrainDone (t : Fin 144) (errs : Nat) (s : State) : Host.Outcome State Fault Refusal :=
  run s (fun c => stepFrom (countUp c (NGL_L_SYNC_ERR t) errs) t 1 (fun _ => true) (fun c => setLink c t 2))

/-- ALIGN_DONE (R322): 16 consecutive ECHOs within the limit. -/
def execAlignDone (t : Fin 144) (s : State) : Host.Outcome State Fault Refusal :=
  run s (stepFrom · t 2 (fun l => decide (16 ≤ l.echoRun)) (fun c => setLink c t 3))

/-- IDENT_DONE (R322): the reply to the READ of the identity word. -/
def execIdentDone (t : Fin 144) (frame : List Byte) (errs : Nat) (s : State) : Host.Outcome State Fault Refusal :=
  run s (fun c => svcIn c t 0x82 errs frame (linkOf c t).req (fun c =>
    stepFrom c t 3 (fun _ => true) (fun c => identDone c t (svcWord frame 0))))

/-- CONFIG_DONE (R322): the WRITE_ACK of hold_timeout and fallback. -/
def execConfigDone (t : Fin 144) (frame : List Byte) (errs : Nat) (s : State) : Host.Outcome State Fault Refusal :=
  run s (fun c => svcIn c t 0x81 errs frame (linkOf c t).req (fun c =>
    stepFrom c t 4 (fun _ => true) (fun c => setLink c t 5)))

/-- ARM_DONE (R322): 64 consecutive accepted FRAMEs. -/
def execArmDone (t : Fin 144) (s : State) : Host.Outcome State Fault Refusal :=
  run s (stepFrom · t 5 (fun l => decide (64 ≤ l.count)) (fun c => setLink c t 6))

/-- BRINGUP_STEP_TIMEOUT (R323). -/
def execBringupStepTimeout (t : Fin 144) (s : State) : Host.Outcome State Fault Refusal := run s (stepTimeout · t)

/-- BRINGUP_RETRY (R323). -/
def execBringupRetry (t : Fin 144) (s : State) : Host.Outcome State Fault Refusal := run s (bringupRetry · t)

/-- LINK_RESYNC (R324). -/
def execLinkResync (t : Fin 144) (s : State) : Host.Outcome State Fault Refusal := run s (linkResync · t)

/-- RESYNC_TIMEOUT (R324). -/
def execResyncTimeout (t : Fin 144) (s : State) : Host.Outcome State Fault Refusal := run s (resyncTimeout · t)

/-- DL_FAULT (R324). -/
def execDlFault (t : Fin 144) (s : State) : Host.Outcome State Fault Refusal := run s (dlFault · t)

/-- RTT_HIGH (R324). -/
def execRttHigh (t : Fin 144) (s : State) : Host.Outcome State Fault Refusal := run s (rttHigh · t)

/-- PRBS_END (R325). -/
def execPrbsEnd (t : Fin 144) (ul dl : W) (s : State) : Host.Outcome State Fault Refusal := run s (prbsEnd · t ul dl)

/-- EPOCH_STRAY (R321). -/
def execEpochStray (t : Fin 144) (s : State) : Host.Outcome State Fault Refusal := run s (epochStray · t)

end Sys2Proof.Machine
end

