-- ==== Sys2Proof/Machine/Twin.lean ====
section
/-! DEFINITION. Twin operation: the grid, the journal, the loan, the loss of the twin link, repairs, joins and the
control-store swap (R336–R371). -/

namespace Sys2Proof.Machine

/-- A block or message is discarded and counted (R339). -/
def blockErr (c : Chip) : Chip := countUp c TWN_BLOCK_ERR 1

/-- The data of a message of type `typ` without its check word, where the check word holds (R340). -/
def msgData (typ : Nat) (l : List Byte) : Option (List Byte) :=
  let n := l.length
  if n = 0 || n % 8 != 0 || 32768 < n then none
  else
    if crc32c (msgHead typ n ++ l.take (n - 4)) == beAt l (n - 4) 4 then some (l.take (n - 4)) else none

/-- The payload bytes of a record (R344). A snapshot's content has no printed layout: its bytes are free values
(log entry 20). -/
def payloadBytes (free : Nat) : JPayload → List Byte
  | .reg a v => beBytes 4 a ++ beBytes 4 v.toNat
  | .arr id l => beBytes 2 id.toNat ++ [0, 0] ++ l
  | .resid s k n ok => beBytes 1 s ++ beBytes 1 (b2n ok) ++ beBytes 2 k ++ beBytes 4 n
  | .urgent op => [op]
  | .doccmd q w0 w1 w2 w3 =>
    beBytes 1 q ++ [0, 0, 0] ++ beBytes 4 w0.toNat ++ beBytes 4 w1.toNat ++ beBytes 4 w2.toNat ++ beBytes 4 w3.toNat
  | .fw l => l
  | .csImage off l => beBytes 4 off ++ l
  | .snap _ => (List.range 20000).map (Config.snapByte free)
  | .commit => []

/-- The code of a record's type (R344). -/
def payloadType : JPayload → Nat
  | .reg _ _ => 1
  | .arr _ _ => 2
  | .resid _ _ _ _ => 3
  | .urgent _ => 4
  | .doccmd _ _ _ _ _ => 5
  | .fw _ => 6
  | .csImage _ _ => 7
  | .snap _ => 8
  | .commit => 9

/-- A record with its header (R344). -/
def recordBytes (free : Nat) (r : JRec) : List Byte :=
  beBytes 4 r.seq.toNat ++ beBytes 4 r.e.toNat ++ beBytes 1 (payloadType r.payload) ++ beBytes 1 r.source
    ++ beBytes 2 r.payload.size ++ beBytes 4 r.pAcc.toNat ++ payloadBytes free r.payload

/-- A message has left (R340). -/
def msgLeft (c : Chip) (typ : Nat) (l : List Byte) : Chip :=
  { c with twn := { c.twn with msgOut := c.twn.msgOut ++ [(typ, l)] } }

/-- Show the tiles in repair (R365, R367). -/
def showRepairs (c : Chip) : Chip :=
  let l := (c.twn.repairs.filter (fun r => !r.join)).map (fun r => r.tile)
  let c := (List.range 5).foldl (fun c i =>
    wr c (TWN_REPAIR i) (toW (bitMask ((l.filter (fun t => t / 32 == i)).map (fun t => t % 32))))) c
  setFld c TWN_STAT_repairs (min 8 l.length)

/-! ### Joins that end (R360, R361) -/

/-- This device is the joining copyist, or the keeper it joins. -/
def joining (c : Chip) : Bool := twinState c == 1
def joinRuns (c : Chip) : Bool := joining c || (twinRole c == 1 && fld c TWN_JOIN_STAT_result == 3)

/-- A join ends refused (R360, R361): the joining device is DETACHED, the keeper goes on alone. -/
def joinFail (c : Chip) (reason : Nat) : Chip :=
  let c := setFld (setFld c TWN_JOIN_STAT_result 2) TWN_JOIN_STAT_reason reason
  let c := raise c srcTWN_JOIN_REFUSED (toW reason)
  let c := { c with twn := { c.twn with
    paired := false, out := [], sentBytes := 0, repairs := [], relays := [], commitE := none, msgWait := [], bulk := [],
    bulkLeft := 0 } }
  let c := showRepairs (wr c TWN_JQUEUE 0)
  if joining c then setTwin { c with twn := { c.twn with inbox := [], rxSeq := none, tags := [] } } 0 0 false else c

/-! ### The journal (R343–R347) -/

/-- The payload of a record by its type (R344). -/
def payloadOf (typ : Nat) (p : List Byte) : Option JPayload :=
  let n := p.length
  match typ with
  | 1 => if n = 8 then some (.reg (beAt p 0 4) (toW (beAt p 4 4))) else none
  | 2 => if n = 4 + arrBytes then some (.arr (BitVec.ofNat 16 (beAt p 0 2)) (p.drop 4)) else none
  | 3 => if n = 8 then some (.resid (beAt p 0 1) (beAt p 2 2) (beAt p 4 4) (beAt p 1 1 == 1)) else none
  | 4 => if n = 1 then some (.urgent (nth 0 p 0)) else none
  | 5 =>
    if n = 20 then
      some (.doccmd (beAt p 0 1) (toW (beAt p 4 4)) (toW (beAt p 8 4)) (toW (beAt p 12 4)) (toW (beAt p 16 4)))
    else none
  | 6 => if 1 ≤ n && n ≤ 256 then some (.fw p) else none
  | 7 => if 4 ≤ n && n ≤ 16388 then some (.csImage (beAt p 0 4) (p.drop 4)) else none
  | 8 => some (.snap none)
  | 9 => if n = 0 then some .commit else none
  | _ => none

/-- The record of a JOURNAL message's data (R344). -/
def recordAt (l : List Byte) : Option JRec :=
  let n := beAt l 10 2
  if l.length < 16 + n || 20000 < n then none
  else (payloadOf (beAt l 8 1) (bytesAt l 16 n)).map
    (fun p => ⟨toW (beAt l 0 4), toW (beAt l 4 4), p, beAt l 9 1, toW (beAt l 12 4)⟩)

/-- A JOURNAL message is received (R344, R346): a record whole by boundary E − 1 and of the next sequence waits for its
E; otherwise the copyist is UNFIT. -/
def journalIn (c : Chip) (l : List Byte) : Chip :=
  let follows := twinRole c == 2 && c.twn.paired
  let bad := fun c => if !follows then c else if joining c then joinFail c 9 else copyistUnfit c 2 0
  match (msgData 1 l).bind recordAt with
  | none => bad (blockErr c)
  | some r =>
    if !follows then c
    else
      let gap := match c.twn.rxSeq with
        | some n => r.seq != n
        | none => false
      if gap || pReached (period c) (r.e - 1) then bad c
      else { c with twn := { c.twn with
        inbox := c.twn.inbox ++ [r], rxSeq := some (r.seq + 1), lastE := laterP r.e c.twn.lastE } }

/-- The first record that waits, if its E has come and it is of the kind wanted, and the device without it. -/
def takeRecord (c : Chip) (want : JPayload → Bool) : Option (JRec × Chip) :=
  match c.twn.inbox with
  | r :: rest =>
    if want r.payload && due c r.e then
      some (r, wr { c with twn := { c.twn with inbox := rest } } TWN_JSEQ r.seq)
    else none
  | [] => none

/-- A record acts as made by its source (R344). -/
def asRecord (c : Chip) (r : JRec) (f : Chip → Chip) : Chip :=
  let d := withSource { c with twn := { c.twn with applying := true } } r.source f
  { d with twn := { d.twn with applying := false } }

/-- The bytes of a record with its header (R344). -/
def JRec.size (r : JRec) : Nat := 16 + r.payload.size

/-- Records leave for the partner, each as a JOURNAL message with its last byte: at most `n` bytes in this period (R340, R345; log
entry 21). The second part: the bytes of the period left over. -/
def sendRecords (c : Chip) : Nat → Nat → Chip × Nat
  | 0, n => (c, n)
  | fuel + 1, n =>
    match c.twn.out with
    | [] => ({ c with twn := { c.twn with sentBytes := 0 } }, n)
    | r :: rest =>
      let left := r.size - c.twn.sentBytes
      if left ≤ n then
        let c := { c with twn := { c.twn with out := rest, sentBytes := 0 } }
        let c := freeNext (msgLeft c 1 (msgOf 1 (recordBytes c.free r)))
        sendRecords (wr (wr c TWN_JSEQ r.seq) TWN_JQUEUE (toW (rn c TWN_JQUEUE - left))) fuel (n - left)
      else
        (wr { c with twn := { c.twn with sentBytes := c.twn.sentBytes + n } } TWN_JQUEUE (toW (rn c TWN_JQUEUE - n)), 0)

/-- Waiting messages of one type leave in order with `b` blocks: those that leave, those that go on waiting, the blocks left. -/
def takeMessages (b : Nat) : List (Nat × (List Byte × Nat)) → List (Nat × List Byte) × List (Nat × (List Byte × Nat)) × Nat
  | [] => ([], [], b)
  | (t, l, n) :: rest =>
    if n ≤ b then
      let (s, w, b) := takeMessages (b - n) rest
      ((t, l) :: s, w, b)
    else ([], (t, l, n - b) :: rest, 0)

/-- The content of one STORED arrangement as a BULK message (R360; log entry 20). -/
def bulkMessage (c : Chip) (id : BitVec 16) : List Byte :=
  msgOf 4 (beBytes 2 id.toNat ++ [0, 0] ++ memBytes c 12 (slotAddr c id.toNat) arrBytes)

/-- The blocks of a BULK message. -/
def bulkBlocks : Nat := 1 + (arrBytes + 8) / 8

/-- A join's arrangements leave with `b` blocks (R340, R360). -/
def sendBulk (c : Chip) : Nat → Nat → Chip
  | 0, _ => c
  | fuel + 1, b =>
    match c.twn.bulk with
    | [] => c
    | id :: rest =>
      let left := if c.twn.bulkLeft = 0 then bulkBlocks else c.twn.bulkLeft
      if left ≤ b then
        sendBulk (msgLeft { c with twn := { c.twn with bulk := rest, bulkLeft := 0 } } 4 (bulkMessage c id)) fuel (b - left)
      else { c with twn := { c.twn with bulkLeft := left - b } }

/-- The messages of a period (R340): 375 blocks beside the TICK and the PREC, RELAYs first, TILE_COPYs as far as the journal's
guaranteed share leaves room, then JOURNAL and URG_REQ, then BULK (log entry 21). `journal`: this device sends its records. -/
def sendMessages (c : Chip) (journal : Bool) : Chip :=
  let c := { c with twn := { c.twn with msgOut := [] } }
  let of_ := fun t => c.twn.msgWait.filter (fun e => e.1 == t)
  let (s2, w2, b) := takeMessages 375 (of_ 2)
  let share := if journal then min b (min 192 (ceilDiv (rn c TWN_JQUEUE) 8)) else 0
  let (s3, w3, b3) := takeMessages (b - share) (of_ 3)
  let (s6, w6, b6) := takeMessages (b3 + share) (of_ 6)
  let c := { c with twn := { c.twn with msgOut := s2 ++ s3 ++ s6, msgWait := w2 ++ w3 ++ w6 } }
  let (c, n) := if journal then sendRecords c (c.twn.out.length + 1) (8 * b6) else (c, 8 * b6)
  sendBulk c 2 (n / 8)

/-- Remove what a register write of value `v` and effective period `e` left waiting. -/
def withdrawReg (c : Chip) (a : Nat) (v e : W) : Chip :=
  let c := { c with deferred := c.deferred.filter (fun d => !(d.addr == a && d.value == v && d.e == e)) }
  if a = PRG_CMD then setB c PRG_STAT_busy false
  else if a = ARS_CMD then setB { c with ars := { c.ars with cmd := none, arrIn := none } } ARS_STAT_busy false
  else if a = INV_CMD_cmd.addr then setB { c with lpe := { c.lpe with invCmd := none } } INV_STAT_cmd_busy false
  else if a = DOC_CMD 3 then
    { c with doc := { c.doc with incoming := c.doc.incoming.filter (fun x => !(x.1.source == 0 && x.1.w3 == v && x.2 == e)) } }
  else if a = DOC_ABORT then setB { c with doc := { c.doc with abort := none } } DOC_STAT_abort_busy false
  else if a = DOC_EPOCH_REQ then
    if c.doc.epoch.q = e then setB c DOC_EPOCH_STAT_preparing false else c
  else if a = CUR_CMD 3 then
    { c with cur := { c.cur with incoming := c.cur.incoming.filter (fun x => !(x.1.w3 == v && x.2 == e)) } }
  else if a = CUR_CTL then { c with cur := { c.cur with modeWait := none } }
  else if a = TMR_ADJ_CTL_go.addr then setB { c with tmr := { c.tmr with adj := none } } TMR_STAT_adj_busy false
  else if a = TMR_INC_FRAC then { c with tmr := { c.tmr with incPend := none } }
  else if a = TMR_CX_RATE then { c with tmr := { c.tmr with cxPend := none } }
  else if a = PKT_GEN_swap.addr then setB { c with svp := { c.svp with swapAt := none, copyAt := none } } PKT_GEN_busy false
  else if a = CNS_COMMIT then { c with lpe := { c.lpe with commits := c.lpe.commits.filter (fun x => x.2 != e) } }
  else
    let c := galleries.foldl (fun c g =>
      if a = (LPE_CELL_CMD_cmd g).addr then
        setB { c with lpe := { c.lpe with cmds := mapDel c.lpe.cmds g } } (LPE_CMD_STAT_busy g) false
      else c) c
    let c := { c with pdm := { c.pdm with waits := c.pdm.waits.filter (fun x => !(a == PDM_DOM x.1 && x.2.2 == e)) } }
    (List.range 144).foldl (fun c t => if a = NGL_L_CTL t then modLink c t (fun l => { l with cmd := none }) else c) c

/-- A record that was not sent whole is withdrawn: it takes effect in neither twin (R350, R352). -/
def withdrawRecord (c : Chip) (r : JRec) : Chip :=
  match r.payload with
  | .reg a v => withdrawReg c a v r.e
  | .arr id _ =>
    { c with ars := { c.ars with arrIn := none },
             cur := { c.cur with writes := c.cur.writes.filter (fun w => !(w.id == id && w.e == some r.e)) } }
  | .resid s k n _ =>
    { c with prg := { c.prg with resid := c.prg.resid.filter (fun x => !(x.1 == s && x.2.1 == k && x.2.2.1 == n)) } }
  | .urgent op => { c with doc := { c.doc with urgWait := c.doc.urgWait.erase (op.toNat, r.e) } }
  | .doccmd _ w0 w1 _ _ =>
    { c with doc := { c.doc with
        incoming := c.doc.incoming.filter (fun x => !(x.1.w0 == w0 && x.1.w1 == w1 && x.2 == r.e)) } }
  | .csImage _ _ => setFld { c with twn := { c.twn with csStagedAt := none } } TWN_CS_CTL_cs_state 0
  | .fw _ => c
  | .snap _ => c
  | .commit => { c with twn := { c.twn with commitE := none } }

/-- Every record not sent whole is withdrawn and counted (R350, R352). -/
def withdrawAll (c : Chip) : Chip :=
  match c.twn.out with
  | [] => c
  | r :: rest =>
    let l := r :: rest
    let c := l.foldl withdrawRecord c
    let c := setB (countUp c TWN_WITHDRAWN_CNT l.length) TWN_STAT_j_withdrawn true
    wr { c with twn := { c.twn with out := [], sentBytes := 0, seq := r.seq } } TWN_JQUEUE 0

/-! ### Maps, dl_crc and the PREC (R341, R343, R354) -/

/-- The FRAME of tile `t` computed in the present period, whether or not it is sent (R354). -/
def computedFrame (c : Chip) (t : Nat) : List Byte :=
  frameBytes c (BitVec.ofNat 16 (period c + 1).toNat) (frameEpoch c).1 (frameEpoch c).2 (tileDrives c t)

/-- Tile `t` is in repair. -/
def tileInRepair (c : Chip) (t : Nat) : Bool := c.twn.repairs.any (fun r => r.tile == t && !r.join)

/-- dl_crc over the FRAMEs computed in the present period (R354). -/
def dlCrcOf (c : Chip) : Nat :=
  match c.topo with
  | none => crc32c []
  | some p =>
    crc32c (((List.range 144).filter (fun t => p.tileMask.contains t && !tileInRepair c t)).flatMap
      (fun t => (computedFrame c t).take 1 ++ bytesAt (computedFrame c t) 2 138))

/-- The tiles whose links are in service at the present boundary. -/
def serviceTiles (c : Chip) : List Nat := (List.range 144).filter (fun t => linkState c t == 6)

/-- A map of the PREC (R341): bit t of the 18 bytes stands in byte 17 − t div 8. -/
def mapBytes (l : List Nat) : List Byte := beBytes 18 (bitMask l)
def mapTiles (l : List Byte) : List Nat := setBits (beNat l) 144

/-- The role byte of the PREC (R341). -/
def roleByte (c : Chip) : Nat :=
  twinRole c + b2n (fldB c TWN_STAT_acting) * 4 + b2n (twinState c == 2) * 8 + b2n c.twn.unfitOut * 16

/-- The PREC of the present period (R341). -/
def precBytes (c : Chip) : List Byte :=
  let e := c.doc.epoch
  let acks := if epochBusy c && e.started && period c == e.c - 2 then
      (e.acks.filter (fun x => decide (100 ≤ x))).map (· - 100) else []
  let jseq := if twinRole c = 2 then (match c.twn.rxSeq with | some n => (n - 1).toNat | none => 0) else rn c TWN_JSEQ
  let l := beBytes 4 (period c).toNat ++ beBytes 1 (roleByte c) ++ beBytes 1 c.twn.loanOut
    ++ beBytes 2 (twos 16 c.twn.tickArr) ++ beBytes 4 c.twn.dlCrc ++ beBytes 4 jseq ++ mapBytes c.twn.ulMap
    ++ mapBytes c.twn.mySvcNext ++ mapBytes acks ++ beBytes 6 0
  l ++ beBytes 4 (crc32c l)

/-- The PREC leaves (R340, R341). -/
def formPrec (c : Chip) : Chip := { c with twn := { c.twn with precOut := precBytes c } }

/-- A repair starts again with the disagreeing boundary `k` as its new k; the fourth time in a row makes the copyist UNFIT
(R356). The periods of the repair given up stay untested (R357). -/
def repairAgain (c : Chip) (r : Repair) (k : W) : Chip :=
  let again : Repair := { r with k := k, again := r.again + 1, copy := none, replayed := false }
  let c := { c with twn := { c.twn with
    repairs := c.twn.repairs.map (fun x => if x.tile = r.tile then again else x),
    repaired := c.twn.repaired ++ [(r.tile, r.k + 1, k + 1)] } }
  if 4 ≤ again.again then copyistUnfit c 5 r.tile else c

/-- The ul_maps for boundary `k` differ in tile `t` (R355, R356): a repair starts; one whose boundaries k + 2 to k + 4 hold this
one starts again. -/
def repairStart (c : Chip) (k : W) (ownerIsKeeper : Bool) (t : Nat) : Chip :=
  match c.twn.repairs.find? (fun r => r.tile == t) with
  | some r => if pReached k (r.k + 2) && pReached (r.k + 4) k then repairAgain c r k else c
  | none =>
    if 8 ≤ (c.twn.repairs.filter (fun r => !r.join)).length then copyistUnfit c 5 t
    else
      let own := if twinRole c = 1 then ownerIsKeeper else !ownerIsKeeper
      let c := { c with twn := { c.twn with repairs := c.twn.repairs ++ [⟨t, k, own, none, 0, false, false⟩] } }
      showRepairs (raiseLimited (countUp c TWN_REPAIR_CNT 1) srcTWN_TILE_REPAIR (toW t))

/-- The uplink maps of both twins for the boundary before the present one are compared (R355, R357). -/
def compareMaps (c : Chip) (peerUl peerSvc : List Nat) : Chip :=
  let own := c.twn.ulMap
  let k := period c - 1
  let keeperSvc := if twinRole c = 1 then c.twn.mySvcNext else peerSvc
  let c := { c with twn := { c.twn with bothUl := own.filter (fun t => peerUl.contains t) } }
  ((List.range 144).filter (fun t => own.contains t != peerUl.contains t)).foldl
    (fun c t => repairStart c k (keeperSvc.contains t) t) c

/-- A PREC is accepted (R341): dl_crc and the maps of a pair in step are compared, the partner's maps and
acknowledgements taken (R343, R354, R355, R358), a keeper that has lost the loan gives way to a keeper (R349), and a
partner that has left ends the pair. -/
def precAccept (c : Chip) (l : List Byte) : Chip :=
  let role := beAt l 4 1
  let late := c.twn.missed
  let c := { c with twn := { c.twn with
    precGot := true, missed := 0, peerRole := role, peerJseq := toW (beAt l 12 4), loanIn := beAt l 5 1,
    peerArr := sext 16 (beAt l 6 2), peerSvcNext := mapTiles (bytesAt l 34 18) } }
  let both := c.twn.paired && twinState c == 2 && bitsAt role 3 1 == 1
  let c := if c.twn.paired && epochBusy c && c.doc.epoch.started && period c = c.doc.epoch.c - 2 then
      modEpoch c (fun e => { e with peerAcks := (mapTiles (bytesAt l 52 18)).map tilePart })
    else c
  let c := if both && late != 0 then copyistUnfit c 3 0 else c
  let c := if both && bitsAt role 4 1 = 1 && role % 4 = 1 then copyistUnfit c 3 0 else c
  let c := if both && beAt l 8 4 != c.twn.dlCrc then copyistUnfit c 1 0 else c
  let c := if both then compareMaps c (mapTiles (bytesAt l 16 18)) (mapTiles (bytesAt l 34 18)) else c
  if twinRole c = 1 && !fldB c TWN_STAT_acting && role % 4 = 1 then
    changeTwin c 2 (if twinState c = 2 then 2 else 0) false
  else if twinRole c = 1 && twinState c = 2 && c.twn.paired && role % 4 = 0 && c.twn.change.isNone then
    changeTwin c 1 3 (fldB c TWN_STAT_acting)
  else c

/-- A PREC arrives: one of the present period with a good check word is accepted; any other is discarded (R339, R341). -/
def precIn (c : Chip) (l : List Byte) : Chip :=
  if !fldB c TWN_STAT_link_up then c
  else if l.length != 80 || crc32c (l.take 76) != beAt l 76 4 then blockErr c
  else if beAt l 0 4 != (period c).toNat && (c.twn.paired || fldB c TWN_STAT_grid_lock) then c
  else precAccept c l

/-! ### One grid (R342) -/

/-- The correction of a period in ticks, positive to lengthen it (R342), from ê in ns and s, the ticks by which the slew shortens
(positive) or lengthens the period: a boundary that lies late (ê positive) shortens it. -/
def gridCorrection (s e : Int) : Int :=
  let n : Int := min 4 e.natAbs
  if 0 < e then -(min n (max 0 (4 - s))) else if e < 0 then min n (max 0 (4 + s)) else 0

/-- This device follows its partner's grid (R342): a copyist, or a device that joins from step 3. -/
def followsGrid (c : Chip) : Bool :=
  twinRole c == 2 && fldB c TWN_STAT_link_up && (twinState c == 2 || (joining c && 3 ≤ fld c TWN_JOIN_STAT_step))

/-- A TICK arrives (R342): its arrival after the own boundary is kept for the next PREC; a follower takes the keeper's
period number, forms e and ê and the correction of its next period. Arrivals and offsets are in 0.125 ns. `stray`: the control
blocks of unlisted types and data blocks out of place since the TICK before it, discarded and counted (R339). -/
def twinTick (c : Chip) (p : W) (peerOffset arr : Int) (stray : Nat) : Chip :=
  let c := countUp { c with twn := { c.twn with tickArr := arr } } TWN_BLOCK_ERR stray
  if !followsGrid c then c
  else
    let c := { c with tmr := { c.tmr with period := p } }
    let e2 := (c.twn.peerArr - (c.twn.tickOfs : Int)) - (arr - peerOffset)
    let l := (c.twn.offsets ++ [e2]).drop (c.twn.offsets.length + 1 - 16)
    let n : Int := 16 * (l.length : Int)
    let e := (2 * l.sum + n) / (2 * n)
    let t : Twn := { c.twn with
      offsets := l, eHat := e, eNext := e,
      lockRun := if e.natAbs ≤ 1 then min 64 (c.twn.lockRun + 1) else 0,
      lostRun := if 8 < e.natAbs then c.twn.lostRun + 1 else 0 }
    let c := { c with twn := t }
    let lost := decide (16 ≤ t.lostRun)
    let lock := !lost && (fldB c TWN_STAT_grid_lock || t.lockRun == 64)
    let c := setB (wr c TWN_GRID (toW (b2n lock * 2 ^ 31 + twos 16 (8 * e)))) TWN_STAT_grid_lock lock
    if lost && twinState c == 2 then copyistUnfit c 6 0 else c

/-- Network time is set (R342, R360): time_ns, or in the compatible mode F, by the distance from T (log entry 100). -/
def setTime (c : Chip) (t : BitVec 64) : Chip :=
  if fldB c TMR_CTL_clk_mode then { c with tmr := { c.tmr with cxFree := c.tmr.cxFree + (t - netTime c) } }
  else { c with tmr := { c.tmr with timeNs := t, timeFrac := 0 } }

/-- Time runs to the next boundary of a follower (R342): its own count with the correction that the TICK of the period before
gives, 246 to 254 ticks in all; then network time is T of the keeper's boundary. -/
def followBoundary (c : Chip) : Chip :=
  let c := takeMark 210 (takeMark 210 (takeMark 210 (takeMark 210 c 0) 1) 2) 3
  let target := c.tmr.bndNs + 250
  let count : Int := (c.tmr.tick + ticksTo c target : Nat)
  let whole := clampI 246 254 (count + gridCorrection c.tmr.slewed c.twn.eUse)
  let c := setTime (runTicks c (whole.toNat - c.tmr.tick)) target
  { c with tmr := { c.tmr with bndNs := target, tick := 0, slewed := 0, period := c.tmr.period + 1 },
           twn := { c.twn with eUse := c.twn.eNext, eNext := 0 } }

/-- Time runs to the next boundary (R59, R342). -/
def toBoundary (c : Chip) : Chip := if followsGrid c then followBoundary c else advanceBoundary c

/-! ### The loan (R349–R351) -/

/-- L in core ticks of 1 ns (R349). -/
def leaseTicks (c : Chip) : Nat := fld c TWN_LOAN_CTL_lease * 1000000

/-- The tick at which the keeper stops acting, and the one at which the copyist takes the loan (R349). -/
def keeperStops (c : Chip) (renew : Nat) : Nat := renew + leaseTicks c - leaseTicks c / 50 - 20000
def copyistTakes (c : Chip) (renew : Nat) : Nat := renew + leaseTicks c + leaseTicks c / 50 + 20000

/-- The lease of a keeper is reckoned: in a pair in step or before its verdict (R349, R353). -/
def leased (c : Chip) : Bool := c.twn.paired && (twinState c == 2 || twinState c == 4)

/-- TWN_LOAN_STAT as read (R365): the µs until this twin stops acting or takes the loan. -/
def loanStat (c : Chip) : W :=
  match c.twn.renewAt with
  | none => 0xFFFFFFFF
  | some r =>
    if twinRole c = 1 && fldB c TWN_STAT_acting && leased c then toW ((keeperStops c r - c.tmr.ticks) / 1000)
    else if twinRole c = 2 && twinState c == 2 then toW ((copyistTakes c r - c.tmr.ticks) / 1000)
    else 0xFFFFFFFF

/-- Every L/4 the keeper sends RENEW in its PREC if fw_alive was written since the last one (R349). -/
def loanRenew (c : Chip) : Chip :=
  let ready := match c.twn.renewAt with
    | some r => decide (leaseTicks c / 4 ≤ c.tmr.ticks - r)
    | none => true
  if twinRole c = 1 && fldB c TWN_STAT_acting && c.twn.paired && ready && c.twn.fwAlive && c.twn.loanOut = 0 then
    formPrec { c with twn := { c.twn with loanOut := 1, fwAlive := false, renewAt := some c.tmr.ticks } }
  else c

/-- The keeper's lease expires, less the guard: it stops acting (R349). -/
def loanLost (c : Chip) : Chip :=
  match c.twn.renewAt with
  | some r =>
    if twinRole c = 1 && fldB c TWN_STAT_acting && leased c && decide (keeperStops c r ≤ c.tmr.ticks) then
      raise (setB (setB c TWN_STAT_acting false) TWN_STAT_loan_lost true) srcTWN_LOAN_LOST 0
    else c
  | none => c

/-- The copyist's lease expires, plus the guard: in step, or in step alone, it takes the loan and acts from the next
boundary (R349, R353). -/
def loanTaken (c : Chip) : Chip :=
  match c.twn.renewAt with
  | some r =>
    if twinRole c = 2 && twinState c = 2 && c.twn.change.isNone && decide (copyistTakes c r ≤ c.tmr.ticks) then
      changeTwin (raise (setB c TWN_STAT_loan_taken true) srcTWN_LOAN_TAKEN 0) 1 (if c.twn.alone then 3 else 2) true
    else c
  | none => c

/-- The loan message of the PREC received in this period is taken, if it is `k` (R341). -/
def onLoan (c : Chip) (k : Nat) (f : Chip → Chip) : Chip :=
  if c.twn.loanIn = k then f { c with twn := { c.twn with loanIn := 0 } } else c

/-- RENEW arrives: the copyist reckons its lease from here (R349). -/
def precRenew (c : Chip) : Chip :=
  onLoan c 1 (fun c => if twinRole c = 2 then { c with twn := { c.twn with renewAt := some c.tmr.ticks } } else c)

/-- RELEASE arrives: the copyist becomes keeper and acting at the next boundary (R351). -/
def precRelease (c : Chip) : Chip :=
  onLoan c 2 (fun c => if twinRole c = 2 && twinState c = 2 then changeTwin c 1 3 true else c)

/-- HANDOVER arrives in period H: the copyist becomes keeper and acting at H + 1, and its journal continues from jseq + 1
(R350). -/
def precHandover (c : Chip) : Chip :=
  onLoan c 3 (fun c =>
    if twinRole c = 2 && twinState c = 2 then
      changeTwin { c with twn := { c.twn with handover := some (period c), rxSeq := some (c.twn.peerJseq + 1) } } 1 2 true
    else c)

/-- LEAVE arrives: the keeper runs as a single device from the next boundary (R351). -/
def precLeave (c : Chip) : Chip :=
  onLoan c 4 (fun c =>
    if twinRole c = 1 && c.twn.paired then
      changeTwin (if joinRuns c then setFld c TWN_JOIN_STAT_result 0 else c) 1 3 (fldB c TWN_STAT_acting)
    else c)

/-- handover_reject (R350, R351). -/
def handoverReject (c : Chip) : Chip := setB c TWN_STAT_handover_reject true

/-- A write of TWN_LOAN_CTL (R349, R350, R368): fw_alive and handover act on the keeper alone; a changed lease is a
state change. -/
def loanCtlWrite (c : Chip) (v : W) : Chip :=
  hostWrite c TWN_LOAN_CTL (fun c =>
    let lease := clampN 1 100 (wbits v 0 7)
    let c :=
      if lease = fld c TWN_LOAN_CTL_lease then c
      else stateChange c TWN_LOAN_CTL (toW lease) (fun c e => defer c e TWN_LOAN_CTL (toW lease))
    if fromJournal c then c
    else
      let c := if wbit v 31 && twinRole c = 1 then { c with twn := { c.twn with fwAlive := true } } else c
      if wbit v 30 then
        if twinRole c = 1 && fldB c TWN_STAT_acting && twinState c = 2 && c.twn.paired && c.twn.peerRole / 8 % 2 = 1
            && c.twn.handover.isNone then
          { c with twn := { c.twn with handover := some (period c + 1) } }
        else handoverReject c
      else c)

/-- At H the keeper stops acting, sends HANDOVER with jseq, and withdraws the records not sent whole; it is copyist from
H + 1 (R350). -/
def handoverBoundary (c : Chip) : Chip :=
  match c.twn.handover with
  | some h =>
    if twinRole c = 1 && due c h && fldB c TWN_STAT_acting then
      let c := withdrawAll (setB c TWN_STAT_acting false)
      let c := { c with twn := { c.twn with loanOut := 3, rxSeq := some (rd c TWN_JSEQ + 1) } }
      changeTwin (formPrec c) 2 2 false
    else c
  | none => c

/-- A join is started (R359, R360, R366). -/
def startJoin (c : Chip) : Chip :=
  let c := setFld (setFld (setFld c TWN_JOIN_STAT_step 1) TWN_JOIN_STAT_result 3) TWN_JOIN_STAT_reason 0
  let c := setTwin c 2 1 false
  showRepairs { c with twn := { c.twn with
    wantJoin := false, joinOk := false, stepAt := c.tmr.ticks, paired := false, inbox := [], rxSeq := none, repairs := [],
    relays := [], commitE := none, alone := false } }

/-- A write of TWN_CTL (R351, R366): lead and join_wait are held within their bounds; leave and join act. -/
def twnCtlWrite (c : Chip) (v : W) : Chip :=
  hostWrite c TWN_CTL (fun c =>
    let c := wr c TWN_CTL (toW (b2n (isTwin c) * 2 ^ 31 + wbits v 29 2 * 2 ^ 29 + max 16 (wbits v 16 8) * 2 ^ 16
      + clampN 10 1000 (wbits v 0 10)))
    let c :=
      if wbit v 28 then
        if twinRole c = 1 then handoverReject c
        else if twinRole c = 2 then
          let c := if joining c then setFld c TWN_JOIN_STAT_result 0 else c
          changeTwin { c with twn := { c.twn with loanOut := 4 } } 0 0 false
        else c
      else c
    if wbit v 27 && isTwin c && twinState c = 0 && twinRole c = 0 && !safe c then startJoin c else c)

/-! ### The loss of the twin link (R352, R353) -/

/-- The twin link is lost: by four periods without a PREC, or a lane fault (R352). -/
def twinLinkLoss (c : Chip) (lane : Bool) : Chip :=
  if !fldB c TWN_STAT_link_up || !(lane || 4 ≤ c.twn.missed) then c
  else
    let c := raise (setB c TWN_STAT_link_up false) srcTWN_LINK_DOWN 0
    let c := { c with twn := { c.twn with lossAt := some c.tmr.ticks } }
    if joining c then joinFail c 0
    else if c.twn.paired then
      let c := if twinRole c = 1 then withdrawAll c else c
      let c := if fld c TWN_JOIN_STAT_result = 3 then joinFail { c with twn := { c.twn with paired := true } } 0 else c
      setFld { c with twn := { c.twn with paired := true } } TWN_STAT_state 4
    else c

/-- The pair ends and this device runs by itself (R353): a change takes effect at P + 2 again. -/
def endPair (c : Chip) : Chip :=
  showRepairs (wr { c with twn := { c.twn with
    paired := false, out := [], sentBytes := 0, repairs := [], relays := [], repaired := [], history := [], missed := 0,
    handover := none, msgWait := [], bulk := [], bulkLeft := 0 } } TWN_JQUEUE 0)

/-- No partner heartbeat edge has been seen for 1.5 ms (R338). -/
def noHeartbeat (c : Chip) : Bool :=
  match c.twn.hbEdge with
  | some t => decide (1500000 ≤ c.tmr.ticks - t)
  | none => true

/-- A partner heartbeat edge has been seen after the loss (R353). -/
def edgeAfterLoss (c : Chip) : Bool :=
  match c.twn.hbEdge, c.twn.lossAt with
  | some t, some l => decide (l < t)
  | _, _ => false

/-- The verdict after a loss of the twin link (R353): a copyist that has seen an edge is DETACHED at once, and its FRAMEs stop from
the next period. -/
def twinVerdict (c : Chip) : Chip :=
  if twinState c != 4 then c
  else if edgeAfterLoss c then
    if twinRole c = 2 then changeTwin (setTwin c 0 0 false) 0 0 false else setFld c TWN_STAT_state 3
  else if noHeartbeat c then
    if twinRole c = 2 then
      let c := endPair c
      setFld { c with twn := { c.twn with alone := true } } TWN_STAT_state 2
    else setFld (endPair c) TWN_STAT_state 3
  else c

/-- From loss + 2.0 ms a keeper that saw an edge runs as a single device (R353). -/
def singleAfterLoss (c : Chip) : Chip :=
  match c.twn.lossAt with
  | some l =>
    if twinRole c = 1 && twinState c = 3 && c.twn.paired && !fldB c TWN_STAT_link_up
        && decide (2000000 ≤ c.tmr.ticks - l) then endPair c
    else c
  | none => c

/-- An edge on PARTNER_HB_IN that is still held 1 µs later (R338). -/
def partnerEdge (c : Chip) (tick : Nat) : Chip :=
  let c := advanceTo c tick
  setB { c with twn := { c.twn with hbEdge := some c.tmr.ticks } } TWN_STAT_partner_hb true

/-- The partner's heartbeat stops being present (R338, R371). -/
def partnerLost (c : Chip) : Chip :=
  if fldB c TWN_STAT_partner_hb && noHeartbeat c then
    raise (setB c TWN_STAT_partner_hb false) srcTWN_PARTNER_HB_LOST 0
  else c

/-! ### Repair (R355, R356) -/

/-- The 72 bytes of a slot in a TILE_COPY (R355). -/
def copySlot (c : Chip) (i : Nat) : List Byte :=
  let x := getCell c i
  let q : Nat → Int → List Byte := fun n v => beBytes n (twos (8 * n) v)
  x.x.vec.flatMap (q 3) ++ beBytes 1 (min 31 x.m * 8 + x.slot % 4 * 2 + b2n (x.mode == .coast))
    ++ beBytes 2 x.u1.heat ++ beBytes 2 x.u1.inj ++ q 3 x.u1.ui ++ q 3 x.tau ++ beBytes 2 (x.sigmaHeld / 2 ^ 16)
    ++ beBytes 2 x.preChar.heat ++ beBytes 2 x.preChar.inj ++ beBytes 2 (x.frzB.last.getD 0) ++ beBytes 2 (x.frzC.last.getD 0)
    ++ beBytes 1 x.frzB.count ++ beBytes 1 x.frzC.count ++ beBytes 2 x.singleRun
    ++ (List.range 8).flatMap (fun w => leBytes 4 (invWord c i w).toNat)

/-- The payload of a TILE_COPY of the present period (R355). -/
def tileCopyBytes (c : Chip) (t : Nat) : List Byte :=
  beBytes 2 t ++ beBytes 2 ((period c).toNat % 2 ^ 16) ++ (List.range 32).flatMap (fun s => copySlot c (32 * t + s))

/-- The payload of a RELAY of the present period: the codes for the next boundary (R355). -/
def relayBytes (c : Chip) (t : Nat) : List Byte :=
  beBytes 2 t ++ beBytes 2 ((period c + 1).toNat % 2 ^ 16)
    ++ (List.range 32).flatMap (fun s => beBytes 2 (getCell c (32 * t + s)).u1.heat)

/-- A loop mode by its code (R134). -/
def modeOfCode (n : Nat) : LoopMode :=
  if n = 1 then .run else if n = 2 then .transit else if n = 3 then .coast else if n = 4 then .hold
  else if n = 5 then .char else .off

/-- A cell with the state of a slot of a TILE_COPY (R355). What the slot does not hold stays as this twin has it; `heat`
is the relayed code in force before the last one (log entry 22). -/
def pasteSlot (x : Cell) (force : Nat) (heat : Option Nat) (l : List Byte) : Cell :=
  let s : Nat → Nat → Int := fun o n => sext (8 * n) (beAt l o n)
  let w : Nat → Nat := fun k => leAt l (40 + 4 * k) 4
  let b := fun o n => bitsAt (w 0) o n
  let held := b 19 2
  let frz : Frz → Nat → Nat → Nat → Frz := fun f code run bit =>
    ⟨if beAt l run 1 = 0 && f.last.isNone && beAt l code 2 = 0 then none else some (beAt l code 2 % 2 ^ 14), beAt l run 1,
      b bit 1 == 1⟩
  { x with
    x := ⟨s 0 3, s 3 3, s 6 3, s 9 3, s 12 3⟩,
    m := beAt l 15 1 / 8, slot := beAt l 15 1 / 2 % 4,
    u0 := match heat with | some h => { x.u0 with heat := h } | none => x.u0,
    u1 := { x.u1 with heat := beAt l 16 2, inj := beAt l 18 2, ui := s 20 3 },
    tau := s 23 3, sigmaHeld := beAt l 26 2 * 2 ^ 16,
    preChar := { x.preChar with heat := beAt l 28 2, inj := beAt l 30 2 },
    frzB := frz x.frzB 32 36 16, frzC := frz x.frzC 34 37 15, singleRun := beAt l 38 2,
    mode := modeOfCode (b 29 3), under := modeOfCode (b 26 3), holdCause := b 23 3, held := held,
    branch := if force % 4 = held then force / 4 else x.branch, coastRun := b 0 8,
    inv := { x.inv with
      stuck := b 21 2, single := b 14 1 == 1, noAuto := b 13 1 == 1, coastCnt := w 1 % 2 ^ 16, holdCnt := w 1 / 2 ^ 16,
      ovrCnt := w 2 % 2 ^ 16, lateCnt := w 2 / 2 ^ 16, frozenCnt := w 3 / 2 ^ 24, autoRecent := bitsAt (w 3) 20 4,
      failBar := bitsAt (w 3) 16 4, failCross := bitsAt (w 3) 12 4, cleanRun := bitsAt (w 3) 0 12, lastHoldP := toW (w 4),
      lastFaultP := toW (w 5), switches := w 6 + bitsAt (w 7) 0 16 * 2 ^ 32 } }

/-- What the computation of the present period is taken from, kept for four periods while a partner is there (R355). -/
def keepHistory (c : Chip) : Chip :=
  if c.twn.paired then
    let cmds := c.lpe.cells.filterMap (fun e => e.2.cmd.map (fun k => (e.1, k)))
    let h : History := ⟨period c, c.lpe.taps, c.lpe.ring, c.lpe.force, c.lpe.newStep, c.lpe.epochNow, cmds⟩
    { c with twn := { c.twn with history := (h :: c.twn.history).take 4 } }
  else c

/-- The computations of one tile of a past period, from what that period's was taken from (R355). -/
def replayPeriod (c : Chip) (t : Nat) (h : History) : Chip :=
  let c := { c with
    tmr := { c.tmr with period := h.p },
    lpe := { c.lpe with taps := h.taps, ring := h.ring, force := h.force, newStep := h.newStep, epochNow := h.epochNow } }
  (List.range 32).foldl (fun c s =>
    let i := 32 * t + s
    match mapCellOf c i with
    | some mc => galleryCell (modCell c i (fun x => { x with cmd := mapGet h.cmds i })) i mc
    | none => c) c

/-- The non-owner replays the periods k + 3 to k + 5 from the copy in period k + 5 (R355, R356). -/
def repairReplay (c : Chip) (t : Nat) : Chip :=
  match c.twn.repairs.find? (fun r => r.tile == t && !r.owner) with
  | none => c
  | some r =>
    let k := r.k
    match r.copy with
    | none => c
    | some l =>
      if period c != k + 5 then c
      else
        let heat := fun s => (c.twn.relays.find? (fun e => e.1 == t && e.2.1.toNat == (k + 2).toNat % 2 ^ 16)).map
          (fun e => nth 0 e.2.2 s)
        let start := (List.range 32).foldl (fun c s =>
          modCell c (32 * t + s) (fun x => pasteSlot x (forceOf c (32 * t + s)) (heat s) (bytesAt l (4 + 72 * s) 72))) c
        let end_ := ([3, 4, 5].filterMap (fun i => c.twn.history.find? (fun h => h.p == k + toW i))).foldl
          (fun c h => replayPeriod c t h) start
        let c := (List.range 32).foldl (fun c s => putCell c (32 * t + s) (getCell end_ (32 * t + s))) c
        { c with twn := { c.twn with repairs := c.twn.repairs.map (fun r => if r.tile = t then { r with replayed := true } else r) } }

/-- The boundary k of a repair whose first RELAY has the boundary tag `n`, k + 2 (R355). -/
def relayK (c : Chip) (n : Nat) : W := period c + BitVec.ofInt 32 (sext 16 ((n + 65536 - (period c).toNat % 65536) % 65536)) - 2

/-- A RELAY arrives (R355): its codes are for one boundary; during step CELLS of a join the first one opens the tile
(R360). -/
def relayIn (c : Chip) (l : List Byte) : Chip :=
  match msgData 2 l with
  | none => blockErr c
  | some d =>
    let t := beAt d 0 2
    let codes := (List.range 32).map (fun s => beAt d (4 + 2 * s) 2)
    if d.length != 68 || 144 ≤ t then blockErr c
    else
      let c := { c with twn := { c.twn with relays := (t, BitVec.ofNat 16 (beAt d 2 2), codes) :: c.twn.relays } }
      if joining c && fld c TWN_JOIN_STAT_step = 6 && !c.twn.repairs.any (fun r => r.tile == t) then
        { c with twn := { c.twn with repairs := c.twn.repairs ++ [⟨t, relayK c (beAt d 2 2), false, none, 0, true, false⟩] } }
      else c

/-- A TILE_COPY arrives (R355, R356). -/
def tileCopyIn (c : Chip) (l : List Byte) : Chip :=
  match msgData 3 l with
  | none => blockErr c
  | some d =>
    if d.length != 2308 then blockErr c
    else { c with twn := { c.twn with repairs := c.twn.repairs.map (fun r =>
      if r.tile = beAt d 0 2 && !r.owner && !pReached (period c) (r.k + 5) then { r with copy := some d } else r) } }

/-- A repair at boundary k + 6 (R355, R356): it ends where the owner's maps agreed and the replay was made; without a good copy it
starts again with k + 4, and a join's copy ends the join (log entry 108). -/
def repairTurn (c : Chip) (r : Repair) : Chip :=
  if period c != r.k + 6 then c
  else if r.owner || r.replayed then
    showRepairs { c with twn := { c.twn with
      repairs := c.twn.repairs.filter (fun x => x.tile != r.tile),
      repaired := if r.join then c.twn.repaired else c.twn.repaired ++ [(r.tile, r.k + 1, r.k + 5)] } }
  else if r.join then joinFail c 9
  else repairAgain c r (r.k + 4)

/-! ### Start, join and resynchronisation (R359–R362) -/

/-- This device's JOIN_ID (R361). -/
def joinId (c : Chip) : JoinId :=
  let cs := (List.range 0x1800).flatMap (fun a => leBytes 16 (microAt c a))
  let tab := (List.range 0xC0).flatMap (fun i => leBytes 4 (tableEntry c i).toNat)
  { stepping := BitVec.ofNat 8 (rn c GLB_ID), topologyId := rd c GLB_TOPO_ID,
    descCheck := (match c.topo with | some t => t.checkWord | none => 0),
    lawCheck := c.glb.lawCheck, csCrc := toW (crc32c (cs ++ tab)), clkMode := fldB c TMR_CTL_clk_mode,
    twinId := c.glb.straps.twinId, keeper := twinRole c == 1, fw := BitVec.ofNat 16 (rn c GLB_FW_VER) }

/-- The reason of R361 for which CHECK refuses, in the order of its table; 0 if none. -/
def checkReason (a b : JoinId) : Nat :=
  if a.stepping != b.stepping then 1
  else if a.topologyId != b.topologyId || a.descCheck != b.descCheck then 2
  else if a.lawCheck != b.lawCheck then 3
  else if a.csCrc != b.csCrc then 4
  else if a.clkMode != b.clkMode then 5
  else if a.twinId == b.twinId || (a.keeper && b.keeper) then 6 else 0

/-- This device takes the role of keeper alone and acts (R359); its start actions run where it has just started (R517). -/
def keeperAlone (c : Chip) : Chip :=
  let c := railsWanted (setTwin c 1 3 true)
  { c with twn := { c.twn with starting := false, wantJoin := false, paired := false, alone := false },
           glb := { c.glb with startWanted := c.glb.startWanted || c.twn.starting } }

/-- A JOIN_ID arrives in step CHECK (R360, R361): compared, and where both twins start, TWIN_ID 0 becomes keeper (R359). `good`: its
check word holds (R339). -/
def joinIdIn (c : Chip) (b : JoinId) (good : Bool) : Chip :=
  if !good then blockErr c
  else if !joinRuns c || fld c TWN_JOIN_STAT_step != 2 then c
  else
    let a := joinId c
    let c := setFld c TWN_JOIN_STAT_fw_partner b.fw.toNat
    let r := checkReason a b
    if r != 0 then joinFail c r
    else if !a.keeper && !b.keeper then
      if c.twn.starting && !a.twinId then { keeperAlone c with twn := { (keeperAlone c).twn with joinOk := true } }
      else if c.twn.starting then { c with twn := { c.twn with joinOk := true } } else c
    else { c with twn := { c.twn with joinOk := true } }

/-- Registers whose content a join carries (R360): every state-change register, the rest of the blocks of shared state, and what
writes set in the port blocks. -/
def joinReg (a : Nat) : Bool :=
  let b := a / 0x100000
  (3 ≤ b && b ≤ 10) || b == 12 || changeReg a || a == TWN_LOAN_CTL
    || (13 ≤ b && b ≤ 15 && (match rowOf a with | some r => r.rw != 0 || r.rwl != 0 | none => false))

/-- The parts of the join snapshot as of the present boundary (R360). -/
def snapParts (c : Chip) : List SnapPart :=
  [ .regs (c.regs.filter (fun e => joinReg e.1)), .time c.tmr, .waiting c.deferred c.lpe.cmds c.lpe.commits c.lpe.invCmd c.pdm.waits,
    .targets c.lpe.force c.lpe.pend c.lpe.entry c.lpe.forceId c.lpe.pendId c.lpe.entryId c.lpe.pendEmpty,
    .banks c.lpe.shaping c.lpe.bankA c.lpe.bankB, .programmes c.prg, .docent c.doc, .curator c.cur,
    .store c.ars.store (c.ars.cache.filterMap (fun e => if e.2.st = 2 then some (e.1, e.2.id) else none)),
    .parser c.svp.bank0 c.svp.bank1 c.svp.swapAt c.svp.copyAt c.svp.retiring,
    .gates (c.txs.ports.map (fun p => (p.gates, p.gatePend))), .analog c.aux.dac c.aux.tec,
    .conservator c.cns (c.lpe.cells.map (fun e => (e.1, (e.2.amp, e.2.ampNext)))) ]

/-- A part of the snapshot is taken over (R360). -/
def takePart (c : Chip) (p : SnapPart) : Chip :=
  match p with
  | .regs l => { c with regs := l.foldl (fun m e => mapWrite resetReg m e.1 e.2) (c.regs.filter (fun e => !joinReg e.1)) }
  | .time t =>
    let past : BitVec 64 := BitVec.ofInt 64 (250 * pdiff (period c) t.period)
    let c := { c with tmr := { c.tmr with
      bndNs := t.bndNs + past, inc := t.inc, incPend := t.incPend, adj := t.adj, slew := t.slew,
      cxFree := t.cxFree + past, cxRef := t.cxRef, cxRho := t.cxRho, cxPend := t.cxPend } }
    let now := c.tmr.bndNs + BitVec.ofNat 64 c.tmr.tick
    let c := setTime c now
    { c with tmr := { c.tmr with lastNs := now } }
  | .waiting l cmds commits inv waits =>
    { c with deferred := l, lpe := { c.lpe with cmds := cmds, commits := commits, invCmd := inv },
             pdm := { c.pdm with waits := waits } }
  | .targets f p e fi pi ei em =>
    { c with lpe := { c.lpe with force := f, pend := p, entry := e, forceId := fi, pendId := pi, entryId := ei, pendEmpty := em } }
  | .banks s a b => { c with lpe := { c.lpe with shaping := s, bankA := a, bankB := b } }
  | .programmes p => { c with prg := p }
  | .docent d => { c with doc := d }
  | .curator u => { c with cur := u }
  | .store s t => { c with ars := { c.ars with store := s }, twn := { c.twn with tags := t } }
  | .parser b0 b1 sw cp ret =>
    { c with svp := { c.svp with bank0 := b0, bank1 := b1, swapAt := sw, copyAt := cp, retiring := ret } }
  | .gates l =>
    { c with txs := { c.txs with
      ports := (c.txs.ports.zip l).map (fun e => { e.1 with gates := e.2.1, gatePend := e.2.2 }) } }
  | .analog d t => { c with aux := { c.aux with dac := d, tec := t } }
  | .conservator n amps =>
    let c := { c with cns := { n with journal := c.cns.journal, seqs := c.cns.seqs } }
    amps.foldl (fun c e => modCell c e.1 (fun x => { x with amp := e.2.1, ampNext := e.2.2 })) c

/-- The Docent is quiet (R360): IDLE, or waiting in a cyc = 0 word. -/
def docQuiet (c : Chip) : Bool :=
  match c.doc.cur with
  | none => true
  | some r => r.phase == .wait && mwCyc r.word == 0

/-- At a quiet boundary S the keeper takes the snapshot and journals from there (R360). -/
def joinSnapshot (c : Chip) : Chip :=
  if twinRole c = 1 && joinRuns c && fld c TWN_JOIN_STAT_step = 4 && !c.twn.paired && docQuiet c then
    let parts := snapParts c
    let stored := (c.ars.store.filter (fun e => e.2 == 1)).map (fun e => e.1)
    let c := { c with twn := { c.twn with
      paired := true, lastE := period c, missed := 0, bulk := stored.map (BitVec.ofNat 16 ·), bulkLeft := 0 } }
    parts.foldl (fun c p => journalAppend c (effOf c 20016) (.snap (some p))) c
  else c

/-- A snapshot record acts at its E in the joining copyist (R360). -/
def snapIn (c : Chip) (p : SnapPart) : Chip :=
  if !joining c then c
  else match takeRecord c (fun q => match q with | .snap _ => true | _ => false) with
    | some (_, c) => takePart c p
    | none => c

/-- A BULK message of a join: the content of one STORED arrangement, laid out as in an ARR record (R360; log entry 20). -/
def bulkIn (c : Chip) (l : List Byte) : Chip :=
  if !joining c then c
  else match msgData 4 l with
    | none => joinFail (blockErr c) 9
    | some d => memWrite c 12 (slotAddr c (beAt d 0 2)) (bytesAt d 4 arrBytes)

/-- The cache is filled from the tags at the end of step BULK (R360). -/
def fillTags (c : Chip) : Chip :=
  let c := c.twn.tags.foldl (fun c e =>
    setEntry c e.1 ⟨2, false, e.2, memBytes c 12 (slotAddr c e.2.toNat) arrBytes⟩) c
  showCounts { c with twn := { c.twn with tags := [] } }

/-- A join goes to step `n`; at step CHECK the JOIN_ID leaves (R360). -/
def joinStep (c : Chip) (n : Nat) : Chip :=
  let id := if n = 2 then some (joinId c) else c.twn.idOut
  setFld { c with twn := { c.twn with stepAt := c.tmr.ticks, idOut := id } } TWN_JOIN_STAT_step n

/-- The tiles of the tile mask. -/
def maskTiles (c : Chip) : List Nat :=
  match c.topo with
  | some p => p.tileMask
  | none => []

/-- Step BULK begins: the copyist takes records from here on and brings up the tile links not in service (R360, R362). -/
def beginBulk (c : Chip) : Chip :=
  let c := joinStep { c with twn := { c.twn with paired := joining c, joinFrom := period c } } 4
  if joining c then ((maskTiles c).filter (fun t => linkState c t != 6)).foldl startBringup c else c

/-- A step of a join completes, and the next begins (R360, R362). -/
def joinStepDone (c : Chip) : Chip :=
  let step := fld c TWN_JOIN_STAT_step
  if twinRole c = 1 && !joinRuns c && !c.twn.paired && !fldB c TWN_STAT_link_up then
    joinStep (setFld (setB c TWN_STAT_link_up true) TWN_JOIN_STAT_result 3) 2
  else if twinRole c = 1 && !joinRuns c && !c.twn.paired then joinStep (setFld c TWN_JOIN_STAT_result 3) 2
  else if !joinRuns c then c
  else if step = 1 then joinStep (setB c TWN_STAT_link_up true) 2
  else if step = 2 then
    if !c.twn.joinOk then c
    else if c.twn.resync && fldB c TWN_STAT_grid_lock then beginBulk c
    else joinStep c 3
  else if step = 3 then if joining c && !fldB c TWN_STAT_grid_lock then c else beginBulk c
  else if step = 4 then
    if joining c then joinStep (fillTags c) 5
    else if c.twn.paired && c.twn.bulk.isEmpty then joinStep c 5 else c
  else if step = 5 then
    if !joining c || (maskTiles c).all (fun t => linkState c t == 6) then joinStep { c with twn := { c.twn with joinFrom := period c } } 6
    else c
  else if step = 6 then
    if joining c then (if c.twn.repairs.isEmpty then joinStep c 7 else c)
    else
      let e := effOf c 16
      let c := journalAppend c e .commit
      joinStep { c with twn := { c.twn with commitE := some e } } 7
  else c

/-- The limit of a step of a join in core ticks (R360); none where it has none. -/
def joinLimit (c : Chip) : Option Nat :=
  match fld c TWN_JOIN_STAT_step with
  | 1 => some 2000000
  | 2 => some 100000
  | 3 => some 1000000
  | 4 => some (1000000 + 2000 * wbits (rd c ARS_COUNT) 0 16)
  | 5 => some 512000
  | 6 => some 150000
  | _ => none

/-- A step of a join exceeds its limit (R360, R361). -/
def joinTimeout (c : Chip) : Chip :=
  if !joinRuns c then c
  else match joinLimit c with
    | none => c
    | some n =>
      let step := fld c TWN_JOIN_STAT_step
      let waits := step == 4 && twinRole c == 1 && !c.twn.paired
      let late := if waits then pReached (period c) (c.twn.joinFrom + 4096) else decide (n < c.tmr.ticks - c.twn.stepAt)
      if late then joinFail c (if waits then 7 else if step = 3 then 8 else 0) else c

/-- Both twins are in step (R360): at the E of the COMMIT record. -/
def commitIn (c : Chip) : Chip :=
  let done := fun c st => raise (setFld (setFld c TWN_STAT_state st) TWN_JOIN_STAT_result 1) srcTWN_JOINED 0
  let fresh := fun (c : Chip) => showRepairs { c with twn := { c.twn with
    renewAt := some c.tmr.ticks, commitE := none, resync := false, starting := false, repairs := [], relays := [] } }
  if joining c then
    match takeRecord c (fun q => q == .commit) with
    | some (_, c) => fresh (done c 2)
    | none => c
  else match c.twn.commitE with
    | some e => if twinRole c = 1 && due c e then fresh (done c 2) else c
    | none => c

/-- join_wait has passed since the release without a twin link (R359). -/
def joinWaitExpiry (c : Chip) : Chip :=
  let wait := fld c TWN_CTL_join_wait * 1000000
  if !c.twn.starting || fldB c TWN_STAT_link_up || safe c then c
  else if fldB c TWN_STAT_partner_hb then
    if wait ≤ c.tmr.ticks then
      let c := { c with twn := { c.twn with starting := false, wantJoin := false } }
      raise (if joining c then setTwin (setFld c TWN_JOIN_STAT_result 0) 0 0 false else c) srcTWN_LINK_DOWN 0
    else c
  else if (if c.glb.straps.twinId then 2 * wait else wait) ≤ c.tmr.ticks then
    raise (setFld (keeperAlone c) TWN_JOIN_STAT_result 0) srcGLB_JOIN_SKIPPED 0
  else c

/-! ### Control-store swap (R363) -/

/-- The bytes of the staged microcode: 0x1800 microwords and 192 dispatch entries (R363). -/
def csBytes : Nat := 0x18300

/-- The staged microcode is accepted: its CRC and every word's check byte (R363). -/
def csChecked (c : Chip) (l : List Byte) : Bool :=
  crc32c l == rn c TWN_CS_CRC && (List.range 0x1800).all (fun a => wordChecked (leAt l (16 * a) 16))

/-- stage = 1 (R363): the keeper checks the staged microcode and journals it; a single device stages it at P + 2. -/
def csStage (c : Chip) : Chip :=
  if !holdsLoan c then raiseLimited (setB c TWN_STAT_not_keeper true) srcTWN_NOT_KEEPER (toW TWN_CS_CTL)
  else if journalFull c 99200 then raise (setB c TWN_STAT_j_refused true) srcTWN_J_REFUSED (toW TWN_CS_CTL)
  else
    let l := memBytes c 12 (bitsAt (rn c TWN_CS_BASE) 0 20 * 65536) csBytes
    if !csChecked c l then setFld c TWN_CS_CTL_cs_state 6
    else
      let c := setFld { c with twn := { c.twn with csStage := l } } TWN_CS_CTL_cs_state 1
      let c := if c.twn.paired then
          (List.range 7).foldl (fun c i =>
            let part := bytesAt l (16384 * i) 16384
            journalAppend c (effOf c (20 + part.length)) (.csImage (16384 * i) part)) c
        else c
      { c with twn := { c.twn with csStagedAt := some (if c.twn.paired then c.twn.lastE else period c + 2) } }

/-- A write of TWN_CS_CTL (R363, R370): swap is a state change and acts at its E. -/
def csCtlWrite (c : Chip) (v : W) : Chip :=
  hostWrite c TWN_CS_CTL (fun c =>
    let c := if wbit v 31 && !fromJournal c then csStage c else c
    if wbit v 30 then stateChange c TWN_CS_CTL (toW (2 ^ 30)) (fun c e => defer c e TWN_CS_CTL (toW (2 ^ 30))) else c)

/-- The E of a swap (R363): dispatch stops, if microcode is staged. -/
def csSwapEffect (c : Chip) : Chip :=
  if fld c TWN_CS_CTL_cs_state = 2 then
    setFld { c with doc := { c.doc with csHold := true }, twn := { c.twn with csSwapAt := some (period c) } }
      TWN_CS_CTL_cs_state 3
  else c

/-- The end of a swap with a state: dispatch resumes (R363). -/
def csSwapEnd (c : Chip) (st : Nat) : Chip :=
  setFld { c with doc := { c.doc with csHold := false }, twn := { c.twn with csSwapAt := none } } TWN_CS_CTL_cs_state st

/-- At the first boundary at which the Docent is IDLE with partial = 0 the staged microcode is copied in (R363); the copy shows
SWAPPING until the next boundary (log entry 108). -/
def csSwapCopy (c : Chip) : Chip :=
  if fld c TWN_CS_CTL_cs_state = 3 && c.doc.cur.isNone && !fldB c DOC_STAT_partial then
    let l := c.twn.csStage
    let c := (List.range 0x6000).foldl (fun c k => csPut c k (toW (leAt l (4 * k) 4))) c
    setFld ((List.range 0xC0).foldl (fun c i => setTableEntry c i (toW (leAt l (0x18000 + 4 * i) 4))) c) TWN_CS_CTL_cs_state 4
  else c

/-- The copy ends: dispatch resumes (R363). -/
def csSwapDone (c : Chip) : Chip := if fld c TWN_CS_CTL_cs_state = 4 then csSwapEnd c 5 else c

/-- The Docent has not been IDLE within 4,096 periods of E (R363). -/
def csSwapFailed (c : Chip) : Chip :=
  match c.twn.csSwapAt with
  | some e => if fld c TWN_CS_CTL_cs_state = 3 && pReached (period c) (e + 4096) then csSwapEnd c 6 else c
  | none => c

/-- The staged content is whole at the E of its last record (R363). -/
def csStaged (c : Chip) : Chip :=
  match c.twn.csStagedAt with
  | some e =>
    if due c e then setFld { c with twn := { c.twn with csStagedAt := none } } TWN_CS_CTL_cs_state 2 else c
  | none => c

/-- A journalled piece of microcode acts at its E (R344, R363). -/
def csImageIn (c : Chip) : Chip :=
  match takeRecord c (fun q => match q with | .csImage _ _ => true | _ => false) with
  | some (r, c) =>
    match r.payload with
    | .csImage off l =>
      let pad := c.twn.csStage ++ List.replicate (csBytes - c.twn.csStage.length) 0
      let c := { c with twn := { c.twn with csStage := putBytes pad off l } }
      setFld c TWN_CS_CTL_cs_state (if csBytes ≤ off + l.length then 2 else 1)
    | _ => c
  | none => c

/-! ### Firmware checkpoints (R370) -/

/-- A write of TWN_FW_CTL (R370): send journals TWN_FW_TX; fw_new is cleared by a one. -/
def fwCtlWrite (c : Chip) (v : W) : Chip :=
  hostWrite c TWN_FW_CTL (fun c =>
    let n := wbits v 0 9
    let c := wr c TWN_FW_CTL (toW (b2n (fldB c TWN_FW_CTL_fw_new && !wbit v 30) * 2 ^ 30 + n))
    if wbit v 31 && 1 ≤ n && n ≤ 256 && !fromJournal c then
      stateChangeAs c (toW TWN_FW_CTL) (.fw ((wordsToBytes ((List.range 64).map (fun i => rd c (TWN_FW_TX i)))).take n))
        (fun c _ => c)
    else c)

/-- A journalled checkpoint is delivered at its E (R344, R370). -/
def fwIn (c : Chip) : Chip :=
  match takeRecord c (fun q => match q with | .fw _ => true | _ => false) with
  | some (r, c) =>
    match r.payload with
    | .fw l =>
      let ws := bytesToWords 64 (l ++ List.replicate (256 - l.length) 0)
      setB ((List.range 64).foldl (fun c i => wr c (TWN_FW_RX i) (nth 0 ws i)) c) TWN_FW_CTL_fw_new true
    | _ => c
  | none => c

/-! ### Other records (R344) -/

/-- A journalled arrangement acts at its E (R344): of the Curator, or the content of the ACCEDE that follows. -/
def arrIn (c : Chip) : Chip :=
  match takeRecord c (fun q => match q with | .arr _ _ => true | _ => false) with
  | some (r, c) =>
    match r.payload with
    | .arr id l =>
      if r.source = 3 then asRecord c r (fun c => curArrival c id l)
      else { c with ars := { c.ars with arrIn := some (id, l) } }
    | _ => c
  | none => c

/-- A journalled residency outcome acts at its E (R240, R344). -/
def residIn (c : Chip) : Chip :=
  match takeRecord c (fun q => match q with | .resid _ _ _ _ => true | _ => false) with
  | some (r, c) =>
    match r.payload with
    | .resid s k n ok => { c with prg := { c.prg with resid := c.prg.resid ++ [(s, k, n, ok)] } }
    | _ => c
  | none => c

/-- A journalled urgent request becomes pending at its E (R186, R344). -/
def urgentIn (c : Chip) : Chip :=
  match takeRecord c (fun q => match q with | .urgent _ => true | _ => false) with
  | some (r, c) =>
    match r.payload with
    | .urgent op => urgPending (urgentWait c op.toNat (period c))
    | _ => c
  | none => c

/-- A journalled Docent command enters its queue at its E (R344): the queues are numbered in the order of R179, from the
programme engine's (log entry 23). -/
def docCmdIn (c : Chip) : Chip :=
  match takeRecord c (fun q => match q with | .doccmd _ _ _ _ _ => true | _ => false) with
  | some (r, c) =>
    match r.payload with
    | .doccmd q w0 w1 w2 w3 =>
      let (d, c) := newDocCmd c w0 w1 w2 w3 (if q = 0 then 1 else if q = 1 then 2 else if q = 2 then 0 else 3)
      enqueueCmd c d
    | _ => c
  | none => c

/-- The copyist's urgent request reaches the keeper, which checks and journals it (R343). Its payload is the opcode (log
entry 20). -/
def urgReq (c : Chip) (l : List Byte) : Chip :=
  match msgData 6 l with
  | none => blockErr c
  | some d =>
    let op := nth 0 d 0
    if twinRole c = 1 && c.twn.paired && urgentValid c op.toNat then
      withSource c 5 (fun c => stateChangeAs c 0 (.urgent op) (fun c e => urgentWait c op.toNat e))
    else c

/-! ### The work of a period -/

/-- The end of a period (R354, R355): dl_crc of its FRAMEs, the owner's copies and relays. -/
def twinBefore (c : Chip) : Chip :=
  if !c.twn.paired then c
  else
    let p := period c
    let rs := c.twn.repairs.map (fun r => if r.owner && p = r.k + 2 then { r with copy := some (tileCopyBytes c r.tile) } else r)
    let c := { c with twn := { c.twn with dlCrc := if twinState c = 2 then dlCrcOf c else c.twn.dlCrc, repairs := rs } }
    let c := (rs.filter (fun r => r.owner && pReached p (r.k + 1) && pReached (r.k + 4) p)).foldl
      (fun c r => msgSend c 2 (relayBytes c r.tile)) c
    rs.foldl (fun c r => match r.copy with
      | some l => if r.owner && p = r.k + 3 then msgSend c 3 l else c
      | none => c) c

/-- A role that begins at this boundary (R349–R351, R358). -/
def roleChange (c : Chip) : Chip :=
  match c.twn.change with
  | none => c
  | some (role, st, act) =>
    let begins := act && !fldB c TWN_STAT_acting
    let swapped := c.twn.handover.isSome && st == 2
    let c := setTwin { c with twn := { c.twn with change := none, handover := none, loanOut := 0 } } role st act
    let c := if st = 0 || st = 3 then endPair { c with twn := { c.twn with alone := false } } else c
    let c := if st = 0 then { c with twn := { c.twn with inbox := [], rxSeq := none } } else c
    let c := if role = 1 && begins then
        match c.twn.rxSeq with
        | some n => wr { c with twn := { c.twn with seq := n, rxSeq := none } } TWN_JSEQ (n - 1)
        | none => c
      else c
    let c := if role = 2 then withdrawAll c else c
    let c := if st = 2 then { c with twn := { c.twn with renewAt := some c.tmr.ticks } } else c
    let c := if begins then railsWanted c else c
    if swapped then raise c srcTWN_HANDOVER 0 else c

/-- The TICK of the present period (R339, R340): its offset, 0 to 21 in 0.125 ns, is a free value. -/
def formTick (c : Chip) : Chip :=
  let o := freeValue c % 22
  freeNext { c with twn := { c.twn with tickOfs := o, tickOut := beBytes 4 (period c).toNat ++ beBytes 1 o ++ [0, 0] } }

/-- A boundary in a twin (R341–R362): maps are shifted, a missed PREC is counted, roles change, repairs turn, the journal
goes on, a join is started, the PREC leaves. Called after the period number has advanced and before the links close
their period. -/
def twinAfter (c : Chip) : Chip :=
  let c := csStaged (csSwapDone c)
  if !isTwin c then c
  else
    let ul := (c.ngl.links.filter (fun e => e.2.got)).map (fun e => e.1)
    let now := serviceTiles c
    let t := c.twn
    let miss := if c.twn.paired && fldB c TWN_STAT_link_up && !t.precGot then t.missed + 1 else t.missed
    let c := { c with twn := { t with
      ulMap := ul, ulAt := period c - 1, mySvc := t.mySvcNext, mySvcNext := t.svcNow, svcNow := now,
      peerSvc := t.peerSvcNext, bothUlOld := t.bothUl, bothUl := [], precGot := false, loanIn := 0, missed := miss,
      unfitOut := twinRole c == 1 && c.twn.paired && twinState c == 2 && t.missed < miss,
      relays := t.relays.filter (fun e => decide ((BitVec.ofNat 16 (period c).toNat - e.2.1).toNat < 8 || (e.2.1 - BitVec.ofNat 16 (period c).toNat).toNat < 8)),
      repaired := t.repaired.filter (fun e => decide (pdiff (period c) e.2.2 < 32)) } }
    let leaves := c.twn.loanOut == 4
    let c := if c.twn.loanOut = 1 || c.twn.loanOut = 3 then { c with twn := { c.twn with loanOut := 0 } } else c
    let c := roleChange c
    let c := if leaves then { c with twn := { c.twn with loanOut := 4 } } else c
    let c := (c.twn.repairs).foldl repairTurn c
    let c := if twinRole c = 1 && joinRuns c && fld c TWN_JOIN_STAT_step = 6 && c.twn.paired then
        let n := (period c - c.twn.joinFrom).toNat
        if n % 4 = 1 then
          match (maskTiles c)[n / 4]? with
          | some x => { c with twn := { c.twn with repairs := c.twn.repairs ++ [⟨x, period c - 1, true, none, 0, true, false⟩] } }
          | none => c
        else c
      else c
    let c := { c with twn := { c.twn with idOut := none } }
    let c := if fldB c TWN_STAT_link_up then
        sendMessages c (c.twn.paired && twinState c != 4 && twinRole c == 1)
      else { c with twn := { c.twn with msgOut := [], msgWait := [] } }
    let c := if c.twn.wantJoin && twinState c = 0 && twinRole c = 0 && !safe c then startJoin c else c
    let c := formPrec (formTick c)
    if leaves then { c with twn := { c.twn with loanOut := 0 } } else c

/-! ### The commands -/

/-- TWIN_TICK (R342). -/
def execTwinTick (p : W) (peerOffset arr : Int) (stray : Nat) (s : State) : Host.Outcome State Fault Refusal :=
  run s (twinTick · p peerOffset arr stray)

/-- PREC (R341). -/
def execPrec (data : List Byte) (s : State) : Host.Outcome State Fault Refusal := run s (precIn · data)

/-- PREC_RENEW (R349). -/
def execPrecRenew (s : State) : Host.Outcome State Fault Refusal := run s precRenew

/-- PREC_RELEASE (R351). -/
def execPrecRelease (s : State) : Host.Outcome State Fault Refusal := run s precRelease

/-- PREC_HANDOVER (R350). -/
def execPrecHandover (s : State) : Host.Outcome State Fault Refusal := run s precHandover

/-- PREC_LEAVE (R351). -/
def execPrecLeave (s : State) : Host.Outcome State Fault Refusal := run s precLeave

/-- JOURNAL (R344). -/
def execJournal (data : List Byte) (s : State) : Host.Outcome State Fault Refusal := run s (journalIn · data)

/-- RELAY (R355). -/
def execRelay (data : List Byte) (s : State) : Host.Outcome State Fault Refusal := run s (relayIn · data)

/-- TILE_COPY (R355). -/
def execTileCopy (data : List Byte) (s : State) : Host.Outcome State Fault Refusal := run s (tileCopyIn · data)

/-- BULK (R360). -/
def execBulk (data : List Byte) (s : State) : Host.Outcome State Fault Refusal := run s (bulkIn · data)

/-- JOIN_ID (R361). -/
def execJoinId (id : JoinId) (good : Bool) (s : State) : Host.Outcome State Fault Refusal := run s (joinIdIn · id good)

/-- URG_REQ (R343). -/
def execUrgReq (data : List Byte) (s : State) : Host.Outcome State Fault Refusal := run s (urgReq · data)

/-- ARR (R344). -/
def execArr (s : State) : Host.Outcome State Fault Refusal := run s arrIn

/-- RESID (R344). -/
def execResid (s : State) : Host.Outcome State Fault Refusal := run s residIn

/-- URGENT (R344). -/
def execUrgent (s : State) : Host.Outcome State Fault Refusal := run s urgentIn

/-- DOCCMD (R344). -/
def execDoccmd (s : State) : Host.Outcome State Fault Refusal := run s docCmdIn

/-- FW (R370). -/
def execFw (s : State) : Host.Outcome State Fault Refusal := run s fwIn

/-- CS_IMAGE (R344). -/
def execCsImage (s : State) : Host.Outcome State Fault Refusal := run s csImageIn

/-- SNAP (R359). -/
def execSnap (part : SnapPart) (s : State) : Host.Outcome State Fault Refusal := run s (snapIn · part)

/-- COMMIT (R360). -/
def execCommit (s : State) : Host.Outcome State Fault Refusal := run s commitIn

/-- PARTNER_HB_EDGE (R338). -/
def execPartnerHbEdge (tick : Nat) (s : State) : Host.Outcome State Fault Refusal := run s (partnerEdge · tick)

/-- PARTNER_HB_LOST (R338). -/
def execPartnerHbLost (s : State) : Host.Outcome State Fault Refusal := run s partnerLost

/-- LOAN_RENEW (R349). -/
def execLoanRenew (s : State) : Host.Outcome State Fault Refusal := run s loanRenew

/-- LOAN_LOST (R349). -/
def execLoanLost (s : State) : Host.Outcome State Fault Refusal := run s loanLost

/-- LOAN_TAKEN (R349). -/
def execLoanTaken (s : State) : Host.Outcome State Fault Refusal := run s loanTaken

/-- FW_ALIVE (R349). -/
def execFwAlive (v : W) (s : State) : Host.Outcome State Fault Refusal := run s (loanCtlWrite · (v ||| 0x80000000))

/-- HANDOVER (R350). -/
def execHandover (v : W) (s : State) : Host.Outcome State Fault Refusal := run s (loanCtlWrite · (v ||| 0x40000000))

/-- HANDOVER_BOUNDARY (R350). -/
def execHandoverBoundary (s : State) : Host.Outcome State Fault Refusal := run s handoverBoundary

/-- LEAVE (R351). -/
def execLeave (v : W) (s : State) : Host.Outcome State Fault Refusal := run s (twnCtlWrite · (v ||| 0x10000000))

/-- JOIN (R366). -/
def execJoin (v : W) (s : State) : Host.Outcome State Fault Refusal := run s (twnCtlWrite · (v ||| 0x08000000))

/-- TWIN_LINK_LOSS (R352). -/
def execTwinLinkLoss (lane : Bool) (s : State) : Host.Outcome State Fault Refusal := run s (twinLinkLoss · lane)

/-- TWIN_VERDICT (R353). -/
def execTwinVerdict (s : State) : Host.Outcome State Fault Refusal := run s twinVerdict

/-- SINGLE_DEVICE_AFTER_LOSS (R353). -/
def execSingleDeviceAfterLoss (s : State) : Host.Outcome State Fault Refusal := run s singleAfterLoss

/-- REPAIR_REPLAY (R355). -/
def execRepairReplay (t : Fin 144) (s : State) : Host.Outcome State Fault Refusal := run s (repairReplay · t)

/-- JOIN_WAIT_EXPIRY (R359). -/
def execJoinWaitExpiry (s : State) : Host.Outcome State Fault Refusal := run s joinWaitExpiry

/-- JOIN_STEP_DONE (R360). -/
def execJoinStepDone (s : State) : Host.Outcome State Fault Refusal := run s joinStepDone

/-- JOIN_STEP_TIMEOUT (R360). -/
def execJoinStepTimeout (s : State) : Host.Outcome State Fault Refusal := run s joinTimeout

/-- JOIN_SNAPSHOT (R360). -/
def execJoinSnapshot (s : State) : Host.Outcome State Fault Refusal := run s joinSnapshot

/-- CS_STAGE (R363). -/
def execCsStage (v : W) (s : State) : Host.Outcome State Fault Refusal := run s (csCtlWrite · (v ||| 0x80000000))

/-- CS_SWAP (R363). -/
def execCsSwap (v : W) (s : State) : Host.Outcome State Fault Refusal := run s (csCtlWrite · (v ||| 0x40000000))

/-- CS_SWAP_COPY (R363). -/
def execCsSwapCopy (s : State) : Host.Outcome State Fault Refusal := run s csSwapCopy

/-- CS_SWAP_FAILED (R363). -/
def execCsSwapFailed (s : State) : Host.Outcome State Fault Refusal := run s csSwapFailed

/-- FW_SEND (R370). -/
def execFwSend (v : W) (s : State) : Host.Outcome State Fault Refusal := run s (fwCtlWrite · (v ||| 0x80000000))

end Sys2Proof.Machine
end

