-- ==== Sys2Proof/Machine/Conservator.lean ====
section
/-! DEFINITION. The Conservator: parameter banks and commits, the lock-in windows and the estimates, the calibration
journal, characterization (R119, R120, R372–R403). -/

namespace Sys2Proof.Machine

/-! ### Parameter banks (R119, R120, R384) -/

/-- Word `i` of a cell's parameters in the staging bank (R119, R120). -/
def stagingWord (c : Chip) (cell i : Nat) : W :=
  mapRead (fun _ => 0) (if bankBActive c (galleryOf cell) then c.lpe.bankA else c.lpe.bankB) (16 * cell + i)

/-- Store a word, counted over all galleries, in its gallery's staging bank. -/
def stagingPut (c : Chip) (k : Nat) (w : W) : Chip :=
  let v := paramStored k w
  if bankBActive c (k / 2048) then { c with lpe := { c.lpe with bankA := mapWrite (fun _ => 0) c.lpe.bankA k v } }
  else { c with lpe := { c.lpe with bankB := mapWrite (fun _ => 0) c.lpe.bankB k v } }

/-- BAR0 address of word `w` of gallery `g`'s staging bank (R130). -/
def stagingReg (g w : Nat) : Nat := 0x80A000 + 0x10000 * g + 4 * w

/-- The gallery and the word of a staging bank that a BAR0 address names. -/
def stagingOf (addr : Nat) : Option (Nat × Nat) :=
  if addr < 0x800000 || 0xA40000 ≤ addr then none
  else
    let g := (addr - 0x800000) / 0x10000
    let off := (addr - 0x800000) % 0x10000
    if 0xA000 ≤ off && off < 0xC000 then some (g, (off - 0xA000) / 4) else none

/-- A host write is ignored by the Conservator (R384). -/
def cnsReject (c : Chip) : Chip := raise (setB c CNS_STAT_host_reject true) srcCNS_HOST_REJECT 0

/-- The present period is that of a commit of gallery `g`, taken effect or still to take it. -/
def committing (c : Chip) (g : Nat) : Bool :=
  mapGet c.lpe.committed g == some (period c) || (match mapGet c.lpe.commits g with | some e => due c e | none => false)

/-- A word reaches the staging bank; in the period of a commit it is ignored, a host's write with its event (R384): while the
host owns the banks, every write is the host's. -/
def stagingStore (c : Chip) (g w : Nat) (v : W) : Chip :=
  if committing c g then (if fldB c CNS_CTL_host_bank then cnsReject c else c) else stagingPut c (2048 * g + w) v

/-- A host write of a staging bank word (R384): ignored while the Conservator owns the banks, and where it acts in the period of
a commit. -/
def stagingWrite (c : Chip) (g w : Nat) (v : W) : Chip :=
  hostChangeIf c (stagingReg g w) v
    (fun c => if !fromJournal c && !fldB c CNS_CTL_host_bank then some (cnsReject c) else none)
    (fun c e => if c.twn.paired && !c.twn.applying then defer c e (stagingReg g w) v else stagingStore c g w v)

/-- The Conservator writes a staging bank word (R385): the keeper through the journal, a copyist not at all. -/
def ownStaging (c : Chip) (g w : Nat) (v : W) : Chip :=
  if !holdsLoan c then c
  else withSource c 4 (fun c => hostChangeNow c (stagingReg g w) v (fun c => stagingStore c g w v))

/-- The part of a bank that gallery `g` holds. -/
def bankPart (m : List (Nat × W)) (g : Nat) : List (Nat × W) :=
  m.filter (fun e => decide (2048 * g ≤ e.1) && decide (e.1 < 2048 * (g + 1)))

/-- A bank with gallery `g`'s part replaced by that of another. -/
def bankWith (m src : List (Nat × W)) (g : Nat) : List (Nat × W) :=
  m.filter (fun e => decide (e.1 < 2048 * g)) ++ bankPart src g ++ m.filter (fun e => decide (2048 * (g + 1) ≤ e.1))

/-- The active bank of a gallery as its 2,048 words (R119). -/
def activeBank (c : Chip) (g : Nat) : List W :=
  mapReadRun (fun _ => 0) (bankPart (if bankBActive c g then c.lpe.bankB else c.lpe.bankA) g) (2048 * g) 2048

/-- The cells of a gallery, by local index, whose parameters differ between the active bank and the staging bank (R387). -/
def changedParams (c : Chip) (g : Nat) : List Nat :=
  (List.range 128).filter (fun j => (List.range 15).any (fun i =>
    param c (128 * g + j) i != stagingWord c (128 * g + j) i))

/-- The cells of a gallery whose excursion bit rises with a commit, in order (R381). -/
def risenCells (c : Chip) (g : Nat) : List Nat :=
  ((galleryCells c g).map (·.1)).filter (fun i => !wbit (param c i 15) 1 && wbit (stagingWord c i 15) 1)

/-! ### The calibration journal (R386–R388) -/

/-- The header of a calibration record without its check word (R387). -/
def calHeader (c : Chip) (g cause changed : Nat) (seq : W) (bank : List Byte) : List Byte :=
  [0x47, 0x58, 0x43, 0x4A] ++ leBytes 2 1 ++ [BitVec.ofNat 8 g, BitVec.ofNat 8 cause] ++ leBytes 4 seq.toNat
    ++ leBytes 4 (rn c GLB_TOPO_ID) ++ leBytes 4 c.glb.factoryCrc.toNat ++ leBytes 4 (period c).toNat
    ++ leBytes 8 (netTime c).toNat ++ leBytes 1 (fld c (LPE_LAW_STAT_param_gen g)) ++ [0] ++ leBytes 2 changed
    ++ leBytes 4 (mapRead (fun _ => 0) c.cns.railMean g).toNat ++ leBytes 2 (rn c CNS_TRACE) ++ leBytes 2 0
    ++ leBytes 4 (crc32c bank) ++ List.replicate 12 0

/-- The cause of a gallery's commit (R387): 1 BACKGROUND, 2 CHAR, 3 HOST. -/
def commitCause (c : Chip) (g : Nat) : Nat :=
  if c.cns.byHost.contains g then 3 else if c.cns.byChar.contains g then 2 else 1

/-- On the keeper a record of the bank just committed is queued (R348); it replaces the gallery's record that still waits, and a queue of 36
entries has room for one of each gallery (R388). -/
def queueRecord (c : Chip) (g changed : Nat) : Chip :=
  if fldB c CNS_CTL_jrnl_en && holdsLoan c then
    let seq := mapRead (fun _ => 0) c.cns.seqs g
    let bank := wordsToBytes (activeBank c g)
    let r : CalRec := ⟨g, calHeader c g (commitCause c g) changed seq bank, bank, seq⟩
    { c with cns := { c.cns with journal := c.cns.journal.filter (fun x => x.gallery != g) ++ [r] } }
  else c

/-- Address of a record slot in the MRAM (R386). -/
def calSlot (g n : Nat) : Nat := 0x1000 + (4 * g + n) * 0x2400

/-- Write bytes to the MRAM. -/
def mramWrite (c : Chip) (a : Nat) (l : List Byte) : Chip :=
  { c with glb := { c.glb with mram := mapWriteRun (fun _ => 0xFF) c.glb.mram a l } }

/-- Bytes of the MRAM. -/
def mramBytes (c : Chip) (a n : Nat) : List Byte := mapReadRun (fun _ => 0xFF) c.glb.mram a n

/-- The oldest waiting record is written, the bank first and the header last; a write that fails leaves the slot without
a header (R388). A twin without the loan writes none (R348). -/
def writeRecord (c : Chip) (bad : Bool) : Chip :=
  match c.cns.journal with
  | [] => c
  | r :: rest =>
    if !holdsLoan c then c
    else
    let c := { c with cns := { c.cns with journal := rest, seqs := mapWrite (fun _ => 0) c.cns.seqs r.gallery (r.seq + 1) } }
    let a := calSlot r.gallery (r.seq.toNat % 4)
    if bad then
      let c := mramWrite c a (List.replicate 64 0)
      raise (setB (countUp c CNS_JRNL_ERR_CNT 1) CNS_STAT_jrnl_err true) srcCNS_JRNL_ERR 0
    else
      let c := mramWrite c (a + 64) r.bank
      countUp (mramWrite c a (r.header ++ leBytes 4 (crc32c r.header))) CNS_JRNL_CNT 1

/-! ### Commits (R120, R383, R384) -/

/-- auto_char asks for a FULL sweep of the first cell whose excursion bit rose (R390), once per window. -/
def autoChar (c : Chip) (risen : List Nat) : Chip :=
  match risen with
  | [] => c
  | i :: _ =>
    if fldB c CNS_CTL_auto_char && c.cns.autoWindow != c.cns.windowEnd && c.doc.cnsQ.length < 2 then
      let x := newDocCmd c 0x28000000 (toW (3 * 2 ^ 24 + i)) 0 0 3
      { x.2 with doc := { x.2.doc with cnsQ := x.2.doc.cnsQ ++ [x.1] }, cns := { x.2.cns with autoWindow := x.2.cns.windowEnd } }
    else c

/-- The staging bank of a gallery becomes active at a commit boundary and is copied back into the other bank (R120, R384);
the record is queued (R388). -/
def commitBank (c : Chip) (g : Nat) : Chip :=
  let changed := (changedParams c g).length
  let risen := if c.cns.byHost.contains g then [] else risenCells c g
  let b := !bankBActive c g
  let c := setB c (LPE_LAW_STAT_active_bank g) b
  let c := { c with lpe := { c.lpe with
    bankA := if b then bankWith c.lpe.bankA c.lpe.bankB g else c.lpe.bankA,
    bankB := if b then c.lpe.bankB else bankWith c.lpe.bankB c.lpe.bankA g,
    committed := mapPut c.lpe.committed g (period c), commits := mapDel c.lpe.commits g } }
  let c := setFld c (LPE_LAW_STAT_param_gen g) (wbits (param c (128 * g) 15) 24 8)
  let c := queueRecord c g changed
  let c := { c with cns := { c.cns with
    byHost := c.cns.byHost.filter (· != g), byChar := c.cns.byChar.filter (· != g),
    railLast := match mapGet c.cns.railMean g with
      | some m => mapPut c.cns.railLast g m
      | none => c.cns.railLast } }
  autoChar c risen

/-- A waiting commit of gallery `g` takes effect at its boundary (R120). -/
def bankCommit (c : Chip) (g : Nat) : Chip :=
  match mapGet c.lpe.commits g with
  | some e => if due c e then commitBank c g else c
  | none => c

/-- A commit of gallery `g` waits for its E. -/
def waitCommit (c : Chip) (g : Nat) (e : W) : Chip := { c with lpe := { c.lpe with commits := mapPut c.lpe.commits g e } }

/-- A host write of CNS_COMMIT (R384): with go it commits a gallery at E, with cause HOST, or is ignored; a gallery number above
35 names nothing. A journalled commit of the Conservator has another cause (R385). -/
def cnsCommitWrite (c : Chip) (v : W) : Chip :=
  let g := wbits v 0 6
  hostChangeIf c CNS_COMMIT v
    (fun c =>
      if !fromJournal c && !fldB c CNS_CTL_host_bank then some (cnsReject c)
      else if !wbit v 31 || 35 < g then some c else none)
    (fun c e =>
      let c := if c.twn.source = 4 then c else { c with cns := { c.cns with byHost := c.cns.byHost.filter (· != g) ++ [g] } }
      waitCommit c g e)

/-- How far ahead of C_g the Conservator issues a commit (R385): two periods on a single device, on a keeper without a
backlog so that the journalled E is C_g. -/
def commitLead (c : Chip) : Nat := if c.twn.paired then max (fld c TWN_CTL_lead) 9 else 2

/-- The Conservator issues the commit of a gallery for its boundary C_g, once the estimates are formed (R383); a commit that finds
no room in the journal, or no verdict, waits (R345, R352). -/
def galleryCommit (c : Chip) (g : Nat) : Chip :=
  match c.cns.windowEnd with
  | none => c
  | some e =>
    if c.cns.formed && !fldB c CNS_CTL_host_bank && holdsLoan c && !c.cns.issued.contains g && (mapGet c.lpe.commits g).isNone
        && pReached (period c + toW (commitLead c)) (e - 2 + toW (4000 + 64 * g)) && !changeWaits c 24 then
      let c := { c with cns := { c.cns with issued := c.cns.issued ++ [g] } }
      withSource c 4 (fun c => stateChange c CNS_COMMIT (toW (2 ^ 31 + g)) (fun c e => waitCommit c g e))
    else c

/-! ### Lock-in windows (R376–R378) -/

/-- The sample of boundary `k` that a cell keeps. -/
def sampleAt (x : Cell) (k : W) : Sample := if x.sample.boundary = k then x.sample else x.sampleOld

/-- The sums with one counted sample of boundary `k` (R378); the sines are those of 2^15 units of R373. -/
def addSample (s : Sums) (psi : Nat) (m : Sample) : Sums :=
  let sn := ditherSine psi
  let cs := ditherSine ((psi + 2 ^ 30) % 2 ^ 32)
  let sn2 := ditherSine (2 * psi % 2 ^ 32)
  let cs2 := ditherSine ((2 * psi + 2 ^ 30) % 2 ^ 32)
  let dp := sext 23 (twos 23 (m.phi - m.phiRef))
  { n := s.n + 1, s0 := s.s0 + m.tu, i1 := s.i1 + m.tu * sn, q1 := s.q1 + m.tu * cs,
    i2 := s.i2 + m.tu * sn2, q2 := s.q2 + m.tu * cs2, ib := s.ib + m.sb * sn2, qb := s.qb + m.sb * cs2,
    ic := s.ic + m.sc * sn2, qc := s.qc + m.sc * cs2, ip := s.ip + dp * sn, qp := s.qp + dp * cs }

/-- The sample of a cell is counted (R377). -/
def counted (c : Chip) (i : Nat) (m : Sample) (k : W) : Bool :=
  m.boundary == k && m.steady && m.valid && (!c.twn.paired || c.twn.bothUlOld.contains (i / 32))

/-- In period k + 2 the samples of boundary k enter the sums (R376). -/
def integrate (c : Chip) : Chip :=
  let k := period c - 2
  (mappedCells c).foldl (fun c e =>
    let i := e.1
    let x := getCell c i
    let m := sampleAt x k
    if counted c i m k then
      putCell c i { x with sums := addSample x.sums (ditherPhase c (freqIndex i) (k - 1)) m }
    else c) c

/-- The mean rail voltage of a gallery over the window that ends, in µV, and its shift (R396); the sums are in units of
2^-15 µV (R571). -/
def railWindow (c : Chip) (g : Nat) : Chip :=
  match mapGet c.cns.rails g with
  | some (sum, n) =>
    if n = 0 || !wbit (rd c (CNS_RAIL g)) 31 then c
    else
      let mean := (2 * sum + n * 2 ^ 15) / (n * 2 ^ 16)
      let c := { c with cns := { c.cns with railMean := mapPut c.cns.railMean g mean } }
      match mapGet c.cns.railLast g with
      | some old =>
        if (fld c CNS_CTL_rail_tol : Int) * old.natAbs < 1000 * (mean - old).natAbs then
          raise (setB c CNS_STAT_rail_shift true) srcCNS_RAIL_SHIFT 0
        else c
      | none => c
  | none => c

/-- The present period integrates the last sample of a window (R376). The first window of a device ends with its own last
sample, not before it. -/
def windowEnds (c : Chip) : Bool :=
  (period c).toNat % 40000 == 2 && c.cns.windowEnd != some (period c) && (period c != 2 || c.cns.windowEnd.isSome)

/-- A window ends (R376): CNS_WINDOW advances, its sums stand for the estimates and the next window's are cleared. The
window in which P wraps is discarded. -/
def windowEnd (c : Chip) : Chip :=
  if windowEnds c then
    let wrap := period c == 2
    let c := (mappedCells c).foldl (fun c e => modCell c e.1 (fun x =>
      { x with ended := if wrap then Sums.zero else x.sums, movesEnded := if wrap then ⟨[]⟩ else x.moves,
               sums := Sums.zero, moves := ⟨[]⟩ })) c
    let c := setB (wr c CNS_WINDOW (rd c CNS_WINDOW + 1)) CNS_STAT_busy (!wrap)
    let c := galleries.foldl railWindow c
    { c with cns := { c.cns with windowEnd := some (period c), formed := false, issued := [], rails := [] } }
  else c

/-- The writes that wait for a window boundary come into force (R384, R400). -/
def cnsWindowBoundary (c : Chip) : Chip :=
  if (period c).toNat % 40000 = 0 then
    let c := match c.cns.bankPend with
      | some b => setB c CNS_CTL_host_bank b
      | none => c
    let c := match c.cns.ampPend with
      | some v => wr c CNS_AMP_CTL v
      | none => c
    { c with cns := { c.cns with bankPend := none, ampPend := none } }
  else c

/-- A write of CNS_CTL as it is stored (R398): host_bank waits for the next window boundary. -/
def cnsCtlStore (c : Chip) (v : W) : Chip :=
  let c := setB (setB c CNS_CTL_auto_char (wbit v 30)) CNS_CTL_jrnl_en (wbit v 29)
  let c := setFld (setFld c CNS_CTL_rail_tol (max 1 (wbits v 24 4))) CNS_CTL_gain_shift (clampN 1 6 (wbits v 16 4))
  let c := setFld c CNS_CTL_min_count (clampN 400 40000 (wbits v 0 16))
  { c with cns := { c.cns with bankPend := some (wbit v 31) } }

/-- A write of CNS_AMP_CTL waits for the next window boundary (R400). -/
def cnsAmpStore (c : Chip) (v : W) : Chip :=
  let mx := clampN 4 88 (wbits v 16 8)
  let w := toW (clampN 4 mx (wbits v 24 8) * 2 ^ 24 + mx * 2 ^ 16 + clampN 16 301 (wbits v 0 9))
  { c with cns := { c.cns with ampPend := some w } }

/-! ### Estimates (R379) -/

/-- A sum of a window as a binary64 number, in units of 2^-`frac`, multiplied by 2/N (R378). -/
def sumOf (s : Sums) (frac : Int) (v : Int) : Dbl := (Dbl.near v (-frac)).mul (Dbl.div ⟨0, 0⟩ ⟨2, 0⟩ (Dbl.near s.n 0))

/-- |Z| of a pair of sums in units of 2^-`frac`. -/
def phasor (s : Sums) (frac i q : Int) : Dbl := (sumOf s frac i).abs2 (sumOf s frac q)

/-- The estimates of a valid window (R379) in fixed point: B as computed, and ε, phase_offset, heat_scale, inj_eff (only with 8
transitions), tap_ratio and ext_floor rounded to the steps of their formats (R119). -/
structure Estimates where
  b : Int
  eps : Int
  phase : Int
  scale : Int
  inj : Option Int
  tap : Int
  floor : Int
  deriving DecidableEq, Repr

/-- B, the amplitude of t_u at twice the dither frequency (R379), in fixed point. -/
def amp2f (s : Sums) : Int := if s.n = 0 then 0 else (phasor s 37 s.i2 s.q2).toFx

/-- r̄ of R379: the mean of ν̃_b / x̂3 over the transitions of a window. -/
def meanRatio (z : Dbl) (m : Moves) : Dbl :=
  let l := m.pairs.map (fun e => Dbl.div z (Dbl.near e.1 0) (Dbl.near e.2 0))
  Dbl.div z (l.foldl Dbl.add ⟨0, 0⟩) ⟨m.pairs.length, 0⟩

/-- The estimates from the sums of a window, at the parameters `p` the window ran with: binary64 arithmetic, each formula of R379
from left to right (log entry 24). `z`: the value of a quotient 0 by 0, which is no number. -/
def estimate (z : Dbl) (p : Par) (injEff : Int) (s : Sums) (m : Moves) : Estimates :=
  let b := phasor s 37 s.i2 s.q2
  let zp := phasor s 37 s.ip s.qp
  let num := ((sumOf s 37 s.i1).mul (sumOf s 37 s.ip)).add ((sumOf s 37 s.q1).mul (sumOf s 37 s.qp))
  let eps := Dbl.div z num ((zp.mul Dbl.pi).mul (Dbl.mul ⟨2, 0⟩ b).sqrt)
  let aMeas := Dbl.div z (Dbl.mul ⟨8, 0⟩ b).sqrt Dbl.pi
  let mean := Dbl.div z (Dbl.near s.s0 (-22)) (Dbl.near s.n 0)
  let lag := (Dbl.div z (Dbl.pi.mul Dbl.pi) ⟨4, 0⟩).mul (eps.mul eps)
  let injOld : Dbl := ⟨injEff, -16⟩
  { b := b.toFx, eps := eps.toFormat 22, phase := p.phaseOffset * 2 ^ 74 + eps.toFormat 22,
    scale := (Dbl.div z (Dbl.mul ⟨p.heatScale, -12⟩ aMeas) zp).toFormat 12,
    inj := if m.pairs.length < 8 then none else some ((injOld.mul (Dbl.add ⟨1, 0⟩ (meanRatio z m))).toFormat 16),
    tap := (Dbl.div z (phasor s 15 s.ib s.qb) (phasor s 15 s.ic s.qc)).toFormat 16,
    floor := ((mean.sub lag).sub b).toFormat 18 }

/-- A parameter's bounds in fixed point (R380). -/
structure Bound where
  lo : Int
  hi : Int
  deriving DecidableEq, Repr

def scaleBound : Bound := ⟨8 * 2 ^ 96, 32 * 2 ^ 96⟩
def tapBound : Bound := ⟨2 ^ 95, 2 * 2 ^ 96⟩
def floorBound : Bound := ⟨0, 316 * 2 ^ 96 / 1000000⟩
/-- |inj_eff| below 2.0: the greatest value of its format. -/
def injBound : Bound := ⟨2 ^ 95, 131071 * 2 ^ 80⟩

/-- A value lies outside its bounds. -/
def Bound.excludes (b : Bound) (x : Int) : Bool := decide (x < b.lo) || decide (b.hi < x)

/-- A value held within its bounds. -/
def Bound.hold (b : Bound) (x : Int) : Int := clampI b.lo b.hi x

/-- One step of a parameter toward its estimate (R380). -/
def paramStep (old est lim : Int) (shift : Nat) : Int := old + clampI (-lim) lim ((est - old) / 2 ^ shift)

/-- A bounded parameter after an estimate, and whether it was an excursion (R380, R381). -/
def boundedStep (b : Bound) (old est lim : Int) (shift : Nat) : Int × Bool :=
  if b.excludes est then (b.hold est, true) else (b.hold (paramStep old est lim shift), false)

/-- inj_eff after an estimate: its magnitude is bounded and its sign kept (R380, R381). -/
def injStep (old est : Int) (shift : Nat) : Int × Bool :=
  if (old < 0 && 0 < est) || (0 < old && est < 0) then (old, true)
  else
    let r := boundedStep injBound old.natAbs est.natAbs (old.natAbs / 50 : Nat) shift
    (if old < 0 then -r.1 else r.1, r.2)

/-- The words derived from a cell's parameters (R382), each the nearest value of its format (R119): heat_recip, inj_ratio,
inj_lin, half_contrast, inj_span. -/
def derivedWords (scale inj curv floor : Int) : List (Nat × W) :=
  let near : Int → Int → Int := fun a b => if b = 0 then 0 else if 0 < b then (2 * a + b) / (2 * b) else (2 * -a + -b) / (2 * -b)
  let w : Int → W := fun x => toW (twos 18 (clampI (-(2 ^ 17)) (2 ^ 17 - 1) x))
  let u : Int → W := fun x => toW (clampI 0 (2 ^ 18 - 1) x).toNat
  [(2, u (near (2 ^ 30) scale)), (4, w (near (scale * 2 ^ 14) inj)), (5, w (2 ^ 17 - curv)), (9, u (2 ^ 17 - floor)),
    (14, w (near (inj * 2 ^ 13) scale))]

/-- The parameter words of a cell from their values in the formats of R119. -/
def paramWords (phase scale inj curv tap floor : Int) : List (Nat × W) :=
  [(0, toW (twos 24 phase)), (1, toW (twos 18 scale)), (3, toW (twos 18 inj)), (6, toW (twos 18 curv)),
    (7, toW (twos 18 tap)), (8, toW (twos 18 floor))] ++ derivedWords scale inj curv floor

/-- Signed and unsigned reading of an 18-bit parameter word. -/
def stag (c : Chip) (i w : Nat) : Int := sext 18 (stagingWord c i w).toNat
def stagU (c : Chip) (i w : Nat) : Int := wbits (stagingWord c i w) 0 18

/-- The words a cell's estimates change in the staging bank, excursion bit included (R380–R382). -/
def updateWords (c : Chip) (i : Nat) (e : Estimates) : List (Nat × W) × Bool :=
  let sh := fld c CNS_CTL_gain_shift
  let phase0 := sext 24 (stagingWord c i 0).toNat * 2 ^ 74
  let phase := paramStep phase0 (phase0 + e.eps) (2 ^ 96 / 100) sh
  let scale0 := stagU c i 1 * 2 ^ 84
  let scale := boundedStep scaleBound scale0 e.scale (scale0 / 50) sh
  let inj0 := stag c i 3 * 2 ^ 80
  let inj := match e.inj with
    | some x => injStep inj0 x sh
    | none => (inj0, false)
  let tap0 := stagU c i 7 * 2 ^ 80
  let tap := boundedStep tapBound tap0 e.tap (tap0 / 100) sh
  let floor0 := stagU c i 8 * 2 ^ 78
  let floor := boundedStep floorBound floor0 e.floor (2 ^ 96 / 20000) sh
  let exc := scale.2 || inj.2 || tap.2 || floor.2
  let w15 := stagingWord c i 15
  (paramWords (sext 23 (twos 23 (fxRound 22 phase))) (fxRound 12 scale.1) (fxRound 16 inj.1) (stag c i 6)
      (fxRound 16 tap.1) (fxRound 18 floor.1) ++ [(15, putField w15 1 1 (b2n exc))], exc)

/-- The new amplitude of a cell from its peak dip D in fixed point, and whether the dip was high (R375). -/
def nextAmp (amp tgt mx : Nat) (d : Int) : Nat × Bool :=
  let u : Int := 2 ^ 80
  if 301 * u < d then (clampN 4 mx (amp / 2), true)
  else if tgt * u < d then (clampN 4 mx (amp - max 1 (amp / 8)), false)
  else if 4 * d < 3 * (tgt * u) then (clampN 4 mx (amp + max 1 (amp / 16)), false)
  else (clampN 4 mx amp, false)

/-- The four words of the estimate view (R402). -/
def estimateView (e : Estimates) (n : Int) (amp next transitions : Nat) (exc : Bool) (window : Nat) : List W :=
  [toW (twos 32 (clampI (-(2 ^ 23)) (2 ^ 23 - 1) (fxRound 22 e.eps))),
    toW (min 65535 (2 * e.b / 2 ^ 80).toNat * 2 ^ 16 + n.toNat % 2 ^ 16),
    toW (amp * 2 ^ 24 + next * 2 ^ 16 + min 255 transitions * 2 ^ 8 + b2n e.inj.isSome * 16 + 8 + b2n exc * 4),
    toW window]

/-- The staging words of a cell go in place where they change something. -/
def stageWords (c : Chip) (i : Nat) (l : List (Nat × W)) : Chip :=
  l.foldl (fun c e => if stagingWord c i e.1 = e.2 then c else ownStaging c (galleryOf i) (16 * (i % 128) + e.1) e.2) c

/-- The window of the cell is valid (R377). -/
def windowValid (c : Chip) (s : Sums) : Bool := (fld c CNS_CTL_min_count : Int) ≤ s.n && decide (0 < s.n) && decide (2 ^ 74 ≤ amp2f s)

/-- One cell's estimates of window `w` (R375, R379–R381): the amplitude of window w + 2, the parameters, the excursion.
The second part: its dip was high. -/
def estimateCell (c : Chip) (i w : Nat) : Chip × Bool :=
  let x := getCell c i
  let s := x.ended
  if cellLive c i && windowValid c s then
    let e := estimate ⟨(freeValue c : Nat), -96⟩ (params c i) (sext 18 (param c i 3).toNat) s x.movesEnded
    let mx := clampN 4 88 (fld c CNS_AMP_CTL_amp_max)
    let (amp, high) := nextAmp x.amp (fld c CNS_AMP_CTL_dip_tgt) mx (2 * e.b)
    let u := updateWords c i e
    let c := freeNext (putCell c i { x with
      ended := Sums.zero, movesEnded := ⟨[]⟩, ampNext := some ((w + 2) % 107375, amp),
      est := estimateView e s.n x.amp amp x.movesEnded.pairs.length u.2 w })
    if fldB c CNS_CTL_host_bank then (c, high)
    else
      let rises := u.2 && !wbit (param c i 15) 1
      let c := stageWords c i u.1
      (if rises then raise (setB c CNS_STAT_excursion true) srcCNS_EXCURSION (toW i) else c, high)
  else
    (putCell c i { x with
      ended := Sums.zero, movesEnded := ⟨[]⟩,
      est := match x.est with
        | [a, b, d, v] => [a, b, putField d 3 1 0, v]
        | l => l }, false)

/-- Every cell of a gallery takes the generation of the next commit (R383). -/
def stageGen (c : Chip) (g : Nat) : Chip :=
  let gen := (fld c (LPE_LAW_STAT_param_gen g) + 1) % 256
  (List.range 128).foldl (fun c j => stageWords c (128 * g + j) [(15, putField (stagingWord c (128 * g + j) 15) 24 8 gen)]) c

/-- The Conservator may make the writes of a window: the keeper's journal has room for them and the twin has its verdict (R345,
R352). -/
def stagingRoom (c : Chip) : Bool := !changeWaits c (24 * 14 * (mappedCells c).length + 24 * 4608)

/-- The estimates of the window that has ended are complete (R379): the parameters move, the amplitudes are set. -/
def estimatesDone (c : Chip) : Chip :=
  match c.cns.windowEnd with
  | none => c
  | some e =>
    if fldB c CNS_STAT_busy && stagingRoom c then
      let w := (e - 3).toNat / 40000
      let r := (mappedCells c).foldl (fun (x : Chip × Bool) m =>
        let y := estimateCell x.1 m.1 w
        (y.1, x.2 || y.2)) (c, false)
      let c := if r.2 then raise (setB r.1 CNS_STAT_dip_high true) srcCNS_DIP_HIGH 0 else r.1
      let c := if fldB c CNS_CTL_host_bank then c else galleries.foldl stageGen c
      setB { c with cns := { c.cns with formed := true } } CNS_STAT_busy false
    else c

/-- Word `w` of the estimate view of a cell (R402); before its first computation the view reads 0 (R397). -/
def estView (c : Chip) (i w : Nat) : W :=
  let x := getCell c i
  let v := nth 0 x.est w
  if w = 2 && x.seen then
    putField (putField v 24 8 x.amp) 16 8 (match x.ampNext with | some (_, a) => a | none => x.amp)
  else v

/-! ### Characterization requests (R390–R395) -/

/-- Request `i` of the list. -/
def getReq (c : Chip) (i : Nat) : Option CharReq := nth none c.cns.reqs i

/-- The request list as CNS_CHAR_RES and CNS_STAT show it (R399, R401). -/
def showReqs (c : Chip) : Chip :=
  let c := (List.range 16).foldl (fun c i =>
    match getReq c i with
    | none => wr (wr c (CNS_CHAR_RES i) 0) (CNS_CHAR_RES_B i) 0
    | some r =>
      wr (wr c (CNS_CHAR_RES i) (toW (r.status * 2 ^ 28 + r.reason * 2 ^ 24 + r.kind * 2 ^ 20 + r.tag)))
        (CNS_CHAR_RES_B i) (toW (min 127 (r.points.filter (·.isNone)).length * 2 ^ 24 + r.cell))) c
  setFld (setFld c CNS_STAT_running (c.cns.reqs.filter (fun r => (r.map (·.status)) == some 3)).length)
    CNS_STAT_listed (c.cns.reqs.filter (·.isSome)).length

/-- Give request `i` a state. -/
def putReq (c : Chip) (i : Nat) (r : Option CharReq) : Chip :=
  showReqs { c with cns := { c.cns with reqs := setNth c.cns.reqs i r } }

/-- Request `i` ends with a status and a reason; ABANDONED, LOST and FAILED raise CNS_CHAR_FAIL (R392, R394, R403). -/
def endReq (c : Chip) (i : Nat) (r : CharReq) (status reason : Nat) : Chip :=
  let c := setB (putReq c i (some { r with status := status, reason := reason, ended := some (period c) })) CNS_STAT_char_done true
  if 6 ≤ status then raise c srcCNS_CHAR_FAIL 0 else c

/-- What is wrong with a request (R390, R401), none if it may be listed: 5 bad argument, 2 cell unmapped or valid 0, 6 cell
already listed and not ended. -/
def reqReason (c : Chip) (a0 a1 : W) : Option Nat :=
  let kind := wbits a0 24 4
  let cell := wbits a0 0 13
  let dwell := wbits a1 20 12
  let points := wbits a1 12 8
  let hc := wbits a1 0 12
  if kind = 0 || 3 < kind || (dwell != 0 && (dwell < 16 || 4000 < dwell)) || (points != 0 && points < 16)
      || (hc != 0 && hc < 1024) then some 5
  else if !cellLive c cell then some 2
  else if c.cns.reqs.any (fun r => match r with | some r => r.cell == cell && r.status < 4 | none => false) then some 6
  else none

/-- A characterization request is listed or refused (R390). A full list takes no entry: CNS_CHAR_FAIL names the tag, and a
DETAIL record the reason. -/
def charRequest (c : Chip) (a0 a1 : W) (tag : Nat) : Chip :=
  match c.cns.reqs.findIdx? (·.isNone) with
  | none =>
    ledgerDetail (raise (setB c CNS_STAT_char_done true) srcCNS_CHAR_FAIL (toW tag)) srcCNS_CHAR_FAIL (leBytes 4 1)
  | some i =>
    let dwell := wbits a1 20 12
    let points := wbits a1 12 8
    let hc := wbits a1 0 12
    let r : CharReq :=
      { status := 1, reason := 0, kind := wbits a0 24 4, tag := tag, cell := wbits a0 0 13, noDefer := wbit a0 31,
        dwell := if dwell = 0 then 200 else dwell, count := if points = 0 then 64 else points,
        ceiling := if hc = 0 then 32767 else 16 * hc, listed := period c, ended := none, from_ := 0, point := 0,
        samples := [], points := [] }
    match reqReason c a0 a1 with
    | some k => endReq c i r 5 k
    | none => putReq c i (some r)

/-- CHARQ (R176, R390). -/
def opCharq (c : Chip) (r : Routine) : Chip × Routine :=
  (charRequest c (reg r (mwSa r.word)) (reg r (mwSb r.word)) (wbits r.cmd.w0 0 16), r)

/-- CHAR_SWEEP (R182, R390). -/
def charSweep (c : Chip) : Chip :=
  vendorRun c 0x28 (fun r => halt (charRequest c r.cmd.w1 r.cmd.w2 (wbits r.cmd.w0 0 16)) r)

/-- The points of a whole sweep: twice N for FULL (R390). -/
def CharReq.total (r : CharReq) : Nat := if r.kind = 3 then 2 * r.count else r.count

/-- Point `t` of a sweep belongs to its injection phase. -/
def CharReq.injection (r : CharReq) (t : Nat) : Bool := r.kind == 2 || decide (r.count ≤ t)

/-- n × top / (N − 1) rounded (R392). -/
def pointCode (top n count : Nat) : Nat := (2 * n * top + (count - 1)) / (2 * (count - 1))

/-- The codes of point `t` (R392): heater and injection; `rest` is the heater code before the sweep less its dither. -/
def CharReq.codes (r : CharReq) (t rest : Nat) : Nat × Nat :=
  if r.injection t then (rest, pointCode 4095 (t % r.count) r.count) else (pointCode r.ceiling t r.count, 0)

/-- A step of the active, armed or staged programme with its boundary in P to P + 40,000 names an arrangement that moves the cell,
tested or not (R391). A step whose boundary is P has given FORCE its targets. -/
def stepMoves (c : Chip) (cell : Nat) : Bool :=
  ((allSteps c 40000).filter (fun e => e.2.p.id != 0xFFFF)).any (fun e =>
    let l := match residentContent c e.2.p.id with
      | some l => l
      | none => ddrBytes c (slotAddr c e.2.p.id.toNat) arrBytes
    leAt l (0x400 + 4 * cell) 1 % 4 != 2)

/-- The conditions of R391 but the last. -/
def charFree (c : Chip) (cell : Nat) : Bool :=
  (getCell c cell).mode == .run && forceOf c cell % 4 == 2
    && (c.lpe.pendEmpty || mapRead (fun _ => 2) c.lpe.pend cell % 4 == 2) && !stepMoves c cell

/-- The last condition of R391: fewer than 4 sweeps run, none in the cell's gallery. -/
def charRoom (c : Chip) (cell : Nat) : Bool :=
  let running := c.cns.reqs.filterMap (fun r => match r with | some r => if r.status = 3 then some r.cell else none | none => none)
  decide (running.length < 4) && !running.any (fun i => galleryOf i == galleryOf cell)

/-- Request `i` is examined at its boundaries (R391): granted for the computation of two periods later, QUEUED, DEFERRED or
REFUSED. -/
def charExamine (c : Chip) (i : Nat) : Chip :=
  match getReq c i with
  | none => c
  | some r =>
    let age := (period c - r.listed).toNat
    if (r.status = 1 || r.status = 2) && 1 ≤ age && (age - 1) % 1024 = 0 then
      if !charFree c r.cell then
        if r.noDefer then endReq c i r 5 4 else putReq c i (some { r with status := 2 })
      else if !charRoom c r.cell then putReq c i (some { r with status := 1 })
      else
        let from_ := period c + 2
        let c := modCell c r.cell (fun x =>
          { x with grant := some from_, charEnd := some (from_ + toW (r.total * r.dwell)) })
        putReq c i (some { r with status := 3, from_ := from_, point := 0, samples := [], points := [] })
    else c

/-- The codes of a running sweep are given to its cell before a computation (R392). -/
def charCodes (c : Chip) (r : CharReq) : Chip :=
  let d := pdiff (period c) r.from_
  if r.status = 3 && 0 ≤ d then
    let t := d.toNat / r.dwell
    if t < r.total then
      modCell c r.cell (fun x =>
        let base := if x.under == .char then x.preChar else x.u1
        let k := r.codes t (clampI 0 65535 ((base.heat : Int) - base.dither)).toNat
        { x with charHeat := k.1, charInj := k.2 })
    else c
  else c

/-- Every running sweep gives its codes. -/
def allCharCodes (c : Chip) : Chip := c.cns.reqs.foldl (fun c r => match r with | some r => charCodes c r | none => c) c

/-- After a computation a running sweep keeps a sample of its cell (R392): the last 64 of each point, both outputs valid and
not dark, accepted by both twins (R385). A point's drive shows three computations later (R109, R110), and the sample of boundary k
is taken in period k + 2 (R357). -/
def charSample (c : Chip) (i : Nat) (r : CharReq) : Chip :=
  let d := pdiff (period c) (r.from_ + 4)
  if r.status = 3 && 0 ≤ d && d.toNat / r.dwell = r.point && r.dwell ≤ d.toNat % r.dwell + 64 then
    let m := sampleAt (getCell c r.cell) (period c - 2)
    if m.boundary == period c - 2 && m.valid && (!c.twn.paired || c.twn.bothUlOld.contains (r.cell / 32)) then
      { c with cns := { c.cns with
          reqs := setNth c.cns.reqs i (some { r with samples := r.samples ++ [(m.tb, m.sb, m.sc)] }) } }
    else c
  else c

/-- A sweep whose cell did not enter CHAR, or left it before its end, ends ABANDONED; one whose cell entered HOLD for
CHAR_LOSS ends LOST (R392). -/
def charFollow (c : Chip) (i : Nat) : Chip :=
  match getReq c i with
  | none => c
  | some r =>
    if r.status != 3 || pdiff (period c) r.from_ < 0 then c
    else match c.lpe.charOut.find? (fun e => e.1 == r.cell) with
    | some e => endReq c i r (if e.2 = 2 then 7 else 6) 0
    | none =>
      if period c = r.from_ && (getCell c r.cell).under != .char then endReq c i r 6 0 else charSample c i r

/-- What a computation tells the request list. -/
def charAfter (c : Chip) : Chip :=
  let c := (List.range 16).foldl charFollow c
  { c with lpe := { c.lpe with charOut := [] } }

/-- The mean of a point's samples in fixed point; none for a void point, with fewer than 48 (R392). -/
def pointMean (l : List (Int × Int × Int)) : Option (Int × Int × Int) :=
  let n : Int := l.length
  if l.length < 48 then none
  else some ((l.map (·.1)).sum * 2 ^ 74 / n, (l.map (·.2.1)).sum * 2 ^ 96 / n, (l.map (·.2.2)).sum * 2 ^ 96 / n)

/-- The fitted values of a sweep in the formats of R119: phase_offset, heat_scale, inj_eff, inj_curv, tap_ratio, ext_floor. -/
structure CharFit where
  phase : Int
  scale : Int
  inj : Int
  curv : Int
  tap : Int
  floor : Int
  deriving DecidableEq, Repr

/-- The points of a phase with their place in it. -/
def CharReq.phasePoints (r : CharReq) (injection : Bool) : List (Nat × (Int × Int × Int)) :=
  ((List.range r.points.length).zip r.points).filterMap (fun e =>
    match e.2 with
    | some m => if r.injection e.1 = injection then some (e.1 % r.count, m) else none
    | none => none)

/-- The angles of the heater points for s = k / 64, in units of 2^-40 π (R393). -/
def heaterAngles (r : CharReq) (k : Nat) (l : List (Nat × (Int × Int × Int))) (y : Int × Int × Int → Int) : List (Int × Int) :=
  l.map (fun e => (((k * pointCode r.ceiling e.1 r.count * 2 ^ 18 : Nat) : Int), y e.2))

/-- The heater fit (R393): the s of 8.0 to 32.0 in steps of 2^-6 with the smallest residual, the lowest on a tie; none for
a value outside the bounds of R380. -/
def heaterFit (r : CharReq) (f : CharFit) : Option CharFit :=
  let l := r.phasePoints false
  let best := (List.range 1537).foldl (fun (b : Option (Nat × SineFit)) j =>
    match sineFit (heaterAngles r (512 + j) l (·.1)), b with
    | some x, some (k, y) => if x.residual < y.residual then some (512 + j, x) else some (k, y)
    | some x, none => some (512 + j, x)
    | none, b => b) none
  match best with
  | none => none
  | some (k, x) =>
    match sineFit (heaterAngles r k l (·.2.1)), sineFit (heaterAngles r k l (·.2.2)) with
    | some bar, some cross =>
      let floor := x.a - x.amp
      if cross.amp = 0 then none
      else
        let tap := fxDiv bar.amp cross.amp
        if tapBound.excludes tap || floorBound.excludes floor then none
        else some { f with phase := fxAtan2 x.d (-x.c), scale := k * 64, tap := fxRound 16 tap, floor := fxRound 18 floor }
    | _, _ => none

/-- The phase, in units of 2^-40 π, with the cosine of `a`, nearest to `near`. -/
def nearPhase (a near : Int) : Int :=
  let turn : Int := 2 ^ 41
  let cand : Int → Int := fun x => x + turn * ((near - x + 2 ^ 40) / turn)
  let u := cand a
  let v := cand (-a)
  if (v - near).natAbs < (u - near).natAbs then v else u

/-- The phases of the injection points, each on the branch nearest the one before it moved on by the injection's own step
(R394, log entry 24). -/
def unwrap (step : Int) : Int → Nat → List (Nat × Int) → List (Nat × Int)
  | _, _, [] => []
  | last, n, (k, a) :: t =>
    let p := nearPhase a (last + step * ((k : Int) - n))
    (k, p) :: unwrap step p k t

/-- The injection fit (R394): inj_eff and inj_curv; none where an end point is void or a value lies outside its bounds. -/
def injectionFit (p : Par) (held branch : Nat) (oldInj : Int) (r : CharReq) (f : CharFit) : Option CharFit :=
  let l := r.phasePoints true
  let cosOf : Int → Int := fun tb =>
    if p.halfContrast = 0 then 0 else ((p.extFloor + p.halfContrast) * 2 ^ 78 - tb) * 2 ^ 18 / p.halfContrast
  let step := oldInj * 2 ^ 24 / ((r.count : Int) - 1)
  let ph := unwrap step (phiRef held branch * 2 ^ 18) 0 (l.map (fun e => (e.1, fxAcos (cosOf e.2.1))))
  match ph.find? (fun e => e.1 == 0), ph.find? (fun e => e.1 == r.count - 1) with
  | some z, some last =>
    let eff := last.2 - z.2
    let inj := eff * 2 ^ 56
    if eff = 0 || injBound.excludes inj.natAbs || decide (0 < eff) != decide (0 < oldInj) then none
    else
      let g : Nat × Int → Int := fun e => fxDiv (e.2 - z.2) eff
      let terms := ph.map (fun e =>
        let x := g e
        let cn : Int := (pointCode 4095 e.1 r.count : Nat) * 2 ^ 84
        let b := fxMul x x - x
        (fxMul (cn - x) b, fxMul b b))
      let den := (terms.map (·.2)).sum
      if den = 0 then none
      else
        let curv := clampI (-(2 ^ 95)) (2 ^ 95) (fxDiv (terms.map (·.1)).sum den)
        some { f with inj := fxRound 16 inj, curv := fxRound 17 curv }
  | _, _ => none

/-- A finished sweep (R393–R395): FAILED, or DONE with its values in CNS_CHAR_FIT and, while the Conservator owns the banks,
in the staging bank. -/
def charFinish (c : Chip) (i : Nat) (r : CharReq) : Chip :=
  let cell := r.cell
  let x := getCell c cell
  let f0 : CharFit := ⟨sext 24 (param c cell 0).toNat, wbits (param c cell 1) 0 18, sext 18 (param c cell 3).toNat,
    sext 18 (param c cell 6).toNat, wbits (param c cell 7) 0 18, wbits (param c cell 8) 0 18⟩
  let f1 := if r.kind = 2 then some f0 else heaterFit r f0
  let f2 := match f1 with
    | none => none
    | some f =>
      if r.kind = 1 then some f
      else
        let p := { params c cell with extFloor := f.floor, halfContrast := 2 ^ 17 - f.floor }
        injectionFit p x.held x.branch f0.inj r f
  if 4 < (r.points.filter (·.isNone)).length then endReq c i r 8 0
  else match f2 with
  | none => endReq c i r 8 0
  | some f =>
    let c := endReq c i r 4 0
    let w : Nat → Int → Nat := fun n v => twos n v
    let c := wr (wr (wr c (CNS_CHAR_FIT 0) (toW (w 24 f.phase))) (CNS_CHAR_FIT 1) (toW (w 18 f.scale)))
      (CNS_CHAR_FIT 2) (toW (w 18 f.inj))
    let c := wr (wr (wr c (CNS_CHAR_FIT 3) (toW (w 18 f.curv))) (CNS_CHAR_FIT 4) (toW (w 18 f.tap)))
      (CNS_CHAR_FIT 5) (toW (2 ^ 31 + cell * 2 ^ 18 + w 18 f.floor))
    if fldB c CNS_CTL_host_bank then c
    else
      let g := galleryOf cell
      let c := { c with cns := { c.cns with byChar := c.cns.byChar.filter (· != g) ++ [g] } }
      stageWords c cell (paramWords f.phase f.scale f.inj f.curv f.tap f.floor)

/-- A point's dwell has ended and its last sample has been taken (R392): its mean is formed; after the last point the sweep
is fitted, once the staging words may be written (R345, R352). -/
def charPointEnd (c : Chip) (i : Nat) : Chip :=
  match getReq c i with
  | none => c
  | some r =>
    let d := pdiff (period c) (r.from_ + 4)
    let waits := r.total ≤ r.point + 1 && !fldB c CNS_CTL_host_bank && changeWaits c (24 * 16)
    if r.status = 3 && !waits && (((r.point + 1) * r.dwell : Nat) : Int) ≤ d + 1 && c.lpe.computedP == period c then
      let r := { r with points := r.points ++ [pointMean r.samples], samples := [], point := r.point + 1 }
      if r.total ≤ r.point then charFinish c i r else putReq c i (some r)
    else c

/-- A write of release (R395): a finished entry is freed, a waiting one ends REFUSED with reason 7. -/
def charRelease (c : Chip) (i : Nat) : Chip :=
  match getReq c i with
  | none => c
  | some r => if 4 ≤ r.status then putReq c i none else if r.status = 3 then c else endReq c i r 5 7

/-- A write of CNS_CHAR_RESi_B (R395, R401). -/
def charReleaseWrite (c : Chip) (i : Nat) (v : W) : Chip :=
  hostChangeNow c (CNS_CHAR_RES_B i) v (fun c => if wbit v 31 then charRelease c i else c)

/-- A finished entry is freed 4,000,000 periods after it ended (R395). -/
def charExpiry (c : Chip) (i : Nat) : Chip :=
  match getReq c i with
  | none => c
  | some r => match r.ended with
    | some e => if 4000000 ≤ (period c - e).toNat then putReq c i none else c
    | none => c

/-! ### The computation of a period (R110) -/

/-- The galleries compute once in a period, while the device runs the fabric (R110, R348): sweeps give their codes before
and keep their samples after; what the computation is taken from is kept for repairs (R355). -/
def compute (c : Chip) : Chip :=
  if computesCells c && !bootHalted c && c.lpe.computedP != period c then charAfter (galleryCompute (keepHistory (allCharCodes c)))
  else c

/-! ### The commands -/

/-- GALLERY_COMPUTE (R110). -/
def execGalleryCompute (s : State) : Host.Outcome State Fault Refusal := run s compute

/-- BANK_COMMIT (R120). -/
def execBankCommit (g : Fin 36) (s : State) : Host.Outcome State Fault Refusal := run s (bankCommit · g)

/-- STAGING_BANK_WRITE (R384). -/
def execStagingBankWrite (g : Fin 36) (w : BitVec 11) (v : W) (s : State) : Host.Outcome State Fault Refusal :=
  run s (stagingWrite · g w.toNat v)

/-- CHARQ (R390). -/
def execCharq (s : State) : Host.Outcome State Fault Refusal := run s (opRow · 0x16 opCharq)

/-- CHAR_SWEEP (R390). -/
def execCharSweep (s : State) : Host.Outcome State Fault Refusal := run s charSweep

/-- DITHER_INTEGRATE (R378). -/
def execDitherIntegrate (s : State) : Host.Outcome State Fault Refusal := run s integrate

/-- LOCKIN_WINDOW_END (R376). -/
def execLockinWindowEnd (s : State) : Host.Outcome State Fault Refusal := run s windowEnd

/-- ESTIMATES_DONE (R379). -/
def execEstimatesDone (s : State) : Host.Outcome State Fault Refusal := run s estimatesDone

/-- CNS_GALLERY_COMMIT (R383). -/
def execCnsGalleryCommit (g : Fin 36) (s : State) : Host.Outcome State Fault Refusal := run s (galleryCommit · g)

/-- CALIBRATION_RECORD_WRITE (R388); `bad`: the record read back differs. -/
def execCalibrationRecordWrite (bad : Bool) (s : State) : Host.Outcome State Fault Refusal := run s (writeRecord · bad)

/-- CNS_COMMIT (R384). -/
def execCnsCommit (v : W) (s : State) : Host.Outcome State Fault Refusal := run s (cnsCommitWrite · v)

/-- CHAR_EXAMINE (R391). -/
def execCharExamine (i : Fin 16) (s : State) : Host.Outcome State Fault Refusal := run s (charExamine · i)

/-- CHAR_POINT_END (R392). -/
def execCharPointEnd (i : Fin 16) (s : State) : Host.Outcome State Fault Refusal := run s (charPointEnd · i)

/-- CHAR_RELEASE (R395). -/
def execCharRelease (i : Fin 16) (v : W) (s : State) : Host.Outcome State Fault Refusal :=
  run s (charReleaseWrite · i (v ||| 0x80000000))

/-- CHAR_ENTRY_EXPIRY (R395). -/
def execCharEntryExpiry (i : Fin 16) (s : State) : Host.Outcome State Fault Refusal := run s (charExpiry · i)

end Sys2Proof.Machine
end

