-- ==== Sys2Proof/Machine/Attendant.lean ====
section
/-! DEFINITION. The Attendant: latching, reactions, the SEVERE reaction, injection, the status balls and the safe state
(R465–R494). -/

namespace Sys2Proof.Machine

/-! ### Status words (R467, R468) -/

/-- Set the bit of source `s` in a word array that begins at `base`. -/
def setSrcBit (c : Chip) (base s : Nat) : Chip :=
  let a := base + 4 * (s / 32)
  wr c a (toW (rn c a ||| 2 ^ (s % 32)))

/-- The bit of source `s` in a word array. -/
def srcBit (c : Chip) (base s : Nat) : Bool := wbit (rd c (base + 4 * (s / 32))) (s % 32)

/-- The sources whose sticky bit is set. -/
def stickySources (c : Chip) : List Nat :=
  (c.regs.filter (fun e => decide (ATT_STAT 0 ≤ e.1) && decide (e.1 < ATT_STAT 40))).flatMap (fun e =>
    (setBits e.2.toNat 32).map (fun i => (e.1 - ATT_STAT 0) / 4 * 32 + i))

/-- A SEVERE reaction runs (R472). -/
def severeRuns (c : Chip) : Bool := fldB c ATT_CTL_severe

/-- ALERT_N and SAFE_N at a boundary (R480). -/
def showPins (c : Chip) : Chip :=
  let low := (stickySources c).any (fun s => fldB c (ATT_SRC_alert_en s)) || severeRuns c || safe c || bootHalted c
  { c with att := { c.att with alertLow := low, safeN := some (!safe c && !bootHalted c) } }

/-- The sources that hold a condition which holds at the present boundary (R468). -/
def liveConditions (c : Chip) : List Nat :=
  (c.ngl.links.filter (fun e => linkState c e.1 == 9 || linkState c e.1 == 7)).map (fun e => 577 + 2 * e.1)
    ++ ((List.range 4).filter (fun n => !linkUp c n && fld c (SVP_P_CTL_mode n) != 0)).map srcSVP_LINK_DOWN
    ++ (if isTwin c && !fldB c TWN_STAT_link_up then [srcTWN_LINK_DOWN] else [])
    ++ (if isTwin c && !fldB c TWN_STAT_partner_hb then [srcTWN_PARTNER_HB_LOST] else [])

/-- The live bits of the present boundary (R468). -/
def liveBits (c : Chip) : Chip :=
  let recent := c.att.last.filter (fun e => decide ((period c - e.2).toNat < 4000))
  let on := recent.map (·.1) ++ liveConditions c
  let c := { c with att := { c.att with last := recent } }
  (List.range 40).foldl (fun c w =>
    wr c (ATT_LIVE w) (toW (bitMask ((on.filter (fun s => s / 32 == w)).map (· % 32)).dedup))) c

/-! ### Counting windows (R471) -/

/-- The window length of a source. -/
def winLength (c : Chip) (s : Nat) : Nat := clampN 4000 4000000 (rn c (ATT_WIN_LEN (fld c (ATT_SRC_win_sel s))))

/-- One occurrence is counted; the one that brings the count to persist_thr makes the source lasting (R471). -/
def countOccurrence (c : Chip) (s : Nat) : Chip :=
  let thr := fld c (ATT_SRC_persist_thr s)
  if thr = 0 then c
  else
    let c := countFld c (ATT_SRC_win_cnt s) 1
    if thr ≤ fld c (ATT_SRC_win_cnt s) then setB c (ATT_SRC_lasting s) true else c

/-- A counting window of a source ends where P is a multiple of its length (R471). -/
def persistWindowEnd (c : Chip) (s : Nat) : Chip :=
  if srcReserved s || (period c).toNat % winLength c s != 0 then c
  else
    let thr := fld c (ATT_SRC_persist_thr s)
    let c := if thr = 0 || fld c (ATT_SRC_win_cnt s) < thr then setB c (ATT_SRC_lasting s) false else c
    setFld c (ATT_SRC_win_cnt s) 0

/-- The effective class of an occurrence of source `s` (R469). -/
def effClass (c : Chip) (s : Nat) : Nat :=
  let base := srcClass s
  if base = 3 then 3 else min 2 (base + b2n (fldB c (ATT_SRC_lasting s)))

/-! ### Vitrine triggers (R484) -/

/-- A trigger for boundary `v`; triggers that name the same V make one capture (R484). -/
def vitTrigger (c : Chip) (v : W) (bit source : Nat) : Chip :=
  let same := c.vit.waits.any (fun x => x.v == v)
  let l := if same then
      c.vit.waits.map (fun x =>
        if x.v = v then { x with trigger := x.trigger ||| 2 ^ bit, source := if x.source = 0xFFFF then source else x.source }
        else x)
    else c.vit.waits ++ [⟨v, 2 ^ bit, source⟩]
  { c with vit := { c.vit with waits := l } }

/-- A boundary that has passed is taken as P + 1 (R484). -/
def vitBoundary (c : Chip) (v : W) : W := if pdiff v (period c) ≤ 0 then period c + 1 else v

/-- VITRIG (R176). -/
def opVitrig (c : Chip) (r : Routine) : Chip × Routine := (vitTrigger c (vitBoundary c (reg r (mwSa r.word))) 2 0xFFFF, r)

/-- VIT_MARK (R182): its arg1 names the capture boundary. -/
def vitMark (c : Chip) : Chip :=
  vendorRun c 0x30 (fun r => halt (vitTrigger c (vitBoundary c r.cmd.w2) 2 0xFFFF) r)

/-! ### Reactions (R470–R476, R479) -/

/-- One message on a class's vector, if none is pending (R479). -/
def attMessage (c : Chip) (cls : Nat) : Chip :=
  if wbit (rd c ATT_IRQ_PEND) cls then c
  else msixSend (wr c ATT_IRQ_PEND (toW (rn c ATT_IRQ_PEND ||| 2 ^ cls))) (wbits (rd c ATT_IRQ) (8 * cls) 8)

/-- An urgent request of a reaction (R470): a DOC_URG write at the latch boundary; a copyist's goes to the keeper as
URG_REQ (R343). -/
def attUrgent (c : Chip) (op : Nat) : Chip :=
  if twinRole c = 2 then msgSend c 6 [BitVec.ofNat 8 op]
  else withSource c 5 (fun c => docUrgWrite c (toW op))

/-- What is latched for one source at a boundary: its effective class, whether it is injected, whether it is real (R476). -/
structure Latched where
  src : Nat
  eff : Nat
  inj : Bool
  real : Bool
  deriving DecidableEq, Repr

/-- The class an occurrence reacts at (R475, R476). -/
def Latched.reactClass (c : Chip) (l : Latched) : Nat :=
  if l.real then l.eff
  else if !fldB c ATT_CTL_inj_react then 0
  else if l.eff = 3 && !fldB c ATT_CTL_inj_grave then 2 else l.eff

/-- A SEVERE reaction starts, or replaces one that an injection started, whose inj bit stays (R472, R474, R492). -/
def startSevere (c : Chip) (l : Latched) : Chip :=
  let inj := !l.real || (severeRuns c && fldB c ATT_SEV_SRC_inj)
  let c := wr c ATT_SEV_SRC (toW (2 ^ 31 + b2n l.real * 2 ^ 30 + b2n inj * 2 ^ 29
    + b2n (fldB c (ATT_SRC_lasting l.src)) * 2 ^ 28 + l.src * 2 ^ 16))
  setB (wr c ATT_SEV_P (period c)) ATT_CTL_severe true

/-- The reaction of an occurrence that is not merged, below GRAVE (R470). -/
def react (c : Chip) (l : Latched) (cls : Nat) : Chip :=
  let c := if fldB c (ATT_SRC_irq_en l.src) then attMessage c cls else c
  let c := if 1 ≤ cls then
      let urg := fld c (ATT_SRC_urg l.src)
      let c := if urg = 1 then attUrgent c 8 else if urg = 2 then attUrgent c 9 else c
      if fldB c (ATT_SRC_vit l.src) then vitTrigger c (period c + 1) 3 l.src else c
    else c
  if cls = 2 then startSevere c l else c

/-- An occurrence is merged into the running reaction (R474). -/
def mergeOccurrence (c : Chip) : Chip := countUp (countFld c ATT_SEV_SRC_merged 1) ATT_MERGE_CNT 1

/-- The safe state is to be entered at the present boundary (R481); a later cause changes nothing. -/
def wantSafe (c : Chip) (cause source : Nat) : Chip :=
  if safe c || c.att.entry.isSome then c else { c with att := { c.att with entry := some (cause, source) } }

/-- The reaction to one latched source (R470, R474, R475, R481). -/
def reaction (c : Chip) (l : Latched) : Chip :=
  let cls := l.reactClass c
  if safe c || c.att.entry.isSome then
    if cls = 3 || fldB c (ATT_SRC_irq_en l.src) then attMessage c cls else c
  else if cls = 3 then
    wantSafe (attMessage c 3) (if l.src = srcATT_SELF then 2 else if l.real then 0 else 3) l.src
  else if severeRuns c && !(l.real && !fldB c ATT_SEV_SRC_real) then mergeOccurrence c
  else react c l cls

/-- An occurrence sets its bits, counts and is recorded by the ledger (R452, R467, R471). -/
def latchBits (c : Chip) (o : Occ) : Chip :=
  let c := setSrcBit (setSrcBit c (ATT_STAT 0) o.src) (ATT_LIVE 0) o.src
  let c := setSrcBit c (if o.injected then ATT_INJ_FLAG 0 else ATT_REAL_FLAG 0) o.src
  let c := { c with att := { c.att with last := mapPut c.att.last o.src (period c) } }
  let c := countOccurrence c o.src
  let eff := effClass c o.src
  ledgerEvent (setFld c (ATT_SRC_eff o.src) eff) o eff

/-- One occurrence of a source and kind in one period (R465): a line is asserted once. -/
def onePerPeriod : List Occ → List Occ
  | [] => []
  | o :: t => o :: (onePerPeriod t).filter (fun x => !(x.src == o.src && x.injected == o.injected && x.period == o.period))

/-- The sources latched, in the order of their reactions: descending class, then ascending source (R470). -/
def latchOrder (l : List Latched) : List Latched :=
  [3, 2, 1, 0].flatMap (fun k => (l.filter (fun x => x.eff == k)).mergeSort (fun a b => a.src ≤ b.src))

/-- Occurrences of the periods before the present one are latched and react (R465, R470). -/
def eventLatch (c : Chip) : Chip :=
  let now := onePerPeriod (c.att.raised.filter (fun o => o.period != period c))
  let c := { c with att := { c.att with raised := c.att.raised.filter (fun o => o.period == period c) } }
  let c := now.foldl latchBits c
  let srcs := (now.map (·.src)).dedup
  let items := srcs.map (fun s => (⟨s, fld c (ATT_SRC_eff s), now.any (fun o => o.src == s && o.injected),
    now.any (fun o => o.src == s && !o.injected)⟩ : Latched))
  showPins ((latchOrder items).foldl reaction c)

/-! ### Acknowledgement and escalation (R472, R473) -/

/-- The running reaction ends; its source and merged count stay recorded (R492). -/
def endSevere (c : Chip) : Chip := setB (setB c ATT_CTL_severe false) ATT_SEV_SRC_valid false

/-- A write of ATT_SEV_ACK waits for its E, P + 2 (R472). -/
def sevAckWrite (c : Chip) (v : W) : Chip :=
  hostWrite c ATT_SEV_ACK (fun c =>
    { c with att := { c.att with acks := c.att.acks ++ [(wbits v 0 11, period c + 2)] } })

/-- One acknowledgement is judged (R472). -/
def judgeAck (c : Chip) (src : Nat) : Chip :=
  if severeRuns c && fld c ATT_SEV_SRC_source == src then endSevere c else raise c srcATT_REJECT 0

/-- The acknowledgements whose E has come (R472). -/
def sevAckEffect (c : Chip) : Chip :=
  let now := c.att.acks.filter (fun a => due c a.2)
  let c := { c with att := { c.att with acks := c.att.acks.filter (fun a => !due c a.2) } }
  showPins (now.foldl (fun c a => judgeAck c a.1) c)

/-- t_a in µs (R473). -/
def ackTime (c : Chip) : Nat := clampN 10 1000000 (wbits (rd c ATT_ACK_TMO) 0 20)

/-- A reaction that has run for t_a escalates (R473); an acknowledgement whose E has come wins. -/
def escalate (c : Chip) : Chip :=
  let c := if c.att.acks.any (fun a => due c a.2) then sevAckEffect c else c
  if severeRuns c && pReached (period c) (rd c ATT_SEV_P + toW (4 * ackTime c)) then
    let s := fld c ATT_SEV_SRC_source
    wantSafe (raise c srcATT_ESCALATE (toW s)) 1 s
  else c

/-! ### Injection and parity (R475, R477) -/

/-- A write of ATT_INJ (R475, R493). -/
def injectionWrite (c : Chip) (v : W) : Chip :=
  hostWrite c ATT_INJ (fun c =>
    let s := wbits v 16 11
    if !wbit v 31 then c
    else if srcReserved s then raise c srcATT_REJECT 0
    else { c with att := { c.att with raised := c.att.raised ++ [⟨s, toW (wbits v 0 16), true, period c, netTime c⟩] } })

/-- The background scan, or an access, finds a word with bad parity (R477). -/
def parityScan (c : Chip) (bad : Option (BitVec 16)) : Chip :=
  match bad with
  | some off => raise c srcATT_SELF (toW off.toNat)
  | none => c

/-! ### The safe state (R481–R483) -/

/-- The Docent stops and a preparing mode change ends without a WITHDRAW frame (R481). -/
def stopDocent (c : Chip) : Chip :=
  let c := setB (setFld { c with doc := { c.doc with sched := none } } DOC_STAT_state 3) DOC_EPOCH_STAT_preparing false
  modEpoch c (fun e => { e with started := false, decided := none, withdrawn := none })

/-- The PMBus master is released: what waits on the bus and a sequence that runs are abandoned, and firmware's transaction
ends NOT_ACTING (R481, R568, R591). -/
def releasePmbus (c : Chip) : Chip :=
  let c := if c.pdm.seq.isSome then setFld c PDM_ASM_STAT_asm_state 5 else c
  let c := if c.pdm.bus.any (fun t => t.rail.isNone) then wr c PDM_PMB_STAT 5 else c
  { c with pdm := { c.pdm with bus := [], seq := none, reading := none, alert := [], downAt := none } }

/-- The twin's part in the entry (R351, R481): a keeper sends RELEASE, a copyist LEAVE, in the PREC of G. -/
def leavePair (c : Chip) : Chip :=
  if !isTwin c then c
  else
    let loan := if twinRole c = 1 then 2 else if twinRole c = 2 then 4 else 0
    let c := setB { c with twn := { c.twn with loanOut := loan } } TWN_STAT_acting false
    changeTwin (if loan = 0 then c else formPrec c) 0 0 false

/-- The device enters the safe state at boundary G (R481, R482). -/
def enterSafe (c : Chip) : Chip :=
  match c.att.entry with
  | none => c
  | some (cause, source) =>
    let healthy := partnerHealthy c
    let g := period c
    let c := setB (endSevere c) ATT_CTL_grave true
    let c := wr c ATT_GRAVE (toW (2 ^ 31 + b2n (!healthy) * 2 ^ 30 + cause * 2 ^ 28 + source * 2 ^ 16))
    let c := wr c ATT_GRAVE_P g
    let c := { c with att := { c.att with entry := none, final := if healthy then none else some g } }
    let c := releasePmbus (leavePair c)
    let c := stopDocent ((List.range 4).foldl silencePort c)
    let c := if fldB c VIT_CTL_vit_grave then
        let c := vitTrigger c (g + 1) 4 source
        { c with att := { c.att with lockV := some (g + 1) } }
      else c
    showPins c

/-- HEARTBEAT is inverted where P is a multiple of 2,000, but for the safe state and the boot halt (R478). -/
def heartbeat (c : Chip) : Chip :=
  if (period c).toNat % 2000 = 0 && !safe c && !bootHalted c then
    { c with att := { c.att with heartbeat := c.att.heartbeat.map (fun b => !b) } }
  else c

/-! ### The commands -/

/-- EVENT_LATCH (R465). -/
def execEventLatch (s : State) : Host.Outcome State Fault Refusal := run s eventLatch

/-- PERSIST_WINDOW_END (R471). -/
def execPersistWindowEnd (src : Fin 1280) (s : State) : Host.Outcome State Fault Refusal := run s (persistWindowEnd · src)

/-- SEV_ACK (R472). -/
def execSevAck (v : W) (s : State) : Host.Outcome State Fault Refusal := run s (sevAckWrite · v)

/-- SEV_ACK_EFFECT (R472). -/
def execSevAckEffect (s : State) : Host.Outcome State Fault Refusal := run s sevAckEffect

/-- ESCALATION (R473). -/
def execEscalation (s : State) : Host.Outcome State Fault Refusal := run s escalate

/-- INJECTION (R475). -/
def execInjection (v : W) (s : State) : Host.Outcome State Fault Refusal := run s (injectionWrite · (v ||| 0x80000000))

/-- PARITY_SCAN (R477): the offset of a word with bad parity, or none. -/
def execParityScan (bad : Option (BitVec 16)) (s : State) : Host.Outcome State Fault Refusal := run s (parityScan · bad)

/-- SAFE_STATE_ENTRY (R481). -/
def execSafeStateEntry (s : State) : Host.Outcome State Fault Refusal := run s enterSafe

/-- VITRIG (R176). -/
def execVitrig (s : State) : Host.Outcome State Fault Refusal := run s (opRow · 0x1A opVitrig)

/-- VIT_MARK (R182). -/
def execVitMark (s : State) : Host.Outcome State Fault Refusal := run s vitMark

end Sys2Proof.Machine
end

