-- ==== Sys2Proof/Machine/Power.lean ====
section
/-! DEFINITION. Power domains, the assembly's power tree over PMBus, and the die temperature (R557–R569, R590–R594). -/

namespace Sys2Proof.Machine

/-! ### Power domains (R557–R560) -/

/-- The links of a link group (R557). -/
def groupLinks (k : Nat) : List Nat := (List.range 24).map (24 * k + ·)

/-- The source of a write that waits for a domain: 0 host over PCIe, 1 SMBus, 2 management cores (R344, R557). -/
def domainSource (w : W) : Nat := wbits w 0 16

/-- Why domain `d` may not be switched off now by a write from `src` (R557, R560); 0 where it may. -/
def offReason (c : Chip) (d src : Nat) : Nat :=
  let offIf := fun (ok : Bool) => if ok then 0 else 2
  if d < 36 then offIf (galleryCells c d).isEmpty
  else if d < 42 then
    offIf ((groupLinks (d - 36)).all (fun t => (linkState c t == 0 || linkState c t == 9) && !(maskTiles c).contains t))
  else if d < 46 then offIf (fld c (SVP_P_CTL_mode (d - 42)) == 0)
  else if d = 46 then offIf (!isTwin c)
  else if d = 47 then offIf (src == 1 || src == 2)
  else if d = 48 || d = 49 then (if fld c GLB_BOOT_STAT_state = 1 then 1 else 0)
  else if d = 50 then offIf (curMode c == 0)
  else if d = 51 then (if fld c GLB_BOOT_STAT_state = 1 then 1 else 0)
  else if d = 52 then
    (if ((List.range 4).all (fun n => fld c (PDM_DOM_state (42 + n)) == 0)) then 0 else 4)
  else if d = 53 then 0 else 1

/-- Give a domain its state and show which domains are ON (R591, R592). -/
def setDomain (c : Chip) (d st : Nat) : Chip :=
  let c := setFld c (PDM_DOM_state d) st
  setB c ⟨if d < 32 then PDM_ON0 else PDM_ON1, d % 32, 1⟩ (st == 1)

/-- A domain command is refused (R560). -/
def domainReject (c : Chip) (d reason : Nat) : Chip := raise (setFld c (PDM_DOM_reason d) reason) srcPDM_DOM_REJECT 0

/-- A command written to PDM_DOMdd waits for its E; a second one meanwhile is refused (R559, R560). -/
def domainWrite (c : Chip) (d : Nat) (v : W) : Chip :=
  hostChangeIf c (PDM_DOM d) v
    (fun c => if !fromJournal c && c.pdm.waits.any (fun x => x.1 == d) then some (domainReject c d 3) else none)
    (fun c e => { c with pdm := { c.pdm with waits := c.pdm.waits ++ [(d, toW (wbits v 30 2 * 2 ^ 30 + c.twn.source), e)] } })

/-- A domain starts to switch (R559). -/
def startSwitch (c : Chip) (d : Nat) (on : Bool) : Chip :=
  setDomain { c with pdm := { c.pdm with switching := c.pdm.switching ++ [(d, on, period c)] } } d 2

/-- At E the command of a domain is checked and switching starts, or it is refused (R559, R560). -/
def domainSwitch (c : Chip) (d : Nat) : Chip :=
  match c.pdm.waits.find? (fun x => x.1 == d && due c x.2.2) with
  | none => c
  | some x =>
    let c := { c with pdm := { c.pdm with waits := c.pdm.waits.erase x } }
    let cmd := wbits x.2.1 30 2
    let st := fld c (PDM_DOM_state d)
    if cmd = 0 || cmd = 3 then domainReject c d 1
    else if st = 2 then domainReject c d 3
    else if cmd = 1 then
      if 42 ≤ d && d < 46 && fld c (PDM_DOM_state 52) != 1 then domainReject c d 4
      else if st = 0 then startSwitch c d true else c
    else
      let r := offReason c d (domainSource x.2.1)
      if r != 0 then domainReject c d r
      else if st = 0 then c else startSwitch c d false

/-- The registers from `lo` to `hi` take their reset values. -/
def resetRegs (c : Chip) (lo hi : Nat) : Chip := { c with regs := c.regs.filter (fun e => decide (e.1 < lo) || decide (hi ≤ e.1)) }

/-- The state of gallery `g` is lost (R557, R559). -/
def resetGallery (c : Chip) (g : Nat) : Chip :=
  let inG := fun (i : Nat) => galleryOf i == g
  let c := { c with lpe := { c.lpe with
    cells := c.lpe.cells.filter (fun e => !inG e.1), bankA := c.lpe.bankA.filter (fun e => !inG (e.1 / 16)),
    bankB := c.lpe.bankB.filter (fun e => !inG (e.1 / 16)), force := c.lpe.force.filter (fun e => !inG e.1),
    pend := c.lpe.pend.filter (fun e => !inG e.1), entry := c.lpe.entry.filter (fun e => !inG e.1),
    commits := mapDel c.lpe.commits g, committed := mapDel c.lpe.committed g, cmds := mapDel c.lpe.cmds g,
    open_ := c.lpe.open_.filter (fun e => e.1 != g), taps := c.lpe.taps.filter (fun e => !inG e.1),
    tapsNew := c.lpe.tapsNew.filter (fun e => !inG e.1) } }
  resetRegs c (0x800000 + 0x10000 * g) (0x810000 + 0x10000 * g)

/-- A reset of the Conservator in every cell: the amplitude starts at amp_init, sums and estimates are gone (R375). -/
def resetDither (c : Chip) : Chip :=
  c.lpe.cells.foldl (fun c e => modCell c e.1 (fun x => { x with
    amp := Cell.reset.amp, ampNext := none, grant := none, sums := Sums.zero, ended := Sums.zero, moves := ⟨[]⟩, movesEnded := ⟨[]⟩,
    est := [] })) c

/-- The contents of a domain start from their reset values (R557, R559). -/
def resetDomain (c : Chip) (d : Nat) : Chip :=
  if d < 36 then resetGallery c d
  else if d < 42 then
    let lo := 24 * (d - 36)
    let c := { c with ngl := { c.ngl with links := c.ngl.links.filter (fun e => decide (e.1 < lo) || decide (lo + 24 ≤ e.1)) } }
    resetRegs c (0xB00000 + 0x1000 * lo) (0xB00000 + 0x1000 * (lo + 24))
  else if d < 46 then
    let n := d - 42
    resetRegs { c with svp := { c.svp with ports := setNth c.svp.ports n Port.reset } } (0xD00000 + 0x1000 * n) (0xD01000 + 0x1000 * n)
  else if d = 46 then resetRegs { c with twn := { Twn.reset with source := c.twn.source, applying := c.twn.applying } } 0x1000000 0x1100000
  else if d = 47 then wr { c with pcie := { Pcie.reset with sent := c.pcie.sent, last := c.pcie.last } } XBR_PCIE_STAT 0
  else if d = 50 then resetRegs { c with cur := Cur.reset } 0x600000 0x700000
  else if d = 51 then resetRegs (resetDither { c with cns := Cns.reset }) 0xC00000 0xD00000
  else if d = 52 then resetRegs { c with svp := { Svp.reset with ports := c.svp.ports }, txs := Txs.reset } 0xE00000 0x1000000
  else if d = 53 then resetRegs { c with aux := Aux.reset } 0x1400000 0x1500000
  else c

/-- Domain `d` switches in the direction named. -/
def isSwitching (c : Chip) (d : Nat) (on : Bool) : Bool := c.pdm.switching.any (fun x => x.1 == d && x.2.1 == on)

/-- A domain has finished switching. -/
def endSwitch (c : Chip) (d st : Nat) : Chip :=
  setDomain { c with pdm := { c.pdm with switching := c.pdm.switching.filter (fun x => x.1 != d) } } d st

/-- The domain is OFF and its state is lost (R559). -/
def domainOffDone (c : Chip) (d : Nat) : Chip := if isSwitching c d false then endSwitch (resetDomain c d) d 0 else c

/-- The supply is good: the domain is ON and its blocks start from reset (R559). -/
def domainOnDone (c : Chip) (d : Nat) : Chip := if isSwitching c d true then endSwitch (resetDomain c d) d 1 else c

/-- A supply not good by E + 128 puts the domain in FAULT (R559). -/
def domainFault (c : Chip) (d : Nat) : Chip :=
  if c.pdm.switching.any (fun x => x.1 == d && x.2.1 && pReached (period c) (x.2.2 + 128)) then
    raise (endSwitch c d 3) srcPDM_DOM_FAULT (toW d)
  else c

/-- At commit the gallery and link group domains that may be off are switched off (R558). -/
def autoOff (c : Chip) : Chip :=
  if wbit (rd c PDM_CTL) 31 then
    (List.range 42).foldl (fun c d => if fld c (PDM_DOM_state d) = 1 && offReason c d 0 == 0 then startSwitch c d false else c) c
  else c

/-! ### Rails (R562, R563, R565, R566) -/

/-- The rail's entry is in use (R563). -/
def railValid (c : Chip) (r : Nat) : Bool := fldB c (PDM_RAIL_CFG_valid r)

/-- VOUT_MODE of a rail is known and not ULINEAR16 (R562). -/
def railBarred (c : Chip) (r : Nat) : Bool :=
  match mapGet c.pdm.mode r with
  | some b => b.toNat / 32 != 0
  | none => false

/-- The rails that take part in sequencing and polling (R562). -/
def railsIn (c : Chip) : List Nat := (List.range 16).filter (fun r => railValid c r && !railBarred c r)

/-- The commanded voltage as a mantissa, and the last READ_VOUT. -/
def railSet (c : Chip) (r : Nat) : Nat := wbits (rd c (PDM_RAIL_VOUT r)) 0 16

/-- A fault bit among bits 15:13, 6:4 and 2 of a STATUS_WORD (R565). -/
def statusFault (s : Nat) : Bool := bitsAt s 13 3 != 0 || bitsAt s 4 3 != 0 || bitsAt s 2 1 != 0

/-- A rail is good (R565). -/
def railGood (c : Chip) (r : Nat) : Bool :=
  let s := fld c (PDM_RAIL_STAT_status_word r)
  match mapGet c.pdm.vout r with
  | none => false
  | some v =>
    railValid c r && !fldB c (PDM_RAIL_STAT_pmb_err r) && bitsAt s 11 1 == 0 && !statusFault s
      && decide (((v.toNat : Int) - railSet c r).natAbs * 1000 ≤ fld c (PDM_RAIL_LIM_fault r) * railSet c r)
      && !(fldB c (PDM_RAIL_CFG_mon_en r) && c.pdm.faultTold.contains r)

/-- Show whether a rail is good. -/
def showGood (c : Chip) (r : Nat) : Chip :=
  setB (setB c (PDM_RAIL_STAT_good r) (railGood c r)) ⟨PDM_ASM_STAT, r, 1⟩ (railGood c r)

/-- A rail fault: the flag, PDM_RAIL_FAULT unless it has been told since the last result back inside, and with
fault_act a DOWN sequence at the next boundary (R566, R567). `key` is the rail, 16 more for its STATUS_WORD. -/
def railFault (c : Chip) (r key : Nat) : Chip :=
  let c := setB c (PDM_RAIL_STAT_fault r) true
  if c.pdm.faultTold.contains key then c
  else
    let c := raise { c with pdm := { c.pdm with faultTold := key :: c.pdm.faultTold } } srcPDM_RAIL_FAULT 0
    if fldB c PDM_ASM_CTL_fault_act then { c with pdm := { c.pdm with downAt := some (period c + 1) } } else c

/-- A STATUS_WORD has been read (R565, R566). -/
def takeStatusWord (c : Chip) (r : Nat) (s : BitVec 16) : Chip :=
  let c := setFld c (PDM_RAIL_STAT_status_word r) s.toNat
  if statusFault s.toNat then railFault c r (16 + r)
  else { c with pdm := { c.pdm with faultTold := c.pdm.faultTold.filter (fun k => k != 16 + r) } }

/-- A code of the converter is further from the nominal voltage than `lim` in 0.1 % units (R566, R571). -/
def deviates (code : Int) (nom lim : Nat) : Bool :=
  decide (lim * nom * 32768 < (code * 2500 - (nom : Int) * 32768).natAbs * 1000)

/-- One row of results outside a limit: its length after this result. -/
def rowOutside (m : List (Nat × Nat)) (r : Nat) (outside : Bool) : Nat := if outside then mapRead (fun _ => 0) m r + 1 else 0

/-- A result of a rail's monitor is judged (R566). -/
def railJudge (c : Chip) (code : Int) (r : Nat) : Chip :=
  let nom := fld c (PDM_RAIL_LIM_nom r)
  let w := deviates code nom (fld c (PDM_RAIL_LIM_warn r))
  let f := deviates code nom (fld c (PDM_RAIL_LIM_fault r))
  let wn := rowOutside c.pdm.warnRun r w
  let fn := rowOutside c.pdm.faultRun r f
  let c := { c with pdm := { c.pdm with
    warnRun := mapWrite (fun _ => 0) c.pdm.warnRun r wn, faultRun := mapWrite (fun _ => 0) c.pdm.faultRun r fn,
    warnTold := if w then c.pdm.warnTold else c.pdm.warnTold.erase r,
    faultTold := if f then c.pdm.faultTold else c.pdm.faultTold.erase r } }
  let c := if 4 ≤ wn then
      let c := setB c (PDM_RAIL_STAT_warn r) true
      if c.pdm.warnTold.contains r then c
      else raise { c with pdm := { c.pdm with warnTold := r :: c.pdm.warnTold } } srcPDM_RAIL_WARN 0
    else c
  showGood (if 2 ≤ fn then railFault c r r else c) r

/-- A clean result of AIN channel `ch` is judged for every rail it monitors (R566). -/
def judgeRails (c : Chip) (ch : Nat) (code : Int) : Chip :=
  ((List.range 16).filter (fun r => railValid c r && fldB c (PDM_RAIL_CFG_mon_en r) && fld c (PDM_RAIL_CFG_ain r) == ch)).foldl
    (fun c r => railJudge c code r) c

/-! ### The sequencer (R564, R567, R568) -/

/-- Transactions wait for the bus. -/
def queueTx (c : Chip) (l : List PmbTx) : Chip := { c with pdm := { c.pdm with bus := c.pdm.bus ++ l } }

/-- Reads of VOUT_MODE of the rails whose mode is not known (R561). -/
def modeReads (c : Chip) : List PmbTx :=
  ((List.range 16).filter (fun r => railValid c r && (mapGet c.pdm.mode r).isNone)).map (fun r => ⟨some r, 0x20, none, 0⟩)

/-- The rails of a sequence group that take part. -/
def groupRails (c : Chip) (g : Nat) : List Nat := (railsIn c).filter (fun r => fld c (PDM_RAIL_CFG_group r) == g)

/-- The commands a sequence sends to a rail (R564). -/
def railCommands (c : Chip) (up : Bool) (r : Nat) : List PmbTx :=
  if up then
    [⟨some r, 0x03, none, 0⟩]
      ++ (if wbit (rd c (PDM_RAIL_VOUT r)) 31 then [⟨some r, 0x21, some (railSet c r), 0⟩] else [])
      ++ [⟨some r, 0x01, some 0x80, 0⟩]
  else [⟨some r, 0x01, some 0x40, 0⟩]

/-- The mark of a sequence that has not entered its first group. -/
def noGroup : Nat := 8

/-- The group that follows in a sequence: the next one that holds a rail. -/
def nextGroup (c : Chip) (q : SeqRun) : Option Nat :=
  let later := if q.up then (List.range 8).filter (fun g => q.group == noGroup || decide (q.group < g))
    else ((List.range 8).filter (fun g => decide (g < q.group))).reverse
  later.find? (fun g => !(groupRails c g).isEmpty)

/-- A sequence enters its next group, or ends with every group complete (R564). -/
def enterGroup (c : Chip) (q : SeqRun) : Chip :=
  match nextGroup c q with
  | some g =>
    setFld { c with pdm := { c.pdm with seq := some { q with group := g, todo := groupRails c g, last := 0, seen := [] } } }
      PDM_ASM_STAT_group g
  | none => setFld { c with pdm := { c.pdm with seq := none } } PDM_ASM_STAT_asm_state (if q.up then 2 else 4)

/-- The on-delay of the rail commanded last has passed (R563, R564). -/
def delayPassed (c : Chip) (q : SeqRun) : Bool :=
  match ((groupRails c q.group).filter (fun r => !q.todo.contains r)).getLast? with
  | some r => !q.up || decide (fld c (PDM_RAIL_CFG_on_delay r) * 100000 ≤ c.tmr.ticks - q.last)
  | none => true

/-- The sequence goes on: with the bus free it enters its first group, or sends the next rail's commands (R564). -/
def seqAdvance (c : Chip) : Chip :=
  match c.pdm.seq with
  | none => c
  | some q =>
    if !c.pdm.bus.isEmpty then c
    else
      let c := if q.group = noGroup then enterGroup c q else c
      match c.pdm.seq with
      | none => c
      | some q =>
        match q.todo with
        | r :: rest =>
          if delayPassed c q then
            queueTx { c with pdm := { c.pdm with seq := some { q with todo := rest } } } (railCommands c q.up r)
          else c
        | [] => c

/-- A sequence starts (R564); only the acting device runs one (R568). -/
def startSeq (c : Chip) (up : Bool) : Chip :=
  let c := setFld c PDM_ASM_STAT_asm_state (if up then 1 else 3)
  let c := { c with pdm := { c.pdm with seq := some ⟨up, noGroup, [], 0, []⟩ } }
  seqAdvance (queueTx c (modeReads c))

/-- A write of PDM_ASM_CTL: an UP or DOWN written while a sequence runs is refused (R564); otherwise it waits for E. -/
def asmWrite (c : Chip) (v : W) : Chip :=
  hostChangeIf c PDM_ASM_CTL v
    (fun c =>
      if !fromJournal c && (wbits v 30 2 = 1 || wbits v 30 2 = 2) && c.pdm.seq.isSome then some (setB c PDM_ASM_STAT_cmd_reject true)
      else none)
    (fun c e => defer c e PDM_ASM_CTL v)

/-- A write of PDM_ASM_CTL takes effect at its E (R564, R593). -/
def asmEffect (c : Chip) (v : W) : Chip :=
  let c := setFld (setFld c PDM_ASM_CTL_auto_seq (wbits v 29 1)) PDM_ASM_CTL_fault_act (wbits v 28 1)
  let cmd := wbits v 30 2
  if cmd = 0 || !acting c then c
  else if cmd = 3 then seqAdvance (queueTx c ((railsIn c).map (fun r => ⟨some r, 0x03, none, 0⟩)))
  else if c.pdm.seq.isSome then setB c PDM_ASM_STAT_cmd_reject true
  else startSeq c (cmd == 1)

/-- A rail of the sequence's group is complete: good on the way up, below 10 % of its voltage on the way down. -/
def railComplete (c : Chip) (up : Bool) (r : Nat) : Bool :=
  if up then railGood c r
  else match mapGet c.pdm.vout r with
    | some v => decide (10 * v.toNat < railSet c r)
    | none => false

/-- The group of the running sequence whose commands have all been sent, and its rails that are not complete. -/
def groupLeft (c : Chip) : Option (SeqRun × List Nat) :=
  match c.pdm.seq with
  | some q =>
    if q.group = noGroup || !q.todo.isEmpty || !c.pdm.bus.isEmpty then none
    else some (q, (groupRails c q.group).filter (fun r => !q.seen.contains r))
  | none => none

/-- A group is complete and the next one starts (R564). -/
def seqGroupDone (c : Chip) : Chip :=
  match groupLeft c with
  | some (q, []) => seqAdvance (enterGroup c q)
  | _ => c

/-- A group not complete 10 ms after its last command ends the sequence PARTIAL (R564). -/
def seqGroupTimeout (c : Chip) : Chip :=
  match groupLeft c with
  | some (q, r :: _) =>
    if 10000000 ≤ c.tmr.ticks - q.last then
      let c := { c with pdm := { c.pdm with seq := none } }
      let c := setFld (setFld (setFld c PDM_ASM_STAT_asm_state 5) PDM_ASM_STAT_group q.group) PDM_ASM_STAT_rail r
      raise c srcPDM_SEQ_FAIL (toW (q.group * 2 ^ 24 + r * 2 ^ 20))
    else c
  | _ => c

/-- With fault_act a rail fault starts a DOWN sequence at the next boundary (R567). -/
def railFaultDown (c : Chip) : Chip :=
  match c.pdm.downAt with
  | some e =>
    if due c e then
      let c := { c with pdm := { c.pdm with downAt := none } }
      match c.pdm.seq with
      | some q => if q.up && acting c then startSeq { c with pdm := { c.pdm with bus := c.pdm.bus.filter (fun t => t.rail.isNone) } } false else c
      | none => if acting c then startSeq c false else c
    else c
  | none => c

/-! ### The bus (R561, R562, R565) -/

/-- The poller may read: the device acts, the bus is free, and the assembly is UP, a sequence runs or a reading is
asked for (R561, R565, R568). -/
def mayPoll (c : Chip) : Bool :=
  acting c && c.pdm.bus.isEmpty
    && (fld c PDM_ASM_STAT_asm_state == 2 || c.pdm.seq.isSome || c.pdm.reading.isSome || !c.pdm.alert.isEmpty)

/-- The rail read next: those an alert names, those of a device that becomes acting, then round the valid rails. -/
def pollRail (c : Chip) : Option Nat :=
  let alerts := c.pdm.alert.filter (fun r => (railsIn c).contains r)
  let wanted := (c.pdm.reading.getD []).filter (fun r => (railsIn c).contains r)
  match alerts, wanted with
  | r :: _, _ => some r
  | [], r :: _ => some r
  | [], [] => ((railsIn c).find? (fun r => decide (c.pdm.polled < r))).orElse (fun _ => (railsIn c).head?)

/-- A device that became acting has read every rail: asm_state is UP or PARTIAL (R568). -/
def endReading (c : Chip) : Chip :=
  match c.pdm.reading with
  | some l =>
    if l.any (fun r => (railsIn c).contains r) then c
    else
      setFld { c with pdm := { c.pdm with reading := none } } PDM_ASM_STAT_asm_state
        (if (railsIn c).all (railGood c) then 2 else 5)
  | none => c

/-- The rail is complete in the running sequence. -/
def noteSeen (c : Chip) (r : Nat) : Chip :=
  match c.pdm.seq with
  | some q =>
    let seen := q.seen.erase r
    { c with pdm := { c.pdm with seq := some { q with seen := if railComplete c q.up r then r :: seen else seen } } }
  | none => c

/-- The poller reads the next rail (R565); after an alert its STATUS_WORD only; a rail whose VOUT_MODE is not known has
that read first (R561). -/
def pmbPoll (c : Chip) (status vout iout temp : BitVec 16) : Chip :=
  if mayPoll c then
    match pollRail c with
    | none => endReading { c with pdm := { c.pdm with alert := [] } }
    | some r =>
      if (mapGet c.pdm.mode r).isNone then queueTx c [⟨some r, 0x20, none, 0⟩]
      else
        let only := c.pdm.alert.contains r
        let c := takeStatusWord c r status
        if only then showGood { c with pdm := { c.pdm with alert := c.pdm.alert.erase r } } r
        else
          let c := { c with pdm := { c.pdm with
            polled := r, vout := mapPut c.pdm.vout r vout, iout := mapPut c.pdm.iout r iout,
            temp := mapPut c.pdm.temp r temp, reading := c.pdm.reading.map (fun l => l.erase r) } }
          endReading (noteSeen (showGood c r) r)
  else c

/-- A falling edge of PMB_ALERT_N (R565). -/
def pmbAlert (c : Chip) : Chip :=
  let c := raise c srcPDM_PMB_ALERT 0
  if acting c then { c with pdm := { c.pdm with alert := railsIn c } } else c

/-- A write of PDM_PMB_XFER (R561, R591): firmware's transaction takes its turn on the bus; a device that does not act ends it
NOT_ACTING; one written while another runs is ignored. -/
def pmbXfer (c : Chip) (v : W) : Chip :=
  hostWrite c PDM_PMB_XFER (fun c =>
    let op := wbits v 28 3
    if !wbit v 31 || op = 0 || 4 < op || wbit (rd c PDM_PMB_STAT) 31 then c
    else if !acting c then wr c PDM_PMB_STAT 5
    else
      queueTx (wr c PDM_PMB_STAT 0x80000000)
        [⟨none, v.toNat, if op ≤ 2 then some (wbits (rd c PDM_PMB_DATA) 0 16) else none, 0⟩])

/-- The last command of a rail in a sequence has been sent. -/
def noteCommand (c : Chip) (t : PmbTx) : Chip :=
  if t.cmd = 0x01 then { c with pdm := { c.pdm with seq := c.pdm.seq.map (fun q => { q with last := c.tmr.ticks }) } } else c

/-- A transaction has ended with good data (R561, R562, R591). -/
def pmbGood (c : Chip) (t : PmbTx) (data : BitVec 16) : Chip :=
  match t.rail with
  | none =>
    let op := bitsAt t.cmd 28 3
    let c := if op = 3 then wr c PDM_PMB_DATA (toW (data.toNat % 256)) else if op = 4 then wr c PDM_PMB_DATA (toW data.toNat) else c
    wr c PDM_PMB_STAT 1
  | some r =>
    if t.cmd = 0x20 then
      let b := BitVec.ofNat 8 data.toNat
      let c := { c with pdm := { c.pdm with mode := mapPut c.pdm.mode r b } }
      if b.toNat / 32 != 0 then showGood (setB c (PDM_RAIL_STAT_pmb_err r) true) r else c
    else if t.cmd = 0x79 then showGood (takeStatusWord c r data) r
    else noteCommand c t

/-- A transaction has failed three times (R562). -/
def pmbFailed (c : Chip) (t : PmbTx) (res : Nat) : Chip :=
  match t.rail with
  | none => wr c PDM_PMB_STAT (toW (res + 1))
  | some r => noteCommand (showGood (raise (setB c (PDM_RAIL_STAT_pmb_err r) true) srcPDM_PMB_ERR 0) r) t

/-- A transaction on the bus ends: 0 good, 1 NACK, 2 PEC, 3 over 25 ms; a failure is tried again twice (R562). With none on the
bus a failure is that of the poller's read. -/
def pmbTransactionDone (c : Chip) (res : Nat) (data : BitVec 16) : Chip :=
  match c.pdm.bus with
  | [] =>
    if res != 0 && mayPoll c then
      match pollRail c with
      | some r => queueTx c [⟨some r, if (mapGet c.pdm.mode r).isNone then 0x20 else 0x79, none, 1⟩]
      | none => c
    else c
  | t :: rest =>
    if res = 0 then seqAdvance (pmbGood { c with pdm := { c.pdm with bus := rest } } t data)
    else if t.tries < 2 then { c with pdm := { c.pdm with bus := { t with tries := t.tries + 1 } :: rest } }
    else seqAdvance (pmbFailed { c with pdm := { c.pdm with bus := rest } } t res)

/-- What the power management does at a boundary: a device that does not act releases the bus and abandons its sequence
(R561, R568); a sequence whose delay has passed goes on. -/
def powerPeriod (c : Chip) : Chip :=
  if !acting c && (!c.pdm.bus.isEmpty || c.pdm.seq.isSome || c.pdm.reading.isSome) then releasePmbus c
  else endReading (seqAdvance c)

/-! ### Die temperature (R569) -/

/-- The hottest sensor of a period (R569). -/
def measureTemp (c : Chip) (temp : BitVec 16) : Chip :=
  let t := temp.toInt
  let c := wr c PDM_TEMP (toW temp.toNat)
  let c := if sext 16 (rn c PDM_TEMP_CTL) < t then raise c srcPDM_TEMP_WARN 0 else c
  let n := if t < 16000 then 0 else if c.pdm.hotRun < 4 then c.pdm.hotRun + 1 else c.pdm.hotRun
  { c with pdm := { c.pdm with hotRun := n } }

/-- 125 °C or more for 4 consecutive periods (R569). -/
def tempCrit (c : Chip) : Chip :=
  if c.pdm.hotRun = 4 then raise { c with pdm := { c.pdm with hotRun := 5 } } srcPDM_TEMP_CRIT 0 else c

/-! ### The commands -/

/-- DOMAIN_ON (R559). -/
def execDomainOn (d : Fin 56) (v : W) (s : State) : Host.Outcome State Fault Refusal :=
  run s (domainWrite · d (putField v 30 2 1))

/-- DOMAIN_OFF (R559). -/
def execDomainOff (d : Fin 56) (v : W) (s : State) : Host.Outcome State Fault Refusal :=
  run s (domainWrite · d (putField v 30 2 2))

/-- DOMAIN_SWITCH (R559, R560). -/
def execDomainSwitch (d : Fin 56) (s : State) : Host.Outcome State Fault Refusal := run s (domainSwitch · d)

/-- DOMAIN_OFF_DONE (R559). -/
def execDomainOffDone (d : Fin 56) (s : State) : Host.Outcome State Fault Refusal := run s (domainOffDone · d)

/-- DOMAIN_ON_DONE (R559). -/
def execDomainOnDone (d : Fin 56) (s : State) : Host.Outcome State Fault Refusal := run s (domainOnDone · d)

/-- DOMAIN_FAULT (R559). -/
def execDomainFault (d : Fin 56) (s : State) : Host.Outcome State Fault Refusal := run s (domainFault · d)

/-- ASM_UP (R564). -/
def execAsmUp (v : W) (s : State) : Host.Outcome State Fault Refusal := run s (asmWrite · (putField v 30 2 1))

/-- ASM_DOWN (R564). -/
def execAsmDown (v : W) (s : State) : Host.Outcome State Fault Refusal := run s (asmWrite · (putField v 30 2 2))

/-- ASM_CLEAR (R593). -/
def execAsmClear (v : W) (s : State) : Host.Outcome State Fault Refusal := run s (asmWrite · (putField v 30 2 3))

/-- SEQ_GROUP_DONE (R564). -/
def execSeqGroupDone (s : State) : Host.Outcome State Fault Refusal := run s seqGroupDone

/-- SEQ_GROUP_TIMEOUT (R564). -/
def execSeqGroupTimeout (s : State) : Host.Outcome State Fault Refusal := run s seqGroupTimeout

/-- The word of a transaction with its go bit and operation code (R591). -/
def withXferOp (v : W) (k : Nat) : W := putField v 28 4 (8 + k)

/-- PMB_WRITE_BYTE (R591). -/
def execPmbWriteByte (v : W) (s : State) : Host.Outcome State Fault Refusal := run s (pmbXfer · (withXferOp v 1))

/-- PMB_WRITE_WORD (R591). -/
def execPmbWriteWord (v : W) (s : State) : Host.Outcome State Fault Refusal := run s (pmbXfer · (withXferOp v 2))

/-- PMB_READ_BYTE (R591). -/
def execPmbReadByte (v : W) (s : State) : Host.Outcome State Fault Refusal := run s (pmbXfer · (withXferOp v 3))

/-- PMB_READ_WORD (R591). -/
def execPmbReadWord (v : W) (s : State) : Host.Outcome State Fault Refusal := run s (pmbXfer · (withXferOp v 4))

/-- PMB_TRANSACTION_DONE (R562). -/
def execPmbTransactionDone (res : Fin 4) (data : BitVec 16) (s : State) : Host.Outcome State Fault Refusal :=
  run s (pmbTransactionDone · res data)

/-- PMB_POLL (R565). -/
def execPmbPoll (status vout iout temp : BitVec 16) (s : State) : Host.Outcome State Fault Refusal :=
  run s (pmbPoll · status vout iout temp)

/-- PMB_ALERT (R565). -/
def execPmbAlert (s : State) : Host.Outcome State Fault Refusal := run s pmbAlert

/-- RAIL_FAULT_DOWN (R567). -/
def execRailFaultDown (s : State) : Host.Outcome State Fault Refusal := run s railFaultDown

/-- PDM_TEMP_CRIT (R569). -/
def execPdmTempCrit (s : State) : Host.Outcome State Fault Refusal := run s tempCrit

end Sys2Proof.Machine
end

