-- ==== Sys2Proof/Machine/Analog.lean ====
section
/-! DEFINITION. The auxiliary analog section: the ADC, its trims, the DAC, and the TEC zones that firmware runs
(R570–R590, R595–R598). -/

namespace Sys2Proof.Machine

/-! ### The converter (R570–R577) -/

def modAux (c : Chip) (f : Aux → Aux) : Chip := { c with aux := f c.aux }

/-- The channel of an entry of a sequence's list (R595). -/
def seqChannel (c : Chip) (n i : Nat) : Nat := wbits (rd c (AUX_SEQ_LIST n (i / 4))) (8 * (i % 4)) 6

/-- The channel a trim converts next (R579): 64 times the internal short, then the reference resistor. -/
def trimChannel (n : Nat) : Nat := if n < 64 then 46 else 44

/-- What AUX_STAT and the sequences show of the converter (R596, R597). -/
def showAux (c : Chip) : Chip :=
  let c := setB c AUX_STAT_busy (c.aux.conv.isSome || c.aux.run.isSome || fldB c AUX_STAT_trimming)
  let urgentRuns := match c.aux.conv with
    | some (.urgent, _) => true
    | _ => false
  let c := setB c AUX_STAT_urg_busy (c.aux.urgent.isSome || urgentRuns)
  let c := setFld c AUX_STAT_qdepth c.aux.queue.length
  (List.range 4).foldl (fun c n => setB c (AUX_SEQ_CTL_pending n) (c.aux.pend.contains n)) c

/-- A conversion begins; the converter is powered (R572). -/
def begin (c : Chip) (k : ConvKind) (ch : Nat) : Chip :=
  setB (modAux c (fun a => { a with conv := some (k, ch) })) AUX_STAT_powered true

/-- With the converter free and enabled the next conversion begins: an urgent request, then the trim that runs or the next
entry of the sequence that runs, then the lowest pending sequence, then a trim that was asked for (R573–R575, R579). -/
def nextConversion (c : Chip) : Chip :=
  let c :=
    if c.aux.conv.isSome || !fldB c AUX_CTL_adc_en then c
    else match c.aux.urgent with
      | some ch => begin (modAux c (fun a => { a with urgent := none })) .urgent ch
      | none =>
        if fldB c AUX_STAT_trimming then
          if c.aux.trimN < 256 then begin c .trim (trimChannel c.aux.trimN) else c
        else match c.aux.run with
          | some (n, i) => begin c (.seq n i) (seqChannel c n i)
          | none =>
            match [0, 1, 2, 3].find? (fun n => c.aux.pend.contains n) with
            | some n =>
              begin (modAux c (fun a => { a with pend := a.pend.erase n, run := some (n, 0) })) (.seq n 0) (seqChannel c n 0)
            | none =>
              if c.aux.trimWanted then
                begin (setB (modAux c (fun a => { a with trimWanted := false, trimN := 0 })) AUX_STAT_trimming true) .trim 46
              else c
  showAux c

/-- A trigger of a sequence: it runs, or is held pending; one more while one is pending is dropped (R573, R574). With adc_en
= 0 it is ignored (R596). -/
def trigger (c : Chip) (n : Nat) : Chip :=
  if !fldB c AUX_CTL_adc_en then c
  else if c.aux.pend.contains n then
    raiseLimited (countUp (setB c AUX_STAT_overrun true) AUX_OVERRUN_CNT 1) srcAUX_OVERRUN 0
  else nextConversion (modAux c (fun a => { a with pend := a.pend ++ [n] }))

/-- The stored form of AUX_SEQs_CTL (R597). -/
def seqCtlStored (v : W) : W :=
  toW (wbits v 27 4 * 2 ^ 27 + wbits v 22 4 * 2 ^ 22 + clampN 4 4000000 (wbits v 0 22))

/-- A write of AUX_SEQs_CTL (R573, R597). -/
def seqCtlWrite (c : Chip) (n : Nat) (v : W) : Chip :=
  hostWrite c (AUX_SEQ_CTL n) (fun c =>
    let c := showAux (wr c (AUX_SEQ_CTL n) (seqCtlStored v))
    if wbit v 31 then trigger c n else c)

/-- The timer of a sequence expires at a boundary where P is a multiple of its interval (R573). -/
def timerTrigger (c : Chip) (n : Nat) : Chip :=
  if fld c (AUX_SEQ_CTL_trig n) = 1 && (period c).toNat % max 4 (fld c (AUX_SEQ_CTL_interval n)) = 0 then trigger c n else c

/-- A write of AUX_URG (R575). -/
def urgentWrite (c : Chip) (v : W) : Chip :=
  hostWrite c AUX_URG (fun c =>
    if !wbit v 31 || !fldB c AUX_CTL_adc_en then c
    else if fldB c AUX_STAT_urg_busy then setB c AUX_STAT_urg_reject true
    else nextConversion (modAux c (fun a => { a with urgent := some (wbits v 0 6) })))

/-- A result of channel `ch` raised AUX_OVR less than 1,024 periods ago (R576). -/
def ovrRecent (c : Chip) (ch : Nat) : Bool :=
  match mapGet c.aux.ovrTold ch with
  | some p => decide ((period c - p).toNat < 1024)
  | none => false

/-- An overrange result (R576). -/
def overrange (c : Chip) (ch : Nat) : Chip :=
  let c := setB c AUX_STAT_ovr true
  if ovrRecent c ch then c
  else raise (modAux c (fun a => { a with ovrTold := mapPut a.ovrTold ch (period c) })) srcAUX_OVR 0

/-- A result enters the queue, or finds it full and is dropped (R577). -/
def queueResult (c : Chip) (w : W) : Chip :=
  if c.aux.queue.length < 256 then modAux c (fun a => { a with queue := a.queue ++ [w], lost := false })
  else
    raiseLimited (countUp (setB (modAux c (fun a => { a with lost := true })) AUX_STAT_qlost true) AUX_QLOST_CNT 1) srcAUX_QLOST 0

/-- A result of an AIN channel reaches the Conservator where the channel senses a gallery's heater rail (R396). -/
def railResult (c : Chip) (ch : Nat) (code : Int) : Chip :=
  let gs := galleries.filter (fun g => wbit (rd c (CNS_RAIL g)) 31 && wbits (rd c (CNS_RAIL g)) 16 5 == ch && decide (ch < 32))
  gs.foldl (fun c g =>
    let old := mapRead (fun _ => (0, 0)) c.cns.rails g
    { c with cns := { c.cns with rails := mapPut c.cns.rails g (old.1 + code * 2500000, old.2 + 1) } }) c

/-- What a result is used for besides its queue: one with neither OVR nor RECOVERY in the rail judgement (R566), one without RECOVERY,
whose code must not be used (R576), by the Conservator (R396). -/
def useResult (c : Chip) (ch : Nat) (code : Int) (ovr recovery : Bool) : Chip :=
  if recovery || 32 ≤ ch then c else railResult (if ovr then c else judgeRails c ch code) ch code

/-- The result word of R577. -/
def resultWord (c : Chip) (k : ConvKind) (ch : Nat) (code : BitVec 16) (ovr : Bool) : W :=
  let place := match k with
    | .seq n i => n * 2 ^ 26 + i * 2 ^ 22
    | .urgent => 2 ^ 29
    | .trim => 0
  toW (b2n ovr * 2 ^ 31 + b2n c.aux.ovrLast * 2 ^ 30 + b2n c.aux.lost * 2 ^ 28 + place + ch * 2 ^ 16 + code.toNat)

/-- A sequence has come to its last entry: sequences chained to it are triggered (R573). -/
def sequenceEnd (c : Chip) (n : Nat) : Chip :=
  [0, 1, 2, 3].foldl (fun c m =>
    if fld c (AUX_SEQ_CTL_trig m) = 2 && fld c (AUX_SEQ_CTL_chain m) = n then trigger c m else c) c

/-- What follows a conversion of each kind. -/
def afterConversion (c : Chip) (k : ConvKind) (w : W) : Chip :=
  match k with
  | .urgent => wr c AUX_URG_RES w
  | .trim => modAux c (fun a => { a with trimN := a.trimN + 1 })
  | .seq n i =>
    if i < fld c (AUX_SEQ_CTL_len_m1 n) then modAux c (fun a => { a with run := some (n, i + 1) })
    else sequenceEnd (modAux c (fun a => { a with run := none })) n

/-- A conversion ends with a code (R571, R576, R577). -/
def conversionDone (c : Chip) (code : BitVec 16) (ovr : Bool) : Chip :=
  match c.aux.conv with
  | none => c
  | some (k, ch) =>
    let w := resultWord c k ch code ovr
    let recovery := c.aux.ovrLast
    let c := modAux c (fun a => { a with conv := none, lastEnd := some c.tmr.ticks, ovrLast := ovr })
    let c := if ovr then overrange c ch else c
    let c := wr (queueResult c w) (AUX_LAST ch) w
    let c := useResult c ch code.toInt ovr recovery
    nextConversion (afterConversion c k w)

/-- 10 µs without a conversion power the converter down (R572). -/
def adcPowerDown (c : Chip) : Chip :=
  match c.aux.conv, c.aux.lastEnd with
  | none, some t => if 10000 ≤ c.tmr.ticks - t then setB c AUX_STAT_powered false else c
  | _, _ => c

/-- A host read of AUX_RESQ pops the head result; an empty queue answers 0 (R577). -/
def resultPop (c : Chip) : Chip :=
  hostRead c AUX_RESQ (fun c =>
    match c.aux.queue with
    | [] => answer c 0
    | w :: t => showAux (answer (modAux c (fun a => { a with queue := t })) w))

/-! ### Trims (R579) -/

/-- A write of AUX_CTL (R596): adc_en and trim_interval are stored, trim_go asks for a trim. -/
def auxCtlWrite (c : Chip) (v : W) : Chip :=
  hostWrite c AUX_CTL (fun c =>
    let c := wr c AUX_CTL (v &&& 0x80FF0000)
    nextConversion (if wbit v 30 then modAux c (fun a => { a with trimWanted := true }) else c))

/-- A trim is due trim_interval seconds after the last one (R579). -/
def trimInterval (c : Chip) : Chip :=
  let n := fld c AUX_CTL_trim_interval
  if n != 0 && !fldB c AUX_STAT_trimming && decide (n * 1000000000 ≤ c.tmr.ticks - c.aux.trimEnd) then
    nextConversion (modAux c (fun a => { a with trimWanted := true }))
  else c

/-- A trim ends with its trims and references, or fails and keeps the previous ones (R579). -/
def trimDone (c : Chip) (ok : Bool) (offset gain : Byte) (hi lo : BitVec 22) : Chip :=
  if fldB c AUX_STAT_trimming && decide ((if ok then 256 else 64) ≤ c.aux.trimN) then
    let conv := match c.aux.conv with
      | some (.trim, _) => none
      | x => x
    let c := setB (modAux c (fun a => { a with trimEnd := c.tmr.ticks, trimN := 0, conv := conv })) AUX_STAT_trimming false
    let gen := (wbits (rd c AUX_TRIM_STAT) 16 16 + 1) % 2 ^ 16
    let c := if ok then
        let c := wr c AUX_TRIM_STAT (toW (gen * 2 ^ 16 + offset.toNat * 2 ^ 8 + gain.toNat))
        let c := wr (wr c AUX_TRIM_REF_HI (toW hi.toNat)) AUX_TRIM_REF_LO (toW lo.toNat)
        raise (wr c CNS_TRACE (toW gen)) srcAUX_TRIM_DONE 0
      else raise (setB c AUX_STAT_trim_fail true) srcAUX_TRIM_FAIL 0
    nextConversion c
  else c

/-! ### The DAC (R581–R586) -/

def dacCh (c : Chip) (k : Nat) : DacCh := nth DacCh.reset c.aux.dac k

/-- Change a channel and show its state in its register (R598). -/
def modDac (c : Chip) (k : Nat) (f : DacCh → DacCh) : Chip :=
  let c := modAux c (fun a => { a with dac := modNth a.dac k f })
  setFld c (AUX_DAC_CFG_state k) (dacCh c k).st

/-- A DAC write is refused (R581, R584). -/
def dacReject (c : Chip) : Chip := raise (setB c AUX_STAT_dac_reject true) srcAUX_DAC_REJECT 0

/-- The zero code of a range (R584). -/
def zeroCode (range : Nat) : Nat := if range = 2 || range = 3 then 32768 else 0

/-- A write of a DAC register waits for its E (R582, R584); range 6 is refused (R581). -/
def dacWrite (c : Chip) (k w : Nat) (v : W) : Chip :=
  let a := AUX_DAC_CFG k + 4 * w
  hostChangeIf c a v (fun c => if w = 0 && wbits v 0 3 = 6 then some (dacReject c) else none) (fun c e => defer c e a v)

/-- AUX_DACkk_CFG at its E (R583–R585). -/
def dacConfig (c : Chip) (k : Nat) (v : W) : Chip :=
  let d := dacCh c k
  let range := wbits v 0 3
  let sine := if wbit v 31 then some (d.sineOn.getD (period c)) else none
  let stored := fun (c : Chip) (s : Bool) => setFld (setB c (AUX_DAC_CFG_sine_en k) s) (AUX_DAC_CFG_range k) range
  if range = 7 then modDac (stored c (wbit v 31)) k (fun d => { d with st := 0, sineOn := sine })
  else if d.st = 1 && range != fld c (AUX_DAC_CFG_range k) then
    let c := wr (stored c false) (AUX_DAC_CODE k) (toW (zeroCode range))
    modDac c k (fun _ => ⟨2, zeroCode range, none, period c⟩)
  else modDac (stored c (wbit v 31)) k (fun d => { d with sineOn := sine })

/-- A DAC write takes effect at its E; one that falls while the channel changes its range is refused (R582–R585). -/
def dacEffect (c : Chip) (k w : Nat) (v : W) : Chip :=
  if (dacCh c k).st = 2 then dacReject c
  else if w = 0 then dacConfig c k v
  else if w = 1 then
    let c := wr c (AUX_DAC_CODE k) (toW (wbits v 0 16))
    modDac c k (fun d => { d with code := wbits v 0 16, st := if d.st = 0 && fld c (AUX_DAC_CFG_range k) != 7 then 1 else d.st })
  else if w = 2 then wr c (AUX_DAC_SINE k) v
  else wr c (AUX_DAC_SHAPE k) (v &&& 0xFFFF7FFF)

/-- The pin drives the zero code of its new range (R584). -/
def dacChangeDone (c : Chip) (k : Nat) : Chip := if (dacCh c k).st = 2 then modDac c k (fun d => { d with st := 1 }) else c

/-- The code of a channel with sine_en at boundary `b` (R585). -/
def sineCode (c : Chip) (k : Nat) (on b : W) : Nat :=
  let psi := rn c (AUX_DAC_SINE k) * (b - on).toNat % 2 ^ 32
  let w := rd c (AUX_DAC_SHAPE k)
  (clampI 0 65535 ((wbits w 16 16 : Int) + ((wbits w 0 15 : Int) * ditherSine psi + 2 ^ 14) / 2 ^ 15)).toNat

/-- Every channel with sine_en takes its code at a boundary (R585). -/
def dacSines (c : Chip) : Chip :=
  modAux c (fun a => { a with dac := (a.dac.zipIdx).map (fun e =>
    match e.1.sineOn with
    | some on => { e.1 with code := sineCode c e.2 on (period c) }
    | none => e.1) })

/-- The state AUX_DACkk_CFG shows (R586, R598): 3 RELEASED while the device does not act. -/
def dacState (c : Chip) (k : Nat) : Nat := if acting c then (dacCh c k).st else 3

/-- The code pin AOUT[k] drives; none where it is high-impedance (R583, R584, R586). -/
def dacPin (c : Chip) (k : Nat) : Option Nat :=
  if dacState c k = 1 && domainOn c 53 then some (dacCh c k).code else none

/-! ### TEC zones (R587–R589) -/

/-- The most the ramp of a zone moves in one step of 1 ms, in 2^-16 of 1/128 °C (R588). -/
def tecSlew (c : Chip) (z : Nat) : Int := (clampN 1 100 (wbits (rd c (AUX_TEC_CFG z)) 0 10) * 128 * 65536 / 1000 : Nat)

def modTec (c : Chip) (z : Nat) (f : TecZone → TecZone) : Chip := modAux c (fun a => { a with tec := modNth a.tec z f })

/-- The sensor of a zone is lost: firmware sets fault and raises TEC_FAULT (R589). -/
def tecLost (c : Chip) (z : Nat) : Chip :=
  if (nth TecZone.reset c.aux.tec z).lost then c
  else raise (setB (modTec c z (fun t => { t with lost := true })) ⟨AUX_TEC_STAT z, 31, 1⟩ true) (srcTEC_FAULT z) 0

/-- Kelvins of the β model times 2^96: 1 / (1 / 298.15 + ln (R / r_nom) / β) for a resistance R; none where the zone's β and
r_nom or the result give no temperature (R587; log entry 60). -/
def betaKelvin (ratio : Nat) (beta : Nat) : Option Int :=
  if ratio = 0 || beta = 0 then none
  else
    let inv := fxOne * 100 / 29815 + fxLn ratio / beta
    if inv ≤ 0 then none else some (fxDiv fxOne inv)

/-- The temperature firmware finds for a thermistor's code, in 2^-16 of 1/128 °C (R580, R587). -/
def tecMeasured (c : Chip) (z : Nat) (code : Int) : Option Int :=
  let w := rd c (AUX_TEC_BETA z)
  let scale := wbits (rd c AUX_TRIM_REF_LO) 0 22 * (2 * wbits w 0 16)
  (betaKelvin (if scale = 0 then 0 else (640000 * code).toNat * 2 ^ 96 / scale) (wbits w 16 16)).map
    (fun k => k / 2 ^ 73 - 27315 * 2 ^ 23 / 100)

/-- The resistance of a result at 10 µA lies in 100 Ω–250 kΩ (R580, R589). -/
def tecInRange (c : Chip) (code : Int) : Bool :=
  let ref := (wbits (rd c AUX_TRIM_REF_LO) 0 22 : Int)
  decide (100 * ref ≤ 640000 * code) && decide (640000 * code ≤ 250000 * ref) && decide (0 < ref)

/-- One step of a zone on a good result (R587, R588): the ramp moves, firmware writes the DAC code of its PI loop, a free
value, and shows the ramped set-point. A ramp begins at the measured temperature, a free value where β and r_nom give none. -/
def tecMove (c : Chip) (z : Nat) (result : Int) : Chip :=
  let t := nth TecZone.reset c.aux.tec z
  let fresh := t.lost || !t.begun
  let found := tecMeasured c z result
  let ramp := if fresh then found.getD (freeValue c : Nat) else t.ramp
  let c := if fresh && found.isNone then freeNext c else c
  let goal := sext 16 (rn c (AUX_TEC_SET z)) * 65536
  let ramp := ramp + clampI (-tecSlew c z) (tecSlew c z) (goal - ramp)
  let c := modTec c z (fun t => { t with ramp := ramp, skipped := 0, lost := false, begun := true })
  let c := wr c (AUX_TEC_STAT z) (toW (twos 16 (ramp / 65536)))
  let code := freeValue c
  withSource (freeNext c) 2 (fun c => dacWrite c (wbits (rd c (AUX_TEC_CFG z)) 16 4) 1 (toW (code % 65536)))

/-- One step of a zone (R587–R589). -/
def tecZone (c : Chip) (z : Nat) : Chip :=
  let cfg := rd c (AUX_TEC_CFG z)
  if !wbit cfg 31 then c
  else
    let w := rd c (AUX_LAST (wbits cfg 24 5))
    if wbit w 31 || wbit w 30 then
      let n := (nth TecZone.reset c.aux.tec z).skipped + 1
      let c := modTec c z (fun t => { t with skipped := n })
      if 5 ≤ n then tecLost c z else c
    else if tecInRange c (sext 16 (wbits w 0 16)) then tecMove c z (sext 16 (wbits w 0 16))
    else tecLost c z

/-- Firmware steps every zone in the acting device (R587). -/
def tecStep (c : Chip) : Chip :=
  if acting c && fld c GLB_BOOT_STAT_state = 1 then (List.range 8).foldl tecZone c else c

/-- A write of AUX_TEC_EVT raises TEC_FAULT for the zones it names (R589, R595). -/
def tecEvt (c : Chip) (v : W) : Chip :=
  hostWrite c AUX_TEC_EVT (fun c => (setBits v.toNat 8).foldl (fun c z => raise c (srcTEC_FAULT z) 0) c)

/-! ### The commands -/

/-- ADC_SEQ_GO (R573). -/
def execAdcSeqGo (n : Fin 4) (v : W) (s : State) : Host.Outcome State Fault Refusal := run s (seqCtlWrite · n (v ||| 0x80000000))

/-- ADC_TIMER_TRIGGER (R573). -/
def execAdcTimerTrigger (n : Fin 4) (s : State) : Host.Outcome State Fault Refusal := run s (timerTrigger · n)

/-- ADC_URGENT (R575). -/
def execAdcUrgent (v : W) (s : State) : Host.Outcome State Fault Refusal := run s (urgentWrite · (v ||| 0x80000000))

/-- ADC_CONVERSION_DONE (R571, R576, R577). -/
def execAdcConversionDone (code : BitVec 16) (ovr : Bool) (s : State) : Host.Outcome State Fault Refusal :=
  run s (conversionDone · code ovr)

/-- ADC_POWER_DOWN (R572). -/
def execAdcPowerDown (s : State) : Host.Outcome State Fault Refusal := run s adcPowerDown

/-- ADC_RESULT_POP (R577). -/
def execAdcResultPop (s : State) : Host.Outcome State Fault Refusal := run s resultPop

/-- TRIM_GO (R579). -/
def execTrimGo (v : W) (s : State) : Host.Outcome State Fault Refusal := run s (auxCtlWrite · (v ||| 0x40000000))

/-- TRIM_INTERVAL (R579). -/
def execTrimInterval (s : State) : Host.Outcome State Fault Refusal := run s trimInterval

/-- TRIM_DONE (R579). -/
def execTrimDone (ok : Bool) (offset gain : Byte) (hi lo : BitVec 22) (s : State) : Host.Outcome State Fault Refusal :=
  run s (trimDone · ok offset gain hi lo)

/-- DAC_CODE (R582). -/
def execDacCode (k : Fin 16) (v : W) (s : State) : Host.Outcome State Fault Refusal := run s (dacWrite · k 1 v)

/-- DAC_RANGE (R583, R584). -/
def execDacRange (k : Fin 16) (v : W) (s : State) : Host.Outcome State Fault Refusal := run s (dacWrite · k 0 v)

/-- DAC_CHANGE_DONE (R584). -/
def execDacChangeDone (k : Fin 16) (s : State) : Host.Outcome State Fault Refusal := run s (dacChangeDone · k)

/-- TEC_STEP (R587–R589). -/
def execTecStep (s : State) : Host.Outcome State Fault Refusal := run s tecStep

/-- TEC_EVT (R589). -/
def execTecEvt (v : W) (s : State) : Host.Outcome State Fault Refusal := run s (tecEvt · v)

end Sys2Proof.Machine
end

