-- ==== Sys2Proof/Machine/Views.lean ====
section
/-! DEFINITION. What a read of a BAR0 address returns, without its side effects (R14): the registers by their access
codes, and the windows that show a memory or a table. -/

namespace Sys2Proof.Machine

/-- A place of a gallery's window beside its registers (R130, R384). -/
def galleryWindow (c : Chip) (g off : Nat) : Option W :=
  if off < 0x2000 then none
  else if off < 0x4000 then some (cellView c (128 * g + (off - 0x2000) / 64) (off % 64 / 4))
  else if off < 0x6000 then some (shapeWord c ((off - 0x4000) / 4 / 32) ((off - 0x4000) / 4 % 32))
  else if off < 0x8000 then none
  else if off < 0xA000 then some (param c (128 * g + (off - 0x8000) / 64) (off % 64 / 4))
  else if off < 0xC000 then some (stagingWord c (128 * g + (off - 0xA000) / 64) (off % 64 / 4))
  else none

/-- A permutation in the layout of R211, as words. -/
def permWord (l : List Nat) (k : Nat) : W := toW (leAt (permBytes l) (4 * k) 4)

/-- The reference arrangement's permutation; unassigned entries where there is none (R289). -/
def refPerm (c : Chip) : List Nat :=
  match c.cur.ref with | some l => permEntries (arrPerm l) | none => List.replicate 512 0x3FF

/-- A place of the Curator's windows (R289). -/
def curWindow (c : Chip) (off : Nat) : Option W :=
  if 0x100 ≤ off && off < 0x140 then
    some (toW (bitMask ((c.cur.persist.filter (fun p => p / 32 == (off - 0x100) / 4)).map (· % 32))))
  else if 0x2000 ≤ off && off < 0x2280 then some (permWord (workPerm c) ((off - 0x2000) / 4))
  else if 0x2400 ≤ off && off < 0x2680 then some (permWord (refPerm c) ((off - 0x2400) / 4))
  else if 0x4000 ≤ off && off < 0x4800 then
    some (mapRead (fun _ => 0) c.cur.frozen (512 * (rn c CUR_DEM_ROW % 512) + (off - 0x4000) / 4))
  else none

/-- A byte of the ledger ring, record by record (R453, R464). -/
def ringWord (c : Chip) (off : Nat) : W :=
  match mapGet c.ldg.ring (off / 32) with
  | some r => toW (leAt (r.bytes c) (off % 32) 4)
  | none => 0

/-- An entry of a port's gate list in force (R458). -/
def gateWindow (c : Chip) (off : Nat) : Option W :=
  let n := off / 0x1000
  let o := off % 0x1000
  if n < 4 && 0x600 ≤ o && o < 0x700 then some (nth 0 (txPort c n).gates.entries ((o - 0x600) / 4)) else none

/-- The JTAG debug master may reach the matrix (R624). -/
def jtagEnabled (c : Chip) : Bool := fldB c TMX_STAT_test_en || fldB c TMX_CTL_debug_en

/-- The debug master has access: enabled, and connected by DEBUG where TEST_EN lets that code act (R623, R624). -/
def jtagOn (c : Chip) : Bool := jtagEnabled c && (c.jtag.ir == 0x20 || !fldB c TMX_STAT_test_en)

/-- Registers whose value the block forms as they are read. -/
def formedReg (c : Chip) (a : Nat) : Option W :=
  if a = TMR_TIME_LO then some (toW ((netTime c).toNat % 2 ^ 32))
  else if a = PRG_NEXT_B then some (nextStepB c)
  else if a = ARS_QUERY_RES then some (arsQuery c)
  else if ARS_TAG 0 ≤ a && a < ARS_TAG 64 then some (arsTag c ((a - ARS_TAG 0) / 4))
  else if a = TWN_LOAN_STAT then some (loanStat c)
  else if a = DOC_DONE0 then some (match c.doc.done with | d :: _ => d.word | [] => 0)
  else if a = DOC_EPOCH_STAT then some (rd (if epochBusy c then c else setFld c DOC_EPOCH_STAT_pending 0) a)
  else if a = AUX_RESQ then some (nth 0 c.aux.queue 0)
  else if a = TMX_STAT then some (rd (setB c TMX_STAT_jtag_active (jtagOn c)) a)
  else match (List.range 4).find? (fun n => a == TMR_P_TXTS_META n || a == SVP_P_RX_OCT_LO n || a == TXS_P_STAT n) with
    | some n =>
      if a = TMR_P_TXTS_META n then some (match nth [] c.tmr.txq n with | e :: _ => txtsWord e | [] => 0)
      else if a = SVP_P_RX_OCT_LO n then some (toW ((port c n).octets.toNat % 2 ^ 32))
      else some (rd (setB c (TXS_P_STAT_acting n) (txActing c n)) a)
    | none =>
      if AUX_DAC_CFG 0 ≤ a && a < AUX_DAC_CFG 16 && a % 16 = 0 then
        let k := (a - AUX_DAC_CFG 0) / 16
        some (rd (setFld c (AUX_DAC_CFG_state k) (dacState c k)) a)
      else none

/-- The windows of the register space that are no registers (R16, R199, R221, R359, R402, R430, R544); none elsewhere. -/
def window (c : Chip) (a : Nat) : Option W :=
  let b := a / 0x100000
  let o := a % 0x100000
  if b = 4 then if 0x10000 ≤ o && o < 0x30000 then some (stepMemWord c o) else none
  else if b = 6 then curWindow c o
  else if b = 7 then if 0x400 ≤ o && o < 0x800 then some (tableEntry c ((o - 0x400) / 4)) else none
  else if b = 8 || b = 9 || (b = 10 && o < 0x40000) then
    galleryWindow c ((a - 0x800000) / 0x10000) ((a - 0x800000) % 0x10000)
  else if b = 10 && o < 0x80000 then some (lawWord c ((o - 0x40000) / 4))
  else if b = 10 then
    if 0x90000 ≤ o && o < 0xB4000 then some (invWord c ((o - 0x90000) / 32) (o % 32 / 4)) else none
  else if b = 12 then
    if 0x10000 ≤ o && o < 0x22000 then some (estView c ((o - 0x10000) / 16) (o % 16 / 4)) else none
  else if b = 14 then
    let gen := activeGen c
    if 0x10000 ≤ o && o < 0x12000 then some (ruleWord c (1 - gen) ((o - 0x10000) / 4))
    else if 0x20000 ≤ o && o < 0x22000 then some (ruleWord c gen ((o - 0x20000) / 4))
    else none
  else if b = 15 then gateWindow c o
  else if b = 19 then if 0x10000 ≤ o && o < 0x50000 then some (ringWord c (o - 0x10000)) else none
  else if b = 21 then
    if 0x80000 ≤ o && o < 0x81000 then some (msixWord c ((o - 0x80000) / 16) (o % 16 / 4))
    else if 0x81000 ≤ o && o < 0x81020 then some (toW (c.pcie.pend.toNat / 2 ^ (8 * (o - 0x81000)) % 2 ^ 32))
    else none
  else if b = 32 && o < 0x20000 then some (csWord c (o / 4))
  else if b = 48 || b = 49 then if a < 0x3200000 then some (cacheWord c (a - 0x3000000)) else none
  else none

/-- The bits of a register row that read back (R13, R14): all but WO and reserved bits. -/
def RegRow.readable (r : RegRow) : Nat := r.rw ||| r.ro ||| r.w1c ||| r.w1s ||| r.rc ||| r.rwl

/-- The value a read of a BAR0 address returns; an address that holds nothing reads zero (R13). -/
def regView (c : Chip) (a : Nat) : W :=
  match formedReg c a with
  | some w => w
  | none =>
    match window c a with
    | some w => w
    | none =>
      match rowOf a with
      | some r => rd c a &&& toW r.readable
      | none => 0

end Sys2Proof.Machine
end

