-- ==== Sys2Proof/Machine/Vitrine.lean ====
section
/-! DEFINITION. Vitrine captures (R484–R489): the triggers of pins and hosts, the capture at V, its copy to a slot and the
export of a slot. -/

namespace Sys2Proof.Machine

/-! ### Triggers (R484) -/

/-- A qualified edge of VITRINE_IN in the present period names V = k + 2 (R484). -/
def vitrineInEdge (c : Chip) : Chip :=
  if fldB c VIT_CTL_in_en then vitTrigger c (period c + 2) 0 0xFFFF else c

/-- A write of VIT_TRIG with go names its E (R484); the register is local to each twin (R497). -/
def vitTrig (c : Chip) (v : W) : Chip :=
  hostWrite c VIT_TRIG (fun c => if wbit v 31 then vitTrigger c (period c + 2) 1 0xFFFF else c)

/-! ### The capture (R485–R488) -/

/-- The registers at the listed addresses, as bytes, filled with zeros to `n` bytes (R487). -/
def regBytes (c : Chip) (n : Nat) (l : List Nat) : List Byte :=
  wordsToBytes (l.map (regView c)) ++ List.replicate (n - 4 * l.length) 0

/-- The places of a register repeated `n` times from an address. -/
def regRun (a n : Nat) : List Nat := (List.range n).map (a + 4 * ·)

/-- Bytes 0x100 to 0x7_0FFF of a capture of the present boundary (R487). -/
def captureBody (c : Chip) : List Byte :=
  (leBytes 8 c.tmr.bndNs.toNat ++ leBytes 4 (period c).toNat ++ regBytes c 52 [TMR_STAT, TMR_INC_NS, TMR_INC_FRAC])
  ++ regBytes c 64 [PRG_STAT, PRG_POS, PRG_NEXT_B, DOC_STEP_ARR, DOC_STEP_STAT0, DOC_STEP_STAT1, ARS_COUNT, DOC_STAT,
      DOC_RUN, DOC_EPOCH_STAT]
  ++ regBytes c 64 [CUR_STAT, CUR_EPOCH_CNT, CUR_EPOCH_STAT, CUR_NEXT_ID, CUR_ROUTE_STAT, CUR_UNROUTE]
  ++ regBytes c 64 [TWN_STAT, TWN_JSEQ, TWN_GRID, TWN_DIV, TWN_JQUEUE]
  ++ regBytes c 0x600 (regRun (ATT_STAT 0) 40 ++ regRun (ATT_LIVE 0) 40 ++ regRun (ATT_INJ_FLAG 0) 40
      ++ regRun (ATT_REAL_FLAG 0) 40 ++ [ATT_SEV_SRC, ATT_SEV_P, ATT_GRAVE, ATT_GRAVE_P, ATT_MERGE_CNT])
  ++ (List.range 36).flatMap (fun g =>
      regBytes c 0x100 (regRun (LPE_SUP_CTL g) 16 ++ regRun (LPE_LAW_STAT g) 5))
  ++ (List.range 144).flatMap (fun t => regBytes c 0x40 (regRun (NGL_L_CTL t) 11))
  ++ (List.range 4608).flatMap (fun i => wordsToBytes ((List.range 16).map (cellView c i)))
  ++ (List.range 4608).flatMap (fun i => wordsToBytes ((List.range 8).map (invWord c i)))

/-- The header of a capture (R488); `seq` counts the captures, this one included. -/
def captureHeader (c : Chip) (x : Capture) (slot : Nat) (complete : Bool) (seq : W) (bodyCrc : Nat) : List Byte :=
  let flags := b2n complete + 2 * b2n (acting c) + 4 * b2n c.glb.straps.twinId
  let h := [0x47, 0x58, 0x56, 0x54] ++ leBytes 2 1 ++ [BitVec.ofNat 8 slot, BitVec.ofNat 8 flags]
    ++ leBytes 2 x.trigger ++ leBytes 2 x.source ++ leBytes 4 x.v.toNat ++ leBytes 8 c.tmr.bndNs.toNat
    ++ leBytes 4 (rn c GLB_TOPO_ID) ++ leBytes 4 0x71000 ++ leBytes 4 seq.toNat ++ leBytes 4 (rn c LDG_SEQ)
    ++ leBytes 4 bodyCrc ++ List.replicate 16 0
  h ++ leBytes 4 (crc32c h) ++ List.replicate 192 0

/-- A capture whole (R487). -/
def captureBytes (c : Chip) (x : Capture) (slot : Nat) (seq : W) : List Byte :=
  let body := captureBody c
  captureHeader c x slot true seq (crc32c body) ++ body

/-- The first slot after the last one whose lock is clear, wrapping (R486); a slot being exported is locked (R489). -/
def freeSlot (c : Chip) : Option Nat :=
  ((List.range 16).map (fun i => (fld c VIT_STAT_last_slot + 1 + i) % 16)).find?
    (fun n => !wbit (rd c VIT_SLOT_LOCK) n
      && (match c.vit.export_ with | some x => x.slot != n | none => true))

/-- The LPDDR6 address of a slot (R486, R495). -/
def vitSlot (c : Chip) (n : Nat) : Nat := bitsAt (rn c VIT_BASE) 0 13 * 2 ^ 23 + n * 0x80000

/-- The slot of a safe-state capture is locked (R481). -/
def lockSafeSlot (c : Chip) (v : W) (n : Nat) : Chip :=
  if c.att.lockV = some v then
    wr { c with att := { c.att with lockV := none } } VIT_SLOT_LOCK (toW (rn c VIT_SLOT_LOCK ||| 2 ^ n))
  else c

/-- A capture whose V is the present boundary is made, or dropped (R485, R486). -/
def takeCapture (c : Chip) (x : Capture) : Chip :=
  if fldB c VIT_STAT_busy then raise (setB c VIT_STAT_overrun true) srcVIT_BUSY 0
  else
    match freeSlot c with
    | none => raise (setB c VIT_STAT_no_slot true) srcVIT_NO_SLOT 0
    | some n =>
      let seq := c.vit.seq + 1
      let bytes := captureBytes c x n seq
      let c := { c with vit := { c.vit with copy := some ⟨n, bytes⟩, seq := seq } }
      let c := setB (setFld (setFld c VIT_STAT_last_slot n) VIT_STAT_captures seq.toNat) VIT_STAT_busy true
      lockSafeSlot (wr c VIT_LAST_V x.v) x.v n

/-- The capture of the present boundary (R485). -/
def vitrineCapture (c : Chip) : Chip :=
  match c.vit.waits.find? (fun x => due c x.v) with
  | none => c
  | some x => takeCapture { c with vit := { c.vit with waits := c.vit.waits.erase x } } x

/-! ### The export (R489) -/

/-- VIT_EXPORT_STAT shows the export that runs (R495). -/
def showExport (c : Chip) : Chip :=
  match c.vit.export_ with
  | some x => wr c VIT_EXPORT_STAT (toW (2 ^ 31 + x.next * 2 ^ 16 + x.slot))
  | none => wr c VIT_EXPORT_STAT (rd c VIT_EXPORT_STAT &&& 0x7FFFFFFF)

/-- The export of a slot starts; one that runs is not disturbed (R489). -/
def startExport (c : Chip) (n : Nat) : Chip :=
  if c.vit.export_.isSome then raise c srcATT_REJECT 0
  else showExport { c with vit := { c.vit with export_ := some ⟨n, 0⟩ } }

/-- A write of VIT_EXPORT with go (R489). -/
def vitExport (c : Chip) (v : W) : Chip :=
  hostWrite c VIT_EXPORT (fun c => if wbit v 31 then startExport c (wbits v 0 4) else c)

/-- The copy to the slot ends (R486). `bad`: it met an uncorrectable memory error; a denied slot fails as well (R539). The
capture of a failed copy has complete = 0. -/
def vitrineCopyDone (c : Chip) (bad : Bool) : Chip :=
  match c.vit.copy with
  | none => c
  | some x =>
    let c := setB { c with vit := { c.vit with copy := none } } VIT_STAT_busy false
    let a := vitSlot c x.slot
    if bad || !ddrMay c 9 true a x.bytes.length then
      let flags := nth 0 x.bytes 7
      let h := putBytes (x.bytes.take 60) 7 [flags &&& 0xFE]
      let c := memWrite c 9 a (h ++ leBytes 4 (crc32c h) ++ x.bytes.drop 64)
      raise (setB c VIT_STAT_copy_err true) srcVIT_COPY_ERR 0
    else
      let c := raise (memWrite c 9 a x.bytes) srcVIT_DONE 0
      if fldB c VIT_CTL_auto_export then startExport c x.slot else c

/-- The frames of a full capture (R489). -/
def exportFrames : Nat := 57

/-- The next frame of the export is queued on the ports of its mask once every port whose link is up has room (R447, R489); for
a port whose link is down it is dropped on arrival (R449). After the last one the export ends. -/
def vitrineExportFrame (c : Chip) : Chip :=
  match c.vit.export_ with
  | none => c
  | some x =>
    let off := 8192 * x.next
    let n := min 8192 (0x71000 - off)
    let takes := fun c p => linkUp c p && txActing c p
    let payload := [BitVec.ofNat 8 x.slot, 0, 0, 0] ++ beBytes 4 off ++ memBytes c 9 (vitSlot c x.slot + off) n
    let seq := kindSeq c 5
    if !acting c || (kindPorts c 5).any (fun p => takes c p && (queueFormed c p 5 false 1 seq payload).isNone) then c
    else
      let c := kindNext (ddrNote c 9 false (vitSlot c x.slot + off) n) 5
      let c := (kindPorts c 5).foldl (fun c p =>
        if takes c p then (queueFormed c p 5 false 1 seq payload).getD c else txDrop c p 1) c
      let last := x.next + 1 == exportFrames
      let c := showExport { c with vit := { c.vit with export_ := some ⟨x.slot, x.next + 1⟩ } }
      if last then showExport { c with vit := { c.vit with export_ := none } } else c

/-! ### The commands -/

/-- VITRINE_IN_EDGE (R484). -/
def execVitrineInEdge (s : State) : Host.Outcome State Fault Refusal := run s vitrineInEdge

/-- VIT_TRIG (R484). -/
def execVitTrig (v : W) (s : State) : Host.Outcome State Fault Refusal := run s (vitTrig · (v ||| 0x80000000))

/-- VITRINE_CAPTURE (R485). -/
def execVitrineCapture (s : State) : Host.Outcome State Fault Refusal := run s vitrineCapture

/-- VITRINE_COPY_DONE (R486). -/
def execVitrineCopyDone (bad : Bool) (s : State) : Host.Outcome State Fault Refusal := run s (vitrineCopyDone · bad)

/-- VIT_EXPORT (R489). -/
def execVitExport (v : W) (s : State) : Host.Outcome State Fault Refusal := run s (vitExport · (v ||| 0x80000000))

/-- VITRINE_EXPORT_FRAME (R489). -/
def execVitrineExportFrame (s : State) : Host.Outcome State Fault Refusal := run s vitrineExportFrame

end Sys2Proof.Machine
end

