-- ==== Sys2Proof/Machine/Restart.lean ====
section
/-! DEFINITION. Resets as they begin, restarts, the watchdog, and the NOR commands of the NVL block (R499–R503, R509, R516,
R518, R519). -/

namespace Sys2Proof.Machine

/-! ### What a reset keeps (R501) -/

/-- Fuses, and the grade they give, stand outside every reset (R3, R15, R504). -/
def fuseReg (a : Nat) : Bool := a == GLB_ID || a == GLB_FUSE

/-- Registers a PIN or FULL reset keeps (R501): the safe state's record, VIT_SLOT_LOCK, SBM; a FULL one the PCIe link too. -/
def keptReg (full : Bool) (a : Nat) : Bool :=
  fuseReg a || a == ATT_GRAVE || a == ATT_GRAVE_P || a == VIT_SLOT_LOCK || a / 0x100000 == 23 || (full && a == XBR_PCIE_STAT)

/-- HEARTBEAT and SAFE_N are high-impedance and ALERT_N is released while a COLD, PIN or FULL reset runs (R478, R480, R503). -/
def resetPins (c : Chip) : Chip := { c with att := { c.att with heartbeat := none, safeN := none, alertLow := false } }

/-- The device in a COLD reset (R501): NOR, MRAM and fuses keep their content. -/
def coldState (c : Chip) : Chip :=
  resetPins { Chip.reset with
    free := c.free, regs := c.regs.filter (fun e => fuseReg e.1), jtag := { c.jtag with seen := false },
    glb := { Glb.reset with nor := c.glb.nor, mram := c.glb.mram, perst := c.glb.perst } }

/-- The device in a PIN or FULL reset (R501); LPDDR6 goes into self-refresh (R502). -/
def warmState (c : Chip) (full : Bool) : Chip :=
  let d : Chip := { Chip.reset with
    free := c.free, regs := c.regs.filter (fun e => keptReg full e.1), jtag := { c.jtag with seen := false }, ddr := c.ddr, smb := c.smb,
    pcie := if full then c.pcie else { Pcie.reset with sent := c.pcie.sent, last := c.pcie.last },
    xbr := { Xbr.reset with selfRefresh := true },
    glb := { Glb.reset with
      nor := c.glb.nor, mram := c.glb.mram, perst := c.glb.perst, sel := c.glb.sel, straps := c.glb.straps } }
  resetPins (if safe c then setB d ATT_CTL_grave true else d)

/-- VDD_AON leaves or enters its range (R500): the device resets fully. -/
def coldReset (s : State) : State := { s with held := some .cold, chip := coldState s.chip }

/-- RESET_N is low (R500); a COLD reset that runs absorbs it. -/
def pinReset (s : State) : State :=
  match s.held with
  | some .cold => s
  | _ => { s with held := some .pin, chip := warmState s.chip false }

/-- The PCIe domain resets (R501, R545): configuration space, MSI-X table and link. -/
def resetPcie (c : Chip) : Chip :=
  wr { c with pcie := { Pcie.reset with sent := c.pcie.sent, last := c.pcie.last } } XBR_PCIE_STAT 0

/-- The link is lost: the PCIe domain resets and PCIE_LINK_DOWN is raised; without a link nothing is lost (R545, R556). -/
def pcieDown (c : Chip) : Chip :=
  if wbit (rd c XBR_PCIE_STAT) 31 then raise (resetPcie c) srcPCIE_LINK_DOWN 0 else resetPcie c

/-- PERST_N is low (R500, R545). -/
def perstReset (held : Bool) (c : Chip) : Chip :=
  let c := if held then resetPcie c else pcieDown c
  { c with glb := { c.glb with perst := true } }

/-! ### Restarts and the watchdog (R516, R519) -/

/-- A write of GLB_RESTART (R516): FULL and FW restarts take effect at P + 2; classes 0 and 3, and a write while one waits,
are refused. -/
def restartWrite (c : Chip) (v : W) : Chip :=
  hostWrite c GLB_RESTART (fun c =>
    if !wbit v 31 then c
    else if c.glb.restart.isSome || wbits v 29 2 = 0 || wbits v 29 2 = 3 then raise c srcGLB_RESTART_REJECT 0
    else { c with glb := { c.glb with restart := some (v, period c + 2), byWatchdog := false } })

/-- A write of GLB_WDT (R519): restart_en and timeout are stored; kick, and a timeout that enables the watchdog, restart the
count. -/
def wdtWrite (c : Chip) (v : W) : Chip :=
  hostWrite c GLB_WDT (fun c =>
    let fresh := wbit v 31 || fld c GLB_WDT_timeout = 0
    let c := wr c GLB_WDT (v &&& 0x4000FFFF)
    if fresh then { c with glb := { c.glb with wdtFrom := c.tmr.ticks } } else c)

/-- A timeout in ms in ticks of the core clock (R61). -/
def wdtTicks (c : Chip) : Nat := fld c GLB_WDT_timeout * 1000000

/-- The watchdog has not been kicked for its timeout (R519): GLB_WDT is raised, and with restart_en = 1 a FW restart is to take
effect at the expiry boundary plus 2. -/
def watchdogExpiry (c : Chip) : Chip :=
  if fld c GLB_WDT_timeout = 0 || c.tmr.ticks < c.glb.wdtFrom + wdtTicks c then c
  else
    let c := raise { c with glb := { c.glb with wdtFrom := c.tmr.ticks } } srcGLB_WDT 0
    if fldB c GLB_WDT_restart_en && c.glb.restart.isNone then
      { c with glb := { c.glb with restart := some (toW (2 ^ 31 + 2 * 2 ^ 29), period c + 2), byWatchdog := true } }
    else c

/-- A write of GLB_SVN_COMMIT fuses min_svn to the svn in force (R509); a fuse never falls. -/
def svnCommit (c : Chip) (v : W) : Chip :=
  hostWrite c GLB_SVN_COMMIT (fun c =>
    if wbit v 31 then wr c GLB_FUSE (putField (rd c GLB_FUSE) 0 16 (max (wbits (rd c GLB_FUSE) 0 16) c.glb.svn)) else c)

/-! ### The NOR (R505, R518) -/

/-- Bytes of the NOR; an erased byte reads 0xFF. -/
def norBytes (c : Chip) (a n : Nat) : List Byte := mapReadRun (fun _ => 0xFF) c.glb.nor a n

/-- Write bytes of the NOR. -/
def norWrite (c : Chip) (a : Nat) (l : List Byte) : Chip :=
  { c with glb := { c.glb with nor := mapWriteRun (fun _ => 0xFF) c.glb.nor a l } }

/-- NOR address of copy A, 0, and copy B, 1 (R505). -/
def copyBase (k : Nat) : Nat := k * 0x4000000

/-- The copy in force and its length by its header (R510); none before commit and in a halt. -/
def copyInForce (c : Chip) : Option (Nat × Nat) :=
  if fld c GLB_BOOT_STAT_state = 1 then
    let b := copyBase (fld c GLB_BOOT_STAT_copy)
    some (b, leNat (norBytes c (b + 16) 4))
  else none

/-- The bytes from `a` on meet the copy in force (R518). -/
def inActiveCopy (c : Chip) (a n : Nat) : Bool :=
  match copyInForce c with
  | some (b, len) => decide (a < b + len) && decide (b < a + n)
  | none => false

/-- An NVL command ends with a status (R518). -/
def nvlEnd (c : Chip) (status : Nat) : Chip := wr { c with glb := { c.glb with nvl := none } } NVL_STAT (toW status)

/-- The NOR address an ERASE of a sector begins at. -/
def sectorOf (a : Nat) : Nat := a / 0x10000 * 0x10000

/-- A write of NVL_CMD (R518); one written while a command runs is ignored. -/
def nvlWrite (c : Chip) (v : W) : Chip :=
  hostWrite c NVL_CMD (fun c =>
    let op := wbits v 28 4
    let n := wbits v 0 9 + 1
    let a := rn c NVL_ADDR
    if c.glb.nvl.isSome then c
    else if op = 0 || 3 < op || (op != 3 && 256 < n) then nvlEnd c 4
    else if (op = 2 && inActiveCopy c a n) || (op = 3 && inActiveCopy c (sectorOf a) 0x10000) then nvlEnd c 2
    else wr { c with glb := { c.glb with nvl := some (v, rd c NVL_ADDR) } } NVL_STAT (toW (2 ^ 31)))

/-- The page buffer as bytes. -/
def pageBytes (c : Chip) : List Byte := wordsToBytes ((List.range 64).map (fun i => rd c (NVL_DATA i)))

/-- Give the page buffer bytes. -/
def setPage (c : Chip) (l : List Byte) : Chip :=
  ((List.range 64).zip (bytesToWords 64 l)).foldl (fun c e => wr c (NVL_DATA e.1) e.2) c

/-- The running NVL command ends (R518); `bad`: the NOR answers an error. -/
def nvlDone (c : Chip) (bad : Bool) : Chip :=
  match c.glb.nvl with
  | none => c
  | some (v, aw) =>
    let a := aw.toNat
    let n := wbits v 0 9 + 1
    if bad then raise (nvlEnd c 3) srcNVL_WRITE_ERR 0
    else if wbits v 28 4 = 1 then nvlEnd (setPage c (putBytes (pageBytes c) 0 (norBytes c a n))) 1
    else if wbits v 28 4 = 2 then nvlEnd (norWrite c a ((pageBytes c).take n)) 1
    else nvlEnd (norWrite c (sectorOf a) (List.replicate 0x10000 0xFF)) 1

/-! ### The commands -/

/-- COLD_RESET (R500). -/
def execColdReset (s : State) : Host.Outcome State Fault Refusal := .next (coldReset s)

/-- PIN_RESET (R500). -/
def execPinReset (s : State) : Host.Outcome State Fault Refusal := .next (pinReset s)

/-- PERST_RESET (R545). -/
def execPerstReset (s : State) : Host.Outcome State Fault Refusal := .next { s with chip := perstReset s.held.isSome s.chip }

/-- A GLB_RESTART word of class `k`. -/
def withRestart (v : W) (k : Nat) : W := putField (v ||| 0x80000000) 29 2 k

/-- FULL_RESTART (R516). -/
def execFullRestart (v : W) (s : State) : Host.Outcome State Fault Refusal := run s (restartWrite · (withRestart v 1))

/-- FW_RESTART (R516). -/
def execFwRestart (v : W) (s : State) : Host.Outcome State Fault Refusal := run s (restartWrite · (withRestart v 2))

/-- WDT_KICK (R519). -/
def execWdtKick (v : W) (s : State) : Host.Outcome State Fault Refusal := run s (wdtWrite · (v ||| 0x80000000))

/-- WATCHDOG_EXPIRY (R519). -/
def execWatchdogExpiry (s : State) : Host.Outcome State Fault Refusal := run s watchdogExpiry

/-- An NVL_CMD word of code `k`. -/
def withNvl (v : W) (k : Nat) : W := putField v 28 4 k

/-- NVL_READ (R518). -/
def execNvlRead (v : W) (s : State) : Host.Outcome State Fault Refusal := run s (nvlWrite · (withNvl v 1))

/-- NVL_PROGRAM (R518). -/
def execNvlProgram (v : W) (s : State) : Host.Outcome State Fault Refusal := run s (nvlWrite · (withNvl v 2))

/-- NVL_ERASE (R518). -/
def execNvlErase (v : W) (s : State) : Host.Outcome State Fault Refusal := run s (nvlWrite · (withNvl v 3))

/-- NVL_DONE (R518). -/
def execNvlDone (bad : Bool) (s : State) : Host.Outcome State Fault Refusal := run s (nvlDone · bad)

/-- SVN_COMMIT (R509). -/
def execSvnCommit (v : W) (s : State) : Host.Outcome State Fault Refusal := run s (svnCommit · (v ||| 0x80000000))

end Sys2Proof.Machine
end

