-- ==== Sys2Proof/Machine/Access.lean ====
section
/-! DEFINITION. Register accesses over the matrix: what a write of any BAR0 address does, and a read with its side effects
(R12–R14, R522–R524, R530); journalled register writes (R344); the Docent's RDB and WRB (R177). -/

namespace Sys2Proof.Machine

/-- A write of the register is a state change now; outside the compatible mode one of TMR_CX_RATE is none (R71, R343). -/
def isChange (c : Chip) (a : Nat) : Bool := changeReg a && (a != TMR_CX_RATE || fldB c TMR_CTL_clk_mode)

/-- A device without the loan refuses the write (R347). -/
def refusesChange (c : Chip) (a : Nat) : Bool := isChange c a && !holdsLoan c

/-! ### Storing by access code (R13, R14) -/

/-- A field held to its bounds. -/
def fieldBound (v : W) (lo width least most : Nat) : W := putField v lo width (clampN least most (wbits v lo width))

/-- The word as the register stores it: values outside a field's range are stored as its table says. -/
def regStored (a : Nat) (v : W) : W :=
  if a = TMR_CTL then (if 1 ≤ wbits v 8 3 && wbits v 8 3 ≤ 4 then v else putField v 8 3 4)
  else if a = TMR_SLEW_LIMIT then toW (min 1000000 v.toNat)
  else if a = INV_CTL then fieldBound v 0 4 1 15
  else if a = DOC_CTL then fieldBound v 16 16 16 65535
  else if a = ARS_CTL then
    let lead := clampN 32 4000 (wbits v 16 12)
    putField (putField v 16 12 lead) 0 16 (max lead (wbits v 0 16))
  else if a = CUR_EPOCH_LEN then toW (clampN 400 400000 v.toNat)
  else if a = CUR_MATCH_CTL then fieldBound v 8 5 1 16
  else if a = NGL_CTL then fieldBound (fieldBound v 16 8 4 255) 0 16 1 65535
  else if a = LDG_CTL then fieldBound v 20 8 1 255
  else if a = ATT_ACK_TMO then toW (clampN 10 1000000 (wbits v 0 20))
  else if (indexIn a (ATT_WIN_LEN 0) 4 4).isSome then toW (clampN 4000 4000000 (wbits v 0 23))
  else if a = DDR_CTL then fieldBound v 16 8 1 255
  else if a = PDM_PMB_CTL then (if wbits v 0 2 = 3 then 1 else v)
  else if (indexIn a (LPE_SUP_CTL 0) 36 0x10000).isSome then fieldBound v 0 8 1 255
  else if (indexIn a (TXS_P_WGT0 0) 4 0x1000).isSome then
    fieldBound (fieldBound (fieldBound (fieldBound v 0 8 1 255) 8 8 1 255) 16 8 1 255) 24 8 1 255
  else if (indexIn a (TXS_P_WGT1 0) 4 0x1000).isSome then fieldBound (fieldBound v 0 8 1 255) 8 8 1 255
  else if (indexIn2 a (TXS_PRING_SIZE 0 0) 4 0x1000 2 0x10).isSome then fieldBound v 0 13 16 4096
  else if (indexIn a (PKT_Q_SLOTS 0) 16 0x20).isSome then toW (clampN 16 65536 (wbits v 0 17))
  else v

/-- The value of a register after a write of `v`: RW bits take it, W1C bits are cleared and W1S bits set by ones (R14). -/
def codeWord (old v : W) (rw w1c w1s : Nat) : W :=
  ((((old &&& ~~~(toW rw)) ||| (v &&& toW rw)) &&& ~~~(v &&& toW w1c)) ||| (v &&& toW w1s))

/-- A write stores what the register's access codes let it (R14); an address without a register ignores it. -/
def storeReg (c : Chip) (a : Nat) (v : W) : Chip :=
  match rowOf a with
  | none => c
  | some r => wr c a (codeWord (rd c a) (regStored a v) (r.rw ||| (if locked c then 0 else r.rwl)) r.w1c r.w1s)

/-! ### Placements in LPDDR6 (R539) -/

/-- Every access of the region is granted to the master: each MiB lies in a partition that grants it (R537). -/
def regionGranted (c : Chip) (m : Nat) (write : Bool) (a n : Nat) : Bool :=
  n = 0 || (decide (a + n ≤ ddrUsable c) && (List.range ((a + n - 1) / 2 ^ 20 - a / 2 ^ 20 + 1)).all (fun i =>
    let p := (a / 2 ^ 20 + i) * 2 ^ 20
    partGrants c m write (max a p) (min (a + n) (p + 2 ^ 20) - max a p)))

/-- A failed placement: DDR_PART_ERR with the offset of the base register (R539). -/
def placementError (c : Chip) (a : Nat) : Chip := raise c srcDDR_PART_ERR (toW a)

/-- A list of disabled rings with or without one of them. -/
def markRing (l : List Nat) (k : Nat) (ok : Bool) : List Nat := l.filter (fun x => x != k) ++ (if ok then [] else [k])

/-- The receive ring of queue `q`: the parser queues may write it, its consumer may read it over BAR2 (R539). -/
def queueRingCheck (c : Chip) (q : Nat) : Chip :=
  let a := wbits (rd c (PKT_Q_BASE q)) 0 24 * 4096
  let n := ringSlots c q * slotSize c q
  let ok := regionGranted c 10 true a n && regionGranted c 1 false a n
  let c := { c with svp := { c.svp with ringOff := markRing c.svp.ringOff q ok } }
  if ok then c else placementError c (PKT_Q_BASE q)

/-- The descriptor ring `r` of port `n`: egress may read it (R539). -/
def descRingCheck (c : Chip) (n r : Nat) : Chip :=
  let ok := regionGranted c 11 false (rn c (TXS_PRING_BASE n r) * 4096) (16 * descSize c n r)
  let c := { c with txs := { c.txs with ringOff := markRing c.txs.ringOff (2 * n + r) ok } }
  if ok then c else placementError c (TXS_PRING_BASE n r)

/-- A write of a share of a port's buffer; one that would make the shares exceed 256 KiB, as last written, is refused (R436). -/
def shareWrite (c : Chip) (n q : Nat) (v : W) : Chip :=
  hostChangeIf c (TXS_PQ_SHARE n q) v
    (fun c =>
      let sum := ((List.range 8).map (fun i => wbits (if i = q then v else written c (TXS_PQ_SHARE n i)) 0 9)).sum
      if !fromJournal c && decide (256 < sum) then some (raise c srcTXS_DESC_ERR 0) else none)
    (fun c e => if c.twn.paired && !c.twn.applying then defer c e (TXS_PQ_SHARE n q) v else storeReg c (TXS_PQ_SHARE n q) v)

/-! ### A register write at its effective period -/

/-- A write of the gallery's registers at its E (R149, R384). -/
def galleryEffect (c : Chip) (a : Nat) (v : W) : Chip :=
  match stagingOf a with
  | some (g, w) => stagingStore c g w v
  | none =>
    match indexIn2 a (LPE_TRIM 0 0) 36 0x10000 128 4 with
    | some (g, j) => trimEffect c g j v
    | none => storeReg c a v

/-- A write of the parser's registers at its E (R422–R425, R539). -/
def parserEffect (c : Chip) (a : Nat) (v : W) : Chip :=
  if PKT_SHADOW ≤ a && a < PKT_SHADOW + 0x2000 then shadowEffect c (a - PKT_SHADOW) v
  else
    match indexIn a (PKT_POL_RATE 0) 32 4 with
    | some i => policerEffect c (i / 2) (i % 2 == 1) v
    | none =>
      match indexIn a (PKT_Q_BASE 0) 16 0x20 with
      | some q => queueRingCheck (storeReg c a v) q
      | none => storeReg c a v

/-- A write of the egress registers at its E (R443, R539). -/
def egressEffect (c : Chip) (a : Nat) (v : W) : Chip :=
  match indexIn a (TXS_P_GCL_CTL 0) 4 0x1000 with
  | some n => gclEffect c n v
  | none =>
    match indexIn2 a (TXS_PRING_BASE 0 0) 4 0x1000 2 0x10 with
    | some (n, r) => descRingCheck (storeReg c a v) n r
    | none => storeReg c a v

/-- A write of the Docent's registers and dispatch table at its E (R181, R199). -/
def docentEffect (c : Chip) (a : Nat) (v : W) : Chip :=
  if a = DOC_CUST_CTL then custStore c v
  else if 0x700400 ≤ a && a < 0x700800 then tableStore c ((a - 0x700400) / 4) v
  else storeReg c a v

/-- A write of the Conservator's registers at its E (R381, R389, R400). -/
def conservatorEffect (c : Chip) (a : Nat) (v : W) : Chip :=
  if a = CNS_CTL then cnsCtlStore c v
  else if a = CNS_AMP_CTL then cnsAmpStore c v
  else match indexIn a (CNS_CHAR_RES_B 0) 16 8 with
    | some i => if wbit v 31 then charRelease c i else c
    | none => storeReg c a v

/-- A register write takes effect (R145, R343). -/
def applyEffect (c : Chip) (a : Nat) (v : W) : Chip :=
  let b := a / 0x100000
  if b = 4 then
    if a = PRG_CMD then prgEffect c v
    else if (slotOffset (a % 0x100000)).isSome then slotStore c (a % 0x100000) v
    else storeReg c a v
  else if b = 7 then docentEffect c a v
  else if b = 12 then conservatorEffect c a v
  else if b = 14 then parserEffect c a v
  else if b = 15 then egressEffect c a v
  else if b = 32 then csStore c (a % 0x100000) v
  else if (galleryPlace a).isSome then galleryEffect c a v
  else if a = TMR_CTL then ppsOutHold (storeReg c a v)
  else if a = CUR_CTL then curCtlEffect c v
  else if a = TWN_CS_CTL then csSwapEffect c
  else if a = TWN_LOAN_CTL then setFld c TWN_LOAN_CTL_lease (wbits v 0 7)
  else if a = PDM_ASM_CTL then asmEffect c v
  else if (indexIn a (SVP_P_CTL 0) 4 0x1000).isSome then portCtlEffect c ((a - SVP_P_CTL 0) / 0x1000) v false
  else match dacWord a with
    | some (k, w) => dacEffect c k w v
    | none => storeReg c a v

/-- A waiting write of SVP_Pn_CTL that restarts the port belongs to PORT_RESTART, and so does one after it (R407). -/
def restartsPort (c : Chip) (d : Deferred) : Bool :=
  (indexIn d.addr (SVP_P_CTL 0) 4 0x1000).isSome
    && (wbits d.value 26 6 != wbits (rd c d.addr) 26 6
      || c.deferred.find? (fun x => x.addr == d.addr && due c x.e) != some d)

/-- One waiting write takes effect if its E has come. -/
def applyOne (c : Chip) (d : Deferred) : Chip :=
  if due c d.e && !restartsPort c d then applyEffect { c with deferred := c.deferred.erase d } d.addr d.value else c

/-- The waiting register writes whose E has come take effect, in order. -/
def applyDue (c : Chip) : Chip := c.deferred.foldl applyOne c

/-! ### A register write -/

/-- A write of a register that no rule gives more than its access code (R14), a state change or a local one. -/
def plainWrite (c : Chip) (a : Nat) (v : W) : Chip :=
  if changeReg a then hostChangeNow c a v (fun c => applyEffect c a v) else hostWrite c a (fun c => applyEffect c a v)

/-- A write of the MSI-X table (R544). -/
def msixWrite (c : Chip) (i : Nat) (v : W) : Chip :=
  let v := if i % 4 = 3 then v &&& 1 else v
  { c with pcie := { c.pcie with table := mapWrite (fun i => if i % 4 = 3 then 1 else 0) c.pcie.table i v } }

/-- A write of a gallery's registers and windows. -/
def galleryWrite (c : Chip) (a g o : Nat) (v : W) : Chip :=
  if o = 0x10 then cellCmdWrite c g v
  else if 0x100 ≤ o && o < 0x300 then trimWrite c g ((o - 0x100) / 4) v
  else if 0xA000 ≤ o && o < 0xC000 then stagingWrite c g ((o - 0xA000) / 4) v
  else plainWrite c a v

/-- A write of the time and power blocks. -/
def writeSystem (c : Chip) (a : Nat) (v : W) : Chip :=
  if a = GLB_RESTART then restartWrite c v
  else if a = GLB_WDT then wdtWrite c v
  else if a = GLB_SVN_COMMIT then svnCommit c v
  else if a = NVL_CMD then nvlWrite c v
  else if a = PDM_ASM_CTL then asmWrite c v
  else if a = PDM_PMB_XFER then pmbXfer c v
  else if a = TMR_INC_NS then incStage c v
  else if a = TMR_INC_FRAC then incCommit c v
  else if a = TMR_ADJ_CTL then adjWrite c v
  else if a = TMR_CX_RATE then cxRateWrite c v
  else match indexIn a (PDM_DOM 0) 56 4 with
    | some d => domainWrite c d v
    | none => plainWrite c a v

/-- A write of the arrangement and transition blocks. -/
def writeControl (c : Chip) (a : Nat) (v : W) : Chip :=
  if a = PRG_CMD then prgWrite c v
  else if a / 0x100000 = 4 && (slotOffset (a % 0x100000)).isSome then slotWrite c (a % 0x100000) v
  else if a = ARS_CMD then arsWrite c v
  else if a = CUR_CTL then curCtlWrite c v
  else if a = CUR_CMD 3 then curCmdWrite c v
  else if a = DOC_CMD 3 then docCmdWrite c v
  else if a = DOC_ABORT then docAbortWrite c v
  else if a = DOC_URG then docUrgWrite c v
  else if a = DOC_EPOCH_REQ then epochWrite c v
  else if a = DOC_CUST_CTL then custWrite c v
  else plainWrite c a v

/-- A write of the loop, link and Conservator blocks. -/
def writeLoops (c : Chip) (a : Nat) (v : W) : Chip :=
  match galleryPlace a with
  | some (g, o) => galleryWrite c a g o v
  | none =>
    if 0xA40000 ≤ a && a < 0xA80000 then lawWindowWrite c (a - 0xA40000) v
    else if a = INV_CMD then invWrite c v
    else if a = NGL_SVC_CMD then svcWrite c v
    else if a = CNS_COMMIT then cnsCommitWrite c v
    else match indexIn a (NGL_L_CTL 0) 144 0x1000 with
      | some t => linkWrite c t v
      | none =>
        match indexIn a (CNS_CHAR_RES_B 0) 16 8 with
        | some i => charReleaseWrite c i v
        | none => plainWrite c a v

/-- A write of the port, parser and egress blocks. -/
def writePorts (c : Chip) (a : Nat) (v : W) : Chip :=
  if a = PKT_GEN then pktGenWrite c v
  else if PKT_SHADOW ≤ a && a < PKT_SHADOW + 0x2000 then shadowWrite c (a - PKT_SHADOW) v
  else match indexIn a (SVP_P_CTL 0) 4 0x1000 with
    | some n => portCtlWrite c n v
    | none =>
    match indexIn a (PKT_POL_RATE 0) 32 4 with
    | some i => policerWrite c (i / 2) (i % 2 == 1) v
    | none =>
    match indexIn a (PKT_Q_CTL 0) 16 0x20 with
    | some q => queueShareWrite c q v
    | none =>
    match indexIn a (PKT_Q_CONS 0) 16 0x20 with
    | some q => consWrite c q v
    | none =>
    match indexIn a (TXS_P_GCL_CTL 0) 4 0x1000 with
    | some n => gclWrite c n v
    | none =>
    match indexIn2 a (TXS_PRING_PROD 0 0) 4 0x1000 2 0x10 with
    | some (n, r) => ringProdWrite c n r v
    | none =>
    match indexIn2 a (TXS_PQ_SHARE 0 0) 4 0x1000 8 0x20 with
    | some (n, q) => shareWrite c n q v
    | none => plainWrite c a v

/-- A write of TMX_CTL (R624): a debug master no longer enabled makes a first access when it is enabled again. -/
def tmxCtlWrite (c : Chip) (v : W) : Chip :=
  let c := plainWrite c TMX_CTL v
  { c with jtag := { c.jtag with seen := c.jtag.seen && jtagEnabled c } }

/-- Clear the bits of a register that a mask names. -/
def clearBits (c : Chip) (a : Nat) (m : W) : Chip := wr c a (rd c a &&& ~~~m)

/-- A write of ATT_STATw: a one clears a sticky bit and that source's INJ and REAL bits (R467). -/
def stickyWrite (c : Chip) (w : Nat) (v : W) : Chip :=
  hostWrite c (ATT_STAT w) (fun c =>
    clearBits (clearBits (clearBits c (ATT_STAT w) v) (ATT_INJ_FLAG w) v) (ATT_REAL_FLAG w) v)

/-- A write of the configuration word of source `s`; that of a reserved source is ignored (R466, R494). -/
def srcWrite (c : Chip) (s : Nat) (v : W) : Chip := if srcReserved s then c else plainWrite c (ATT_SRC s) v

/-- A write of the twin, Attendant, vitrine, ledger, auxiliary, interconnect and test blocks. -/
def writeSupport (c : Chip) (a : Nat) (v : W) : Chip :=
  if a = TWN_CTL then twnCtlWrite c v
  else if a = TMX_CTL then tmxCtlWrite c v
  else if a = TWN_LOAN_CTL then loanCtlWrite c v
  else if a = TWN_CS_CTL then csCtlWrite c v
  else if a = TWN_FW_CTL then fwCtlWrite c v
  else if a = ATT_SEV_ACK then sevAckWrite c v
  else if a = ATT_INJ then injectionWrite c v
  else if a = VIT_TRIG then vitTrig c v
  else if a = VIT_EXPORT then vitExport c v
  else if a = LDG_VAULT_CTL then vaultRelease c v
  else if a = LDG_FW_SUBMIT then fwRecordSubmit c v
  else if a = AUX_CTL then auxCtlWrite c v
  else if a = AUX_URG then urgentWrite c v
  else if a = AUX_TEC_EVT then tecEvt c v
  else if 0x1580000 ≤ a && a < 0x1581000 then hostWrite c a (fun c => msixWrite c ((a - 0x1580000) / 4) v)
  else match indexIn a (ATT_STAT 0) 40 4 with
    | some w => stickyWrite c w v
    | none =>
    match indexIn a (ATT_SRC 0) 1280 4 with
    | some s => srcWrite c s v
    | none =>
    match indexIn a (AUX_SEQ_CTL 0) 4 0x20 with
    | some n => seqCtlWrite c n v
    | none =>
      match dacWord a with
      | some (k, w) => dacWrite c k w v
      | none => plainWrite c a v

/-- A write of the register at a BAR0 address: every register by its own rule, or by its access codes (R14). -/
def writeReg (c : Chip) (a : Nat) (v : W) : Chip :=
  let b := a / 0x100000
  if b < 4 then writeSystem c a v
  else if b < 8 then writeControl c a v
  else if b < 13 then writeLoops c a v
  else if b < 16 then writePorts c a v
  else if b < 25 then writeSupport c a v
  else if b = 32 then csWrite c (a % 0x100000) v
  else c

/-! ### Accesses by a master (R12, R522–R524, R530) -/

/-- The masters that reach register space (R523). -/
def regMaster (m : Nat) : Bool := [0, 1, 2, 3, 4, 7, 12, 13].contains m

/-- The source of the state changes a master makes (R344). -/
def masterSource (m : Nat) : Nat := if m = 0 then 2 else if m = 2 then 1 else if m = 7 then 4 else 0

/-- An access refused under R12: its record and XBR_ACCESS with the master and the offset (R552, R556); one that is not
aligned ends with DECERR besides. -/
def accessError (c : Chip) (m : Nat) (write : Bool) (a : Nat) (decerr : Bool) : Chip :=
  let c := matrixError c 5 m (busTarget a) write (regAddress a) 0
  let c := if decerr then countUp (wr c XBR_STAT (rd c XBR_STAT ||| 0x80000000)) XBR_ERR_CNT 1 else c
  raise c srcXBR_ACCESS (toW (m * 2 ^ 26 + a % 2 ^ 26))

/-- An access ends with a response: 0 OK, 1 DECERR, 2 SLVERR (R530). -/
def respond (c : Chip) (r : Nat) : Chip := { c with readResp := r }

/-- A read ends with zero data and an error response (R530). -/
def respondZero (c : Chip) (r : Nat) : Chip := { c with readData := 0, readResp := r }

/-- No target serves the master's access of the address (R522, R524). -/
def noTarget (m a : Nat) : Bool := !regMaster m || busTarget a = 15

/-- A write at a matrix address that waits for its E, P + 2, as one of the Docent's WRB or the debug master does (R177,
R624). -/
def lateWrite (c : Chip) (m a : Nat) (v : W) : Chip :=
  { c with xbr := { c.xbr with late := c.xbr.late ++ [(period c + 2, (m, (a, v)))] } }

/-- A late write at a matrix address acts (R522): LPDDR6, register space, the working SRAM. -/
def lateEffect (c : Chip) (a : Nat) (v : W) : Chip :=
  let off := a % 2 ^ 36
  if a / 2 ^ 36 = 0 then ddrWrite c off (leBytes 4 v.toNat)
  else if a / 2 ^ 36 = 1 then applyDue (writeReg c off v)
  else { c with glb := { c.glb with sram := mapWriteRun (fun _ => 0) c.glb.sram (off % 0x200000) (leBytes 4 v.toNat) } }

/-- One late write takes effect if its E has come; it is not journalled (R177). -/
def applyLate (c : Chip) (x : W × (Nat × (Nat × W))) : Chip :=
  if !due c x.1 then c
  else
    let d := { c with xbr := { c.xbr with late := c.xbr.late.erase x }, twn := { c.twn with applying := true, late := true } }
    let d := lateEffect d x.2.2.1 x.2.2.2
    { d with twn := { d.twn with applying := c.twn.applying, late := c.twn.late } }

/-- The late writes whose E has come take effect, in order. -/
def applyLates (c : Chip) : Chip := c.xbr.late.foldl applyLate c

/-- Master `m` writes register space: the checks of R12, R508, R524 and R559, then the write. `be`: the byte enables. -/
def masterWrite (c : Chip) (m a : Nat) (be : BitVec 4) (v : W) : Chip :=
  if a % 4 != 0 then respond (accessError c m true a true) 1
  else if be != 15 then respond (accessError c m true a false) 0
  else if bootHalted c && !reachable c a then respond c 0
  else if noTarget m a then respond (matrixError c 1 m (busTarget a) true (regAddress a) 0) 1
  else if !reachable c a then respond (targetOff c m true a) 2
  else if busTarget a = 9 then respond (matrixError c 1 m 9 true (regAddress a) 0) 1
  else if m = 4 || m = 13 then respond (lateWrite c m (regAddress a) v) 0
  else respond (withSource c (masterSource m) (fun c => writeReg c a v)) 0

/-- Reads by PCIe, SMBus and the management cores clear; the others leave RC registers unchanged (R14). -/
def clearingMaster (m : Nat) : Bool := decide (m < 3)

/-- A clearing read of a register, with what its rule gives it besides (R14, R77, R204, R287, R427, R576). -/
def clearingRead (c : Chip) (a : Nat) : Chip :=
  if a = CUR_DONE0 then curDonePop c
  else if a = DOC_DONE0 then docDonePop c
  else if a = AUX_RESQ then resultPop c
  else match indexIn a (TMR_P_TXTS_META 0) 4 0x20 with
    | some p => txtsPop c p
    | none =>
      match indexIn a (SVP_P_RX_OCT_LO 0) 4 0x1000 with
      | some n => octetRead c n
      | none =>
        let d := answer c (regView c a)
        match rowOf a with
        | some r => wr d a (rd c a &&& ~~~(toW r.rc))
        | none => d

/-- A read of a reachable register by master `m`; a read of TMR_TIME_LO or TMR_PPS_IN_LO latches whoever makes it (R76). -/
def readBy (c : Chip) (m a : Nat) : Chip :=
  if a = TMR_TIME_LO then timeReadLatch c
  else if a = TMR_PPS_IN_LO then ppsInRead c
  else if clearingMaster m then clearingRead c a
  else answer c (regView c a)

/-- Master `m` reads register space: the checks of R12, R508, R524 and R559, then the read. -/
def masterRead (c : Chip) (m a : Nat) : Chip :=
  if a % 4 != 0 then respondZero (accessError c m false a true) 1
  else if bootHalted c && !reachable c a then answer c (toW (2 ^ 32 - 1))
  else if noTarget m a then respondZero (matrixError c 1 m (busTarget a) false (regAddress a) 0) 1
  else if !reachable c a then respondZero (targetOff c m false a) 2
  else readBy c m a

/-! ### Journalled register writes (R343, R344) -/

/-- A journalled register write acts at its E as if made by its source; writes of one boundary act in sequence order. -/
def regIn (c : Chip) : Chip :=
  match takeRecord c (fun p => match p with | .reg _ _ => true | _ => false) with
  | some (r, c) =>
    match r.payload with
    | .reg a v => linkEffects (applyDue (asRecord c r (fun c => writeReg c a v)))
    | _ => c
  | none => c

/-! ### RDB and WRB (R177) -/

/-- RDB reaches the LPE, INV, ARS, PRG, CNS and DOC blocks. -/
def rdbBlock (a : Nat) : Bool :=
  let b := a / 0x100000
  b == 4 || b == 5 || b == 7 || b == 12 || (decide (8 ≤ b) && decide (b ≤ 10))

/-- WRB reaches the LPE, INV and DOC blocks. -/
def wrbBlock (a : Nat) : Bool :=
  let b := a / 0x100000
  b == 7 || (decide (8 ≤ b) && decide (b ≤ 10))

/-- The address of an RDB or WRB: imm + a[sa]. -/
def microAddress (r : Routine) : Nat := (toW (mwImm r.word) + reg r (mwSa r.word)).toNat

/-- RDB (R177); `late`: no response has come by the last cycle. -/
def opRdb (late : Bool) (c : Chip) (r : Routine) : Chip × Routine :=
  let a := microAddress r
  if !rdbBlock a then (c, { r with badAccess := true })
  else
    let d := masterRead c 4 a
    let kept := { d with readData := c.readData, readResp := c.readResp }
    if late || d.readResp != 0 then (kept, { r with badAccess := true }) else (kept, { r with readValue := d.readData })

/-- WRB (R177): the write takes effect at P + 2 in both twins and is not journalled. -/
def opWrb (late : Bool) (c : Chip) (r : Routine) : Chip × Routine :=
  let a := microAddress r
  if !wrbBlock a then (c, { r with badAccess := true })
  else
    let d := masterWrite c 4 a 15 (reg r (mwSb r.word))
    ({ d with readData := c.readData, readResp := c.readResp },
      if late || d.readResp != 0 then { r with badAccess := true } else r)

/-! ### The commands -/

/-- REGISTER_WRITE (R12–R14): the master, the BAR0 offset, the byte enables, the value. -/
def execRegisterWrite (m : Fin 14) (addr : BitVec 26) (be : BitVec 4) (v : W) (s : State) :
    Host.Outcome State Fault Refusal := run s (masterWrite · m addr.toNat be v)

/-- CLEAR_ON_READ (R14): a read of a register by a master. -/
def execClearOnRead (m : Fin 14) (addr : BitVec 26) (s : State) : Host.Outcome State Fault Refusal :=
  run s (masterRead · m addr.toNat)

/-- REG (R344). -/
def execReg (s : State) : Host.Outcome State Fault Refusal := run s regIn

/-- RDB (R177). -/
def execRdb (late : Bool) (s : State) : Host.Outcome State Fault Refusal := run s (opRow · 0x04 (opRdb late))

/-- WRB (R177). -/
def execWrb (late : Bool) (s : State) : Host.Outcome State Fault Refusal := run s (opRow · 0x05 (opWrb late))

end Sys2Proof.Machine
end

