-- ==== Sys2Proof/Machine/Image.lean ====
section
/-! DEFINITION. The image: header, directory and sections of a copy in the NOR, and every check of the load (R44, R116, R181,
R506–R512). -/

namespace Sys2Proof.Machine

/-! ### Header and directory (R510) -/

/-- The bytes are all zero. -/
def zeros (l : List Byte) : Bool := l.all (fun b => b == 0)

/-- A section of the directory. -/
structure Section where
  typ : Nat
  idx : Nat
  off : Nat
  len : Nat
  crc : Nat
  deriving DecidableEq, Repr

/-- The header of copy `k`. -/
def copyHeader (c : Chip) (k : Nat) : List Byte := norBytes c (copyBase k) 64

/-- Codes 0x01–0x03 and 0x0E of a header (R506); 0 if it passes them. -/
def headerCode (c : Chip) (answers : Bool) (h : List Byte) : Nat :=
  if !answers then 0x0E
  else if leAt h 0 4 != 0x4D495847 || leAt h 4 2 != 1 || leAt h 22 2 != 0 || !zeros (bytesAt h 28 32) then 0x01
  else if leAt h 60 4 != crc32c (h.take 60) then 0x02
  else if leAt h 6 2 != fld c GLB_ID_part_number || leAt h 8 1 != rn c GLB_ID % 256 then 0x03
  else 0

/-- The directory of copy `k` as its entries' bytes. -/
def dirBytes (c : Chip) (k : Nat) : List (List Byte) :=
  (List.range (leAt (copyHeader c k) 20 2)).map (fun i => norBytes c (copyBase k + 64 + 16 * i) 16)

/-- A directory entry as a section. -/
def sectionOf (e : List Byte) : Section := ⟨leAt e 0 1, leAt e 1 1, leAt e 4 4, leAt e 8 4, leAt e 12 4⟩

/-- The sections of copy `k`. -/
def sections (c : Chip) (k : Nat) : List Section := (dirBytes c k).map sectionOf

/-- The sections of a type, by rising index. -/
def ofType (l : List Section) (t : Nat) : List Section := l.filter (fun s => s.typ == t)

/-- The bytes of a section of copy `k`. -/
def sectionBytes (c : Chip) (k : Nat) (s : Section) : List Byte := norBytes c (copyBase k + s.off) s.len

/-- A section's check word is right. -/
def sectionOk (c : Chip) (k : Nat) (s : Section) : Bool := crc32c (sectionBytes c k s) == s.crc

/-- Two sections share a byte. -/
def overlaps (a b : Section) : Bool := decide (a.off < b.off + b.len) && decide (b.off < a.off + a.len)

/-- Some pair of the sections overlaps. -/
def anyOverlap : List Section → Bool
  | [] => false
  | s :: t => t.any (overlaps s) || anyOverlap t

/-- The length a required section of fixed size must have (R509, R510, R512); none where it varies. -/
def fixedLength (t : Nat) : Option Nat :=
  if t = 1 then some 256 else if t = 3 then some 0x21000 else if t = 4 then some 0x48000 else if t = 5 then some 0x18300
  else if t = 0x0F then some 196 else none

/-- The length of a required section is possible. -/
def lengthOk (s : Section) : Bool :=
  match fixedLength s.typ with
  | some n => s.len == n
  | none =>
    if s.typ = 7 then decide (s.len ≤ 0x200000)
    else if s.typ = 8 then s.len % 8 == 0 && decide (s.len ≤ 32768)
    else true

/-- The section types of R510. -/
def listedTypes : List Nat := [1, 2, 3, 4, 5, 6, 7, 8, 9, 10, 15]

/-- The counts of the sections by type (R510). -/
def countsOk (l : List Section) : Bool :=
  let n := fun t => (ofType l t).length
  [1, 2, 3, 4, 5, 7, 15].all (fun t => n t == 1) && decide (n 6 ≤ 1) && decide (1 ≤ n 8) && decide (n 8 ≤ 8)
    && (ofType l 8).all (fun s => decide (s.idx < 8)) && decide (((ofType l 8).map (·.idx)).Nodup)
    && decide (n 9 ≤ 16) && decide (n 10 ≤ 16)

/-- Check 0x04 of a copy (R506, R510). -/
def dirOk (c : Chip) (k : Nat) : Bool :=
  let h := copyHeader c k
  let n := leAt h 20 2
  let len := leAt h 16 4
  let l := sections c k
  decide (8 ≤ n) && decide (n ≤ 64) && decide (len ≤ 0x4000000)
    && (dirBytes c k).all (fun e => leAt e 2 2 == 0)
    && l.all (fun s => listedTypes.contains s.typ && decide (0x1000 ≤ s.off) && decide (s.off + s.len ≤ len) && lengthOk s)
    && !anyOverlap l && countsOk l && (match l.getLast? with | some s => s.typ == 15 | none => false)

/-! ### Profiles (R512) -/

/-- Profile record `p` of the section. -/
def profileRec (l : List Byte) (p : Nat) : List Byte := bytesAt l (64 * p) 64

/-- The mode of port `n` in a profile record. -/
def profileMode (r : List Byte) (n : Nat) : Nat := bitsAt (leAt r 4 2) (4 * n) 3

/-- A profile record passes R512; `inits`: the REGINIT indexes present. -/
def profileOk (inits : List Nat) (r : List Byte) : Bool :=
  bitsAt (leAt r 0 1) 7 1 == 1 && leAt r 60 4 == crc32c (r.take 60)
    && bitsAt (leAt r 1 1) 2 6 == 0 && bitsAt (leAt r 2 1) 1 7 == 0 && leAt r 13 3 == 0 && zeros (bytesAt r 20 40)
    && inits.contains (leAt r 3 1) && (List.range 4).all (fun n => decide (profileMode r n ≤ 4))

/-! ### The topology descriptor (R40–R44) -/

/-- The first failing check at the lowest offset of a list of checks: each its offset, and whether it fails. -/
def firstFail (l : List (Nat × Bool)) : Option Nat := (l.filter (fun e => e.2)).map (·.1) |>.min?

/-- Check 1 of R44: the header fields in the order of their offsets; the offset that fails. -/
def topoHeader (l : List Byte) : Option Nat :=
  if l.length < 64 then some l.length
  else
    let sc := leAt l 12 1
    let fam := leAt l 13 1
    let pl := leAt l 14 1
    let cps := leAt l 16 2
    let cc := leAt l 22 2
    firstFail [(0, leAt l 0 4 != 0x44545847), (4, leAt l 4 2 != 1), (6, leAt l 6 2 != 64),
      (8, leAt l 8 4 == 0 || leAt l 8 4 == 0xFFFFFFFF), (12, decide (sc < 3) || decide (18 < sc)), (13, decide (3 < fam)),
      (14, if fam < 2 then pl != 1 else decide (pl < 2) || decide (4 < pl)), (16, decide (cps < 2) || decide (256 < cps)),
      (18, leAt l 18 2 != 2 * cps), (20, leAt l 20 2 != leAt l 18 2), (22, cc != sc * cps || decide (4608 < cc)),
      (44, leAt l 44 4 != 64), (48, leAt l 48 4 != 64 + 4 * cc), (52, leAt l 52 4 != 64 + 20 * cc || leAt l 52 4 != l.length)]

/-- Check 2 of R44. A quotient ports_in / plane_count that is no 2^n with n in 2–9 is recorded at offset 18, ports_in: DESIGN CHOICE,
R44 names no field for it (log entry 110). -/
def topoShape (l : List Byte) : Option Nat :=
  let ports := leAt l 18 2
  let pl := leAt l 14 1
  let np := ports / pl
  let n := np.log2
  if ports % pl != 0 || np != 2 ^ n || n < 2 || 9 < n then some 18
  else if leAt l 12 1 != (if leAt l 13 1 % 2 = 1 then 2 * n else 2 * n - 1) then some 12
  else none

/-- Entry `i` of the map table (R42). -/
def topoMap (l : List Byte) (i : Nat) : Nat := leAt l (64 + 4 * i) 4

/-- The physical cells of the map table, in its order. -/
def topoPhys (l : List Byte) : List Nat := (List.range (leAt l 22 2)).map (fun i => bitsAt (topoMap l i) 0 13)

/-- The first place in a list that repeats an earlier one. Check 3 of R44 records it: of two map entries with one phys_cell the later
one is the failing field, DESIGN CHOICE (log entry 110). -/
def firstRepeat : List Nat → Nat → List Nat → Option Nat
  | _, _, [] => none
  | seen, i, x :: t => if seen.contains x then some i else firstRepeat (x :: seen) (i + 1) t

/-- Check 4 of R44: the tile mask and the mapped tiles agree. A phys_cell of 4,608 or above, whose tile no mask bit can name, fails
here at its map entry: DESIGN CHOICE, no check of R44 names the range (log entry 110). -/
def topoMask (l : List Byte) : Option Nat :=
  let phys := topoPhys l
  let mask := setBits (leAt l 24 18) 144
  if (List.range 144).any (fun t => mask.contains t != phys.any (fun p => p / 32 == t)) then some 24
  else (phys.findIdx? (fun p => decide (4608 ≤ p))).map (fun i => 64 + 4 * i)

/-- Check 5 of R44 in the neighbour entry of logical cell `i`. Of a neighbour listed twice the later slot fails, and an nb_count above 6
is recorded at offset 12 only after its six slots have been judged as filled: DESIGN CHOICE (log entry 110). -/
def topoEntry (phys : List Nat) (l : List Byte) (i : Nat) : Option Nat :=
  let o := 64 + 4 * phys.length + 16 * i
  let n := leAt l (o + 12) 1
  let slots := (List.range 6).map (fun k => leAt l (o + 2 * k) 2)
  let bad := fun k =>
    let x := nth 0 slots k
    if k < n then x == nth 0 phys i || !phys.contains x || (slots.take k).contains x else x != 0xFFFF
  match (List.range 6).find? bad with
  | some k => some (o + 2 * k)
  | none => if 6 < n then some (o + 12) else none

/-- Check 5 of R44. -/
def topoNeighbours (l : List Byte) : Option Nat :=
  let phys := topoPhys l
  (List.range phys.length).findSome? (topoEntry phys l)

/-- Check 6 of R44: the reserved fields. Reserved bits of a map entry, a field within its word, are recorded at the word's first byte:
DESIGN CHOICE (log entry 110). -/
def topoReserved (l : List Byte) : Option Nat :=
  let cc := leAt l 22 2
  firstFail ([(15, leAt l 15 1 != 0), (42, leAt l 42 2 != 0), (56, leAt l 56 8 != 0)]
    ++ (List.range cc).map (fun i => (64 + 4 * i, bitsAt (topoMap l i) 23 9 != 0 || bitsAt (topoMap l i) 13 3 != 0))
    ++ (List.range cc).map (fun i => (64 + 4 * cc + 16 * i + 13, leAt l (64 + 4 * cc + 16 * i + 13) 3 != 0)))

/-- The first failing check of R44 and the offset at which it fails. -/
def topoCheck (l : List Byte) : Option (Nat × Nat) :=
  match topoHeader l with
  | some o => some (1, o)
  | none => match topoShape l with
  | some o => some (2, o)
  | none => match firstRepeat [] 0 (topoPhys l) with
  | some i => some (3, 64 + 4 * i)
  | none => match topoMask l with
  | some o => some (4, o)
  | none => match topoNeighbours l with
  | some o => some (5, o)
  | none => (topoReserved l).map (fun o => (6, o))

/-- One mapped cell of a descriptor (R42, R43). -/
def topoCell (l : List Byte) (i : Nat) : MapCell :=
  let w := topoMap l i
  let o := 64 + 4 * leAt l 22 2 + 16 * i
  { logical := i, mirror := bitsAt w 22 1 == 1, cls := bitsAt w 16 6,
    nbs := (List.range (leAt l (o + 12) 1)).map (fun k => leAt l (o + 2 * k) 2) }

/-- The accepted descriptor (R45). -/
def topoOf (l : List Byte) (check : Nat) : Topo :=
  { topologyId := toW (leAt l 8 4), stages := leAt l 12 1, family := leAt l 13 1, planes := leAt l 14 1,
    cellsPerStage := leAt l 16 2, tileMask := setBits (leAt l 24 18) 144, checkWord := toW check,
    cells := (topoPhys l).zipIdx.foldl (fun m e => mapPut m e.1 (topoCell l e.2)) [] }

/-! ### Law sets, microcode, register initialisation -/

/-- The law set of class `k` breaks R116. -/
def lawBad (l : List Byte) (k : Nat) : Bool :=
  let a := bytesAt l (0x800 * k) 0x800
  let w0 := leAt a 0x480 4
  let dark := bitsAt (leAt a 0x484 4) 4 14
  bitsAt w0 16 8 < 8 || 24 < bitsAt w0 16 8 || bitsAt w0 8 8 < 128 || dark < 1
    || leAt a 0x488 4 != crc32c ((List.range 4).flatMap (fun s => bytesAt a (256 * s) 236) ++ bytesAt a 0x480 8)

/-- The microcode section fails: a check byte, or a dispatch entry that breaks R181. -/
def microBad (l : List Byte) : Bool :=
  (List.range 0x1800).any (fun a => !wordChecked (leAt l (16 * a) 16))
    || (List.range 0xC0).any (fun i =>
      let e := leAt l (0x18000 + 4 * i) 4
      0x1800 ≤ bitsAt e 0 13 || bitsAt e 13 15 != 0)

/-- The pairs of a REGINIT section. -/
def initPairs (l : List Byte) : List (Nat × W) :=
  (List.range (l.length / 8)).map (fun i => (leAt l (8 * i) 4, toW (leAt l (8 * i + 4) 4)))

/-- A window whose words are RW or RWL: law sets, staging banks, step memory, dispatch table, shadow bank, MSI-X table, control
store. -/
def openWindow (a : Nat) : Bool :=
  (decide (0xA40000 ≤ a) && decide (a < 0xA80000)) || (stagingOf a).isSome || (decide (0x410000 ≤ a) && decide (a < 0x430000))
    || (decide (0x700400 ≤ a) && decide (a < 0x700800)) || (decide (PKT_SHADOW ≤ a) && decide (a < PKT_SHADOW + 0x2000))
    || (decide (0x1580000 ≤ a) && decide (a < 0x1581000)) || (decide (0x2000000 ≤ a) && decide (a < 0x2020000))

/-- The bits of an address that are RW or RWL; none where no such register stands. -/
def initMask (a : Nat) : Nat :=
  if a % 4 != 0 then 0
  else match rowOf a with
    | some r => r.rw ||| r.rwl
    | none => if openWindow a then 2 ^ 32 - 1 else 0

/-! ### Signature (R509) -/

/-- What the signature is over, and the signature: header, directory and every section in directory order. -/
def signedBytes (c : Chip) (k : Nat) : List Byte :=
  copyHeader c k ++ (dirBytes c k).flatten ++ (sections c k).flatMap (sectionBytes c k)

/-- sig_req and the revoked slots in the fuses (R518). -/
def sigRequired (c : Chip) : Bool := wbit (rd c GLB_FUSE) 31
def keyRevoked (c : Chip) (slot : Nat) : Bool := wbit (rd c GLB_FUSE) (16 + slot)

/-- The signature section has its form: an uncompressed point, then three zero bytes (R509). -/
def signatureForm (l : List Byte) : Bool := leAt l 0 1 == 4 && leAt l 97 3 == 0

/-- Codes 0x0B–0x0D of a copy; 0 if it passes them. -/
def signatureCode (c : Chip) (k : Nat) (sig : List Byte) : Nat :=
  let h := copyHeader c k
  let slot := leAt h 9 1
  if !signatureForm sig then 0x0B
  else if sigRequired c && (3 < slot || !Config.imageSigned (signedBytes c k) slot) then 0x0B
  else if sigRequired c && keyRevoked c slot then 0x0C
  else if leAt h 10 2 < wbits (rd c GLB_FUSE) 0 16 then 0x0D
  else 0

/-! ### Every check of a copy (R506) -/

/-- The section of a type that stands once. -/
def theSection (l : List Section) (t : Nat) : Section := ((ofType l t).head?).getD ⟨t, 0, 0, 0, 0⟩

/-- The profile a load uses: the one chosen if it passes R512, else profile 0 (R513). -/
def usedProfile (c : Chip) (k p : Nat) : Nat :=
  let l := sections c k
  if profileOk ((ofType l 8).map (·.idx)) (profileRec (sectionBytes c k (theSection l 1)) p) then p else 0

/-- The REGINIT section that the profile names. -/
def initSection (c : Chip) (k p : Nat) : Section :=
  let l := sections c k
  let r := profileRec (sectionBytes c k (theSection l 1)) (usedProfile c k p)
  ((ofType l 8).find? (fun s => s.idx == leAt r 3 1)).getD ⟨8, 0, 0, 0, 0⟩

/-- The first failing code of R506 of copy `k` with profile `p` chosen; 0: the copy is valid. The sections are checked in the
order of R510. -/
def copyCode (c : Chip) (answers : Bool) (k p : Nat) : Nat :=
  let h := headerCode c answers (copyHeader c k)
  if h != 0 then h
  else if !dirOk c k then 0x04
  else
    let l := sections c k
    let sec := theSection l
    let bytes := fun t => sectionBytes c k (sec t)
    let ok := fun t => sectionOk c k (sec t)
    let init := initSection c k p
    if !ok 1 then 0x05
    else if !profileOk ((ofType l 8).map (·.idx)) (profileRec (bytes 1) 0) then 0x06
    else if !ok 2 then 0x05
    else if (topoCheck (bytes 2)).isSome then 0x07
    else if !ok 3 then 0x05
    else if (List.range 64).any (lawBad (bytes 3)) then 0x08
    else if !ok 4 || !ok 5 then 0x05
    else if microBad (bytes 5) then 0x09
    else if !ok 7 || !sectionOk c k init then 0x05
    else if (initPairs (sectionBytes c k init)).any (fun e => initMask e.1 == 0) then 0x0A
    else if !ok 15 then 0x05
    else signatureCode c k (bytes 15)

end Sys2Proof.Machine
end

