-- ==== Sys2Proof/Machine/Boot.lean ====
section
/-! DEFINITION. The load of an image, its commit, the halt, reset release, restarts, and the start actions (R499–R517, R538,
R539). -/

namespace Sys2Proof.Machine

/-! ### Placing the sections (R510) -/

/-- The accepted descriptor is shown in the GLB registers (R48–R51). -/
def placeTopology (c : Chip) (l : List Byte) (check : Nat) : Chip :=
  let t := topoOf l check
  let c := wr { c with topo := some t } GLB_TOPO_ID t.topologyId
  let c := setFld (setFld c GLB_TOPO_SHAPE_family t.family) GLB_TOPO_SHAPE_plane_count_m1 (t.planes - 1)
  let c := setFld (setFld c GLB_TOPO_SHAPE_stage_count t.stages) GLB_TOPO_SHAPE_cells_per_stage t.cellsPerStage
  let c := setFld (setFld c GLB_TOPO_PORTS_ports_in t.ports) GLB_TOPO_PORTS_ports_out t.ports
  setFld (setFld c GLB_TOPO_CELLS_cell_count t.cells.length) GLB_TOPO_CELLS_tiles_used t.tileMask.length

/-- The law sets, and the shaping tables filled from their default schedules (R112, R118). -/
def placeLaw (c : Chip) (l : List Byte) (check : Nat) : Chip :=
  let c := { c with lpe := { c.lpe with law := mapWriteRun (fun _ => 0) [] 0 (((bytesToWords 0x8400 l).zipIdx).map (fun e => lawStored e.2 e.1)) } }
  let shapes := (List.range 2048).map (fun i => shapeDefault c (i / 32) (i % 32))
  { c with lpe := { c.lpe with shaping := mapWriteRun (fun _ => 0) [] 0 shapes }, glb := { c.glb with lawCheck := toW check } }

/-- A word of a parameter bank with gen 0 (R119, R510). -/
def genZero (e : W × Nat) : W := if e.2 % 16 = 15 then putField (paramStored e.2 e.1) 24 8 0 else paramStored e.2 e.1

/-- The factory cell parameters, in both banks of every gallery with gen 0 (R510). -/
def placeFactory (c : Chip) (l : List Byte) (check : Nat) : Chip :=
  let b := mapWriteRun (fun _ => 0) [] 0 (((bytesToWords 73728 l).zipIdx).map genZero)
  { c with lpe := { c.lpe with bankA := b, bankB := b }, glb := { c.glb with factoryCrc := toW check } }

/-- A calibration record of gallery `g` may be taken (R389): its check words, the topology and the factory section agree. -/
def calGood (c : Chip) (h bank : List Byte) : Bool :=
  leAt h 0 4 == 0x4A435847 && leAt h 4 2 == 1 && leAt h 60 4 == crc32c (h.take 60) && leAt h 44 4 == crc32c bank
    && leAt h 12 4 == rn c GLB_TOPO_ID && leAt h 16 4 == c.glb.factoryCrc.toNat

/-- The good records of a gallery: sequence and bank. -/
def calRecords (c : Chip) (g : Nat) : List (W × List Byte) :=
  (List.range 4).filterMap (fun n =>
    let h := mramBytes c (calSlot g n) 64
    let bank := mramBytes c (calSlot g n + 64) 8192
    if calGood c h bank then some (toW (leAt h 8 4), bank) else none)

/-- The record of highest sequence, by signed difference. -/
def latestRec : List (W × List Byte) → Option (W × List Byte)
  | [] => none
  | x :: t =>
    match latestRec t with
    | none => some x
    | some y => if 0 < pdiff y.1 x.1 then some y else some x

/-- One gallery takes its newest good record from the journal (R389). -/
def journalGallery (c : Chip) (g : Nat) : Chip :=
  match latestRec (calRecords c g) with
  | none => raise (setB c CNS_STAT_journal_ignored true) srcCNS_JRNL_IGNORED 0
  | some (seq, bank) =>
    let ws := ((bytesToWords 2048 bank).zipIdx).map (fun e => paramStored e.2 e.1)
    let put := fun m => mapWriteRun (fun _ => 0) m (2048 * g) ws
    let c := { c with lpe := { c.lpe with bankA := put c.lpe.bankA, bankB := put c.lpe.bankB },
                      cns := { c.cns with seqs := mapWrite (fun _ => 0) c.cns.seqs g (seq + 1) } }
    setFld c (LPE_LAW_STAT_param_gen g) (wbits (nth 0 ws 15) 24 8)

/-- The calibration journal is read with use_journal = 1 (R389). -/
def placeJournal (c : Chip) (use : Bool) : Chip := if use then galleries.foldl journalGallery c else c

/-- The vendor microcode and its dispatch entries (R510). -/
def placeMicrocode (c : Chip) (l : List Byte) : Chip :=
  let c := { c with doc := { c.doc with cs := mapWriteRun csDefault c.doc.cs 0 (bytesToWords 0x6000 l) } }
  (List.range 0xC0).foldl (fun c i => setTableEntry c i (toW (leAt l (0x18000 + 4 * i) 4))) c

/-- An optional section is passed over (R510). -/
def sectionSkip (c : Chip) (t idx : Nat) : Chip := raise c srcGLB_SECTION_SKIP (toW (t * 256 + idx))

/-- The customer module: 0x800 microwords, 64 dispatch entries and its CRC (R200, R510). -/
def placeCustomer (c : Chip) (k : Nat) (s : Section) : Chip :=
  let l := sectionBytes c k s
  let skip := fun (c : Chip) => sectionSkip { c with doc := { c.doc with custBad := true } } 6 s.idx
  if !sectionOk c k s || s.len != 0x8104 then skip c
  else
    let d := { c with doc := { c.doc with cs := mapWriteRun csDefault c.doc.cs 0x6000 (bytesToWords 0x2000 l) } }
    let d := (List.range 64).foldl (fun c i => setTableEntry c (0xC0 + i) (toW (leAt l (0x8000 + 4 * i) 4 &&& 0xF0001FFF))) d
    let d := wr d DOC_CUST_CRC (toW (leAt l 0x8100 4))
    if (custCheck d).isSome then skip d else d

/-- The firmware section, in the working SRAM (R515). -/
def placeFirmware (c : Chip) (l : List Byte) : Chip :=
  { c with glb := { c.glb with sram := mapWriteRun (fun _ => 0) [] 0 l } }

/-- One register initialisation pair (R510): a write of the register's RW and RWL bits, effective at once. -/
def initWrite (c : Chip) (e : Nat × W) : Chip :=
  let a := e.1
  let v := e.2 &&& toW (initMask a)
  if 0x700400 ≤ a && a < 0x700800 then setTableEntry c ((a - 0x700400) / 4) (toW (v.toNat &&& 0xF0001FFF))
  else if a / 0x100000 = 32 then csPut c (a % 0x100000 / 4) v
  else if (indexIn a (SVP_P_CTL 0) 4 0x1000).isSome then wr c a v
  else
    let d := applyDue (writeReg { c with twn := { c.twn with applying := true, late := true } } a v)
    { d with twn := { d.twn with applying := c.twn.applying, late := c.twn.late } }

/-- One preloaded arrangement (R220): an ACCEDE with replace = 0. -/
def preload (c : Chip) (l : List Byte) : Chip :=
  let id := leAt l 4 2
  match accedeCheck c id false l with
  | some _ => raise c srcARS_ACC_REFUSED 0
  | none => setStore (memWrite c 3 (slotAddr c id) l) id 1

/-- A section of arrangements, one after another (R220, R510). -/
def placeArrangements (c : Chip) (k : Nat) (s : Section) : Chip :=
  if !sectionOk c k s || s.len % arrBytes != 0 then sectionSkip c 9 s.idx
  else (List.range (s.len / arrBytes)).foldl (fun c i => preload c (norBytes c (copyBase k + s.off + i * arrBytes) arrBytes)) c

/-- A programme section placed in slot `n` (R510): LOAD, the header registers from PRG_Sn_HDR to PRG_Sn_CRC, the steps, CHECK.
`now`: the slot starts at once (R517). -/
def placeProgramme (c : Chip) (k n : Nat) (s : Section) (now : Option Bool) : Chip :=
  if !sectionOk c k s then sectionSkip c 10 s.idx
  else
    let l := sectionBytes c k s
    let c := loadSlot c n
    let c := (List.range 6).foldl (fun c i => slotStore c (0x100 + 0x40 * n + 4 * i) (toW (leAt l (4 * i) 4))) c
    let c := match now with | some b => setB c (PRG_S_HDR_start_now n) b | none => c
    let c := (List.range (min 8192 ((s.len - 24) / 4))).foldl
      (fun c i => slotStore c (0x10000 + 0x8000 * n + 4 * i) (toW (leAt l (24 + 4 * i) 4))) c
    let c := checkSlot c n
    if slotState c n = 7 then sectionSkip c 10 s.idx else c

/-- The programmes that the profile places in the slots (R512). -/
def placeProgrammes (c : Chip) (k : Nat) (l : List Section) (prof : List Byte) : Chip :=
  (List.range 4).foldl (fun c n =>
    let auto := bitsAt (leAt prof 0 1) 4 1 == 1 && leAt prof 12 1 == n
    let now := if auto then some (bitsAt (leAt prof 0 1) 5 1 == 0) else none
    match (ofType l 10).find? (fun s => s.idx == leAt prof (8 + n) 1) with
    | some s => placeProgramme c k n s now
    | none => c) c

/-- Every section of a valid copy is placed, in the order of R510; `p`: the profile chosen. -/
def placeCopy (c : Chip) (k p : Nat) : Chip :=
  let l := sections c k
  let sec := theSection l
  let bytes := fun t => sectionBytes c k (sec t)
  let u := usedProfile c k p
  let prof := profileRec (bytes 1) u
  let c := if u = p then c else raise c srcGLB_PROFILE_BAD 0
  let c := { setFld c GLB_BOOT_STAT_used_profile u with glb := { c.glb with profile := prof } }
  let c := placeTopology c (bytes 2) (sec 2).crc
  let c := placeFactory (placeLaw c (bytes 3) (sec 3).crc) (bytes 4) (sec 4).crc
  let c := placeMicrocode (placeJournal c (bitsAt (leAt prof 0 1) 3 1 == 1)) (bytes 5)
  let c := (ofType l 6).foldl (fun c s => placeCustomer c k s) c
  let c := placeFirmware c (bytes 7)
  let c := (initPairs (sectionBytes c k (initSection c k p))).foldl initWrite c
  let c := (ofType l 9).foldl (fun c s => placeArrangements c k s) c
  placeProgrammes c k l prof

/-! ### Commit (R511, R514, R538, R539) -/

/-- A partition reaches into the private region (R538). -/
def reachesPrivate (c : Chip) (n : Nat) : Bool := partSize c n != 0 && decide (ddrUsable c - 0x4000000 < partBase c n + partSize c n)

/-- Partitions that overlap the private region are disabled (R538). -/
def cutPartitions (c : Chip) : Chip :=
  (List.range 8).foldl (fun c n => if reachesPrivate c n then raise (wr c (DDR_PART_SIZE n) 0) srcDDR_PART_ERR 0 else c) c

/-- One placement of R539: its register, and whether it holds. -/
def judgePlacement (c : Chip) (e : Nat × Bool) : Chip := if e.2 then c else placementError c e.1

/-- The placements checked at commit (R539). -/
def checkPlacements (c : Chip) : Chip :=
  let store := storeBase c
  let log := wbits (rd c LDG_LOG_BASE) 0 10 * 2 ^ 26
  let vit := wbits (rd c VIT_BASE) 0 13 * 2 ^ 23
  let cs := wbits (rd c TWN_CS_BASE) 0 20 * 65536
  [(ARS_STORE_BASE, [6, 5, 12, 3].all (fun m =>
      regionGranted c m false store 0x50014000 && regionGranted c m true store 0x50014000)
        && regionGranted c 1 true (store + 0x50000000) 0x14000),
   (LDG_LOG_BASE, regionGranted c 8 true log 0x8000000),
   (VIT_BASE, regionGranted c 9 true vit 0x800000),
   (TWN_CS_BASE, regionGranted c 12 false cs csBytes && (regionGranted c 1 true cs csBytes || regionGranted c 0 true cs csBytes))
  ].foldl judgePlacement c

/-- The address of slot `i` of a log region. -/
def regionSlot (c : Chip) (r i : Nat) : Nat := logSlot c r (toW i)

/-- The records a log region holds: sequence and type, by the slots that hold anything (R450, R453). -/
def regionRecords (c : Chip) (r : Nat) : List (W × (Nat × Nat)) :=
  let base := regionSlot c r 0
  let slots := (c.ddr.filter (fun e => decide (base ≤ e.1) && decide (e.1 < base + 0x4000000) && (e.1 - base) % 32 == 4)).map
    (fun e => (e.1 - base) / 32)
  slots.filterMap (fun i =>
    let l := ddrBytes c (base + 32 * i) 32
    let seq := toW (beAt l 0 4)
    if seq.toNat % 2097152 = i then some (seq, (beAt l 4 1, beAt l 24 1)) else none)

/-- The record of highest sequence, by signed difference. -/
def topRecord : List (W × (Nat × Nat)) → Option (W × (Nat × Nat))
  | [] => none
  | x :: t =>
    match topRecord t with
    | none => some x
    | some y => if 0 < pdiff y.1 x.1 then some y else some x

/-- The lowest sequence of a region, counted back from its last. -/
def firstSeq (last : W) (l : List (W × (Nat × Nat))) : W :=
  last - toW ((l.map (fun e => (last - e.1).toNat)).foldl max 0)

/-- A log region whose record of highest sequence is a FREEZE record becomes the held vault (R511). -/
def findVault (c : Chip) : Chip :=
  let held := (List.range 2).findSome? (fun r =>
    match topRecord (regionRecords c r) with
    | some (seq, (6, cls)) => some (r, seq, cls)
    | _ => none)
  match held with
  | some (r, seq, cls) =>
    let c := setFld (setFld (setB c LDG_STAT_vault_held true) LDG_STAT_vault_class cls) LDG_STAT_log_region (1 - r)
    let c := wr (wr c LDG_VAULT_FIRST (firstSeq seq (regionRecords c r))) LDG_VAULT_FREEZE seq
    raise c srcGLB_VAULT_FOUND 0
  | none => c

/-- The profile fields (R514), and the counter's mode (R70). A rate that the register initialisation wrote acts as a write of it
acts at its E (R71). -/
def profileFields (c : Chip) : Chip :=
  let b0 := leAt c.glb.profile 0 1
  let c := setFld (setFld c TMR_CTL_clk_mode (bitsAt b0 0 1)) TWN_CTL_twin_en (bitsAt b0 1 1)
  let c := setFld (setFld c NGL_CTL_auto_up (bitsAt b0 2 1)) CNS_CTL_use_journal (bitsAt b0 3 1)
  let c := (List.range 4).foldl (fun c n =>
    let m := profileMode c.glb.profile n
    wr (setFld c (SVP_P_CTL_mode n) m) (TMR_P_COMP n) (Config.stampComp m)) c
  if fldB c TMR_CTL_clk_mode && rd c TMR_CX_RATE != 0 then
    { c with tmr := { c.tmr with cxRef := c.tmr.cxFree, cxRho := rd c TMR_CX_RATE } }
  else c

/-! ### Start actions (R517) -/

/-- The start actions begin: link bring-up with auto_up = 1 (R322), the sequencer with auto_seq = 1 unless every valid rail is
already good (R564). -/
def beginStart (c : Chip) : Chip :=
  let c := { c with glb := { c.glb with startWanted := false, start := some ⟨period c, [], false, none, false, none⟩ } }
  let c := if fldB c PDM_ASM_CTL_auto_seq && !(railsIn c).all (railGood c) then startSeq c true else c
  if fldB c NGL_CTL_auto_up then (maskTiles c).foldl startBringup c else c

/-- A start action that cannot be taken (R517). -/
def startFail (c : Chip) (step mid status : Nat) : Chip :=
  raise c srcGLB_AUTOSTART_FAIL (toW (step * 2 ^ 24 + mid * 2 ^ 16 + status))

/-- Update of the start actions that run. -/
def modStart (c : Chip) (f : StartRun → StartRun) : Chip := { c with glb := { c.glb with start := c.glb.start.map f } }

/-- Firmware's write of ENABLE for every cell of gallery `g` (step 2). -/
def enableGallery (c : Chip) (g : Nat) : Chip :=
  let st := bitsAt (leAt c.glb.profile 2 1) 0 1
  let c := withSource c 2 (fun c => cellCmdWrite c g (toW (2 ^ 24 + st * 2 ^ 16 + 2 ^ 8)))
  if (mapGet c.lpe.cmds g).isSome then c else startFail c 2 g (fld c (LPE_CMD_STAT_reason g))

/-- Step 2 at a boundary: the galleries of the tiles that have entered service; a gallery whose command waits is written when it
has acted. -/
def startEnables (c : Chip) : Chip :=
  match c.glb.start with
  | none => c
  | some s =>
    let up := (maskTiles c).filter (fun t => linkState c t == 6)
    let served := s.served.filter up.contains
    if bitsAt (leAt c.glb.profile 0 1) 6 1 = 0 then c
    else
      let gs := (((up.filter (fun t => !served.contains t)).map (· / 4)).dedup).filter (fun g => (mapGet c.lpe.cmds g).isNone)
      let c := gs.foldl enableGallery c
      modStart c (fun s => { s with served := served ++ up.filter (fun t => !served.contains t && gs.contains (t / 4)) })

/-- The command with this serial has not completed. -/
def docOutstanding (c : Chip) (n : Nat) : Bool :=
  (queuedCommands c).any (fun d => d.serial == n) || c.doc.incoming.any (fun e => e.1.serial == n)
    || (c.doc.cur.toList ++ c.doc.saved.toList).any (fun r => r.cmd.serial == n && !r.written)

/-- Steps 3 and 4 (R517): the start arrangement is applied, then curator_mode is written. -/
def startApply (c : Chip) : Chip :=
  match c.glb.start with
  | none => c
  | some s =>
    let all := (maskTiles c).all (fun t => linkState c t == 6)
    if s.applied || !(all || pReached (period c) (s.from_ + 40000)) then c
    else
      let id := leAt c.glb.profile 6 2
      let c := modStart c (fun s => { s with applied := true })
      let c :=
        if id = 0xFFFF then c
        else if storeState c id != 1 then startFail c 3 0 0xFFFF
        else
          let n := c.doc.serial
          let d := wr (wr (wr c (DOC_CMD 0) 0x1000FFFF) (DOC_CMD 1) (toW (id + 2 ^ 16))) (DOC_CMD 2) 0
          let d := withSource d 2 (fun c => docCmdWrite c 0)
          if docOutstanding d n then modStart d (fun s => { s with serial := some n }) else startFail d 3 0 5
      let m := bitsAt (leAt c.glb.profile 1 1) 0 2
      if m = curMode c then c
      else
        let d := withSource c 2 (fun c => curCtlWrite c (putField (rd c CUR_CTL) 0 2 m))
        if d.cur.modeWait.isSome then d else startFail d 4 0 (fld d CUR_STAT_mode_reason)

/-- The completion status of the start APPLY, by its tag (R183). -/
def startStatus (c : Chip) : Nat :=
  match c.doc.done.find? (fun d => d.opcode == 0x10 && d.source == 0 && d.tag == 0xFFFF) with
  | some d => d.status
  | none => 1

/-- Step 5 (R517): once the APPLY has completed, or at once if there is none, START is written. -/
def autostart (c : Chip) : Chip :=
  match c.glb.start with
  | none => c
  | some s =>
    let waits := match s.serial with | some n => docOutstanding c n | none => false
    if !s.applied || s.started || waits then c
    else
      let c := if s.serial.isSome && startStatus c != 1 then startFail c 3 0 (startStatus c) else c
      let c := modStart c (fun s => { s with started := true, serial := none })
      if bitsAt (leAt c.glb.profile 0 1) 4 1 = 0 then c
      else
        let slot := bitsAt (leAt c.glb.profile 12 1) 0 2
        let d := withSource c 2 (fun c => prgWrite c (toW (3 * 2 ^ 28 + slot * 2 ^ 24)))
        match d.deferred.find? (fun x => x.addr == PRG_CMD && !isDeferred c PRG_CMD) with
        | some x => modStart d (fun s => { s with startE := some x.e })
        | none => startFail d 5 0 (fld d PRG_STAT_reason)

/-- The E of the written START has come (step 5): a slot that neither waits nor runs was refused. -/
def startJudge (c : Chip) : Chip :=
  match c.glb.start with
  | some ⟨_, _, _, _, _, some e⟩ =>
    if !due c e then c
    else
      let c := modStart c (fun s => { s with startE := none })
      let slot := bitsAt (leAt c.glb.profile 12 1) 0 2
      if [3, 4, 6].contains (slotState c slot) then c else startFail c 5 0 (fld c PRG_STAT_reason)
  | _ => c

/-! ### The load (R504, R506–R508, R511) -/

/-- The device's role after commit (R359, R366, R517): single, or a twin that waits for its partner. -/
def takeRole (c : Chip) : Chip :=
  if safe c then raise c srcGLB_GRAVE_BOOT 0
  else if isTwin c then { c with twn := { c.twn with starting := true, wantJoin := fldB c TWN_CTL_auto_join } }
  else beginStart (railsWanted c)

/-- Image commit of copy `k` (R511, R513–R515, R558, R579, R622). -/
def commit (c : Chip) (k : Nat) : Chip :=
  let h := copyHeader c k
  let c := profileFields c
  let c := if c.glb.memKept then findVault c else c
  let c := checkPlacements (cutPartitions c)
  let c := wr (wr c GLB_FW_VER (toW (leAt h 24 4))) GLB_IMG_GEN (toW (leAt h 12 4))
  let c := setFld (setFld (setFld c GLB_BOOT_STAT_state 1) GLB_BOOT_STAT_stage 7) GLB_BOOT_STAT_copy k
  let c := if sigRequired c then c else raise (setB c GLB_BOOT_STAT_unsigned true) srcGLB_UNSIGNED 0
  let c := if fldB c TMX_STAT_test_en then raise c srcTMX_TEST_EN 0 else c
  let c := setB { c with glb := { c.glb with svn := leAt h 10 2 } } GLB_CTL_remap true
  let c := autoOff c
  let c := nextConversion (modAux c (fun a => { a with trimWanted := true }))
  let hb := !safe c && (period c).toNat / 2000 % 2 == 1
  showPins (takeRole { c with att := { c.att with heartbeat := some hb } })

/-- The device halts at boot with a fail code (R508). -/
def bootHalt (c : Chip) (stage code : Nat) : Chip :=
  let c := setFld (setFld (setFld c GLB_BOOT_STAT_state 2) GLB_BOOT_STAT_stage stage) GLB_BOOT_STAT_fail_code code
  showPins { c with att := { c.att with heartbeat := some false } }

/-- The copy tried first (R507): the one named, or the later of those whose header passes; `sel`: copy_sel. -/
def firstCopy (c : Chip) (answers : Bool) (sel : Nat) : Nat :=
  if sel = 1 then 0
  else if sel = 2 then 1
  else
    let ok := fun k => headerCode c answers (copyHeader c k) == 0
    let gen := fun k => toW (leAt (copyHeader c k) 12 4)
    if ok 1 && (!ok 0 || 0 < pdiff (gen 1) (gen 0)) then 1 else 0

/-- A copy fails with a code (R44, R506): its place in GLB_BOOT_FAIL; the ledger records the failing check of its descriptor, in a
DETAIL record of source GLB_COPY_BAD that begins with four bytes of check number and four of offset: DESIGN CHOICE, R44 and R451
give no layout (log entry 110). -/
def copyFailed (c : Chip) (k code : Nat) : Chip :=
  let c := wr c GLB_BOOT_FAIL (putField (rd c GLB_BOOT_FAIL) (8 * k) 8 code)
  if code = 7 then
    match topoCheck (sectionBytes c k (theSection (sections c k) 2)) with
    | some (n, o) => ledgerDetail c srcGLB_COPY_BAD (beBytes 4 n ++ beBytes 4 o)
    | none => c
  else c

/-- Stages 4 to 7 of a load (R504, R507): the copy tried first, or the other. -/
def loadImage (c : Chip) (answers : Bool) (sel p : Nat) : Chip :=
  let a := firstCopy c answers sel
  let b := 1 - a
  let ca := copyCode c answers a p
  if ca = 0 then commit (placeCopy c a p) a
  else
    let c := copyFailed c a ca
    let cb := copyCode c answers b p
    if cb = 0 then
      let c := setB (raise c srcGLB_COPY_BAD (toW (a * 256 + ca))) GLB_BOOT_STAT_fallback true
      commit (placeCopy c b p) b
    else
      let reached := fun code => if code = 0x0E || code < 4 then 4 else if code < 0x0B then 5 else 6
      bootHalt (copyFailed c b cb) (reached cb) 0x22

/-- The counter at the end of a load of `n` periods (R58): it started at 0 with P = 0 at reset release. -/
def startTime (c : Chip) (n : W) : Chip :=
  let t := BitVec.ofNat 64 (250 * n.toNat)
  { c with tmr := { c.tmr with timeNs := t, lastNs := t, period := n, bndNs := t, ticks := 250 * n.toNat, cxFree := t } }

/-- What stage 3 shows of the memory (R502, R554). -/
def showMemory (c : Chip) (w : LoadWorld) (kept : Bool) : Chip :=
  let c := { c with ddr := if kept then c.ddr else [], xbr := { c.xbr with selfRefresh := false },
                    glb := { c.glb with memKept := kept } }
  let c := setFld (setFld (setB c DDR_STAT_trained true) DDR_STAT_rate w.rate) DDR_STAT_capacity w.capacity
  setB (setB c DDR_STAT_two_rank w.twoRank) GLB_BOOT_STAT_mem_kept kept

/-- The load after a reset of class `cls` (R504): the straps in force, the profile chosen, copy_sel. Events are raised at commit
(R511). -/
def load (c : Chip) (cls p sel : Nat) (w : LoadWorld) : Chip :=
  let s := c.glb.straps
  let c := startTime c w.periods
  let c := setFld (setFld c GLB_BOOT_STAT_last_reset cls) GLB_BOOT_STAT_strap_profile s.profile.toNat
  let c := setFld (setB (setB c GLB_BOOT_STAT_grave_boot (safe c)) TMX_STAT_test_en s.testEn) GLB_BOOT_STAT_used_profile p
  if !w.bist then bootHalt c 2 0x20
  else if !w.trained then bootHalt c 3 0x21
  else
    let kept := cls != 0 && w.supplied
    let c := showMemory c w kept
    let c := if cls != 0 && !kept then raise c srcGLB_MEM_LOST 0 else c
    loadImage c w.norAnswers sel p

/-- Reset is released (R499): the straps are sampled, SB_ADDR after a COLD reset only (R546), and the loader starts. -/
def releaseFrom (c : Chip) (h : Hold) (straps : Straps) (w : LoadWorld) : Chip :=
  match h with
  | .cold =>
    load (setFld { c with glb := { c.glb with straps := straps } } SBM_STAT_address (0x58 + straps.sbAddr.toNat)) 0
      straps.profile.toNat 0 w
  | .pin =>
    load { c with glb := { c.glb with straps := { straps with sbAddr := c.glb.straps.sbAddr } } } 1 straps.profile.toNat 0 w

/-- A release where no reset is held changes nothing. -/
def resetRelease (s : State) (straps : Straps) (w : LoadWorld) : State :=
  match s.held with
  | none => s
  | some h => { s with held := none, chip := releaseFrom s.chip h straps w }

/-! ### Restarts at their E (R501–R503, R513, R516) -/

/-- The profile of a FULL restart (R513). -/
def restartProfile (c : Chip) (v : W) : Nat :=
  if wbit v 28 then wbits v 26 2 else fld c GLB_BOOT_STAT_used_profile

/-- A FULL restart acts. -/
def fullRestart (c : Chip) (v : W) (w : LoadWorld) : Chip :=
  let p := restartProfile c v
  let c := warmState c true
  load { c with glb := { c.glb with sel := some v } } 2 p (wbits v 24 2) w

/-- A FW restart acts (R501–R503, R519): the firmware section of the copy in force is loaded, the watchdog is disabled, and
fw_alive and the TEC control of firmware stop until the new firmware starts them. -/
def fwRestart (c : Chip) (dog : Bool) (w : LoadWorld) : Chip :=
  let c := setFld (setFld c GLB_BOOT_STAT_last_reset (if dog then 4 else 3)) GLB_WDT_timeout 0
  let c := setB { c with ddr := if w.supplied then c.ddr else [], glb := { c.glb with memKept := w.supplied, sram := [] },
                         twn := { c.twn with fwAlive := false } } GLB_BOOT_STAT_mem_kept w.supplied
  if fld c GLB_BOOT_STAT_state = 1 then
    let k := fld c GLB_BOOT_STAT_copy
    setB (placeFirmware c (sectionBytes c k (theSection (sections c k) 7))) GLB_CTL_remap true
  else setB c GLB_CTL_remap false

/-- A written restart, or the watchdog's, acts at its E (R503, R516). -/
def restartEffect (c : Chip) (w : LoadWorld) : Chip :=
  match c.glb.restart with
  | some (v, e) =>
    if !due c e then c
    else
      let c := { c with glb := { c.glb with restart := none } }
      if wbits v 29 2 = 1 then fullRestart c v w else fwRestart c c.glb.byWatchdog w
  | none => c

/-! ### The commands -/

/-- RESET_RELEASE (R499, R504). -/
def execResetRelease (straps : Straps) (w : LoadWorld) (s : State) : Host.Outcome State Fault Refusal :=
  .next (resetRelease s straps w)

/-- RESTART_EFFECT (R503). -/
def execRestartEffect (w : LoadWorld) (s : State) : Host.Outcome State Fault Refusal := run s (restartEffect · w)

/-- START_ARR_APPLY (R517). -/
def execStartArrApply (s : State) : Host.Outcome State Fault Refusal := run s startApply

/-- AUTOSTART (R517). -/
def execAutostart (s : State) : Host.Outcome State Fault Refusal := run s autostart

end Sys2Proof.Machine
end

