-- ==== Sys2Proof/Machine/Bus.lean ====
section
/-! DEFINITION. The bus matrix and its errors (R522–R533), LPDDR6 errors, scrub and refresh (R534–R538), the PCIe port
(R540–R545) and the SMBus target (R546–R550). -/

namespace Sys2Proof.Machine

/-! ### Decoding and arbitration (R522–R527) -/

/-- Update of the matrix. -/
def modXbr (c : Chip) (f : Xbr → Xbr) : Chip := { c with xbr := f c.xbr }

/-- The masters that reach LPDDR6 (R523). -/
def memMaster (m : Nat) : Bool := [0, 1, 3, 5, 6, 8, 9, 10, 11, 12, 13].contains m

/-- The target in region 2 (R515, R533): the ROM, mirrored through 1 MiB, and the 2 MiB SRAM; the remap swaps them for the
management cores and the JTAG master. -/
def localTarget (c : Chip) (m off : Nat) : Option Nat :=
  let swapped := fldB c GLB_CTL_remap && m != 3
  let rom := if swapped then 0x8000000 else 0
  let ram := if swapped then 0 else 0x8000000
  if rom ≤ off && off < rom + 0x100000 then some 10
  else if ram ≤ off && off < ram + 0x200000 then some 11
  else none

/-- The target of a master's access (R522–R524). -/
def matrixTarget (c : Chip) (m addr : Nat) : Option Nat :=
  let region := addr / 2 ^ 36
  let off := addr % 2 ^ 36
  if region = 0 then if memMaster m then some (ddrChannel off) else none
  else if region = 1 then if off < 2 ^ 26 && !noTarget m off then some (busTarget off) else none
  else if region = 2 then if m = 0 || m = 3 || m = 13 then localTarget c m off else none
  else none

/-- Beats of 32 bytes of a transaction. -/
def reqBeats (q : MatrixReq) : Nat := (q.addr % 32 + q.len + 31) / 32

/-- A transaction a master may issue (R526): within 16 KiB, with as many bytes of data as its length. -/
def reqLegal (q : MatrixReq) : Bool :=
  q.len != 0 && decide (q.addr % 16384 + q.len ≤ 16384)
    && (match q.write with
        | some l => l.length == q.len
        | none => true)

/-- The priority of master `m` at target `t` (R527, R551). -/
def matrixPriority (c : Chip) (m t : Nat) : Nat :=
  if t < 8 then wbits (rd c (XBR_PRI_LO m)) (4 * t) 4 else wbits (rd c (XBR_PRI_HI m)) (4 * (t - 8)) 4

/-- The masters a target has granted, the latest last. -/
def grantedAt (c : Chip) (t : Nat) : List Nat := (mapGet c.xbr.granted t).getD []

/-- How recently a target granted a master: 0 never. -/
def grantAge (c : Chip) (t m : Nat) : Nat := if (grantedAt c t).contains m then (grantedAt c t).idxOf m + 1 else 0

/-- Request `q` goes before `r` at target `t` (R527). -/
def grantBefore (c : Chip) (t : Nat) (q r : MatrixReq) : Bool :=
  let pq := matrixPriority c q.master t
  let pr := matrixPriority c r.master t
  let aq := grantAge c t q.master
  let ar := grantAge c t r.master
  decide (pr < pq) || (pq == pr && (decide (aq < ar) || (aq == ar && decide (q.master < r.master))))

/-- The request a target takes. -/
def chooseGrant (c : Chip) (t : Nat) : List MatrixReq → Option MatrixReq
  | [] => none
  | q :: rest =>
    match chooseGrant c t rest with
    | none => some q
    | some r => if grantBefore c t r q then some r else some q

/-- A request whose address no target serves ends with DECERR (R522, R530). -/
def noTargetEnd (c : Chip) (q : MatrixReq) : Chip :=
  modXbr (matrixError c 1 q.master 15 q.write.isSome q.addr 0)
    (fun x => { x with data := if q.write.isSome then [] else List.replicate q.len 0, resp := 1 })

/-- The requests that no target serves end; a free target grants its port to one of the rest (R525–R527). -/
def matrixGrant (c : Chip) (t : Nat) (reqs : List MatrixReq) : Chip :=
  let l := reqs.filter (fun q => reqLegal q && !(c.xbr.busy.map (·.2.master)).contains q.master)
  let c := (l.filter (fun q => (matrixTarget c q.master q.addr).isNone)).foldl noTargetEnd c
  if (mapGet c.xbr.busy t).isSome then c
  else
    match chooseGrant c t (l.filter (fun q => matrixTarget c q.master q.addr == some t)) with
    | none => c
    | some q =>
      modXbr c (fun x => { x with busy := mapPut x.busy t q,
                                  granted := mapPut x.granted t ((grantedAt c t).filter (· != q.master) ++ [q.master]) })

/-! ### Responses (R524, R530, R535–R537) -/

/-- The matrix answers: the data of a read, and the response 0 OK, 1 DECERR, 2 SLVERR. -/
def matrixAnswer (c : Chip) (l : List Byte) (resp : Nat) : Chip := modXbr c (fun x => { x with data := l, resp := resp })

/-- Zero data of a failed read; a write has none (R530). -/
def zeroData (q : MatrixReq) : List Byte := if q.write.isSome then [] else List.replicate q.len 0

/-- A transaction ends with an error of a kind. -/
def matrixFail (c : Chip) (t : Nat) (q : MatrixReq) (kind resp : Nat) : Chip :=
  matrixAnswer (matrixError c kind q.master t q.write.isSome q.addr 0) (zeroData q) resp

/-- The bytes of beat `b` within a transaction: the first and the number. -/
def beatSpan (q : MatrixReq) (b : Nat) : Nat × Nat :=
  let first := 32 * b - q.addr % 32
  let last := min q.len (32 * (b + 1) - q.addr % 32)
  (first, last - first)

/-- Data with the failed beat reading zero (R530). -/
def zeroBeat (q : MatrixReq) (b : Nat) (l : List Byte) : List Byte :=
  putBytes l (beatSpan q b).1 (List.replicate (beatSpan q b).2 0)

/-- The bytes of a burst target (R524, R551): LPDDR6, the arrangement cache, the boot ROM, the working SRAM. -/
def targetBytes (c : Chip) (t : Nat) (q : MatrixReq) : List Byte :=
  let off := q.addr % 2 ^ 36
  if t < 4 then ddrBytes c off q.len
  else if t = 9 then
    (wordsToBytes ((List.range ((off % 4 + q.len + 3) / 4)).map (fun i => regView c (off / 4 * 4 + 4 * i)))).drop (off % 4)
      |>.take q.len
  else if t = 10 then (List.range q.len).map (fun i => Config.romByte ((off + i) % 0x20000))
  else mapReadRun (fun _ => 0) c.glb.sram (off % 0x200000) q.len

/-- Write bytes of a burst target. -/
def targetWrite (c : Chip) (t off : Nat) (l : List Byte) : Chip :=
  if t < 4 then ddrWrite c off l
  else { c with glb := { c.glb with sram := mapWriteRun (fun _ => 0) c.glb.sram (off % 0x200000) l } }

/-- An error the memory controller corrects (R536). -/
def eccCorrected (c : Chip) (ch : Nat) : Chip := raiseLimited (countUp c (DDR_CH_CORR ch) 1) (srcDDR_ECC_CORR ch) 0

/-- An error it cannot correct, at a bus address (R536). -/
def eccUncorrected (c : Chip) (a : Nat) : Chip :=
  let ch := ddrChannel a
  let c := wr (countUp c (DDR_CH_UNCORR ch) 1) DDR_ERR_ADDR_LO (toW (a % 2 ^ 32))
  raise (wr c DDR_ERR_ADDR_HI (toW (2 ^ 31 + ch * 256 + a / 2 ^ 32 % 16))) (srcDDR_ECC_UNCORR ch) 0

/-- A transaction with a burst target that failed at one beat: the other beats are read or written (R530). -/
def beatFail (c : Chip) (t : Nat) (q : MatrixReq) (kind b : Nat) : Chip :=
  let off := q.addr % 2 ^ 36
  let d := matrixError c kind q.master t q.write.isSome (q.addr / 32 * 32 + 32 * b) 0
  match q.write with
  | none => matrixAnswer d (zeroBeat q b (targetBytes c t q)) 2
  | some l =>
    let s := beatSpan q b
    matrixAnswer (targetWrite (targetWrite d t off (l.take s.1)) t (off + s.1 + s.2) (l.drop (s.1 + s.2))) [] 2

/-- A burst target serves a transaction; `err`: 0 none, 1 an uncorrectable error, 2 a parity error, 3 a corrected one, at beat
`b` (R530, R535–R537). -/
def burstServe (c : Chip) (t : Nat) (q : MatrixReq) (err b : Nat) : Chip :=
  let off := q.addr % 2 ^ 36
  if t < 4 && !ddrMay c q.master q.write.isSome off q.len then matrixFail c t q 1 1
  else if 9 ≤ t && t ≤ 10 && q.write.isSome then matrixFail c t q 1 1
  else if b < reqBeats q && err = 2 then beatFail c t q 7 b
  else if b < reqBeats q && err = 1 && t < 4 then beatFail (eccUncorrected c (off / 32 * 32 + 32 * b)) t q 2 b
  else
    let c := if b < reqBeats q && err = 3 && t < 4 then eccCorrected c t else c
    match q.write with
    | none => matrixAnswer c (targetBytes c t q) 0
    | some l => matrixAnswer (targetWrite c t off l) [] 0

/-- A single target serves an access of R12: one word, or the first bytes of one word. An access whose bytes lie in more than
one word ends with DECERR and XBR_ACCESS, as one whose address is not a multiple of four does (R12, R524). -/
def singleServe (c : Chip) (t : Nat) (q : MatrixReq) (err : Nat) : Chip :=
  let off := q.addr % 2 ^ 36
  if 4 < q.len then matrixAnswer (accessError c q.master q.write.isSome off true) (zeroData q) 1
  else if err = 2 then matrixFail c t q 7 2
  else
    match q.write with
    | some l =>
      let d := masterWrite c q.master off (BitVec.ofNat 4 (2 ^ q.len - 1)) (toW (leNat l))
      matrixAnswer d [] d.readResp
    | none =>
      let d := masterRead c q.master off
      matrixAnswer d ((leBytes 4 d.readData.toNat).take q.len) d.readResp

/-- The transaction that target `t` serves ends (R530); its path is released. -/
def matrixResponse (c : Chip) (t err b : Nat) : Chip :=
  match mapGet c.xbr.busy t with
  | none => c
  | some q =>
    let c := modXbr c (fun x => { x with busy := mapDel x.busy t })
    if t < 4 || 9 ≤ t then burstServe c t q err b else singleServe c t q err

/-- A target gives no response within 10 µs (R530). -/
def targetTimeout (c : Chip) (t : Nat) : Chip :=
  match mapGet c.xbr.busy t with
  | none => c
  | some q => matrixFail (modXbr c (fun x => { x with busy := mapDel x.busy t })) t q 3 2

/-- Master `m` is reset while it holds a burst of which `n` beats remain: the beats before are done, the rest are abandoned and the
path is released; in the cycle of the last beat it completes (R531). -/
def masterReset (c : Chip) (m n : Nat) : Chip :=
  match c.xbr.busy.find? (fun e => e.2.master == m) with
  | none => c
  | some (t, q) =>
    if n = 0 then matrixResponse c t 0 0
    else
      let left := min n (reqBeats q)
      let done := 32 * (reqBeats q - left) - q.addr % 32
      let off := q.addr % 2 ^ 36
      let c := modXbr c (fun x => { x with busy := mapDel x.busy t })
      let c :=
        match q.write with
        | some l =>
          if (t < 4 && ddrMay c m true off q.len) || t = 11 then targetWrite c t off (l.take done) else c
        | none => c
      matrixError c 4 m t q.write.isSome q.addr left

/-! ### The memory controller (R534, R536) -/

/-- The memory serves: its channels are trained and not in self-refresh. -/
def memServes (c : Chip) : Bool := fldB c DDR_STAT_trained && !c.xbr.selfRefresh

/-- The patrol scrub visits an address and finds 0, 1 or 2 bits wrong (R536). -/
def patrolScrub (c : Chip) (a bits : Nat) : Chip :=
  if !(fldB c DDR_CTL_scrub_en && memServes c && decide (a < ddrUsable c)) || bits = 0 then c
  else if bits = 1 then eccCorrected c (ddrChannel a)
  else eccUncorrected c a

/-- A retraining in service; `moved`: the channel's timing moved by more than half its margin (R534, R556). -/
def ddrRetrain (c : Chip) (ch : Nat) (moved : Bool) : Chip :=
  if memServes c && moved then raise c (srcDDR_RETRAIN ch) 0 else c

/-- A channel's refresh rate is raised or lowered (R534, R554, R556). -/
def refreshDerate (c : Chip) (ch : Nat) (raised : Bool) : Chip :=
  if !memServes c then c
  else
    let f : Fld := ⟨DDR_STAT, 20 + ch, 1⟩
    let rises := raised && !fldB c f
    let c := setB c f raised
    if rises then raise c (srcDDR_DERATE ch) 0 else c

/-! ### The PCIe port (R540–R545) -/

/-- The link is up. -/
def pcieUp (c : Chip) : Bool := wbit (rd c XBR_PCIE_STAT) 31

/-- The identity words of configuration space, where PCI Express Base 5.0 has them (R540, R541; log entry 109): 0x00 vendor and
device ID, 0x08 revision and class code, 0x2C the subsystem IDs. -/
def pcieIdentity (c : Chip) (off : Nat) : W :=
  if off = 0 then toW (c.pcie.device.toNat * 2 ^ 16 + (Config.pcieFuse 0).toNat)
  else if off = 8 then toW (c.pcie.classCode.toNat * 2 ^ 8 + c.pcie.revision.toNat)
  else if off = 0x2C then toW ((Config.pcieFuse 2).toNat * 2 ^ 16 + (Config.pcieFuse 1).toNat)
  else 0

/-- A posted write failed: it is discarded and reported as a non-fatal error (R543). -/
def aerNonFatal (c : Chip) : Chip := raise c srcPCIE_AER_UNCORR 0

/-- A PCIe request ends with a response: 0 success, 1 Unsupported Request, 2 Completer Abort; a failed write is posted (R543). -/
def pcieEnd (c : Chip) (posted : Bool) (l : List Byte) (resp : Nat) : Chip :=
  matrixAnswer (if posted && resp != 0 then aerNonFatal c else c) l resp

/-- Bytes kept where their byte enable is set. -/
def enabledBytes (be : BitVec 4) (l : List Byte) : List Byte :=
  l.zipIdx.map (fun e => if wbits (toW be.toNat) e.2 1 = 1 then e.1 else 0)

/-- A BAR0 request (R12, R542). -/
def bar0Request (c : Chip) (a dws : Nat) (be : BitVec 4) (write : Option (List Byte)) : Chip :=
  if dws != 1 then matrixAnswer (accessError c 1 write.isSome a false) [] (if write.isSome then 0 else 1)
  else
    match write with
    | some l =>
      let d := masterWrite c 1 a be (toW (leNat (l.take 4)))
      pcieEnd d true [] d.readResp
    | none =>
      let d := masterRead c 1 a
      pcieEnd d false (if d.readResp = 0 then enabledBytes be (leBytes 4 d.readData.toNat) else [0, 0, 0, 0]) d.readResp

/-- The bus address of BAR2 offset `x` (R542). -/
def bar2Address (c : Chip) (x : Nat) : Nat := bitsAt (rn c XBR_BAR2_WIN) 0 6 * 2 ^ 30 + x

/-- The pieces of `n` bytes from `a`, split at 16 KiB (R526): address and length; a request has at most two. -/
def splitPieces (a n : Nat) : List (Nat × Nat) :=
  let room := 16384 - a % 16384
  if n ≤ room then [(a, n)] else [(a, room), (a + room, n - room)]

/-- The bytes of a BAR2 write with the disabled bytes of its first word as memory holds them (R526). -/
def mergeFirst (c : Chip) (a : Nat) (be : BitVec 4) (l : List Byte) : List Byte :=
  l.zipIdx.map (fun e => if e.2 < 4 && wbits (toW be.toNat) e.2 1 = 0 then ddrByte c (a + e.2) else e.1)

/-- A BAR2 request (R526, R542, R543): each piece by its own rights. -/
def bar2Request (c : Chip) (x dws : Nat) (be : BitVec 4) (write : Option (List Byte)) : Chip :=
  let n := 4 * dws
  let a := bar2Address c x
  let ps := splitPieces a n
  let w := write.isSome
  let ok := ps.all (fun p => ddrMay c 1 w p.1 p.2)
  match write with
  | none =>
    let l := ps.flatMap (fun p => memBytes c 1 p.1 p.2)
    pcieEnd (ps.foldl (fun c p => ddrNote c 1 false p.1 p.2) c) false l (if ok then 0 else 1)
  | some l =>
    let l := mergeFirst c a be (l.take n)
    pcieEnd (ps.foldl (fun c p => memWrite c 1 p.1 ((l.drop (p.1 - a)).take p.2)) c) true [] (if ok then 0 else 1)

/-- A request reaches the endpoint (R540, R542, R543): of 1 to 1,024 words read, or 1 to 128 written, within its BAR. -/
def pcieRequest (c : Chip) (bar2 : Bool) (off dws : Nat) (be : BitVec 4) (write : Option (List Byte)) : Chip :=
  let a := off / 4 * 4
  let fits := (if bar2 then a + 4 * dws ≤ 2 ^ 32 else a < 2 ^ 26) && dws != 0
    && (match write with
        | some l => l.length == 4 * dws && decide (dws ≤ 128)
        | none => decide (dws ≤ 1024))
  if !pcieUp c || !fits then c
  else if c.pcie.d3hot then pcieEnd c write.isSome [] 1
  else if bar2 then bar2Request c a dws be write
  else bar0Request c a dws be write

/-- The link comes up with a speed, a width and a bus number (R551, R556); `cfg`: MSI-X Enable, Function Mask, Bus Master
Enable, D3hot, as the host has set them. -/
def pcieLinkUp (c : Chip) (speed width bus : Nat) (cfg : BitVec 4) : Chip :=
  if speed = 0 || !([1, 2, 4, 8].contains width) then c
  else
    let v := toW cfg.toNat
    let c := { c with pcie := { c.pcie with enable := wbit v 0, funcMask := wbit v 1, busMaster := wbit v 2, d3hot := wbit v 3 },
                      glb := { c.glb with perst := false } }
    let c := wr c XBR_PCIE_STAT (toW (2 ^ 31 + speed * 2 ^ 28 + width * 2 ^ 24 + bus * 256))
    let c := raise c srcPCIE_LINK_UP 0
    if speed < 5 || width < 8 then raise c srcPCIE_SPEED 0 else c

/-- A pending message leaves once its conditions hold (R544). -/
def msixPendingSend (c : Chip) (v : Nat) : Chip :=
  if bitsAt c.pcie.pend.toNat v 1 = 1 && msixReady c v then msixEmit c v else c

/-! ### The SMBus target (R546–R549) -/

/-- Update of the SMBus target. -/
def modSmb (c : Chip) (f : Smb → Smb) : Chip := { c with smb := f c.smb }

/-- The status of the last access (R548). -/
def smbStatus (c : Chip) (n : Nat) : Chip := setFld c SBM_STAT_status n

/-- A response of the matrix as a status. -/
def respStatus (r : Nat) : Nat := if r = 0 then 0 else if r = 1 then 3 else 4

/-- A window access that the target answers itself (R501, R508, R548): its status. -/
def smbBarred (held : Bool) (c : Chip) (a : Nat) : Option Nat :=
  if held then some 2
  else if bootHalted c && decide (a < 2 ^ 26) && !reachable c a then some 3
  else none

/-- A read at the window address (R547). -/
def smbRead (held : Bool) (c : Chip) : Chip :=
  let a := c.smb.addr.toNat
  match smbBarred held c a with
  | some n => modSmb (smbStatus c n) (fun s => { s with data := 0 })
  | none =>
    let d := masterRead c 2 a
    modSmb (smbStatus d (respStatus d.readResp)) (fun s => { s with data := if d.readResp = 0 then d.readData else 0 })

/-- A write at the window address (R547); autoinc advances the address by 4. -/
def smbWrite (held : Bool) (c : Chip) (v : W) : Chip :=
  let a := c.smb.addr.toNat
  let d :=
    match smbBarred held c a with
    | some n => smbStatus c n
    | none =>
      let refused := refusesChange c a && reachable c a
      let d := masterWrite c 2 a 15 v
      smbStatus d (if refused then 7 else respStatus d.readResp)
  modSmb d (fun s => { s with addr := if s.autoinc then s.addr + 4 else s.addr })

/-- One step of the SMBus PEC, polynomial x^8 + x^2 + x + 1. -/
def pecBit (x : Nat) : Nat := if 128 ≤ x then (2 * x % 256) ^^^ 7 else 2 * x

/-- The PEC of a byte list. -/
def pecOf (l : List Byte) : Byte :=
  BitVec.ofNat 8 (l.foldl (fun x b => pecBit (pecBit (pecBit (pecBit (pecBit (pecBit (pecBit (pecBit (x ^^^ b.toNat)))))))))
    0)

/-- The bytes of a block read of command `code`: its count, its data and the PEC over the whole message (R546). -/
def blockRead (c : Chip) (code : Nat) (l : List Byte) : List Byte :=
  let a := fld c SBM_STAT_address
  let body := BitVec.ofNat 8 l.length :: l
  body ++ [pecOf ([BitVec.ofNat 8 (2 * a), BitVec.ofNat 8 code, BitVec.ofNat 8 (2 * a + 1)] ++ body)]

/-- A write command is NACKed and discarded: 5 for its PEC, 6 for its form (R547, R548). -/
def smbNack (c : Chip) (n : Nat) : Chip :=
  let c := modSmb (smbStatus c n) (fun s => { s with nack := true, out := [] })
  if n = 5 then raise (setB c SBM_STAT_pec_err true) srcSBM_PEC_ERR 0
  else raise (setB c SBM_STAT_proto true) srcSBM_PROTO 0

/-- A write command of `count` data bytes (R546, R547); `pec`: 0 none, 1 right, 2 wrong. -/
def smbCommand (c : Chip) (data : List Byte) (count pec : Nat) (k : Chip → Chip) : Chip :=
  if data.length != count then smbNack c 6
  else if pec = 2 || (pec = 0 && fldB c SBM_CTL_pec_req) then smbNack c 5
  else k (modSmb c (fun s => { s with nack := false, out := [] }))

/-- ADDR (R547). -/
def smbAddr (held : Bool) (c : Chip) (data : List Byte) (pec : Nat) : Chip :=
  smbCommand c data 5 pec (fun c =>
    let flags := leAt data 4 1
    let c := modSmb c (fun s => { s with addr := toW (leAt data 0 4), autoinc := bitsAt flags 1 1 == 1 })
    if bitsAt flags 0 1 = 1 then smbRead held c else c)

/-- READ returns the last read; with autoinc and status OK it starts a read at the next word (R547). -/
def smbReadCommand (held : Bool) (c : Chip) : Chip :=
  let st := fld c SBM_STAT_status
  let l := BitVec.ofNat 8 st :: leBytes 4 c.smb.data.toNat
  let c := modSmb c (fun s => { s with nack := false, out := blockRead c 0x12 l })
  if c.smb.autoinc && st = 0 then smbRead held (modSmb c (fun s => { s with addr := s.addr + 4 })) else c

/-- STATUS (R547). -/
def smbStatusCommand (c : Chip) : Chip :=
  modSmb c (fun s => { s with nack := false, out := [BitVec.ofNat 8 (fld c SBM_STAT_status)] })

/-- IDENT (R547). -/
def smbIdent (c : Chip) : Chip :=
  let l := leBytes 4 (rn c GLB_ID) ++ leBytes 4 (rn c SBM_STAT)
  modSmb c (fun s => { s with nack := false, out := blockRead c 0x14 l })

/-- SCL is held low for more than 25 ms (R546). -/
def smbTimeout (c : Chip) : Chip :=
  raise (modSmb (setB c SBM_STAT_timeout true) (fun s => { s with nack := false, out := [] })) srcSBM_TIMEOUT 0

/-- SB_ALERT_N is driven low (R549). -/
def sbAlertLow (c : Chip) : Bool := c.att.alertLow && fldB c SBM_CTL_sb_alert_en

/-- The Alert Response Address is read: the target answers with its own seven address bits while it alerts (R549). -/
def alertResponse (c : Chip) : Chip :=
  if sbAlertLow c then modSmb c (fun s => { s with nack := false, out := [BitVec.ofNat 8 (fld c SBM_STAT_address)] })
  else modSmb c (fun s => { s with nack := true, out := [] })

/-- An SMBus command (R546): the target does not serve in a COLD reset; the flag says that another reset is held. -/
def runSmb (s : State) (f : Bool → Chip → Chip) : Host.Outcome State Fault Refusal :=
  match s.held with
  | some .cold => .next s
  | h => .next { s with chip := f h.isSome s.chip }

/-! ### The commands -/

/-- MATRIX_GRANT (R527): the target, the requests that wait. -/
def execMatrixGrant (t : Fin 12) (reqs : List MatrixReq) (s : State) : Host.Outcome State Fault Refusal :=
  run s (matrixGrant · t reqs)

/-- MATRIX_RESPONSE (R530). -/
def execMatrixResponse (t : Fin 12) (err : Fin 4) (beat : BitVec 9) (s : State) : Host.Outcome State Fault Refusal :=
  run s (matrixResponse · t err beat.toNat)

/-- TARGET_TIMEOUT (R530). -/
def execTargetTimeout (t : Fin 12) (s : State) : Host.Outcome State Fault Refusal := run s (targetTimeout · t)

/-- MASTER_RESET (R531). -/
def execMasterReset (m : Fin 14) (beats : BitVec 10) (s : State) : Host.Outcome State Fault Refusal :=
  run s (masterReset · m beats.toNat)

/-- PATROL_SCRUB (R536). -/
def execPatrolScrub (a : BitVec 36) (bits : Fin 3) (s : State) : Host.Outcome State Fault Refusal :=
  run s (patrolScrub · a.toNat bits)

/-- DDR_RETRAIN (R534). -/
def execDdrRetrain (ch : Fin 4) (moved : Bool) (s : State) : Host.Outcome State Fault Refusal := run s (ddrRetrain · ch moved)

/-- REFRESH_DERATE (R534). -/
def execRefreshDerate (ch : Fin 4) (raised : Bool) (s : State) : Host.Outcome State Fault Refusal :=
  run s (refreshDerate · ch raised)

/-- BAR2_WIN_WRITE (R542). -/
def execBar2WinWrite (v : W) (s : State) : Host.Outcome State Fault Refusal := run s (plainWrite · XBR_BAR2_WIN v)

/-- PCIE_REQUEST (R542, R543). -/
def execPcieRequest (bar2 : Bool) (off : BitVec 32) (dws : BitVec 11) (be : BitVec 4) (write : Option (List Byte)) (s : State) :
    Host.Outcome State Fault Refusal := run s (pcieRequest · bar2 off.toNat dws.toNat be write)

/-- PCIE_LINK_UP (R556). -/
def execPcieLinkUp (speed : Fin 6) (width : BitVec 4) (bus : Byte) (cfg : BitVec 4) (s : State) :
    Host.Outcome State Fault Refusal := run s (pcieLinkUp · speed width.toNat bus.toNat cfg)

/-- PCIE_LINK_DOWN (R545). -/
def execPcieLinkDown (s : State) : Host.Outcome State Fault Refusal := run s pcieDown

/-- MSIX_PENDING_SEND (R544). -/
def execMsixPendingSend (vec : Byte) (s : State) : Host.Outcome State Fault Refusal := run s (msixPendingSend · vec.toNat)

/-- SMB_ADDR (R547). -/
def execSmbAddr (data : List Byte) (pec : Fin 3) (s : State) : Host.Outcome State Fault Refusal :=
  runSmb s (smbAddr · · data pec)

/-- SMB_WRITE (R547). -/
def execSmbWrite (data : List Byte) (pec : Fin 3) (s : State) : Host.Outcome State Fault Refusal :=
  runSmb s (fun h c => smbCommand c data 4 pec (smbWrite h · (toW (leAt data 0 4))))

/-- SMB_READ (R547). -/
def execSmbRead (s : State) : Host.Outcome State Fault Refusal := runSmb s smbReadCommand

/-- SMB_STATUS (R547). -/
def execSmbStatus (s : State) : Host.Outcome State Fault Refusal := runSmb s (fun _ => smbStatusCommand)

/-- SMB_IDENT (R547). -/
def execSmbIdent (s : State) : Host.Outcome State Fault Refusal := runSmb s (fun _ => smbIdent)

/-- SMBUS_TIMEOUT (R546). -/
def execSmbusTimeout (s : State) : Host.Outcome State Fault Refusal := runSmb s (fun _ => smbTimeout)

/-- ALERT_RESPONSE (R549). -/
def execAlertResponse (s : State) : Host.Outcome State Fault Refusal := runSmb s (fun _ => alertResponse)

end Sys2Proof.Machine
end

