-- ==== Sys2Proof/Machine/Jtag.lean ====
section
/-! DEFINITION. The TAP and the JTAG debug master (R622–R624), and the test multiplexer (R626). -/

namespace Sys2Proof.Machine

/-! ### The TAP (R623) -/

/-- The identification register: the stepping A1, 0x4608, the manufacturer's identity from fuses, and 1 (R623). -/
def idcodeWord : W := toW (2 ^ 28 + 0x4608 * 2 ^ 12 + (Config.jepIdentity 0).toNat * 2 + 1)

/-- The data register that an instruction connects, as far as the spec gives it: the identification register, and 0 for the bypass
bit; the content of the boundary-scan chain is in the BSDL description (R623). -/
def tapData (c : Chip) : Option W :=
  if c.jtag.ir = 1 then some idcodeWord
  else if [0x04, 0x05, 0xFF].contains c.jtag.ir then some 0
  else none

/-- An instruction is loaded (R622, R623): codes 0x03 to 0x07 and 0x20 act as BYPASS while TEST_EN = 0. -/
def tapLoad (c : Chip) (code : Nat) : Chip :=
  let guarded := (3 ≤ code && code ≤ 7) || code == 0x20
  let ir := if guarded && !fldB c TMX_STAT_test_en then 0xFF else code
  { c with jtag := { c.jtag with
      ir := ir, drives := ir == 3 || ir == 4 || ir == 6 || ir == 7, highZ := ir == 5 } }

/-! ### The debug master (R624) -/

/-- The first access after the debug master becomes enabled raises TMX_DEBUG. -/
def jtagFirst (c : Chip) : Chip :=
  if c.jtag.seen then c else raise { c with jtag := { c.jtag with seen := true } } srcTMX_DEBUG 0

/-- A write of a state-change register in a device with twin_en = 1 is ignored (R624). -/
def jtagReject (c : Chip) : Chip := raise (setB c TMX_STAT_jtag_reject true) srcTMX_JTAG_REJECT 0

/-- An access of LPDDR6 or of region 2 by the debug master (R522, R537, R624): a write acts at P + 2. -/
def jtagMemory (c : Chip) (a : Nat) (write : Option W) : Chip :=
  let q : MatrixReq := ⟨13, a, 4, write.map (fun v => leBytes 4 v.toNat)⟩
  match matrixTarget c 13 a with
  | none => respondZero (matrixError c 1 13 15 write.isSome a 0) 1
  | some t =>
    match write with
    | some v =>
      if (t < 4 && !ddrMay c 13 true (a % 2 ^ 36) 4) || t = 10 then respond (matrixError c 1 13 t true a 0) 1
      else respond (lateWrite c 13 a v) 0
    | none =>
      if t < 4 && !ddrMay c 13 false (a % 2 ^ 36) 4 then respondZero (matrixError c 1 13 t false a 0) 1
      else answer c (toW (leNat (targetBytes c t q)))

/-- The debug master makes a 32-bit access at a matrix address (R624); without access nothing happens. -/
def jtagAccess (c : Chip) (a : Nat) (write : Option W) : Chip :=
  if !jtagOn c then c
  else
    let c := jtagFirst c
    let off := a % 2 ^ 36
    if a / 2 ^ 36 != 1 then jtagMemory c a write
    else
      match write with
      | some v => if isTwin c && isChange c off then jtagReject c else masterWrite c 13 off 15 v
      | none => masterRead c 13 off

/-! ### The test multiplexer (R626) -/

/-- A step boundary is the present one. -/
def stepNow (c : Chip) : Bool := c.lpe.open_.any (fun e => e.2 == period c)

/-- A step has not settled (R167, R626): a changed cell of a step that has begun has no settling sample yet. -/
def settling (c : Chip) : Bool :=
  c.lpe.open_.any (fun e => due c e.2 && (changedCells c e.1 e.2).any (fun s => s.2.settled == 0))

/-- The signal of a code and an index at a phase of the period (R626). -/
def testSignal (c : Chip) (code index phase : Nat) : Bool :=
  if code = 1 then decide (phase ≤ 15)
  else if code = 2 then stepNow c
  else if code = 3 then settling c
  else if code = 4 then (usedGalleries c).contains index && decide (4 ≤ phase) && decide (phase ≤ 168)
  else if code = 5 then linkState c index == 6
  else if code = 6 then (linkOf c index).heard
  else if code = 7 then severeRuns c
  else if code = 8 then acting c
  else if code = 9 then c.aux.conv.isSome
  else if code = 10 then fld c DOC_STAT_state != 0
  else false

/-- TESTOUT[i] at a phase of the period; none is high-impedance (R611, R625, R626). -/
def testOut (s : State) (i phase : Nat) : Option Bool :=
  if s.held.isSome || !fldB s.chip TMX_CTL_out_en then none
  else some (testSignal s.chip (wbits (rd s.chip (TMX_SEL i)) 8 8) (wbits (rd s.chip (TMX_SEL i)) 0 8) phase)

/-- An instruction of the TAP acts whatever state the device is in. -/
def runTap (s : State) (f : Chip → Chip) : Host.Outcome State Fault Refusal := .next { s with chip := f s.chip }

/-! ### The commands -/

/-- IDCODE (R623). -/
def execIdcodeIr (s : State) : Host.Outcome State Fault Refusal := runTap s (tapLoad · 0x01)

/-- SAMPLE_PRELOAD (R623). -/
def execSamplePreload (s : State) : Host.Outcome State Fault Refusal := runTap s (tapLoad · 0x02)

/-- EXTEST (R623). -/
def execExtestIr (s : State) : Host.Outcome State Fault Refusal := runTap s (tapLoad · 0x03)

/-- CLAMP (R623). -/
def execClampIr (s : State) : Host.Outcome State Fault Refusal := runTap s (tapLoad · 0x04)

/-- HIGHZ (R623). -/
def execHighzIr (s : State) : Host.Outcome State Fault Refusal := runTap s (tapLoad · 0x05)

/-- EXTEST_PULSE (R623). -/
def execExtestPulse (s : State) : Host.Outcome State Fault Refusal := runTap s (tapLoad · 0x06)

/-- EXTEST_TRAIN (R623). -/
def execExtestTrain (s : State) : Host.Outcome State Fault Refusal := runTap s (tapLoad · 0x07)

/-- DEBUG (R623). -/
def execDebugIr (s : State) : Host.Outcome State Fault Refusal := runTap s (tapLoad · 0x20)

/-- BYPASS (R623). -/
def execBypassIr (s : State) : Host.Outcome State Fault Refusal := runTap s (tapLoad · 0xFF)

/-- JTAG_DEBUG_ACCESS (R624): the matrix address, the value of a write. -/
def execJtagDebugAccess (a : BitVec 40) (write : Option W) (s : State) : Host.Outcome State Fault Refusal :=
  run s (jtagAccess · a.toNat write)

end Sys2Proof.Machine
end

