-- ==== Sys2Proof/Machine/Boundary.lean ====
section
/-! DEFINITION. The period boundary: what every block does as the period number advances (R59), and the adjustment of network
time that acts at one (R65, R241). -/

namespace Sys2Proof.Machine

/-- The samples and neighbour codes of the period that ends become those the next computation is taken from (R107, R110). -/
def shiftInputs (c : Chip) : Chip :=
  { c with lpe := { c.lpe with ring := c.lpe.ringNew, taps := c.lpe.tapsNew, tapsNew := [] } }

/-- A twin that restarts under FULL at the next boundary leaves the pair in the present period (R503). -/
def restartLeaves (c : Chip) : Chip :=
  match c.glb.restart with
  | some (v, e) => if wbits v 29 2 = 1 && e == period c + 1 then leavePair c else c
  | none => c

/-- Start actions at a boundary (R517): they begin once asked for by an acting device, and go on. -/
def startPeriod (c : Chip) : Chip :=
  let c := if c.glb.startWanted && acting c then beginStart c else c
  startJudge (startEnables c)

/-- Time runs to the next boundary, the writes of WRB and the debug master act before the device sets a bit there (R14, R177),
and the twin and the tile links close their period (R59, R300, R301, R341). -/
def boundaryLinks (c : Chip) : Chip :=
  let c := applyLates (shiftInputs (toBoundary (twinBefore c)))
  markLinks (linkEffects (linksPeriod (restartLeaves (twinAfter c))))

/-- What has waited for the boundary comes into force (R57, R118, R155, R176, R219, R343). -/
def boundaryEffects (c : Chip) : Chip := switchCounts (countPeriod (deleteEffect (shapeCommit (applyDue c))))

/-- The blocks' work at a boundary (R225, R251, R262, R384, R422, R453, R561, R569, R585). -/
def boundaryWork (c : Chip) (temp : BitVec 16) : Chip :=
  let c := curatorPeriod (showPosition (formDueList c))
  let c := cnsWindowBoundary (policerRefill (ledgerTake c))
  dacSines (measureTemp (powerPeriod c) temp)

/-- A period boundary (R59); `temp`: the hottest die sensor in the units of PDM_TEMP (R569). -/
def periodBoundary (c : Chip) (temp : BitVec 16) : Chip :=
  let c := boundaryWork (boundaryEffects (boundaryLinks c)) temp
  startPeriod (showPins (heartbeat (liveBits c)))

/-- An adjustment of network time takes effect; at a step boundary the programme engine is told of the step, and the gate
lists go to their new positions (R65, R67, R241, R444). -/
def adjustmentStep (c : Chip) : Chip :=
  let d := adjustmentEffect c
  let moved := tdiff d.tmr.bndNs c.tmr.bndNs
  if moved = 0 then d else gateStep (programmeTimeStep d (moved / 250))

/-! ### The commands -/

/-- PERIOD_BOUNDARY (R59). -/
def execPeriodBoundary (temp : BitVec 16) (s : State) : Host.Outcome State Fault Refusal := run s (periodBoundary · temp)

/-- ADJUSTMENT_EFFECT (R65). -/
def execAdjustmentEffect (s : State) : Host.Outcome State Fault Refusal := run s adjustmentStep

end Sys2Proof.Machine
end

