-- ==== Sys2Proof/Machine/Dispatch.lean ====
section
/-! DEFINITION. exec: one arm per command of Sys2Proof.Instr, each a direct call of the command's meaning. -/

namespace Sys2Proof.Machine

def exec (i : Instr) (s : State) : Host.Outcome State Fault Refusal :=
  match i with
  | .periodBoundary temp => Sys2Proof.Machine.execPeriodBoundary temp s
  | .registerWrite m addr be v => Sys2Proof.Machine.execRegisterWrite m addr be v s
  | .clearOnRead m addr => Sys2Proof.Machine.execClearOnRead m addr s
  | .incStage v => Sys2Proof.Machine.execIncStage v s
  | .incCommit v => Sys2Proof.Machine.execIncCommit v s
  | .timeWriteEffect => Sys2Proof.Machine.execTimeWriteEffect s
  | .adjGo v => Sys2Proof.Machine.execAdjGo v s
  | .todArm v => Sys2Proof.Machine.execTodArm v s
  | .adjustmentEffect => Sys2Proof.Machine.execAdjustmentEffect s
  | .slewCorrection => Sys2Proof.Machine.execSlewCorrection s
  | .timeReadLatch => Sys2Proof.Machine.execTimeReadLatch s
  | .ppsInEdge tick highNs => Sys2Proof.Machine.execPpsInEdge tick highNs s
  | .ppsInRead => Sys2Proof.Machine.execPpsInRead s
  | .ppsOutRise tick => Sys2Proof.Machine.execPpsOutRise tick s
  | .ppsOutFall tick => Sys2Proof.Machine.execPpsOutFall tick s
  | .txtsPop p => Sys2Proof.Machine.execTxtsPop p s
  | .galleryCompute => Sys2Proof.Machine.execGalleryCompute s
  | .neighbourRing bad => Sys2Proof.Machine.execNeighbourRing bad s
  | .bankCommit g => Sys2Proof.Machine.execBankCommit g s
  | .stagingBankWrite g w v => Sys2Proof.Machine.execStagingBankWrite g w v s
  | .lawWindowWrite off v => Sys2Proof.Machine.execLawWindowWrite off v s
  | .settleReport g => Sys2Proof.Machine.execSettleReport g s
  | .cellCmdNop g w => Sys2Proof.Machine.execCellCmdNop g w s
  | .enable g w => Sys2Proof.Machine.execEnable g w s
  | .disable g w => Sys2Proof.Machine.execDisable g w s
  | .hold g w => Sys2Proof.Machine.execHold g w s
  | .resume g w => Sys2Proof.Machine.execResume g w s
  | .cellCmdEffect g => Sys2Proof.Machine.execCellCmdEffect g s
  | .trimWrite g j v => Sys2Proof.Machine.execTrimWrite g j v s
  | .invNop w => Sys2Proof.Machine.execInvNop w s
  | .markStuck w => Sys2Proof.Machine.execMarkStuck w s
  | .clearStuck w => Sys2Proof.Machine.execClearStuck w s
  | .clearHist w => Sys2Proof.Machine.execClearHist w s
  | .clearSw w => Sys2Proof.Machine.execClearSw w s
  | .invCmdEffect => Sys2Proof.Machine.execInvCmdEffect s
  | .targetSwap => Sys2Proof.Machine.execTargetSwap s
  | .targetRevert => Sys2Proof.Machine.execTargetRevert s
  | .microwordFetch => Sys2Proof.Machine.execMicrowordFetch s
  | .opNop => Sys2Proof.Machine.execOpNop s
  | .aluAdd => Sys2Proof.Machine.execAluAdd s
  | .aluSubtract => Sys2Proof.Machine.execAluSubtract s
  | .aluAnd => Sys2Proof.Machine.execAluAnd s
  | .aluOr => Sys2Proof.Machine.execAluOr s
  | .aluXor => Sys2Proof.Machine.execAluXor s
  | .aluShiftLeft => Sys2Proof.Machine.execAluShiftLeft s
  | .aluShiftRight => Sys2Proof.Machine.execAluShiftRight s
  | .aluMove => Sys2Proof.Machine.execAluMove s
  | .aluCompare => Sys2Proof.Machine.execAluCompare s
  | .lds => Sys2Proof.Machine.execLds s
  | .sts => Sys2Proof.Machine.execSts s
  | .rdb late => Sys2Proof.Machine.execRdb late s
  | .wrb late => Sys2Proof.Machine.execWrb late s
  | .getp => Sys2Proof.Machine.execGetp s
  | .lookup => Sys2Proof.Machine.execLookup s
  | .loadt => Sys2Proof.Machine.execLoadt s
  | .swapat => Sys2Proof.Machine.execSwapat s
  | .revert => Sys2Proof.Machine.execRevert s
  | .copyp => Sys2Proof.Machine.execCopyp s
  | .sett => Sys2Proof.Machine.execSett s
  | .shape => Sys2Proof.Machine.execShape s
  | .shrst => Sys2Proof.Machine.execShrst s
  | .collect => Sys2Proof.Machine.execCollect s
  | .epoch => Sys2Proof.Machine.execEpoch s
  | .charq => Sys2Proof.Machine.execCharq s
  | .evt => Sys2Proof.Machine.execEvt s
  | .docDone => Sys2Proof.Machine.execDocDone s
  | .vitrig => Sys2Proof.Machine.execVitrig s
  | .longOpEnd => Sys2Proof.Machine.execLongOpEnd s
  | .seqNext => Sys2Proof.Machine.execSeqNext s
  | .jump => Sys2Proof.Machine.execJump s
  | .call => Sys2Proof.Machine.execCall s
  | .ret => Sys2Proof.Machine.execRet s
  | .brt => Sys2Proof.Machine.execBrt s
  | .brf => Sys2Proof.Machine.execBrf s
  | .dispatchCmd => Sys2Proof.Machine.execDispatchCmd s
  | .halt => Sys2Proof.Machine.execHalt s
  | .periodWaitEnd => Sys2Proof.Machine.execPeriodWaitEnd s
  | .docCmdWrite v => Sys2Proof.Machine.execDocCmdWrite v s
  | .docCmdEnqueue => Sys2Proof.Machine.execDocCmdEnqueue s
  | .apply => Sys2Proof.Machine.execApply s
  | .setTarget => Sys2Proof.Machine.execSetTarget s
  | .shapeSet => Sys2Proof.Machine.execShapeSet s
  | .shapeRestore => Sys2Proof.Machine.execShapeRestore s
  | .charSweep => Sys2Proof.Machine.execCharSweep s
  | .vitMark => Sys2Proof.Machine.execVitMark s
  | .resetEntry => Sys2Proof.Machine.execResetEntry s
  | .idleLoop => Sys2Proof.Machine.execIdleLoop s
  | .abortTail => Sys2Proof.Machine.execAbortTail s
  | .urgHold => Sys2Proof.Machine.execUrgHold s
  | .urgStop => Sys2Proof.Machine.execUrgStop s
  | .partialHandler => Sys2Proof.Machine.execPartialHandler s
  | .docUrgWrite v => Sys2Proof.Machine.execDocUrgWrite v s
  | .urgPending => Sys2Proof.Machine.execUrgPending s
  | .docUrgLate => Sys2Proof.Machine.execDocUrgLate s
  | .docAbort v => Sys2Proof.Machine.execDocAbort v s
  | .abortResolve => Sys2Proof.Machine.execAbortResolve s
  | .runLimitExpiry => Sys2Proof.Machine.execRunLimitExpiry s
  | .docEpochReq v => Sys2Proof.Machine.execDocEpochReq v s
  | .epochPrepare => Sys2Proof.Machine.execEpochPrepare s
  | .epochDecide => Sys2Proof.Machine.execEpochDecide s
  | .epochCommit => Sys2Proof.Machine.execEpochCommit s
  | .epochStray t => Sys2Proof.Machine.execEpochStray t s
  | .custLoad v => Sys2Proof.Machine.execCustLoad v s
  | .custRegionOpen => Sys2Proof.Machine.execCustRegionOpen s
  | .controlStoreWrite off v => Sys2Proof.Machine.execControlStoreWrite off v s
  | .custCommit v => Sys2Proof.Machine.execCustCommit v s
  | .custCheckDone => Sys2Proof.Machine.execCustCheckDone s
  | .accede w => Sys2Proof.Machine.execAccede w s
  | .delete w => Sys2Proof.Machine.execDelete w s
  | .fetch w => Sys2Proof.Machine.execFetch w s
  | .arsCmdEffect => Sys2Proof.Machine.execArsCmdEffect s
  | .accessionStored => Sys2Proof.Machine.execAccessionStored s
  | .fillStart => Sys2Proof.Machine.execFillStart s
  | .fillComplete bad => Sys2Proof.Machine.execFillComplete bad s
  | .storeCopyDone e => Sys2Proof.Machine.execStoreCopyDone e s
  | .pageLate => Sys2Proof.Machine.execPageLate s
  | .load w => Sys2Proof.Machine.execLoad w s
  | .check w => Sys2Proof.Machine.execCheck w s
  | .start w => Sys2Proof.Machine.execStart w s
  | .stage w => Sys2Proof.Machine.execStage w s
  | .stop w => Sys2Proof.Machine.execStop w s
  | .clear w => Sys2Proof.Machine.execClear w s
  | .stepMemoryWrite off v => Sys2Proof.Machine.execStepMemoryWrite off v s
  | .programmeOrigin => Sys2Proof.Machine.execProgrammeOrigin s
  | .stageSwap => Sys2Proof.Machine.execStageSwap s
  | .programmeStop => Sys2Proof.Machine.execProgrammeStop s
  | .programmeEnd => Sys2Proof.Machine.execProgrammeEnd s
  | .residencyTest => Sys2Proof.Machine.execResidencyTest s
  | .keeperResidencyTest => Sys2Proof.Machine.execKeeperResidencyTest s
  | .stepCompletion => Sys2Proof.Machine.execStepCompletion s
  | .timeStepRejoin => Sys2Proof.Machine.execTimeStepRejoin s
  | .announcement => Sys2Proof.Machine.execAnnouncement s
  | .curModeWrite v => Sys2Proof.Machine.execCurModeWrite v s
  | .curModeEffect => Sys2Proof.Machine.execCurModeEffect s
  | .demandReport => Sys2Proof.Machine.execDemandReport s
  | .curatorEpoch => Sys2Proof.Machine.execCuratorEpoch s
  | .carrySweepEnd => Sys2Proof.Machine.execCarrySweepEnd s
  | .curCmdEnqueue v => Sys2Proof.Machine.execCurCmdEnqueue v s
  | .connect => Sys2Proof.Machine.execConnect s
  | .disconnect => Sys2Proof.Machine.execDisconnect s
  | .curClear => Sys2Proof.Machine.execCurClear s
  | .loadPerm => Sys2Proof.Machine.execLoadPerm s
  | .loadArr => Sys2Proof.Machine.execLoadArr s
  | .curApply => Sys2Proof.Machine.execCurApply s
  | .cacheWriteEnd => Sys2Proof.Machine.execCacheWriteEnd s
  | .curDocQueuePlace => Sys2Proof.Machine.execCurDocQueuePlace s
  | .curDocRecord => Sys2Proof.Machine.execCurDocRecord s
  | .curDonePop => Sys2Proof.Machine.execCurDonePop s
  | .docDonePop => Sys2Proof.Machine.execDocDonePop s
  | .echo t tag offset arrival errs => Sys2Proof.Machine.execEcho t tag offset arrival errs s
  | .downlinkFrame t => Sys2Proof.Machine.execDownlinkFrame t s
  | .uplinkFrame t tag resv data errs other onTime => Sys2Proof.Machine.execUplinkFrame t tag resv data errs other onTime s
  | .svcWrite v => Sys2Proof.Machine.execSvcWrite v s
  | .svcRead v => Sys2Proof.Machine.execSvcRead v s
  | .writeAck t frame errs => Sys2Proof.Machine.execWriteAck t frame errs s
  | .readData t frame errs => Sys2Proof.Machine.execReadData t frame errs s
  | .svcError t frame errs => Sys2Proof.Machine.execSvcError t frame errs s
  | .svcTimeout => Sys2Proof.Machine.execSvcTimeout s
  | .bringup t v => Sys2Proof.Machine.execBringup t v s
  | .linkDown t v => Sys2Proof.Machine.execLinkDown t v s
  | .prbs t v => Sys2Proof.Machine.execPrbs t v s
  | .trainDone t errs => Sys2Proof.Machine.execTrainDone t errs s
  | .alignDone t => Sys2Proof.Machine.execAlignDone t s
  | .identDone t frame errs => Sys2Proof.Machine.execIdentDone t frame errs s
  | .configDone t frame errs => Sys2Proof.Machine.execConfigDone t frame errs s
  | .armDone t => Sys2Proof.Machine.execArmDone t s
  | .bringupStepTimeout t => Sys2Proof.Machine.execBringupStepTimeout t s
  | .bringupRetry t => Sys2Proof.Machine.execBringupRetry t s
  | .linkResync t => Sys2Proof.Machine.execLinkResync t s
  | .resyncTimeout t => Sys2Proof.Machine.execResyncTimeout t s
  | .dlFault t => Sys2Proof.Machine.execDlFault t s
  | .rttHigh t => Sys2Proof.Machine.execRttHigh t s
  | .prbsEnd t ul dl => Sys2Proof.Machine.execPrbsEnd t ul dl s
  | .twinTick p peerOffset arr stray => Sys2Proof.Machine.execTwinTick p peerOffset arr stray s
  | .prec data => Sys2Proof.Machine.execPrec data s
  | .precRenew => Sys2Proof.Machine.execPrecRenew s
  | .precRelease => Sys2Proof.Machine.execPrecRelease s
  | .precHandover => Sys2Proof.Machine.execPrecHandover s
  | .precLeave => Sys2Proof.Machine.execPrecLeave s
  | .journal data => Sys2Proof.Machine.execJournal data s
  | .relay data => Sys2Proof.Machine.execRelay data s
  | .tileCopy data => Sys2Proof.Machine.execTileCopy data s
  | .bulk data => Sys2Proof.Machine.execBulk data s
  | .joinId id good => Sys2Proof.Machine.execJoinId id good s
  | .urgReq data => Sys2Proof.Machine.execUrgReq data s
  | .reg => Sys2Proof.Machine.execReg s
  | .arr => Sys2Proof.Machine.execArr s
  | .resid => Sys2Proof.Machine.execResid s
  | .urgent => Sys2Proof.Machine.execUrgent s
  | .doccmd => Sys2Proof.Machine.execDoccmd s
  | .fw => Sys2Proof.Machine.execFw s
  | .csImage => Sys2Proof.Machine.execCsImage s
  | .snap part => Sys2Proof.Machine.execSnap part s
  | .commit => Sys2Proof.Machine.execCommit s
  | .partnerHbEdge tick => Sys2Proof.Machine.execPartnerHbEdge tick s
  | .partnerHbLost => Sys2Proof.Machine.execPartnerHbLost s
  | .loanRenew => Sys2Proof.Machine.execLoanRenew s
  | .loanLost => Sys2Proof.Machine.execLoanLost s
  | .loanTaken => Sys2Proof.Machine.execLoanTaken s
  | .fwAlive v => Sys2Proof.Machine.execFwAlive v s
  | .handover v => Sys2Proof.Machine.execHandover v s
  | .handoverBoundary => Sys2Proof.Machine.execHandoverBoundary s
  | .leave v => Sys2Proof.Machine.execLeave v s
  | .join v => Sys2Proof.Machine.execJoin v s
  | .twinLinkLoss lane => Sys2Proof.Machine.execTwinLinkLoss lane s
  | .twinVerdict => Sys2Proof.Machine.execTwinVerdict s
  | .repairReplay t => Sys2Proof.Machine.execRepairReplay t s
  | .joinWaitExpiry => Sys2Proof.Machine.execJoinWaitExpiry s
  | .joinStepDone => Sys2Proof.Machine.execJoinStepDone s
  | .joinStepTimeout => Sys2Proof.Machine.execJoinStepTimeout s
  | .joinSnapshot => Sys2Proof.Machine.execJoinSnapshot s
  | .csStage v => Sys2Proof.Machine.execCsStage v s
  | .csSwap v => Sys2Proof.Machine.execCsSwap v s
  | .csSwapCopy => Sys2Proof.Machine.execCsSwapCopy s
  | .csSwapFailed => Sys2Proof.Machine.execCsSwapFailed s
  | .fwSend v => Sys2Proof.Machine.execFwSend v s
  | .ditherIntegrate => Sys2Proof.Machine.execDitherIntegrate s
  | .lockinWindowEnd => Sys2Proof.Machine.execLockinWindowEnd s
  | .estimatesDone => Sys2Proof.Machine.execEstimatesDone s
  | .cnsGalleryCommit g => Sys2Proof.Machine.execCnsGalleryCommit g s
  | .calibrationRecordWrite bad => Sys2Proof.Machine.execCalibrationRecordWrite bad s
  | .cnsCommit v => Sys2Proof.Machine.execCnsCommit v s
  | .charExamine n => Sys2Proof.Machine.execCharExamine n s
  | .charPointEnd n => Sys2Proof.Machine.execCharPointEnd n s
  | .charRelease n v => Sys2Proof.Machine.execCharRelease n v s
  | .charEntryExpiry n => Sys2Proof.Machine.execCharEntryExpiry n s
  | .portCtlWrite n v => Sys2Proof.Machine.execPortCtlWrite n v s
  | .portRestart n receiving => Sys2Proof.Machine.execPortRestart n receiving s
  | .portLinkUp n => Sys2Proof.Machine.execPortLinkUp n s
  | .portLinkDown n cause receiving => Sys2Proof.Machine.execPortLinkDown n cause receiving s
  | .anFail n => Sys2Proof.Machine.execAnFail n s
  | .frameReceive n tick data fcsOk fecCorr fecUncorr => Sys2Proof.Machine.execFrameReceive n tick data fcsOk fecCorr fecUncorr s
  | .firstPass n => Sys2Proof.Machine.execFirstPass n s
  | .secondPass n => Sys2Proof.Machine.execSecondPass n s
  | .ringSlotWrite q => Sys2Proof.Machine.execRingSlotWrite q s
  | .consWrite q v => Sys2Proof.Machine.execConsWrite q v s
  | .pktSwap v => Sys2Proof.Machine.execPktSwap v s
  | .ruleSetSwap => Sys2Proof.Machine.execRuleSetSwap s
  | .bankRetire => Sys2Proof.Machine.execBankRetire s
  | .pktCopy v => Sys2Proof.Machine.execPktCopy v s
  | .shadowBankWrite off v => Sys2Proof.Machine.execShadowBankWrite off v s
  | .policerWrite n depth v => Sys2Proof.Machine.execPolicerWrite n depth v s
  | .queueShareWrite q v => Sys2Proof.Machine.execQueueShareWrite q v s
  | .octetRead n => Sys2Proof.Machine.execOctetRead n s
  | .ringProdWrite n r v => Sys2Proof.Machine.execRingProdWrite n r v s
  | .descriptorTake n r => Sys2Proof.Machine.execDescriptorTake n r s
  | .transmitStart n tick => Sys2Proof.Machine.execTransmitStart n tick s
  | .transmitEnd n tick => Sys2Proof.Machine.execTransmitEnd n tick s
  | .gclCommit n v => Sys2Proof.Machine.execGclCommit n v s
  | .gclSwitch n tick => Sys2Proof.Machine.execGclSwitch n tick s
  | .gateEntryChange n tick => Sys2Proof.Machine.execGateEntryChange n tick s
  | .eventLatch => Sys2Proof.Machine.execEventLatch s
  | .persistWindowEnd src => Sys2Proof.Machine.execPersistWindowEnd src s
  | .sevAck v => Sys2Proof.Machine.execSevAck v s
  | .sevAckEffect => Sys2Proof.Machine.execSevAckEffect s
  | .escalation => Sys2Proof.Machine.execEscalation s
  | .injection v => Sys2Proof.Machine.execInjection v s
  | .parityScan bad => Sys2Proof.Machine.execParityScan bad s
  | .safeStateEntry => Sys2Proof.Machine.execSafeStateEntry s
  | .eventRecordClose => Sys2Proof.Machine.execEventRecordClose s
  | .logCopy n => Sys2Proof.Machine.execLogCopy n s
  | .vaultHeld => Sys2Proof.Machine.execVaultHeld s
  | .vaultRelease v => Sys2Proof.Machine.execVaultRelease v s
  | .fwRecordSubmit v => Sys2Proof.Machine.execFwRecordSubmit v s
  | .alarmWindowEnd => Sys2Proof.Machine.execAlarmWindowEnd s
  | .alarmSend => Sys2Proof.Machine.execAlarmSend s
  | .ledgerExport => Sys2Proof.Machine.execLedgerExport s
  | .vitrineInEdge => Sys2Proof.Machine.execVitrineInEdge s
  | .vitTrig v => Sys2Proof.Machine.execVitTrig v s
  | .vitrineCapture => Sys2Proof.Machine.execVitrineCapture s
  | .vitrineCopyDone bad => Sys2Proof.Machine.execVitrineCopyDone bad s
  | .vitExport v => Sys2Proof.Machine.execVitExport v s
  | .vitrineExportFrame => Sys2Proof.Machine.execVitrineExportFrame s
  | .coldReset => Sys2Proof.Machine.execColdReset s
  | .pinReset => Sys2Proof.Machine.execPinReset s
  | .resetRelease straps w => Sys2Proof.Machine.execResetRelease straps w s
  | .startArrApply => Sys2Proof.Machine.execStartArrApply s
  | .autostart => Sys2Proof.Machine.execAutostart s
  | .fullRestart v => Sys2Proof.Machine.execFullRestart v s
  | .fwRestart v => Sys2Proof.Machine.execFwRestart v s
  | .restartEffect w => Sys2Proof.Machine.execRestartEffect w s
  | .wdtKick v => Sys2Proof.Machine.execWdtKick v s
  | .watchdogExpiry => Sys2Proof.Machine.execWatchdogExpiry s
  | .perstReset => Sys2Proof.Machine.execPerstReset s
  | .nvlRead v => Sys2Proof.Machine.execNvlRead v s
  | .nvlProgram v => Sys2Proof.Machine.execNvlProgram v s
  | .nvlErase v => Sys2Proof.Machine.execNvlErase v s
  | .nvlDone bad => Sys2Proof.Machine.execNvlDone bad s
  | .svnCommit v => Sys2Proof.Machine.execSvnCommit v s
  | .matrixGrant t reqs => Sys2Proof.Machine.execMatrixGrant t reqs s
  | .matrixResponse t err beat => Sys2Proof.Machine.execMatrixResponse t err beat s
  | .targetTimeout t => Sys2Proof.Machine.execTargetTimeout t s
  | .masterReset m beats => Sys2Proof.Machine.execMasterReset m beats s
  | .patrolScrub a bits => Sys2Proof.Machine.execPatrolScrub a bits s
  | .ddrRetrain ch moved => Sys2Proof.Machine.execDdrRetrain ch moved s
  | .bar2WinWrite v => Sys2Proof.Machine.execBar2WinWrite v s
  | .pcieRequest bar2 off dws be write => Sys2Proof.Machine.execPcieRequest bar2 off dws be write s
  | .pcieLinkUp speed width bus cfg => Sys2Proof.Machine.execPcieLinkUp speed width bus cfg s
  | .pcieLinkDown => Sys2Proof.Machine.execPcieLinkDown s
  | .msixPendingSend vec => Sys2Proof.Machine.execMsixPendingSend vec s
  | .smbAddr data pec => Sys2Proof.Machine.execSmbAddr data pec s
  | .smbWrite data pec => Sys2Proof.Machine.execSmbWrite data pec s
  | .smbRead => Sys2Proof.Machine.execSmbRead s
  | .smbStatus => Sys2Proof.Machine.execSmbStatus s
  | .smbIdent => Sys2Proof.Machine.execSmbIdent s
  | .smbusTimeout => Sys2Proof.Machine.execSmbusTimeout s
  | .alertResponse => Sys2Proof.Machine.execAlertResponse s
  | .domainOn d v => Sys2Proof.Machine.execDomainOn d v s
  | .domainOff d v => Sys2Proof.Machine.execDomainOff d v s
  | .domainSwitch d => Sys2Proof.Machine.execDomainSwitch d s
  | .domainOffDone d => Sys2Proof.Machine.execDomainOffDone d s
  | .domainOnDone d => Sys2Proof.Machine.execDomainOnDone d s
  | .domainFault d => Sys2Proof.Machine.execDomainFault d s
  | .asmUp v => Sys2Proof.Machine.execAsmUp v s
  | .asmDown v => Sys2Proof.Machine.execAsmDown v s
  | .asmClear v => Sys2Proof.Machine.execAsmClear v s
  | .seqGroupDone => Sys2Proof.Machine.execSeqGroupDone s
  | .seqGroupTimeout => Sys2Proof.Machine.execSeqGroupTimeout s
  | .pmbWriteByte v => Sys2Proof.Machine.execPmbWriteByte v s
  | .pmbWriteWord v => Sys2Proof.Machine.execPmbWriteWord v s
  | .pmbReadByte v => Sys2Proof.Machine.execPmbReadByte v s
  | .pmbReadWord v => Sys2Proof.Machine.execPmbReadWord v s
  | .pmbTransactionDone res data => Sys2Proof.Machine.execPmbTransactionDone res data s
  | .pmbPoll status vout iout temp => Sys2Proof.Machine.execPmbPoll status vout iout temp s
  | .pmbAlert => Sys2Proof.Machine.execPmbAlert s
  | .railFaultDown => Sys2Proof.Machine.execRailFaultDown s
  | .pdmTempCrit => Sys2Proof.Machine.execPdmTempCrit s
  | .adcSeqGo n v => Sys2Proof.Machine.execAdcSeqGo n v s
  | .adcTimerTrigger n => Sys2Proof.Machine.execAdcTimerTrigger n s
  | .adcUrgent v => Sys2Proof.Machine.execAdcUrgent v s
  | .adcConversionDone code ovr => Sys2Proof.Machine.execAdcConversionDone code ovr s
  | .adcPowerDown => Sys2Proof.Machine.execAdcPowerDown s
  | .adcResultPop => Sys2Proof.Machine.execAdcResultPop s
  | .trimGo v => Sys2Proof.Machine.execTrimGo v s
  | .trimInterval => Sys2Proof.Machine.execTrimInterval s
  | .trimDone ok offset gain hi lo => Sys2Proof.Machine.execTrimDone ok offset gain hi lo s
  | .dacCode k v => Sys2Proof.Machine.execDacCode k v s
  | .dacRange k v => Sys2Proof.Machine.execDacRange k v s
  | .dacChangeDone k => Sys2Proof.Machine.execDacChangeDone k s
  | .tecStep => Sys2Proof.Machine.execTecStep s
  | .tecEvt v => Sys2Proof.Machine.execTecEvt v s
  | .idcodeIr => Sys2Proof.Machine.execIdcodeIr s
  | .samplePreload => Sys2Proof.Machine.execSamplePreload s
  | .extestIr => Sys2Proof.Machine.execExtestIr s
  | .clampIr => Sys2Proof.Machine.execClampIr s
  | .highzIr => Sys2Proof.Machine.execHighzIr s
  | .extestPulse => Sys2Proof.Machine.execExtestPulse s
  | .extestTrain => Sys2Proof.Machine.execExtestTrain s
  | .debugIr => Sys2Proof.Machine.execDebugIr s
  | .bypassIr => Sys2Proof.Machine.execBypassIr s
  | .jtagDebugAccess a write => Sys2Proof.Machine.execJtagDebugAccess a write s
  | .portBlockLock n => Sys2Proof.Machine.execPortBlockLock n s
  | .autonegComplete n => Sys2Proof.Machine.execAutonegComplete n s
  | .pktCopyDone => Sys2Proof.Machine.execPktCopyDone s
  | .refreshDerate ch raised => Sys2Proof.Machine.execRefreshDerate ch raised s
  | .singleDeviceAfterLoss => Sys2Proof.Machine.execSingleDeviceAfterLoss s

end Sys2Proof.Machine
end

