-- ==== Sys2Proof/WellFormed.lean ====
section
/-! DEFINITION. Well-formed commands: operands an environment can send; their widths stand in their types. -/

namespace Sys2Proof

open Machine

/-- A transaction of R526: within 16 KiB, with as many bytes of data as its length. -/
def wfReq (q : MatrixReq) : Bool :=
  decide (q.master < 14) && decide (q.addr < 2 ^ 40) && q.len != 0 && decide (q.addr % 16384 + q.len ≤ 16384)
    && (match q.write with
        | some l => l.length == q.len
        | none => true)

/-- A command is well-formed: ticks of one period (R54), a frame no longer than R308 and R408 allow, matrix transactions of R526, PCIe requests of R540, a link speed and width of R540, an overrange code
at an end of the range (R576). Every other command's operands are all those of its types. -/
def wellFormed (i : Instr) : Bool :=
  match i with
  | .ppsInEdge tick _ => decide (tick < 255)
  | .ppsOutRise tick => decide (tick < 255)
  | .ppsOutFall tick => decide (tick < 255)
  | .uplinkFrame _ _ _ data _ _ _ => decide (data.length ≤ 144)
  | .frameReceive _ tick data _ _ _ => decide (tick < 255) && decide (data.length ≤ 16384)
  | .partnerHbEdge tick => decide (tick < 255)
  | .transmitStart _ tick => decide (tick < 255)
  | .transmitEnd _ tick => decide (tick < 255)
  | .gclSwitch _ tick => decide (tick < 255)
  | .gateEntryChange _ tick => decide (tick < 255)
  | .matrixGrant _ reqs => reqs.all wfReq
  | .pcieRequest _ _ dws _ write =>
    dws != 0 && (match write with
      | some l => l.length == 4 * dws.toNat && decide (dws.toNat ≤ 128)
      | none => decide (dws.toNat ≤ 1024))
  | .pcieLinkUp speed width _ _ => speed != 0 && [1, 2, 4, 8].contains width.toNat
  | .adcConversionDone code ovr => !ovr || code == 0x7FFF || code == 0x8000
  | _ => true

end Sys2Proof
end

