-- ==== Sys2Proof/Safety.lean ====
section
/-! DEFINITION. The terms the statements are made in: when a command meets a device that takes it. -/

namespace Sys2Proof.Machine

/-- A single device, outside any pair, that applies no journalled record (R348, R366): its state changes act at P + 2 (R57). -/
abbrev Single (c : Chip) : Prop :=
  fldB c TWN_CTL_twin_en = false ∧ c.twn.paired = false ∧ c.twn.applying = false ∧ fld c TWN_STAT_state ≠ 4

/-- No reset holds the device and the register at a BAR0 address can be reached (R500, R508, R559). -/
abbrev MayWrite (s : State) (a : Nat) : Prop := s.held = none ∧ reachable s.chip a = true

/-- A state change of the register is taken (R343, R347). -/
abbrev MayChange (s : State) (a : Nat) : Prop := s.held = none ∧ reachable s.chip a = true ∧ Single s.chip

/-- The effective period of a state change on a single device (R57). -/
def eSingle (c : Chip) : W := c.tmr.period + 2

/-- A cell command `v` of gallery `g` waits for its E (R145, R160). -/
def cellCmdTaken (s : State) (g : Nat) (v : W) : State :=
  let c : Chip := { s.chip with lpe := { s.chip.lpe with cmds := mapPut s.chip.lpe.cmds g ⟨v, eSingle s.chip⟩ } }
  let d := wr c (LPE_CMD_STAT_busy g).addr
    (toW (2 ^ 31 + fld c (LPE_CMD_STAT_reason g) * 2 ^ 16 + (eSingle s.chip).toNat % 2 ^ 16))
  { s with chip := d }

/-- An inventory command `v` waits for its E (R158). -/
def invTaken (s : State) (v : W) : State :=
  let c : Chip := { s.chip with lpe := { s.chip.lpe with invCmd := some (v, eSingle s.chip) } }
  { s with chip := setB c INV_STAT_cmd_busy true }

/-! ### The Docent -/

/-- The Docent is not stopped and runs the routine (R170, R179). -/
abbrev Runs (s : State) (r : Routine) : Prop :=
  s.held = none ∧ docStopped s.chip = false ∧ s.chip.doc.cur = some r

/-- The routine has fetched a word of op `op` that has not issued it (R172, R176). -/
abbrev AtOp (s : State) (r : Routine) (op : Nat) : Prop := Runs s r ∧ r.phase = .issue ∧ mwOp r.word = op

/-- The operation and the wait of a word of seq `n` have ended (R172, R173). -/
abbrev AtSeq (s : State) (r : Routine) (n : Nat) : Prop := Runs s r ∧ r.phase = .next ∧ mwSeq r.word = n

/-- The first ALU operand, a[sa] (R176). -/
def aluA (r : Routine) : W := reg r (mwSa r.word)

/-- The routine after an ALU result `v` (R176): the flags follow it, dst takes it. -/
def aluDone (r : Routine) (v : W) : Routine :=
  setReg { r with lt := decide (v.toInt < 0), eq := v == 0 } (mwDst r.word) v

/-! ### The Curator -/

/-- No reset holds the device, it is not in the safe state, no APPLY runs, and the command at the head of the Curator's
queue, after those whose E has come have entered it, has the code (R285). -/
abbrev CurHead (s : State) (x : CurCmd) (rest : List CurCmd) (code : Nat) : Prop :=
  s.held = none ∧ ((curTake s.chip).cur.job.isSome || safe (curTake s.chip)) = false
    ∧ (curTake s.chip).cur.queue = x :: rest ∧ wbits x.w0 24 8 = code ∧ curRefusal (curTake s.chip) x = none

/-! ### Resets -/

/-- The commands that act while a COLD or PIN reset is held: resets, the release, the SMBus target (outside a COLD reset) and
the TAP's instructions (R500, R501, R546, R623). -/
def actsInReset : Instr → Bool
  | .coldReset | .pinReset | .perstReset | .resetRelease _ _ => true
  | .smbAddr _ _ | .smbWrite _ _ | .smbRead | .smbStatus | .smbIdent | .smbusTimeout | .alertResponse => true
  | .idcodeIr | .samplePreload | .extestIr | .clampIr | .highzIr | .extestPulse | .extestTrain | .debugIr | .bypassIr => true
  | _ => false

/-- What the device may hold while a reset is held (R499–R502, R504, R623): a COLD one everything at its reset value but the
fuses, the non-volatile memories, PERST_N and the TAP; a PIN one besides the registers it keeps, LPDDR6 in self-refresh, the
straps, the kept restart selection and the SMBus target. The pins of the Attendant are released. -/
def HeldClean (h : Hold) (c : Chip) : Prop :=
  (∀ a, keptReg false a = false → (h = .pin → a ≠ ATT_CTL_grave.addr) → rd c a = resetReg a)
  ∧ (h = .cold → (∀ a, fuseReg a = false → rd c a = resetReg a) ∧ c.ddr = [] ∧ c.smb = Smb.reset ∧ c.att.raised = [])
  ∧ c = { Chip.reset with
      regs := c.regs, free := c.free, ddr := c.ddr, smb := c.smb, jtag := c.jtag,
      pcie := { Pcie.reset with sent := c.pcie.sent, last := c.pcie.last },
      xbr := { Xbr.reset with selfRefresh := h == .pin },
      att := { Att.reset with raised := c.att.raised, heartbeat := none, safeN := none, alertLow := false },
      glb := { Glb.reset with
        nor := c.glb.nor, mram := c.glb.mram, perst := c.glb.perst, sel := c.glb.sel, straps := c.glb.straps } }

/-- While a reset is held, the device holds no more than that. -/
def HeldInv (s : State) : Prop :=
  match s.held with
  | none => True
  | some h => HeldClean h s.chip

/-- Two states that differ at most in what a COLD reset discards. -/
abbrev ColdAlike (s t : State) : Prop :=
  s.chip.glb.nor = t.chip.glb.nor ∧ s.chip.glb.mram = t.chip.glb.mram ∧ s.chip.glb.perst = t.chip.glb.perst
    ∧ s.chip.jtag = t.chip.jtag ∧ s.chip.free = t.chip.free
    ∧ s.chip.regs.filter (fun e => fuseReg e.1) = t.chip.regs.filter (fun e => fuseReg e.1)

/-! ### Frames -/

/-- The registers outside the given blocks of BAR0 (R16) and outside the listed ones, and every memory, are as before. -/
def Keeps (blocks extra : List Nat) (c d : Chip) : Prop :=
  (∀ a, a / 0x100000 ∉ blocks → a ∉ extra → rd d a = rd c a)
    ∧ d.ddr = c.ddr ∧ d.glb.nor = c.glb.nor ∧ d.glb.mram = c.glb.mram ∧ d.glb.sram = c.glb.sram

/-- The commands of the time block but for the period boundary. -/
def isTimeCmd : Instr → Bool
  | .incStage _ | .incCommit _ | .timeWriteEffect | .adjGo _ | .todArm _ | .adjustmentEffect | .slewCorrection
  | .timeReadLatch | .ppsInEdge _ _ | .ppsInRead | .ppsOutRise _ | .ppsOutFall _ | .txtsPop _ => true
  | _ => false

/-- The commands of the assembly's power tree (R561–R569). -/
def isAssemblyCmd : Instr → Bool
  | .asmUp _ | .asmDown _ | .asmClear _ | .seqGroupDone | .seqGroupTimeout | .pmbWriteByte _ | .pmbWriteWord _
  | .pmbReadByte _ | .pmbReadWord _ | .pmbTransactionDone _ _ | .pmbPoll _ _ _ _ | .pmbAlert | .railFaultDown | .pdmTempCrit => true
  | _ => false

/-- The commands of the auxiliary analog section (R570–R589). -/
def isAnalogCmd : Instr → Bool
  | .adcSeqGo _ _ | .adcTimerTrigger _ | .adcUrgent _ | .adcConversionDone _ _ | .adcPowerDown | .adcResultPop | .trimGo _
  | .trimInterval | .trimDone _ _ _ _ _ | .dacCode _ _ | .dacRange _ _ | .dacChangeDone _ | .tecStep | .tecEvt _ => true
  | _ => false

/-- A twin without the loan, with no reset held, that applies no journalled record (R347). -/
abbrev NoLoan (s : State) : Prop :=
  s.held = none ∧ fldB s.chip TWN_CTL_twin_en = true ∧ fldB s.chip TWN_STAT_acting = false ∧ s.chip.twn.applying = false

/-- What a refused write of the state-change register at `a` leaves (R347): not_keeper, and TWN_NOT_KEEPER with the address. -/
def notKeeper (s : State) (a : Nat) : State :=
  { s with chip := raiseLimited (setB s.chip TWN_STAT_not_keeper true) srcTWN_NOT_KEEPER (toW a) }

end Sys2Proof.Machine
end

