-- ==== Sys2Proof/Certificates/Slice0/Obligations.lean ====
section
/-! DEFINITION. The statements about the model, for the provers. -/

open Sys2Proof Sys2Proof.Machine

/-- R56, R57, R64, R78: INC_STAGE, INC_COMMIT, ADJ_GO and TOD_ARM on a single device; the next state is given whole. Where the rules leave a point open it states the model's reading (log entries 29 and 90). -/
def Obligations.TimeRegisterWritesStageAndWait : Prop :=
  (∀ (s : State) (v : W), MayChange s TMR_INC_NS →
    exec (.incStage v) s = .next { s with chip := wr s.chip TMR_INC_NS (toW (wbits v 0 4)) })
  ∧ (∀ (s : State) (v : W), MayChange s TMR_INC_FRAC →
    let raw := wbits (rd s.chip TMR_INC_NS) 0 4 * 2 ^ 32 + v.toNat
    let inc := max 0x0FFBE76C9 (min 0x100418937 raw)
    let c := wr (wr s.chip TMR_INC_NS (toW (inc / 2 ^ 32))) TMR_INC_FRAC (toW inc)
    let d : Chip := { c with tmr := { c.tmr with incPend := some (inc, eSingle s.chip) } }
    exec (.incCommit v) s =
      .next { s with chip := if inc = raw then d else raise (setB d TMR_STAT_inc_clamped true) srcTMR_INC_CLAMP 0 })
  ∧ (∀ (s : State) (v : W), MayChange s TMR_ADJ_CTL_go.addr → fldB s.chip TMR_STAT_adj_busy = false →
    fldB s.chip TMR_STAT_tod_armed = false → wbit v 0 = true → wbit v 3 = false →
    let value := (written s.chip TMR_ADJ_LO).toNat + 2 ^ 32 * (written s.chip TMR_ADJ_HI).toNat
    let a : Adj := ⟨BitVec.ofNat 64 value, wbit v 2, wbit v 1, eSingle s.chip⟩
    let c := setB s.chip TMR_STAT_tod_armed false
    let d : Chip := { c with tmr := { c.tmr with adj := some a } }
    exec (.adjGo v) s = .next { s with chip := setB d TMR_STAT_adj_busy true })
  ∧ (∀ (s : State) (v : W), MayChange s TMR_ADJ_CTL_go.addr → fldB s.chip TMR_STAT_adj_busy = false →
    fldB s.chip TMR_STAT_tod_armed = false → fldB s.chip TMR_CTL_tod_src = true → wbit v 0 = false → wbit v 3 = true →
    exec (.todArm v) s = .next { s with chip := setB s.chip TMR_STAT_tod_armed true })

/-- R56, R60, R71, R77, R79, R81, R86: the effects, reads and edges of the time block, each with its whole next state. Where the rules leave a point open it states the model's reading (log entries 42, 90 and 98). -/
def Obligations.WaitingTimeWritesAndReadsTakeEffect : Prop :=
  (∀ (s : State) (v : Nat) (e : W), s.held = none → s.chip.tmr.incPend = some (v, e) → due s.chip e = true →
    s.chip.tmr.cxPend = none →
    exec .timeWriteEffect s =
      .next { s with chip := { s.chip with tmr := { s.chip.tmr with inc := v, incPend := none } } })
  ∧ (∀ (s : State) (v e : W), s.held = none → s.chip.tmr.incPend = none → s.chip.tmr.cxPend = some (v, e) →
    due s.chip e = true →
    let c := s.chip
    let gain : Int := sext 64 (c.tmr.cxFree - c.tmr.cxRef).toNat * wInt c.tmr.cxRho / 2 ^ 40
    let d := wr64 c TMR_CX_OFS_LO TMR_CX_OFS_HI (rd64 c TMR_CX_OFS_LO TMR_CX_OFS_HI + BitVec.ofInt 64 gain)
    exec .timeWriteEffect s =
      .next { s with chip := { d with tmr := { d.tmr with cxRef := d.tmr.cxFree, cxRho := v, cxPend := none } } })
  ∧ (∀ (s : State), MayWrite s TMR_TIME_LO →
    let t := netTime s.chip
    let d := wr s.chip TMR_TIME_HI (toW (t.toNat / 2 ^ 32))
    let d := wr d TMR_TIME_FRAC (if fldB s.chip TMR_CTL_clk_mode then 0 else s.chip.tmr.timeFrac)
    let d := wr64 (wr d TMR_TIME_P s.chip.tmr.period) TMR_CX_FREE_LO TMR_CX_FREE_HI s.chip.tmr.cxFree
    exec .timeReadLatch s = .next { s with chip := { d with readData := toW t.toNat, readResp := 0 } })
  ∧ (∀ (s : State), MayWrite s TMR_PPS_IN_LO →
    let d := setB (wr s.chip TMR_PPS_IN_HI (toW (s.chip.tmr.ppsStamp.toNat / 2 ^ 32))) TMR_STAT_pps_in_new false
    exec .ppsInRead s = .next { s with chip := { d with readData := rd s.chip TMR_PPS_IN_LO, readResp := 0 } })
  ∧ (∀ (s : State) (p : Fin 4) (x : TxStamp) (l : List TxStamp), MayWrite s (TMR_P_TXTS_META p) →
    nth [] s.chip.tmr.txq p = x :: l →
    let c : Chip := { s.chip with tmr := { s.chip.tmr with txq := setNth s.chip.tmr.txq p l } }
    let d := answer (wr64 c (TMR_P_TXTS_LO p) (TMR_P_TXTS_HI p) x.stamp.ns) (txtsWord x)
    exec (.txtsPop p) s = .next { s with chip := d })
  ∧ (∀ (s : State) (tick highNs : Nat), s.held = none → 100 ≤ highNs →
    let c := advanceTo s.chip tick
    fldB c TMR_CTL_pps_in_en = true → c.tmr.ppsEdge = none → fldB c TMR_STAT_pps_in_new = false →
    fldB c TMR_STAT_tod_armed = false →
    let stamp := netTime c - BitVec.ofInt 64 (wInt (rd c TMR_PPS_IN_COMP))
    let d : Chip := { c with tmr := { c.tmr with ppsStamp := stamp, ppsEdge := some c.tmr.ticks } }
    let d := setB (wr d TMR_PPS_IN_LO (toW stamp.toNat)) TMR_STAT_pps_in_new true
    exec (.ppsInEdge tick highNs) s = .next { s with chip := d })
  ∧ (∀ (s : State) (tick : Nat), s.held = none →
    let c := advanceTo s.chip tick
    ppsOutEnabled c = true → c.tmr.ppsOut = none → ppsPhase c (netTime c) < (tdiff (netTime c) c.tmr.lastNs).toNat →
    exec (.ppsOutRise tick) s = .next { s with chip := { c with tmr := { c.tmr with ppsOut := some c.tmr.ticks } } })
  ∧ (∀ (c : Chip) (n : Nat), (runTicks c (n + 1)).tmr.lastNs = netTime (countTicks c n))
  ∧ (∀ (s : State) (tick u : Nat), s.held = none →
    let c := advanceTo s.chip tick
    c.tmr.ppsOut = some u → 1000 * rn c TMR_PPS_OUT_WIDTH ≤ c.tmr.ticks - u →
    exec (.ppsOutFall tick) s = .next { s with chip := { c with tmr := { c.tmr with ppsOut := none } } })

/-- R145, R146, R160: the cell commands on a single device, each with its whole next state. Where the rules leave a point open it states the model's reading (log entries 76 and 101). -/
def Obligations.CellCommandsWaitForTheirPeriod : Prop :=
  (∀ (s : State) (g : Fin 36) (w : W), MayChange s (LPE_CELL_CMD_cmd g).addr → cmdReason s.chip g (putField w 24 4 0) = none →
    exec (.cellCmdNop g w) s = .next s)
  ∧ (∀ (s : State) (g : Fin 36) (w : W), MayChange s (LPE_CELL_CMD_cmd g).addr →
    let v : Nat → W := fun k => putField w 24 4 k
    let refuse : Nat → State := fun r =>
      let c := setFld (setB s.chip (LPE_SUP_STAT_cmd_reject g) true) (LPE_CMD_STAT_reason g) r
      { s with chip := raise c (srcCMD_REJECT g) 0 }
    (∀ r, cmdReason s.chip g (v 0) = some r → exec (.cellCmdNop g w) s = .next (refuse r))
    ∧ (∀ r, cmdReason s.chip g (v 1) = some r → exec (.enable g w) s = .next (refuse r))
    ∧ (∀ r, cmdReason s.chip g (v 2) = some r → exec (.disable g w) s = .next (refuse r))
    ∧ (∀ r, cmdReason s.chip g (v 3) = some r → exec (.hold g w) s = .next (refuse r))
    ∧ (∀ r, cmdReason s.chip g (v 4) = some r → exec (.resume g w) s = .next (refuse r)))
  ∧ (∀ (c : Chip) (g : Fin 36) (w : W),
    ((4 < wbits w 24 4 ∨ wbits w 24 4 = 1 ∧ 1 < wbits w 16 2) → cmdReason c g w = some 1)
    ∧ (wbits w 24 4 ≤ 4 → (wbits w 24 4 = 1 → wbits w 16 2 ≤ 1) → wbit w 8 = true →
      cmdReason c g w = if (mapGet c.lpe.cmds g).isSome then some 4 else none)
    ∧ (wbits w 24 4 ≤ 4 → (wbits w 24 4 = 1 → wbits w 16 2 ≤ 1) → wbit w 8 = false → cellLive c (cmdCell g w) = false →
      cmdReason c g w = some 2)
    ∧ (wbits w 24 4 = 2 → wbit w 8 = false → cellLive c (cmdCell g w) = true → mapGet c.lpe.cmds g = none → cmdReason c g w = none))
  ∧ (∀ (s : State) (g : Fin 36) (w : W), MayChange s (LPE_CELL_CMD_cmd g).addr →
    let v := putField w 24 4 1
    cmdReason s.chip g v = none →
    exec (.enable g w) s = .next (cellCmdTaken s g v))
  ∧ (∀ (s : State) (g : Fin 36) (w : W), MayChange s (LPE_CELL_CMD_cmd g).addr →
    let v := putField w 24 4 2
    cmdReason s.chip g v = none →
    exec (.disable g w) s = .next (cellCmdTaken s g v))
  ∧ (∀ (s : State) (g : Fin 36) (w : W), MayChange s (LPE_CELL_CMD_cmd g).addr →
    let v := putField w 24 4 3
    cmdReason s.chip g v = none →
    exec (.hold g w) s = .next (cellCmdTaken s g v))
  ∧ (∀ (s : State) (g : Fin 36) (w : W), MayChange s (LPE_CELL_CMD_cmd g).addr →
    let v := putField w 24 4 4
    cmdReason s.chip g v = none →
    exec (.resume g w) s = .next (cellCmdTaken s g v))
  ∧ (∀ (s : State) (g : Fin 36) (w e : W), s.held = none → mapGet s.chip.lpe.cmds g = some ⟨w, e⟩ → due s.chip e = true →
    wbit w 8 = false →
    let c : Chip := { s.chip with lpe := { s.chip.lpe with cmds := mapDel s.chip.lpe.cmds g } }
    let d := setB c (LPE_CMD_STAT_busy g) false
    cellReason d (cmdCell g w) (wbits w 24 4) = none →
    exec (.cellCmdEffect g) s = .next { s with chip := giveCmd d w (cmdCell g w) })
  ∧ (∀ (s : State) (g : Fin 36) (w e : W), s.held = none → mapGet s.chip.lpe.cmds g = some ⟨w, e⟩ → due s.chip e = true →
    wbit w 8 = true →
    let c : Chip := { s.chip with lpe := { s.chip.lpe with cmds := mapDel s.chip.lpe.cmds g } }
    let d := setB c (LPE_CMD_STAT_busy g) false
    exec (.cellCmdEffect g) s = .next { s with chip := (galleryCells d g).foldl (fun c x => if (cellReason c x.1 (wbits w 24 4)).isNone then giveCmd c w x.1 else c) d })

/-- R149, R154, R158, R159: the inventory commands and trims on a single device, each with its whole next state. Where the rules leave a point open it states the model's reading (log entries 29 and 76). -/
def Obligations.InventoryCommandsWaitAndAct : Prop :=
  (∀ (s : State) (w : W), MayChange s INV_CMD → s.chip.lpe.invCmd = none →
    (mapCellOf s.chip (invCell (putField w 28 4 0))).isSome = true → exec (.invNop w) s = .next s)
  ∧ (∀ (s : State) (w : W), MayChange s INV_CMD →
    let v : Nat → W := fun k => putField w 28 4 k
    let bad : Nat → Prop := fun k => s.chip.lpe.invCmd ≠ none ∨ mapCellOf s.chip (invCell (v k)) = none
    let t : State := { s with chip := raise (setB s.chip INV_STAT_cmd_reject true) srcINV_CMD_REJECT 0 }
    (bad 0 → exec (.invNop w) s = .next t) ∧ ((bad 1 ∨ wbits (v 1) 26 2 = 0) → exec (.markStuck w) s = .next t)
    ∧ (bad 2 → exec (.clearStuck w) s = .next t) ∧ (bad 3 → exec (.clearHist w) s = .next t)
    ∧ (bad 4 → exec (.clearSw w) s = .next t))
  ∧ (∀ (s : State) (w : W), MayChange s INV_CMD → s.chip.lpe.invCmd = none →
    let v := putField w 28 4 1
    (mapCellOf s.chip (invCell v)).isSome = true → wbits v 26 2 ≠ 0 →
    exec (.markStuck w) s = .next (invTaken s v))
  ∧ (∀ (s : State) (w : W), MayChange s INV_CMD → s.chip.lpe.invCmd = none →
    (mapCellOf s.chip (invCell (putField w 28 4 2))).isSome = true →
    exec (.clearStuck w) s = .next (invTaken s (putField w 28 4 2)))
  ∧ (∀ (s : State) (w : W), MayChange s INV_CMD → s.chip.lpe.invCmd = none →
    (mapCellOf s.chip (invCell (putField w 28 4 3))).isSome = true →
    exec (.clearHist w) s = .next (invTaken s (putField w 28 4 3)))
  ∧ (∀ (s : State) (w : W), MayChange s INV_CMD → s.chip.lpe.invCmd = none →
    (mapCellOf s.chip (invCell (putField w 28 4 4))).isSome = true →
    exec (.clearSw w) s = .next (invTaken s (putField w 28 4 4)))
  ∧ (∀ (s : State) (w e : W), s.held = none → s.chip.lpe.invCmd = some (w, e) → due s.chip e = true →
    let c := setB { s.chip with lpe := { s.chip.lpe with invCmd := none } } INV_STAT_cmd_busy false
    let i := wbits w 0 13
    let r := (getCell c i).inv
    let d :=
      if wbits w 28 4 = 1 then
        showStuck (modCell c i (fun x => { x with inv := { x.inv with stuck := wbits w 26 2, lastFaultP := c.tmr.period } }))
          i r.stuck (wbits w 26 2)
      else if wbits w 28 4 = 2 then
        showStuck (modCell c i (fun x => { x with inv := { x.inv with stuck := 0, failBar := 0, failCross := 0 } })) i r.stuck 0
      else if wbits w 28 4 = 3 then modCell c i (fun x => { x with inv := x.inv.clearHist })
      else modCell c i (fun x => { x with inv := { x.inv with switches := 0 } })
    exec .invCmdEffect s = .next { s with chip := d })
  ∧ (∀ (s : State) (g : Fin 36) (j : Fin 128) (v : W), MayChange s (LPE_TRIM_trim_tgt g j).addr →
    exec (.trimWrite g j v) s = .next { s with chip := defer s.chip (eSingle s.chip) (LPE_TRIM_trim_tgt g j).addr v })

/-- R106–R108, R112–R116, R120, R129, R384: what a gallery does in a period and at the boundaries it acts at. Where the rules leave a point open it states the model's reading (log entries 28, 74, 75 and 101). -/
def Obligations.GalleryPeriodWork : Prop :=
  (∀ (s : State), s.held = none →
    let a := keepHistory (allCharCodes s.chip)
    let b := (mappedCells a).foldl (fun c e => if domainOn c (galleryOf e.1) then galleryCell c e.1 e.2 else c) a
    let d := openSteps ((usedGalleries b).foldl modeReport b)
    (computesCells s.chip = true → bootHalted s.chip = false → s.chip.lpe.computedP ≠ s.chip.tmr.period →
      exec .galleryCompute s = .next { s with chip := charAfter { d with lpe := { d.lpe with epochNow := none, computedP := d.tmr.period } } })
    ∧ ((computesCells s.chip = false ∨ bootHalted s.chip = true ∨ s.chip.lpe.computedP = s.chip.tmr.period) →
      exec .galleryCompute s = .next s))
  ∧ (∀ (s : State), s.held = none → computesCells s.chip = true → bootHalted s.chip = false → s.chip.lpe.computedP ≠ s.chip.tmr.period →
    ∃ d : Chip, exec .galleryCompute s = .next { s with chip := d } ∧ d.lpe.computedP = s.chip.tmr.period ∧ d.lpe.epochNow = none
      ∧ d.lpe.newStep = none ∧ d.lpe.charOut = [] ∧ d.tmr = s.chip.tmr ∧ d.doc = s.chip.doc ∧ d.ddr = s.chip.ddr
      ∧ (∀ i, i ∉ (mappedCells s.chip).map Prod.fst → (∀ r : CharReq, some r ∈ s.chip.cns.reqs → r.cell ≠ i) →
        getCell d i = getCell s.chip i))
  ∧ (∀ (s : State) (bad : List (Fin 36 × BitVec 13)), s.held = none →
    (∀ e ∈ mappedCells s.chip, ∀ i ∈ e.2.nbs, i < 8192) →
    ∃ d : Chip, exec (.neighbourRing bad) s = .next { s with chip := d } ∧ d.lpe.cells = s.chip.lpe.cells ∧
      ∀ g ∈ usedGalleries s.chip, ∀ i ∈ neededBy s.chip g,
        mapRead (fun _ => 0) d.lpe.ringNew (g * 8192 + i) =
          if bad.any (fun e => e.1.val == g && e.2.toNat == i) then mapRead (fun _ => 0) s.chip.lpe.ringNew (g * 8192 + i)
          else codeInForce s.chip i)
  ∧ (∀ (s : State) (g : Fin 36) (b : W), s.held = none → mapGet s.chip.lpe.open_ g = some b →
    changedCells s.chip g b = [] → pReached s.chip.tmr.period (b + 9) = true →
    let c := wr s.chip (LPE_SETTLE_step_tag g).addr (toW (b.toNat % 2 ^ 16 * 2 ^ 16))
    let d : Chip := { c with lpe := { c.lpe with open_ := mapDel c.lpe.open_ g } }
    exec (.settleReport g) s = .next { s with chip := d })
  ∧ (∀ (s : State) (off : BitVec 18) (v : W), MayWrite s (0xA40000 + off.toNat) →
    let d : Chip := { s.chip with lpe := { s.chip.lpe with law := mapWrite (fun _ => 0) s.chip.lpe.law (off.toNat / 4) (lawStored (off.toNat / 4) v) } }
    (fld s.chip GLB_BOOT_STAT_state ≠ 1 → exec (.lawWindowWrite off v) s = .next { s with chip := d })
    ∧ (fld s.chip GLB_BOOT_STAT_state = 1 → exec (.lawWindowWrite off v) s = .next s))
  ∧ (∀ (i : Nat) (v : W),
    (0x8400 ≤ i → lawStored i v = 0) ∧ (i < 0x8000 → 291 ≤ i % 512 → lawStored i v = 0)
    ∧ (i < 0x8000 → i % 512 < 256 → 60 ≤ i % 64 → lawStored i v = 0)
    ∧ (i < 0x8000 → i % 512 < 256 → i % 64 < 59 → (lawStored i v).toNat = v.toNat % 2 ^ 18))
  ∧ (∀ (s : State) (g : Fin 36) (e : W), s.held = none → mapGet s.chip.lpe.commits g = some e → due s.chip e = true →
    ∃ d : Chip, exec (.bankCommit g) s = .next { s with chip := d }
      ∧ fldB d (LPE_LAW_STAT_active_bank g) = (!fldB s.chip (LPE_LAW_STAT_active_bank g))
      ∧ mapGet d.lpe.commits g = none ∧ mapGet d.lpe.committed g = some s.chip.tmr.period
      ∧ (fldB s.chip (LPE_LAW_STAT_active_bank g) = false →
          d.lpe.bankB = s.chip.lpe.bankB ∧ d.lpe.bankA = bankWith s.chip.lpe.bankA s.chip.lpe.bankB g)
      ∧ (fldB s.chip (LPE_LAW_STAT_active_bank g) = true →
          d.lpe.bankA = s.chip.lpe.bankA ∧ d.lpe.bankB = bankWith s.chip.lpe.bankB s.chip.lpe.bankA g))
  ∧ (∀ (s : State) (g : Fin 36) (w : BitVec 11) (v : W), MayChange s (stagingReg g w.toNat) →
    let ignored : State := { s with chip := raise (setB s.chip CNS_STAT_host_reject true) srcCNS_HOST_REJECT 0 }
    (fldB s.chip CNS_CTL_host_bank = true → committing s.chip g = false →
      exec (.stagingBankWrite g w v) s = .next { s with chip := stagingPut s.chip (2048 * g + w.toNat) v })
    ∧ (fldB s.chip CNS_CTL_host_bank = true → committing s.chip g = true → exec (.stagingBankWrite g w v) s = .next ignored)
    ∧ (fldB s.chip CNS_CTL_host_bank = false → exec (.stagingBankWrite g w v) s = .next ignored))

/-- R171, R176: the nine ALU rows, each with its whole next state. A shift by 32 or more gives 0 by the model's reading (DEDUCED). Where the rules leave a point open it states the model's reading (log entry 82). -/
def Obligations.AluWordsComputeAndSetFlags : Prop :=
  (∀ (s : State) (r : Routine), AtOp s r 1 → mwSub r.word = 0 →
    let a := aluA r
    let b := aluOperand r
    exec .aluAdd s = .next { s with chip := issued s.chip (aluDone r (a + b)) })
  ∧ (∀ (s : State) (r : Routine), AtOp s r 1 → mwSub r.word = 1 →
    let a := aluA r
    let b := aluOperand r
    exec .aluSubtract s = .next { s with chip := issued s.chip (aluDone r (a - b)) })
  ∧ (∀ (s : State) (r : Routine), AtOp s r 1 → mwSub r.word = 2 →
    let a := aluA r
    let b := aluOperand r
    exec .aluAnd s = .next { s with chip := issued s.chip (aluDone r (a &&& b)) })
  ∧ (∀ (s : State) (r : Routine), AtOp s r 1 → mwSub r.word = 3 →
    let a := aluA r
    let b := aluOperand r
    exec .aluOr s = .next { s with chip := issued s.chip (aluDone r (a ||| b)) })
  ∧ (∀ (s : State) (r : Routine), AtOp s r 1 → mwSub r.word = 4 →
    let a := aluA r
    let b := aluOperand r
    exec .aluXor s = .next { s with chip := issued s.chip (aluDone r (a ^^^ b)) })
  ∧ (∀ (s : State) (r : Routine), AtOp s r 1 → mwSub r.word = 5 →
    let a := aluA r
    let b := aluOperand r
    exec .aluShiftLeft s = .next { s with chip := issued s.chip (aluDone r (a <<< b.toNat)) })
  ∧ (∀ (s : State) (r : Routine), AtOp s r 1 → mwSub r.word = 6 →
    let a := aluA r
    let b := aluOperand r
    exec .aluShiftRight s = .next { s with chip := issued s.chip (aluDone r (a >>> b.toNat)) })
  ∧ (∀ (s : State) (r : Routine), AtOp s r 1 → mwSub r.word = 7 →
    let b := aluOperand r
    exec .aluMove s = .next { s with chip := issued s.chip (aluDone r (b)) })
  ∧ (∀ (s : State) (r : Routine), AtOp s r 1 → mwSub r.word = 8 →
    let v := aluA r - aluOperand r
    exec .aluCompare s = .next { s with chip := issued s.chip { r with lt := decide (v.toInt < 0), eq := v == 0 } })

/-- R164–R167, R176, R177, R183: the operations of a microword, each with its whole next state. Where the rules leave a point open it states the model's reading (log entries 18, 19 and 41). -/
def Obligations.DocentOperationsAct : Prop :=
  (∀ (s : State) (r : Routine), AtOp s r 0x00 →
    exec .opNop s = .next { s with chip := issued s.chip r })
  ∧ (∀ (s : State) (r : Routine), AtOp s r 0x02 →
    exec .lds s = .next { s with chip := issued s.chip (setReg r (mwDst r.word) (mapRead (fun _ => 0) s.chip.doc.scratch ((aluA r + toW (mwImm r.word)).toNat % 1024))) })
  ∧ (∀ (s : State) (r : Routine), AtOp s r 0x03 →
    let a := (aluA r + toW (mwImm r.word)).toNat % 1024
    let d : Chip := { s.chip with doc := { s.chip.doc with
      scratch := mapWrite (fun _ => 0) s.chip.doc.scratch a (reg r (mwSb r.word)) } }
    exec .sts s = .next { s with chip := issued d r })
  ∧ (∀ (s : State) (r : Routine), AtOp s r 0x04 →
    let a := (toW (mwImm r.word) + aluA r).toNat
    let d := masterRead s.chip 4 a
    rdbBlock a = true → d.readResp = 0 →
    exec (.rdb false) s = .next { s with chip := issued { d with readData := s.chip.readData, readResp := s.chip.readResp } { r with readValue := d.readData } })
  ∧ (∀ (s : State) (r : Routine), AtOp s r 0x06 →
    exec .getp s = .next { s with chip := issued s.chip (setReg r (mwDst r.word) s.chip.tmr.period) })
  ∧ (∀ (s : State) (r : Routine) (e : Nat), AtOp s r 0x08 → residentEntry s.chip (BitVec.ofNat 16 (wbits (aluA r) 0 16)) = some e →
    exec .lookup s = .next { s with chip := issued s.chip (setReg { r with resident := true, pins := e :: r.pins } (mwDst r.word) (toW e)) })
  ∧ (∀ (s : State) (r : Routine), AtOp s r 0x09 →
    let x := entryOf s.chip (aluA r).toNat
    let d : Chip := { s.chip with lpe := { s.chip.lpe with
      pend := bankOfTargets (arrTargets x.content), pendId := x.id, pendEmpty := false } }
    (aluA r).toNat ≤ 63 → x.st = 2 → hdrCrcOk x.content = true → bodyCrcOk x.content = true →
    exec .loadt s = .next { s with chip := issued d { r with loadOk := true } })
  ∧ (∀ (s : State) (r : Routine), AtOp s r 0x0A → 1 ≤ pdiff (aluA r) s.chip.tmr.period → s.chip.doc.sched = none →
    let d : Chip := { s.chip with doc := { s.chip.doc with
      sched := some ⟨false, aluA r, r.cmd.serial⟩, stepB := some (aluA r + 1) } }
    exec .swapat s = .next { s with chip := issued d { r with swapOk := true, swap := if r.swap = 2 then r.swap else 1, stepB := some (aluA r + 1) } })
  ∧ (∀ (s : State) (r : Routine), AtOp s r 0x0B → 1 ≤ pdiff (aluA r) s.chip.tmr.period → s.chip.doc.sched = none →
    let d : Chip := { s.chip with doc := { s.chip.doc with
      sched := some ⟨true, aluA r, r.cmd.serial⟩, stepB := some (aluA r + 1) } }
    exec .revert s = .next { s with chip := issued d { r with swapOk := true, swap := r.swap, stepB := some (aluA r + 1) } })
  ∧ (∀ (s : State) (r : Routine), AtOp s r 0x0C →
    let d : Chip := { s.chip with lpe := { s.chip.lpe with
      pend := s.chip.lpe.force, pendId := s.chip.lpe.forceId, pendEmpty := false } }
    exec .copyp s = .next { s with chip := issued d r })
  ∧ (∀ (s : State) (r : Routine), AtOp s r 0x0D → (aluA r).toNat ≤ 4607 →
    exec .sett s = .next { s with chip := issued (setPend s.chip (aluA r).toNat (reg r (mwSb r.word))) r })
  ∧ (∀ (s : State) (r : Routine), AtOp s r 0x10 → (aluA r).toNat < 64 →
    let d : Chip := { s.chip with doc := { s.chip.doc with shapes := s.chip.doc.shapes
      ++ [((aluA r).toNat * 32 + mwSub r.word % 32, shapeStored (reg r (mwSb r.word)), s.chip.tmr.period)] } }
    exec .shape s = .next { s with chip := issued d r })
  ∧ (∀ (s : State) (r : Routine), AtOp s r 0x11 →
    exec .shrst s = .next { s with chip := issued (shapeRestore s.chip (aluA r).toNat (bitsAt (mwSub r.word) 7 1 == 1)) r })
  ∧ (∀ (s : State) (r : Routine) (b : W), AtOp s r 0x14 → s.chip.doc.stepB = some b →
    exec .collect s = .next { s with chip := issued (collect s.chip b (wbit (aluA r) 0) (wbit (reg r (mwSb r.word)) 0)) r })
  ∧ (∀ (s : State) (r : Routine), AtOp s r 0x15 →
    exec .epoch s = .next { s with chip := issued (epochRequest s.chip (mwSub r.word % 4) (min 255 (aluA r).toNat) (s.chip.tmr.period + 2)) r })
  ∧ (∀ (s : State) (r : Routine), AtOp s r 0x18 →
    exec .evt s = .next { s with chip := issued (ledgerDetail (freeNext s.chip) (Config.freeValue s.chip.free % 2 ^ 16)
      (beBytes 4 (mwImm r.word % 256) ++ beBytes 4 (aluA r).toNat)) r })
  ∧ (∀ (s : State) (r : Routine), AtOp s r 0x19 → r.cmd.source < 4 → r.written = false →
    r.partial_ = false → wbit (aluA r) 0 = false → mwImm r.word % 16 ≠ 6 →
    exec .docDone s = .next { s with chip := issued (docDeliver s.chip (recordOf s.chip r (mwImm r.word % 16) 0 false)) { r with written := true } })
  ∧ (∀ (s : State) (r : Routine), AtOp s r 0x1A →
    exec .vitrig s = .next { s with chip := issued (vitTrigger s.chip (vitBoundary s.chip (aluA r)) 2 0xFFFF) r })
  ∧ (∀ (s : State) (r : Routine), AtOp s r 0x16 →
    exec .charq s = .next { s with chip := issued (charRequest s.chip (aluA r) (reg r (mwSb r.word)) (wbits r.cmd.w0 0 16)) r })
  ∧ (∀ (s : State) (r : Routine), AtOp s r 0x05 →
    let a := (toW (mwImm r.word) + aluA r).toNat
    let d := lateWrite s.chip 4 (2 ^ 36 + a) (reg r (mwSb r.word))
    wrbBlock a = true → a % 4 = 0 → reachable s.chip a = true →
    exec (.wrb false) s = .next { s with chip := issued d r })
  ∧ (∀ (s : State) (r : Routine),
    let x := entryOf s.chip (aluA r).toNat
    let next : Chip → Routine → Host.Outcome State Fault Refusal := fun c r => .next { s with chip := issued c r }
    (AtOp s r 0x08 → residentEntry s.chip (BitVec.ofNat 16 (wbits (aluA r) 0 16)) = none → exec .lookup s =
      next (freeNext s.chip) (setReg { r with resident := false } (mwDst r.word) (toW (freeValue s.chip))))
    ∧ (AtOp s r 0x09 → (63 < (aluA r).toNat ∨ x.st ≠ 2) →
      exec .loadt s = next (copyistUnfit s.chip 4 0) { r with loadOk := false })
    ∧ (AtOp s r 0x09 → (aluA r).toNat ≤ 63 → x.st = 2 → (hdrCrcOk x.content = false ∨ bodyCrcOk x.content = false) →
      exec .loadt s = next (emptyPend s.chip) { r with loadOk := false })
    ∧ (AtOp s r 0x0A → (pdiff (aluA r) s.chip.tmr.period < 1 ∨ s.chip.doc.sched ≠ none) →
      exec .swapat s = next s.chip { r with swapOk := false })
    ∧ (AtOp s r 0x0B → (pdiff (aluA r) s.chip.tmr.period < 1 ∨ s.chip.doc.sched ≠ none) →
      exec .revert s = next s.chip { r with swapOk := false })
    ∧ (AtOp s r 0x0D → 4607 < (aluA r).toNat → exec .sett s = .next { s with chip := faultRoutine s.chip r })
    ∧ (AtOp s r 0x10 → 64 ≤ (aluA r).toNat → exec .shape s = next s.chip r)
    ∧ (AtOp s r 0x14 → s.chip.doc.stepB = none → exec .collect s = next s.chip r)
    ∧ (AtOp s r 0x04 → rdbBlock (toW (mwImm r.word) + aluA r).toNat = false → exec (.rdb false) s = next s.chip { r with badAccess := true })
    ∧ (AtOp s r 0x05 → wrbBlock (toW (mwImm r.word) + aluA r).toNat = false → exec (.wrb false) s = next s.chip { r with badAccess := true }))

/-- R170, R172–R174, R179, R183, R187, R199: the control store's fetch and next-address control, each with its whole next state. Where the rules leave a point open it states the model's reading (log entries 3, 27 and 83). -/
def Obligations.MicrowordsAreFetchedAndSequenced : Prop :=
  (∀ (s : State) (r : Routine) (w : Nat), Runs s r → r.phase = .fetch → eccCheck (microAt s.chip (r.pc % 8192)) = some (w, false) →
    mwIntr w = false → opListed (mwOp w) = true → (mwOp w = 1 → mwSub w ≤ 8) →
    exec .microwordFetch s = .next { s with chip := setCur s.chip (some { r with word := w, phase := .issue }) })
  ∧ (∀ (s : State) (r : Routine), Runs s r → r.phase = .long → r.badAccess = false →
    let r1 := if mwOp r.word = 9 then { r with pins := [] } else r
    let r2 := if mwOp r.word = 4 then setReg r1 (mwDst r.word) r.readValue else r1
    exec .longOpEnd s = .next { s with chip := setCur s.chip (some { r2 with phase := if mwCyc r.word = 0 then .wait else .next, waitP := s.chip.tmr.period }) })
  ∧ (∀ (s : State) (r : Routine), Runs s r → r.phase = .wait → s.chip.tmr.period ≠ r.waitP →
    exec .periodWaitEnd s = .next { s with chip := setCur s.chip (some { r with phase := .next }) })
  ∧ (∀ (s : State) (r : Routine), AtSeq s r 0 →
    exec .seqNext s = .next { s with chip := goTo s.chip r (r.pc + 1) })
  ∧ (∀ (s : State) (r : Routine), AtSeq s r 1 → exec .jump s = .next { s with chip := goTo s.chip r (mwAddr r.word) })
  ∧ (∀ (s : State) (r : Routine), AtSeq s r 2 → r.stack.length < 8 →
    exec .call s = .next { s with chip := goTo s.chip { r with stack := (r.pc + 1) % 8192 :: r.stack } (mwAddr r.word) })
  ∧ (∀ (s : State) (r : Routine) (t : Nat) (rest : List Nat), AtSeq s r 3 → r.stack = t :: rest →
    exec .ret s = .next { s with chip := goTo s.chip { r with stack := rest } t })
  ∧ (∀ (s : State) (r : Routine),
    let fault : State := { s with chip := faultRoutine s.chip r }
    (AtSeq s r 2 → 8 ≤ r.stack.length → exec .call s = .next fault) ∧ (AtSeq s r 3 → r.stack = [] → exec .ret s = .next fault)
    ∧ (Runs s r → r.phase = .long → r.badAccess = true →
      exec .longOpEnd s = .next { s with chip := faultRoutine s.chip { r with badAccess := false } })
    ∧ (Runs s r → r.phase = .fetch → eccCheck (microAt s.chip (r.pc % 8192)) = none →
      exec .microwordFetch s = .next { s with chip := docFatal s.chip })
    ∧ (∀ w, Runs s r → r.phase = .fetch → eccCheck (microAt s.chip (r.pc % 8192)) = some (w, false) → mwIntr w = false →
      opListed (mwOp w) = false → exec .microwordFetch s = .next { s with chip := faultRoutine s.chip { r with word := w, phase := .issue } }))
  ∧ (∀ (s : State) (r : Routine), AtSeq s r 4 →
    exec .brt s = .next { s with chip := goTo s.chip r (if condTrue s.chip r (mwCond r.word) then mwAddr r.word else r.pc + 1) })
  ∧ (∀ (s : State) (r : Routine), AtSeq s r 5 →
    exec .brf s = .next { s with chip := goTo s.chip r (if condTrue s.chip r (mwCond r.word) then r.pc + 1 else mwAddr r.word) })
  ∧ (∀ (s : State) (r : Routine), AtSeq s r 7 → exec .halt s = .next { s with chip := endRoutine s.chip r 1 0 (bMoved r) })
  ∧ (∀ (s : State) (d : DocCmd) (c : Chip), s.held = none → docStopped s.chip = false → s.chip.doc.cur = none →
    s.chip.doc.csHold = false → popCommand s.chip = some (d, c) → 16 ≤ wbits d.w0 24 8 → entryValid c (wbits d.w0 24 8) = true →
    exec .dispatchCmd s = .next { s with chip := setCur c (some (freshRoutine c (wbits d.w0 24 8) d)) }
    ∧ (nextUrgent s.chip = none →
      exec .idleLoop s = .next { s with chip := setCur c (some (freshRoutine c (wbits d.w0 24 8) d)) }))
  ∧ (∀ (s : State), s.held = none → docStopped s.chip = false → s.chip.doc.resetEntry = true →
    let d : Chip := { s.chip with doc := { s.chip.doc with resetEntry := false } }
    exec .resetEntry s = .next { s with chip := setCur d none })
  ∧ (∀ (s : State) (r : Routine), Runs s r → fld s.chip DOC_CTL_run_limit < r.periods →
    exec .runLimitExpiry s = .next { s with chip := faultRoutine (setB s.chip DOC_STAT_run_over true) r })

/-- R182, R184, R185, R190, R192, R390: the vendor routines of stepping A1 from the state their dispatch leaves. Where the rules leave a point open it states the model's reading (log entries 16, 27 and 84). -/
def Obligations.VendorRoutinesAct : Prop :=
  (∀ (s : State) (r : Routine), Runs s r → r.opcode = 0x12 → r.phase = .fetch → r.cmd.source < 4 → r.stage = 0 →
    nextUrgent s.chip = none → epochHold s.chip = false → wbits r.cmd.w1 0 13 ≤ 4607 → wbit r.cmd.w1 16 = true →
    s.chip.doc.sched = none →
    let p := s.chip.tmr.period
    let c := setPend (copyPend s.chip) (wbits r.cmd.w1 0 13) r.cmd.w2
    let d : Chip := { c with doc := { c.doc with sched := some ⟨false, p + 3 - 1, r.cmd.serial⟩, stepB := some (p + 3 - 1 + 1) } }
    exec .setTarget s = .next { s with chip := setCur d (some { r with
      swapOk := true, swap := if r.swap = 2 then r.swap else 1, stepB := some (p + 3 - 1 + 1), stage := 1, waitP := p }) })
  ∧ (∀ (s : State) (r : Routine), Runs s r → r.opcode = 0x18 → r.phase = .fetch → r.cmd.source < 4 →
    exec .shapeSet s = .next { s with chip := halt (shapeSet s.chip (wbits r.cmd.w1 0 6) (wbits r.cmd.w1 8 5) r.cmd.w2) r })
  ∧ (∀ (s : State) (r : Routine), Runs s r → r.opcode = 0x19 → r.phase = .fetch → r.cmd.source < 4 →
    exec .shapeRestore s = .next { s with chip := halt (shapeRestore s.chip (wbits r.cmd.w1 0 6) (wbit r.cmd.w1 31)) r })
  ∧ (∀ (s : State) (r : Routine), Runs s r → r.opcode = 0x28 → r.phase = .fetch → r.cmd.source < 4 →
    exec .charSweep s = .next { s with chip := halt (charRequest s.chip r.cmd.w1 r.cmd.w2 (wbits r.cmd.w0 0 16)) r })
  ∧ (∀ (s : State) (r : Routine), Runs s r → r.opcode = 0x30 → r.phase = .fetch → r.cmd.source < 4 →
    exec .vitMark s = .next { s with chip := halt (vitTrigger s.chip (vitBoundary s.chip r.cmd.w2) 2 0xFFFF) r })
  ∧ (∀ (s : State) (r : Routine), Runs s r → r.opcode = 0x08 → 4 ≤ r.cmd.source →
    exec .urgHold s = .next { s with chip := halt (epochRequest s.chip 1 8 (s.chip.tmr.period + 2)) r })
  ∧ (∀ (s : State) (r q : Routine), Runs s r → r.opcode = 0x09 → 4 ≤ r.cmd.source → s.chip.doc.saved = some q →
    let d : Chip := { s.chip with doc := { s.chip.doc with forceBack := true } }
    exec .urgStop s = .next { s with chip := halt d r })
  ∧ (∀ (s : State) (r : Routine), Runs s r → r.opcode = 0x02 → 4 ≤ r.cmd.source → settledAll s.chip = true →
    exec .abortTail s = .next { s with chip := halt (collectLast s.chip true false) r })
  ∧ (∀ (s : State) (r q : Routine), Runs s r → r.opcode = 0x0F → 4 ≤ r.cmd.source → r.stage = 0 → s.chip.doc.saved = some q →
    s.chip.doc.forceBack = false → entryPolicy s.chip q.opcode = 0 →
    let d : Chip := { s.chip with doc := { s.chip.doc with saved := none } }
    exec .partialHandler s = .next { s with chip := setCur d (some { q with roll := 1 }) })
  ∧ (∀ (s : State) (r : Routine) (e : Nat), Runs s r → r.opcode = 0x10 → r.pc = 0x100 → r.phase = .fetch → r.cmd.source < 4 →
    r.regs.length = 16 → nextUrgent s.chip = none → epochHold s.chip = false → s.chip.doc.sched = none →
    wbit (reg r 0) 16 = true → r.movedTold = false → (reg r 7) = 0 →
    residentEntry s.chip (BitVec.ofNat 16 (wbits (reg r 0) 0 16)) = some e → e ≤ 63 →
    let x := entryOf s.chip e
    x.st = 2 → hdrCrcOk x.content = true → bodyCrcOk x.content = true →
    ∃ (d : Chip) (q : Routine), exec .apply s = .next { s with chip := d }
      ∧ d.lpe.pend = bankOfTargets (arrTargets x.content) ∧ d.lpe.pendId = x.id ∧ d.lpe.pendEmpty = false
      ∧ d.doc.sched = some ⟨false, s.chip.tmr.period + 2, r.cmd.serial⟩ ∧ d.doc.stepB = some (s.chip.tmr.period + 3)
      ∧ d.doc.cur = some q ∧ q.pc = 0x10C ∧ q.phase = .wait ∧ q.swap = (if r.swap = 2 then 2 else 1)
      ∧ d.lpe.force = s.chip.lpe.force ∧ d.ddr = s.chip.ddr ∧ d.tmr = s.chip.tmr)

/-- R164, R165, R179, R186, R189, R191, R192, R199, R204: the Docent's host interface on a single device, each with its whole next state. Where the rules leave a point open it states the model's reading (log entries 83 and 84). -/
def Obligations.DocentRequestsWaitAndAct : Prop :=
  (∀ (s : State) (v : W), MayChange s (DOC_CMD 3) →
    let c := wr s.chip (DOC_CMD 3) v
    let x : DocCmd := ⟨written s.chip (DOC_CMD 0), written s.chip (DOC_CMD 1), written s.chip (DOC_CMD 2), v, 0, s.chip.doc.serial⟩
    let d : Chip := { c with doc := { c.doc with
      serial := s.chip.doc.serial + 1, incoming := s.chip.doc.incoming ++ [(x, eSingle s.chip)] } }
    (fldB s.chip DOC_CTL_host_en = true → hostQueued s.chip < 8 → exec (.docCmdWrite v) s = .next { s with chip := d })
    ∧ ((fldB s.chip DOC_CTL_host_en = false ∨ 8 ≤ hostQueued s.chip) → exec (.docCmdWrite v) s =
      .next { s with chip := raise (setB c DOC_STAT_cmd_reject true) srcDOC_CMD_REJECT 0 }))
  ∧ (∀ (s : State) (x : DocCmd) (e : W), s.held = none → s.chip.doc.incoming = [(x, e)] → due s.chip e = true → x.source = 0 →
    wbits x.w0 24 8 < 0xC0 →
    let d : Chip := { s.chip with doc := { s.chip.doc with incoming := [], hostQ := s.chip.doc.hostQ ++ [x] } }
    exec .docCmdEnqueue s = .next { s with chip := showDoc d })
  ∧ (∀ (s : State) (v : W), MayChange s DOC_URG → urgentValid s.chip (wbits v 0 8) = true →
    exec (.docUrgWrite v) s = .next { s with chip := urgentWait s.chip (wbits v 0 8) (eSingle s.chip) })
  ∧ (∀ (s : State) (v : W), 
    let t : State := { s with chip := raise (setB s.chip DOC_STAT_cmd_reject true) srcDOC_CMD_REJECT 0 }
    (MayChange s DOC_URG → urgentValid s.chip (wbits v 0 8) = false → exec (.docUrgWrite v) s = .next t)
    ∧ (MayChange s DOC_ABORT → s.chip.doc.abort ≠ none → exec (.docAbort v) s = .next t))
  ∧ (∀ (s : State) (op : Nat) (e : W), s.held = none → s.chip.doc.urgWait = [(op, e)] → due s.chip e = true →
    let d : Chip := { s.chip with doc := { s.chip.doc with
      urgWait := [], urgPend := s.chip.doc.urgPend ++ [(op, s.chip.tmr.period)] } }
    exec .urgPending s = .next { s with chip := d })
  ∧ (∀ (s : State) (op : Nat) (p : W), s.held = none → s.chip.doc.urgPend = [(op, p)] → 16 < pdiff s.chip.tmr.period p →
    (op, p) ∉ s.chip.doc.urgTold →
    let d : Chip := { s.chip with doc := { s.chip.doc with urgTold := s.chip.doc.urgTold ++ [(op, p)] } }
    exec .docUrgLate s = .next { s with chip := raise d srcDOC_URG_LATE 0 })
  ∧ (∀ (s : State) (v : W), MayChange s DOC_ABORT → s.chip.doc.abort = none →
    let r := runningCommand s.chip
    let named := if wbit v 31 then r.isSome
      else (match r with | some r => hasTag v r.cmd | none => false) || (queuedCommands s.chip).any (hasTag v)
    let d : Chip := { s.chip with doc := { s.chip.doc with
      abort := some ⟨v, eSingle s.chip, named, r.map (fun r => r.cmd.serial)⟩ } }
    exec (.docAbort v) s = .next { s with chip := setB d DOC_STAT_abort_busy true })
  ∧ (∀ (s : State) (a : DocAbort) (x : DocCmd), s.held = none → s.chip.doc.abort = some a → due s.chip a.e = true →
    wbit a.word 31 = false → s.chip.doc.cur = none → s.chip.doc.saved = none →
    (queuedCommands s.chip).find? (hasTag a.word) = some x →
    let c : Chip := { s.chip with doc := { s.chip.doc with abort := none } }
    exec .abortResolve s = .next { s with chip := abortQueued (setB c DOC_STAT_abort_busy false) x })
  ∧ (∀ (s : State) (b : W) (n : Nat), s.held = none → s.chip.doc.sched = some ⟨false, b, n⟩ → due s.chip b = true →
    s.chip.lpe.pendEmpty = false →
    ∃ d : Chip, exec .targetSwap s = .next { s with chip := d } ∧ d.doc.sched = none
      ∧ d.lpe.entry = s.chip.lpe.force ∧ d.lpe.entryId = s.chip.lpe.forceId ∧ d.lpe.force = s.chip.lpe.pend
      ∧ d.lpe.forceId = s.chip.lpe.pendId ∧ d.lpe.pendEmpty = true ∧ d.lpe.newStep = some (s.chip.tmr.period + 1)
      ∧ d.lpe.cells = s.chip.lpe.cells)
  ∧ (∀ (s : State) (b : W) (n : Nat), s.held = none → s.chip.doc.sched = some ⟨true, b, n⟩ → due s.chip b = true →
    ∃ d : Chip, exec .targetRevert s = .next { s with chip := d } ∧ d.doc.sched = none
      ∧ d.lpe.force = s.chip.lpe.entry ∧ d.lpe.forceId = s.chip.lpe.entryId ∧ d.lpe.entry = s.chip.lpe.entry
      ∧ d.lpe.pendEmpty = true ∧ d.lpe.newStep = some (s.chip.tmr.period + 1) ∧ d.lpe.cells = s.chip.lpe.cells)
  ∧ (∀ (s : State) (v : W), MayChange s DOC_CUST_CTL → (wbit v 1 = false ∨ fldB s.chip DOC_CUST_CTL_load = false) →
    let wait := s.chip.doc.custWait || !fldB s.chip DOC_CUST_CTL_load
    exec (.custLoad v) s = .next { s with chip := { s.chip with doc := { s.chip.doc with custWait := wait } } })
  ∧ (∀ (s : State) (v : W), MayChange s DOC_CUST_CTL →
    (fldB s.chip DOC_CUST_CTL_load = true → exec (.custCommit v) s = .next { s with chip := setFld s.chip DOC_CUST_STAT_result 3 })
    ∧ (fldB s.chip DOC_CUST_CTL_load = false → wbit v 0 = false →
      let d : Chip := { s.chip with doc := { s.chip.doc with custWait := false } }
      exec (.custCommit v) s = .next { s with chip := setB d DOC_CUST_CTL_load false }))
  ∧ (∀ (s : State), s.held = none → s.chip.doc.custWait = true → customerRuns s.chip = false → queuedCommands s.chip = [] →
    let d : Chip := { s.chip with doc := { s.chip.doc with custWait := false, prgQ := [], curQ := [], hostQ := [], cnsQ := [] } }
    exec .custRegionOpen s = .next { s with chip := showDoc (setB d DOC_CUST_CTL_load true) })
  ∧ (∀ (s : State) (off : BitVec 17) (v : W), MayChange s (0x2000000 + off.toNat) → fldB s.chip DOC_CUST_CTL_load = true →
    0x18000 ≤ off.toNat →
    exec (.controlStoreWrite off v) s = .next { s with chip := csPut s.chip (off.toNat / 4) v })
  ∧ (∀ (s : State), s.held = none → fld s.chip DOC_CUST_STAT_result = 3 →
    let c := setB s.chip DOC_CUST_CTL_load false
    let r := custCheck s.chip
    let d : Chip := { c with doc := { c.doc with custBad := r.isSome } }
    let e := wr d DOC_CUST_STAT (match r with
      | none => toW (2 ^ 30)
      | some (k, a) => toW (2 * 2 ^ 30 + k * 2 ^ 24 + a % 2 ^ 13))
    exec .custCheckDone s = .next { s with chip := e })
  ∧ (∀ (s : State) (x : DoneRec) (l : List DoneRec), MayWrite s DOC_DONE0 → s.chip.doc.done = x :: l →
    let c : Chip := { s.chip with doc := { s.chip.doc with done := l } }
    let d := wr (setFld c DOC_STAT_done_depth l.length) DOC_DONE1
      (toW (b2n x.bMoved * 2 ^ 31 + b2n x.partial_ * 2 ^ 30 + x.roll * 2 ^ 28 + x.abortRes * 2 ^ 26 + x.stepTag))
    exec .docDonePop s = .next { s with chip := answer d (toW (x.opcode * 2 ^ 24 + x.source * 2 ^ 20 + x.status * 2 ^ 16 + x.tag)) })

/-- R147, R193–R198, R207: a mode change from its request to its commit, on a single device. Where the rules leave a point open it states the model's reading (log entries 83 and 84). -/
def Obligations.ModeChangesPrepareAndCommit : Prop :=
  (∀ (s : State) (v : W), MayChange s DOC_EPOCH_REQ → epochReason s.chip (wbits v 0 2) = 0 →
    let byte := (fld s.chip DOC_EPOCH_STAT_epoch / 4 + 1) % 64 * 4 + wbits v 0 2
    let q := eSingle s.chip
    let c := setFld (setB s.chip DOC_EPOCH_STAT_preparing true) DOC_EPOCH_STAT_pending byte
    let d : Chip := { c with doc := { c.doc with epoch := { c.doc.epoch with
      q := q, c := q + toW (max 8 (min 255 (wbits v 8 8))), started := false, parts := [], acks := [], gone := [],
      peerAcks := [], decided := none } } }
    exec (.docEpochReq v) s = .next { s with chip := d })
  ∧ (∀ (s : State) (v : W), MayChange s DOC_EPOCH_REQ → epochReason s.chip (wbits v 0 2) ≠ 0 →
    let c := setFld (setFld s.chip DOC_EPOCH_STAT_result 3) DOC_EPOCH_STAT_reason (epochReason s.chip (wbits v 0 2))
    exec (.docEpochReq v) s = .next { s with chip := setB (raise c srcDOC_CMD_REJECT 0) DOC_STAT_cmd_reject true })
  ∧ (∀ (s : State), s.held = none → epochBusy s.chip = true → s.chip.doc.epoch.started = false →
    due s.chip s.chip.doc.epoch.q = true →
    let p := participants s.chip
    let d : Chip := { s.chip with doc := { s.chip.doc with epoch := { s.chip.doc.epoch with
      started := true, parts := p, acks := p.filter (fun x => decide (x < 36)) } } }
    exec .epochPrepare s = .next { s with chip := d })
  ∧ (∀ (s : State), s.held = none → epochBusy s.chip = true → s.chip.doc.epoch.started = true →
    s.chip.doc.epoch.decided = none → due s.chip (s.chip.doc.epoch.c - 1) = true → epochMissing s.chip = [] →
    let d : Chip := { s.chip with doc := { s.chip.doc with epoch := { s.chip.doc.epoch with decided := some true } } }
    exec .epochDecide s = .next { s with chip := d })
  ∧ (∀ (s : State), s.held = none → epochBusy s.chip = true → s.chip.doc.epoch.started = true →
    s.chip.doc.epoch.decided = none → due s.chip (s.chip.doc.epoch.c - 1) = true → epochMissing s.chip ≠ [] →
    ∃ d : Chip, exec .epochDecide s = .next { s with chip := d } ∧ epochBusy d = false ∧ fld d DOC_EPOCH_STAT_result = 2
      ∧ fld d DOC_EPOCH_STAT_epoch = fld s.chip DOC_EPOCH_STAT_epoch ∧ d.lpe = s.chip.lpe
      ∧ d.att.raised.any (fun o => o.src == srcEPOCH_WITHDRAW && o.data == withdrawData (epochMissing s.chip)) = true)
  ∧ (∀ (s : State), s.held = none → epochBusy s.chip = true → s.chip.doc.epoch.decided = some true →
    due s.chip s.chip.doc.epoch.c = true →
    ∃ d : Chip, exec .epochCommit s = .next { s with chip := d } ∧ epochBusy d = false
      ∧ fld d DOC_EPOCH_STAT_epoch = fld s.chip DOC_EPOCH_STAT_pending ∧ fld d DOC_EPOCH_STAT_result = 1
      ∧ d.lpe = { s.chip.lpe with epochNow := some (fld s.chip DOC_EPOCH_STAT_pending % 4) }
      ∧ d.doc.epoch.decided = none ∧ d.tmr = s.chip.tmr ∧ d.ngl = s.chip.ngl)
  ∧ (∀ (s : State) (t : Fin 144) (b : W) (old : Nat), s.held = none → s.chip.doc.epoch.last = some (b, old) →
    t.val ∈ s.chip.doc.epoch.behind → due s.chip (b + 64) = true →
    linkState s.chip t = 6 → linkHeld s.chip = false →
    let c : Chip := { s.chip with doc := { s.chip.doc with epoch := { s.chip.doc.epoch with
      behind := s.chip.doc.epoch.behind.erase t.val } } }
    exec (.epochStray t) s = .next { s with chip := failLink (raise c srcEPOCH_STRAY 0) t 7 })

/-- R217–R228, R248: the arrangement store, its commands and the pager on a single device. Where the rules leave a point open it states the model's reading (log entry 80). -/
def Obligations.ArrangementsAreStoredAndPaged : Prop :=
  (∀ (s : State) (w : W), MayChange s ARS_CMD → fldB s.chip ARS_STAT_busy = false →
    let t : Nat → State := fun k =>
      let c : Chip := { s.chip with ars := { s.chip.ars with cmd := some (putField w 28 4 k, eSingle s.chip) } }
      { s with chip := setB c ARS_STAT_busy true }
    exec (.accede w) s = .next (t 1) ∧ exec (.delete w) s = .next (t 2) ∧ exec (.fetch w) s = .next (t 3))
  ∧ (∀ (s : State) (w : W), MayChange s ARS_CMD → fldB s.chip ARS_STAT_busy = true →
    let t : State := { s with chip := arsReject s.chip }
    exec (.accede w) s = .next t ∧ exec (.delete w) s = .next t ∧ exec (.fetch w) s = .next t)
  ∧ (∀ (s : State) (w e : W), s.held = none → s.chip.ars.cmd = some (w, e) → due s.chip e = true →
    let c : Chip := { s.chip with ars := { s.chip.ars with cmd := none } }
    let id := wbits w 0 16
    (wbits w 28 4 = 1 → accedeCheck { c with ars := { c.ars with arrIn := none } } id (wbit w 27) (accedeContent c w) = none →
      let d : Chip := { c with ars := { c.ars with arrIn := none, accede := some (BitVec.ofNat 16 id, accedeContent c w) } }
      exec .arsCmdEffect s = .next { s with chip := setFld (setStore d id 3) ARS_STAT_id id })
    ∧ (wbits w 28 4 = 2 → inUse c (BitVec.ofNat 16 id) = false → idReserved c id = false → storeState c id = 1 →
      let d : Chip := { c with ars := { c.ars with delete := some (BitVec.ofNat 16 id) } }
      exec .arsCmdEffect s = .next { s with chip := setFld d ARS_STAT_id id })
    ∧ (wbits w 28 4 = 3 → storeState c id = 1 →
      let next := c.tmr.period + toW (fld c ARS_CTL_lookahead)
      let d : Chip := { c with ars := { c.ars with
        fetch := c.ars.fetch ++ [(BitVec.ofNat 16 id, next)], due := c.ars.due ++ [⟨next, BitVec.ofNat 16 id, true⟩] } }
      exec .arsCmdEffect s = .next { s with chip := arsEnd d id 1 })
    ∧ (∀ k, wbits w 28 4 = 1 → accedeCheck { c with ars := { c.ars with arrIn := none } } id (wbit w 27) (accedeContent c w) = some k →
      let d : Chip := { c with ars := { c.ars with arrIn := none } }
      exec .arsCmdEffect s = .next { s with chip := raise (arsEnd d id k) srcARS_ACC_REFUSED 0 })
    ∧ (wbits w 28 4 = 2 → inUse c (BitVec.ofNat 16 id) = true → exec .arsCmdEffect s = .next { s with chip := arsEnd c id 11 })
    ∧ (wbits w 28 4 = 2 → inUse c (BitVec.ofNat 16 id) = false → idReserved c id = true →
      exec .arsCmdEffect s = .next { s with chip := arsEnd c id 12 })
    ∧ (wbits w 28 4 = 2 → inUse c (BitVec.ofNat 16 id) = false → idReserved c id = false → storeState c id ≠ 1 → storeState c id ≠ 2 →
      exec .arsCmdEffect s = .next { s with chip := arsEnd c id 13 })
    ∧ (wbits w 28 4 = 3 → storeState c id ≠ 1 → exec .arsCmdEffect s = .next { s with chip := arsEnd c id 13 }))
  ∧ (∀ (s : State) (id : BitVec 16) (l : List Byte), s.held = none → s.chip.ars.accede = some (id, l) →
    let c : Chip := { s.chip with ars := { s.chip.ars with accede := none } }
    exec .accessionStored s =
      .next { s with chip := arsEnd (setStore (memWrite c 6 (slotAddr c id.toNat) l) id.toNat 1) id.toNat 1 })
  ∧ (∀ (s : State) (id : BitVec 16) (e : Nat), s.held = none → s.chip.ars.fill = none → fillChoice s.chip = some id →
    fillVictim s.chip = some e → (entryOf s.chip e).st = 0 →
    let d : Chip := { s.chip with ars := { s.chip.ars with fill := some ⟨e, id, false⟩ } }
    exec .fillStart s = .next { s with chip := setEntry d e ⟨1, false, id, []⟩ })
  ∧ (∀ (s : State) (f : Fill), s.held = none → s.chip.ars.fill = some f →
    let l := memBytes s.chip 6 (slotAddr s.chip f.id.toNat) arrBytes
    let c := ddrNote s.chip 6 false (slotAddr s.chip f.id.toNat) arrBytes
    let d : Chip := { c with ars := { c.ars with fill := none } }
    hdrCrcOk l = true → bodyCrcOk l = true →
    exec (.fillComplete false) s = .next { s with chip := announceDue (setEntry d f.entry ⟨2, false, f.id, l⟩) })
  ∧ (∀ (s : State) (f : Fill) (bad : Bool), s.held = none → s.chip.ars.fill = some f →
    let l := memBytes s.chip 6 (slotAddr s.chip f.id.toNat) arrBytes
    (bad || !(hdrCrcOk l && bodyCrcOk l)) = true →
    ∃ c d : Chip, exec (.fillComplete bad) s = .next { s with chip := d }
      ∧ d = (if f.retry then setStore c f.id.toNat 2 else startFill c f.entry f.id true) ∧ fldB c ARS_STAT_fill_err = true
      ∧ entryOf c f.entry = CacheEntry.empty)
  ∧ (∀ (s : State) (e : Fin 64), s.held = none → (entryOf s.chip e).st = 2 → (entryOf s.chip e).dirty = true →
    let x := entryOf s.chip e
    let d := memWrite s.chip 6 (slotAddr s.chip x.id.toNat) x.content
    exec (.storeCopyDone e) s = .next { s with chip := setEntry d e { x with dirty := false } })
  ∧ (∀ (s : State) (x : Nat × StepRef), s.held = none → x ∈ allSteps s.chip (pagerLead s.chip) →
    x.2.dist = (pagerLead s.chip : Int) → x.2.p.id ≠ 0xFFFF → residentEntry s.chip x.2.p.id = none →
    (x.2.b, x.2.p.id) ∉ s.chip.ars.lateTold →
    ∃ d : Chip, exec .pageLate s = .next { s with chip := d } ∧ fldB d ARS_STAT_page_late = true
      ∧ (x.2.b, x.2.p.id) ∈ d.ars.lateTold ∧ d.ars.cache = s.chip.ars.cache ∧ d.ars.store = s.chip.ars.store
      ∧ d.prg = s.chip.prg)

/-- R229–R244, R252: the programme engine. Where the rules leave a point open it states the model's reading (log entry 81). -/
def Obligations.ProgrammesRunTheirSteps : Prop :=
  (∀ (s : State) (w : W), MayChange s PRG_CMD → fldB s.chip PRG_STAT_busy = false →
    let t : Nat → State := fun k =>
      { s with chip := defer (setB s.chip PRG_STAT_busy true) (eSingle s.chip) PRG_CMD (putField w 28 4 k) }
    exec (.load w) s = .next (t 1) ∧ exec (.check w) s = .next (t 2) ∧ exec (.start w) s = .next (t 3)
      ∧ exec (.stage w) s = .next (t 4) ∧ exec (.stop w) s = .next (t 5) ∧ exec (.clear w) s = .next (t 6))
  ∧ (∀ (s : State) (w : W), MayChange s PRG_CMD → fldB s.chip PRG_STAT_busy = true →
    let t : State := { s with chip := prgRefuse s.chip 3 }
    exec (.load w) s = .next t ∧ exec (.check w) s = .next t ∧ exec (.start w) s = .next t
      ∧ exec (.stage w) s = .next t ∧ exec (.stop w) s = .next t ∧ exec (.clear w) s = .next t)
  ∧ (∀ (s : State) (off : BitVec 18) (v : W), MayChange s (0x400000 + off.toNat) → 0x10000 ≤ off.toNat → off.toNat < 0x30000 →
    slotState s.chip ((off.toNat - 0x10000) / 0x8000) = 1 →
    let d : Chip := { s.chip with prg := { s.chip.prg with
      mem := mapWrite (fun _ => 0) s.chip.prg.mem ((off.toNat - 0x10000) / 4) v } }
    exec (.stepMemoryWrite off v) s = .next { s with chip := d })
  ∧ (∀ (s : State) (off : BitVec 18) (v : W), MayChange s (0x400000 + off.toNat) → 0x10000 ≤ off.toNat → off.toNat < 0x30000 →
    slotState s.chip ((off.toNat - 0x10000) / 0x8000) ≠ 1 →
    exec (.stepMemoryWrite off v) s = .next { s with chip := raise s.chip srcPRG_REJECT 0 })
  ∧ (∀ (s : State) (r : PrgRun) (o : W), s.held = none → s.chip.prg.run = some r → slotState s.chip r.slot = 3 →
    r.origin = some o → due s.chip o = true → s.chip.prg.rejoin = none →
    exec .programmeOrigin s = .next { s with chip := setSlot s.chip r.slot 4 })
  ∧ (∀ (s : State) (q r : PrgRun) (cyc : Bool) (x : W), s.held = none → s.chip.prg.staged = some (q, cyc) → q.origin = some x →
    due s.chip x = true → s.chip.prg.rejoin = none → s.chip.prg.run = some r →
    let c := advanceRun (setSlot (setSlot s.chip r.slot 2) q.slot 4) q.slot
    exec .stageSwap s = .next { s with chip := showPosition (announceStart (setRun (setStaged c none) (some q)) q) })
  ∧ (∀ (s : State) (r : PrgRun) (x : W), s.held = none → s.chip.prg.run = some r → r.stop = some x → due s.chip x = true →
    exec .programmeStop s = .next { s with chip := setRun (setSlot s.chip r.slot 2) none })
  ∧ (∀ (s : State) (r : PrgRun) (o : W), s.held = none → s.chip.prg.run = some r → r.origin = some o →
    slotCyclic s.chip r.slot = false → due s.chip (o + toW (slotSpan s.chip r.slot)) = true → slotState s.chip r.slot = 4 →
    s.chip.prg.staged = none → s.chip.prg.rejoin = none →
    exec .programmeEnd s = .next { s with chip := setRun (setSlot s.chip r.slot 6) none })
  ∧ (∀ (s : State) (r : PrgRun) (x : StepRef) (e : Nat), s.held = none → s.chip.prg.rejoin ≠ some s.chip.tmr.period →
    s.chip.prg.run = some r → (upcoming s.chip r (runLimit s.chip r) 8).head? = some x → x.p.id ≠ 0xFFFF →
    stepResident s.chip r.slot x = true → s.chip.doc.prgQ.length < 4 → residentEntry s.chip x.p.id = some e →
    let tag := r.slot * 2 ^ 14 + x.index
    let cmd : DocCmd := ⟨toW (stepOpcode s.chip r.slot x.p * 2 ^ 24 + tag), toW x.p.id.toNat, x.b, 0, 1, s.chip.doc.serial⟩
    ∃ (d : Chip) (l : List DocCmd), exec .residencyTest s = .next { s with chip := d }
      ∧ d.doc.prgQ = s.chip.doc.prgQ ++ cmd :: l ∧ (tag, e) ∈ d.prg.pins)
  ∧ (∀ (s : State) (sl : Nat) (x : StepRef), s.held = none → s.chip.twn.paired = true → holdsLoan s.chip = true →
    dueSteps s.chip 24 = [(sl, x)] → x.p.id ≠ 0xFFFF → (sl, x.index, x.cycle) ∉ s.chip.prg.residTold →
    ((residentEntry s.chip x.p.id).isSome ∨ wbit (rd s.chip PRG_MISS) sl = false) →
    let ok := (residentEntry s.chip x.p.id).isSome
    let c : Chip := { s.chip with prg := { s.chip.prg with
      residTold := s.chip.prg.residTold ++ [(sl, x.index, x.cycle)],
      resid := s.chip.prg.resid ++ [(sl, x.index, x.cycle, ok)] } }
    exec .keeperResidencyTest s = .next { s with chip := withSource c 6 (fun c => journalAppend c (x.b - 8) (.resid sl x.index x.cycle ok)) })
  ∧ (∀ (s : State) (tag : Nat) (l : List (Nat × Nat)), s.held = none → s.chip.prg.done = (tag, 1) :: l →
    let d : Chip := { s.chip with prg := { s.chip.prg with
      done := l, pins := s.chip.prg.pins.eraseP (fun p => p.1 == tag) } }
    exec .stepCompletion s = .next { s with chip := d })
  ∧ (∀ (s : State) (x : W) (r : PrgRun), s.held = none → s.chip.prg.rejoin = some x → s.chip.tmr.period ≠ x →
    due s.chip x = true → s.chip.prg.run = some r → slotState s.chip r.slot ≠ 3 →
    let c : Chip := { s.chip with prg := { s.chip.prg with rejoin := none } }
    exec .timeStepRejoin s = .next { s with chip := fixStaged (rejoinRun c x r) })
  ∧ (∀ (s : State) (sl : Nat) (x : StepRef) (l : List Byte), s.held = none → wbit (rd s.chip PRG_CTL) 16 = true →
    dueSteps s.chip (annLead s.chip) = [(sl, x)] → x.p.quiet = false → x.p.id ≠ 0xFFFF → isSent s.chip sl x = false →
    residentContent s.chip x.p.id = some l →
    let d := sendAnn (noteSent s.chip sl x.cycle x.index) 1 (annLate s.chip x.b) x.p.id.toNat sl x.index
      (stepGuard s.chip sl x.p) x.cycle x.b (some l)
    exec .announcement s = .next { s with chip := d })

/-- R257–R264, R285, R290, R293: the Curator's modes, demand accounting and epoch boundaries. Where the rules leave a point open it states the model's reading (log entry 86). -/
def Obligations.CuratorKeepsModesDemandAndEpochs : Prop :=
  (∀ (s : State) (v : W), MayChange s CUR_CTL →
    let same := sameMode s.chip (wbits v 0 2)
    let r := modeReason s.chip (wbits v 0 2)
    let v1 := if curMode s.chip = 2 then keepSlots s.chip v else v
    let v2 := putField v1 0 2 (fld s.chip CUR_CTL_mode)
    let c1 := if curMode s.chip = 2 ∧ keepSlots s.chip v ≠ v then curReject s.chip else s.chip
    let c2 := raise (setFld (setB c1 CUR_STAT_mode_reject true) CUR_STAT_mode_reason r) srcCUR_CMD_REJECT 0
    let d := defer c1 (eSingle s.chip) CUR_CTL v1
    (same = true → exec (.curModeWrite v) s = .next { s with chip := setFld d CUR_CTL_mode (wbits v1 0 2) })
    ∧ (same = false → r = 0 →
      let d : Chip := { d with cur := { d.cur with modeWait := some (wbits v1 0 2, eSingle s.chip) } }
      exec (.curModeWrite v) s = .next { s with chip := setFld d CUR_CTL_mode (wbits v1 0 2) })
    ∧ (same = false → r ≠ 0 →
      exec (.curModeWrite v) s = .next { s with chip := setFld (defer c2 (eSingle s.chip) CUR_CTL v2) CUR_CTL_mode (wbits v2 0 2) }))
  ∧ (∀ (s : State) (m : Nat) (e : W), s.held = none → s.chip.cur.modeWait = some (m, e) → due s.chip e = true →
    let gone := s.chip.cur.queue.filter (fun x => modeForbids (wbits x.w0 24 8) m)
    let u := s.chip.cur
    let d : Chip := { s.chip with cur := { u with
      modeWait := none, queue := u.queue.filter (fun x => !modeForbids (wbits x.w0 24 8) m), next := if m = 0 then none else if curMode s.chip = 0 then some e else u.next,
      todo := if m = 2 then u.todo else none, script := if m = 2 then u.script else [], watch := none, lost := [],
      autoFirst := if m = 2 ∧ curMode s.chip ≠ 2 then true else u.autoFirst,
      autoRef := if m = 2 ∧ curMode s.chip ≠ 2 then none else u.autoRef } }
    exec .curModeEffect s = .next { s with chip := showCur (gone.foldl (fun c x => curEnd c x 9) (setFld d CUR_STAT_mode m)) })
  ∧ (∀ (s : State) (q : Nat) (f : QEntry) (rest : List QEntry), s.held = none → q = wbits (rd s.chip CUR_RX_CTL) 0 4 →
    wbit (rd s.chip CUR_RX_CTL) 31 = true → curMode s.chip ≠ 0 → acting s.chip = true → queueOwner s.chip q = 1 →
    queue s.chip q = f :: rest →
    let l := reportPayload f
    let n := reportCount l
    let c := setQueue s.chip q rest
    (reportOk l = true → c.cur.reports.length + n ≤ 2048 →
      let good := (reportEntries l n).filter (entryOk c)
      let d := if good.length < n then rxDrop c (n - good.length) (beAt l 4 4) else c
      let new := good.map (fun e => (512 * e.1 + e.2.1, e.2.2 / 2 ^ bitsAt (beAt l 1 1) 0 4))
      let e : Chip := { d with cur := { d.cur with reports := d.cur.reports ++ new } }
      exec .demandReport s = .next { s with chip := countUp e CUR_RX_CNT good.length })
    ∧ (reportOk l = true → 2048 < c.cur.reports.length + n →
      exec .demandReport s = .next { s with chip := rxDrop c n (beAt l 4 4) })
    ∧ (reportOk l = false → exec .demandReport s =
      .next { s with chip := rxDrop c (if 1 ≤ n ∧ n ≤ 180 ∧ 4 ≤ l.length then n else 1) (beAt l 4 4) }))
  ∧ (∀ (s : State) (x : W), s.held = none → s.chip.cur.next = some x → due s.chip x = true → s.chip.cur.sweep = none →
    s.chip.cur.todo = none → s.chip.cur.script = [] → curMode s.chip = 1 → acting s.chip = true →
    let u := s.chip.cur
    let d : Chip := { s.chip with cur := { u with
      frozen := if u.cold then [] else u.fill, fill := [],
      sweep := if u.cold then none else some (fld s.chip CUR_MATCH_CTL_decay), next := some (x + rd s.chip CUR_EPOCH_LEN),
      cold := false } }
    ∃ t : Chip, exec .curatorEpoch s = .next { s with chip := t }
      ∧ t = showCur (wr d CUR_EPOCH_CNT (rd d CUR_EPOCH_CNT + 1)))
  ∧ (∀ (s : State) (d : Nat), s.held = none → s.chip.cur.sweep = some d →
    let carry := s.chip.cur.frozen.map (fun e => (e.1, if d = 0 then 0 else e.2.toNat - e.2.toNat / 2 ^ d))
    exec .carrySweepEnd s = .next { s with chip := { s.chip with cur := { s.chip.cur with
      sweep := none, fill := carry.foldl (fun m e => fillAdd m e.1 e.2) s.chip.cur.fill } } })
  ∧ (∀ (s : State) (v : W), MayChange s (CUR_CMD 3) →
    let c := wr s.chip (CUR_CMD 3) v
    let x : CurCmd := ⟨written s.chip (CUR_CMD 0), written s.chip (CUR_CMD 1), written s.chip (CUR_CMD 2), v⟩
    (c.cur.queue.length + c.cur.incoming.length < 16 →
      exec (.curCmdEnqueue v) s = .next { s with chip := { c with cur := { c.cur with
        incoming := c.cur.incoming ++ [(x, eSingle s.chip)] } } })
    ∧ (16 ≤ c.cur.queue.length + c.cur.incoming.length → exec (.curCmdEnqueue v) s = .next { s with chip := curReject c }))
  ∧ (∀ (s : State) (x : CurDone) (rest : List CurDone), MayWrite s CUR_DONE0 → s.chip.cur.done = x :: rest →
    let c : Chip := { s.chip with cur := { s.chip.cur with done := rest } }
    exec .curDonePop s = .next { s with chip := answer (showCur (wr c CUR_DONE1 x.detail)) x.word })
  ∧ (∀ (s : State), MayWrite s CUR_DONE0 → s.chip.cur.done = [] → exec .curDonePop s = .next { s with chip := answer s.chip 0 })

/-- R284–R287, R293: the Curator's commands. Where the rules leave a point open it states the model's reading (log entry 87). -/
def Obligations.CuratorCommandsAct : Prop :=
  (∀ (s : State) (x : CurCmd) (rest : List CurCmd), CurHead s x rest 1 → 
    let c : Chip := { (curTake s.chip) with cur := { (curTake s.chip).cur with queue := rest } }
    let p := wbits x.w1 0 10
    let q := wbits x.w1 16 10
    entryOk c (p, q, 0) = true → (wbit x.w1 31 = true ∨ (mapGet c.cur.work p = none ∧ userOf c q = none)) →
    let d := dropPair c p
    let d := match userOf d q with | some u => dropPair d u | none => d
    exec .connect s = .next { s with chip := showCur (curEnd { d with cur := { d.cur with
      work := mapPut d.cur.work p q, persist := if wbit x.w1 30 then d.cur.persist ++ [p] else d.cur.persist } } x 1) })
  ∧ (∀ (s : State) (x : CurCmd) (rest : List CurCmd), CurHead s x rest 2 → 
    let c : Chip := { (curTake s.chip) with cur := { (curTake s.chip).cur with queue := rest } }
    let p := wbits x.w1 0 10
    entryOk c (p, p, 0) = true →
    exec .disconnect s = .next { s with chip := showCur (curEnd
      (if wbit x.w1 31 then (match userOf c p with | some u => dropPair c u | none => c) else dropPair c p) x 1) })
  ∧ (∀ (s : State) (x : CurCmd) (rest : List CurCmd), CurHead s x rest 3 → 
    let c : Chip := { (curTake s.chip) with cur := { (curTake s.chip).cur with queue := rest, work := [], persist := [] } }
    exec .curClear s = .next { s with chip := showCur (curEnd c x 1) })
  ∧ (∀ (s : State) (x : CurCmd) (rest : List CurCmd) (t : Topo), CurHead s x rest 4 → 
    let c : Chip := { (curTake s.chip) with cur := { (curTake s.chip).cur with queue := rest } }
    let l := permEntries (permBuffer c (wbits x.w1 0 2))
    c.topo = some t → permValid t l = true →
    exec .loadPerm s = .next { s with chip := showCur (curEnd (setWork c l) x 1) })
  ∧ (∀ (s : State) (x : CurCmd) (rest : List CurCmd) (t : Topo), CurHead s x rest 5 → 
    let c : Chip := { (curTake s.chip) with cur := { (curTake s.chip).cur with queue := rest } }
    let l := arrContent c (BitVec.ofNat 16 (wbits x.w1 0 16))
    let d := setWork c (permEntries (arrPerm l))
    c.topo = some t → storeState c (wbits x.w1 0 16) = 1 → bitsAt (arrFlags l) 0 1 = 1 → leAt l 8 4 = t.topologyId.toNat →
    exec .loadArr s = .next { s with chip := showCur (curEnd { d with cur := { d.cur with ref := some l } } x 1) })
  ∧ (∀ (s : State) (x : CurCmd) (rest : List CurCmd) (t : Topo) (id : Nat) (l : List Byte), CurHead s x rest 6 → acting s.chip = true →
    s.chip.twn.paired = false → (curTake s.chip).twn.paired = false → changeWaits s.chip (20 + arrBytes) = false →
    let c : Chip := { (curTake s.chip) with cur := { (curTake s.chip).cur with queue := rest } }
    let drop := fldB c CUR_CTL_drop_ok
    let ref := refOf c c.cur.ref
    let r := routePerm c t (workPerm c) ref drop
    let k := compileChecked (idPast r.2 id) t id r.1 ref
    c.topo = some t → wbits x.w1 0 16 = 0xFFFF → r.1.status drop ≠ 3 → idChoice r.2 = some id → k.1 = some l → 
    let job : CurJob := ⟨wbits x.w0 0 16, wbit x.w1 16, wbit x.w1 17, x.w2, r.1.status drop, r.1.dropped, r.1.broken,
      BitVec.ofNat 16 id, l, 0⟩
    let d : Chip := { k.2 with cur := { k.2.cur with job := some job } }
    exec .curApply s = .next { s with chip := showCur (curWriteStart d (BitVec.ofNat 16 id) l none) })
  ∧ (∀ (s : State) (x : CurCmd) (st : Nat), s.held = none → s.chip.cur.queue = [x] → s.chip.cur.incoming = [] →
    let c := showCur s.chip
    (c.cur.job.isSome || safe c) = false → curRefusal c x = some st →
    let t : State := { s with chip := curEnd { c with cur := { c.cur with queue := [] } } x st }
    exec .connect s = .next t ∧ exec .disconnect s = .next t ∧ exec .curClear s = .next t ∧ exec .loadPerm s = .next t
      ∧ exec .loadArr s = .next t)
  ∧ (∀ (s : State) (x : CurCmd) (rest : List CurCmd) (k : Nat), CurHead s x rest k →
    let c : Chip := { (curTake s.chip) with cur := { (curTake s.chip).cur with queue := rest } }
    let t : Nat → State := fun st => { s with chip := showCur (curEnd c x st) }
    let p := wbits x.w1 0 10
    let q := wbits x.w1 16 10
    let id := wbits x.w1 0 16
    (k = 1 → entryOk c (p, q, 0) = false → exec .connect s = .next (t 5))
    ∧ (k = 1 → entryOk c (p, q, 0) = true → wbit x.w1 31 = false → ((mapGet c.cur.work p).isSome || (userOf c q).isSome) = true →
      exec .connect s = .next (t 4))
    ∧ (k = 2 → entryOk c (p, p, 0) = false → exec .disconnect s = .next (t 5))
    ∧ (k = 4 → (∀ y, c.topo = some y → permValid y (permEntries (permBuffer c (wbits x.w1 0 2))) = false) →
      exec .loadPerm s = .next (t 6))
    ∧ (k = 5 → storeState c id ≠ 1 → exec .loadArr s = .next (t 10))
    ∧ (k = 5 → storeState c id = 1 → (∀ y, c.topo = some y → bitsAt (arrFlags (arrContent c (BitVec.ofNat 16 id))) 0 1 ≠ 1
        ∨ leAt (arrContent c (BitVec.ofNat 16 id)) 8 4 ≠ y.topologyId.toNat) → exec .loadArr s = .next (t 7))
    ∧ (k = 6 → acting s.chip = true → s.chip.twn.paired = false → changeWaits s.chip (20 + arrBytes) = false →
      c.topo.isSome = true → badId c x = true → exec .curApply s = .next (t 7)))
  ∧ (∀ (s : State) (w : CurWrite) (rest : List CurWrite), s.held = none → s.chip.cur.writes = w :: rest →
    (∀ e, w.e = some e → due s.chip e = true) → s.chip.cur.todo = none →
    let c : Chip := { s.chip with cur := { s.chip.cur with writes := rest } }
    let c := match (if w.e.isSome then curVictim c w.id w.next else w.entry) with
      | some k => setEntry c k ⟨2, true, w.id, w.content⟩
      | none => memWrite c 5 (slotAddr c w.id.toNat) w.content
    exec .cacheWriteEnd s = .next { s with chip := showCur (epochLoad (applyWritten (setStore c w.id.toNat 1) w.id)) })
  ∧ (∀ (s : State) (c : Chip) (j : CurJob), c = s.chip → c.cur.job = some j → j.stage = 0 →
    let t := applyWritten c j.id
    (j.go = true → t = { c with cur := { c.cur with job := some { j with stage := 1 } } })
    ∧ (j.go = false → t = curComplete { c with cur := { c.cur with ref := some j.content, job := none } }
        ⟨6, j.status, j.tag, j.id.toNat, 0, j.dropped, j.broken⟩))
  ∧ (∀ (s : State) (j : CurJob), s.held = none → s.chip.cur.job = some j → j.stage = 1 → s.chip.twn.paired = false →
    s.chip.doc.curQ.length + (s.chip.doc.incoming.filter (fun e => e.1.source == 2)).length < 4 →
    changeWaits s.chip 36 = false →
    let c : Chip := { s.chip with cur := { s.chip.cur with job := some { j with stage := 2 } } }
    let r := newDocCmd c (toW (0x10 * 2 ^ 24 + j.tag)) (toW (b2n j.asap * 2 ^ 16 + j.id.toNat)) j.b 0 2
    exec .curDocQueuePlace s = .next { s with chip := enqueueCmd r.2 r.1 })
  ∧ (∀ (s : State) (x : DoneRec) (rest : List DoneRec) (j : CurJob), s.held = none → s.chip.doc.curDone = x :: rest →
    s.chip.cur.job = some j → j.stage = 2 →
    let c : Chip := { s.chip with doc := { s.chip.doc with curDone := rest } }
    (x.status = 1 → exec .curDocRecord s = .next { s with chip := showCur (curComplete
      { c with cur := { c.cur with ref := some j.content, job := none } }
      ⟨6, j.status, j.tag, j.id.toNat, x.status, j.dropped, j.broken⟩) })
    ∧ (x.status ≠ 1 → exec .curDocRecord s = .next { s with chip := showCur (curComplete
      { c with cur := { c.cur with job := none } } ⟨6, 11, j.tag, j.id.toNat, x.status, j.dropped, j.broken⟩) }))

/-- R301–R315, R332: link frames, echoes and service transactions. Where the rules leave a point open it states the model's reading (log entries 52 and 88). -/
def Obligations.LinkFramesAndServiceFramesAct : Prop :=
  (∀ (s : State) (t : Fin 144) (p : W), s.held = none → safe s.chip = false → linkSends s.chip t = true →
    (linkOf s.chip t).sendFrom = some p → due s.chip p = true → runsFabric s.chip = true → inRepair s.chip t = false →
    let tag := BitVec.ofNat 16 (period s.chip + 1).toNat
    let bytes := frameBytes s.chip tag (frameEpoch s.chip).1 (frameEpoch s.chip).2 (tileDrives s.chip t)
    exec (.downlinkFrame t) s =
      .next { s with chip := modLink s.chip t (fun l => { l with frame := some (tag, bytes) }) })
  ∧ (∀ (s : State) (t : Fin 144) (tag : BitVec 16) (l : List Byte) (other : Nat), s.held = none → l.length = 144 →
    frameCrcOk tag l = true → tag = BitVec.ofNat 16 (period s.chip).toNat →
    let c := countUp s.chip (NGL_L_SYNC_ERR t) other
    linkSends c t = true → linkHeld c = false → (linkOf c t).got = false →
    let d := takeStatus (takeTelemetry (takeSamples c t l) t (beAt l 132 8)) t (beAt l 0 4)
    let e := modLink d t (fun l => { l with got := true, loss := 0, count := l.count + 1 })
    exec (.uplinkFrame t tag 0 l 0 other true) s =
      .next { s with chip := if linkState e t = 7 ∧ 64 ≤ (linkOf e t).count then setLink e t 6 else e })
  ∧ (∀ (s : State) (t : Fin 144) (tag : BitVec 16) (resv : BitVec 40) (l : List Byte) (errs other : Nat), s.held = none →
    let c := countUp s.chip (NGL_L_SYNC_ERR t) (errs + other)
    linkSends c t = true → linkHeld c = false → (linkOf c t).got = false →
    (errs ≠ 0 ∨ resv ≠ 0 ∨ l.length ≠ 144) →
    exec (.uplinkFrame t tag resv l errs other true) s = .next { s with chip := uplinkBad c t false })
  ∧ (∀ (s : State) (t : Fin 144) (tag : BitVec 16) (l : List Byte) (other : Nat), s.held = none → l.length = 144 →
    let c := countUp s.chip (NGL_L_SYNC_ERR t) other
    linkSends c t = true → linkHeld c = false → (linkOf c t).got = false →
    (frameCrcOk tag l = false → exec (.uplinkFrame t tag 0 l 0 other true) s = .next { s with chip := uplinkBad c t true })
    ∧ (frameCrcOk tag l = true → tag ≠ BitVec.ofNat 16 (period c).toNat →
      exec (.uplinkFrame t tag 0 l 0 other true) s = .next { s with chip := uplinkBad c t false }))
  ∧ (∀ (s : State) (t : Fin 144) (tag : BitVec 16) (offset : BitVec 8) (arrival : BitVec 16) (errs : Nat), s.held = none →
    let c := countUp s.chip (NGL_L_SYNC_ERR t) errs
    linkHeld c = false → 2 ≤ linkState c t → linkState c t ≤ 7 → tag = BitVec.ofNat 16 (period c).toNat →
    let rtt := arrival - offset.setWidth 16
    let d := setFld (setFld c (NGL_L_RTT_rtt t) rtt.toNat) (NGL_L_RTT_rtt_max t) (max rtt.toNat (fld (setFld c (NGL_L_RTT_rtt t) rtt.toNat) (NGL_L_RTT_rtt_max t)))
    ∃ e : Chip, exec (.echo t tag offset arrival errs) s = .next { s with chip := e } ∧
      (rtt.toNat ≤ 352 → e = modLink d t (fun l => { l with echoed := true, echoRun := l.echoRun + 1, rttRun := 0 }))
      ∧ (352 < rtt.toNat → e = modLink d t (fun l => { l with echoed := true, echoRun := 0, rttRun := l.rttRun + 1 })))
  ∧ (∀ (s : State) (v w : W), MayWrite s NGL_SVC_CMD → s.chip.ngl.svc = none → holdsLoan s.chip = true →
    wbits w 24 3 ≠ 0 → wbits w 0 8 < 144 → linkState s.chip (wbits w 0 8) = 6 →
    let c := setB (setFld s.chip NGL_SVC_STAT_status 0) NGL_SVC_STAT_busy true
    let go : Bool → Nat → List W → Chip := fun read op words =>
      let x := sendRequest c (wbits w 0 8) op (wbits w 24 3) (rd c NGL_SVC_ADDR) words
      { x.1 with ngl := { x.1.ngl with svc := some ⟨wbits w 0 8, read, wbits w 24 3, period x.1, x.2⟩ } }
    (w = withSvcOp v 1 → exec (.svcWrite v) s =
      .next { s with chip := go false 1 ((List.range (wbits w 24 3)).map (fun i => rd c (NGL_SVC_DATA i))) })
    ∧ (w = withSvcOp v 2 → exec (.svcRead v) s = .next { s with chip := go true 2 [] }))
  ∧ (∀ (s : State) (v w : W), MayWrite s NGL_SVC_CMD → (w = withSvcOp v 1 ∨ w = withSvcOp v 2) →
    let out : Chip → Prop := fun d => (w = withSvcOp v 1 → exec (.svcWrite v) s = .next { s with chip := d })
      ∧ (w = withSvcOp v 2 → exec (.svcRead v) s = .next { s with chip := d })
    let c := s.chip
    (c.ngl.svc.isSome = true → out (setFld c NGL_SVC_STAT_status 6))
    ∧ (c.ngl.svc = none → (wbits w 24 3 = 0 ∨ 144 ≤ wbits w 0 8) → out (svcEnd c 7))
    ∧ (c.ngl.svc = none → wbits w 24 3 ≠ 0 → wbits w 0 8 < 144 → holdsLoan c = false → out (svcEnd c 5))
    ∧ (c.ngl.svc = none → wbits w 24 3 ≠ 0 → wbits w 0 8 < 144 → holdsLoan c = true → linkState c (wbits w 0 8) ≠ 6 → out (svcEnd c 4)))
  ∧ (∀ (c : Chip) (t op count : Nat) (addr : W) (words : List W), (linkOf c t).svcOut = none →
    ∃ id : BitVec 8, (sendRequest c t op count addr words).2 = id ∧
      (linkOf (sendRequest c t op count addr words).1 t).svcOut = some (svcFrame op id count addr words))
  ∧ (∀ (s : State) (r : SvcRun) (t : Fin 144) (frame : List Byte), s.held = none → s.chip.ngl.svc = some r → r.link = t →
    svcFrameOk frame = true → beAt frame 2 1 = r.id.toNat →
    let fin : Chip → Nat → Chip := fun c n =>
      let d : Chip := { c with ngl := { c.ngl with svc := none } }
      setFld (setB d NGL_SVC_STAT_busy false) NGL_SVC_STAT_status n
    let c := countUp s.chip (NGL_L_SYNC_ERR t) 0
    (r.read = false → beAt frame 1 1 = 0x81 → exec (.writeAck t frame 0) s = .next { s with chip := fin c 1 })
    ∧ (r.read = true → beAt frame 1 1 = 0x82 → exec (.readData t frame 0) s =
      .next { s with chip := fin (svcStore c r.count ((List.range r.count).map (svcWord frame))) 1 })
    ∧ (beAt frame 1 1 = 0x8F → exec (.svcError t frame 0) s =
      .next { s with chip := setFld (fin c 3) NGL_SVC_STAT_tile_err (wbits (svcWord frame 0) 0 16) })
    ∧ (64 ≤ (period s.chip - r.start).toNat →
      exec .svcTimeout s = .next { s with chip := raise (fin s.chip 2) srcNGL_SVC_TIMEOUT 0 }))

/-- R321–R328: link bring-up, departures from service and tests. Where the rules leave a point open it states the model's reading (log entries 52 and 88). -/
def Obligations.LinksComeUpAndLeaveService : Prop :=
  (∀ (s : State) (t : Fin 144) (v : W), MayChange s (NGL_L_CTL t) → (linkOf s.chip t).cmd = none →
    let q : W → Chip := fun w => modLink s.chip t (fun l => { l with cmd := some (w, eSingle s.chip) })
    (linkRefusal s.chip t (withLinkCmd v 1) = 0 → exec (.bringup t v) s = .next { s with chip := q (withLinkCmd v 1) })
    ∧ (linkRefusal s.chip t (withLinkCmd v 2) = 0 → exec (.linkDown t v) s = .next { s with chip := q (withLinkCmd v 2) })
    ∧ (linkRefusal s.chip t (withLinkCmd v 3) = 0 → exec (.prbs t v) s = .next { s with chip := q (withLinkCmd v 3) }))
  ∧ (∀ (s : State) (t : Fin 144) (frame : List Byte), s.held = none → safe s.chip = false →
    let st := linkState s.chip t
    let l := linkOf s.chip t
    let go : Nat → State := fun n => { s with chip := setLink s.chip t n }
    let c := countUp s.chip (NGL_L_SYNC_ERR t) 0
    safe c = false → linkState c t = st →
    let w := svcWord frame 0
    let reply : Nat → Prop := fun op => svcFrameOk frame = true ∧ beAt frame 1 1 = op ∧ ∃ id, l.req = some id ∧ beAt frame 2 1 = id.toNat
    (st = 1 → exec (.trainDone t 0) s = .next { s with chip := setLink c t 2 })
    ∧ (st = 2 → 16 ≤ l.echoRun → exec (.alignDone t) s = .next (go 3))
    ∧ (st = 3 → reply 0x82 → wbits w 16 16 = 0x0032 → wbits w 8 8 = 0x01 → l.test = none →
      exec (.identDone t frame 0) s = .next { s with chip := setLink (wr c (NGL_L_TILE_ID t) w) t 4 })
    ∧ (st = 3 → reply 0x82 → (wbits w 16 16 ≠ 0x0032 ∨ wbits w 8 8 ≠ 0x01) → exec (.identDone t frame 0) s =
      .next { s with chip := linkDegraded (failLink (wr c (NGL_L_TILE_ID t) w) t 4) t 2 4 })
    ∧ (st = 4 → reply 0x81 → exec (.configDone t frame 0) s = .next { s with chip := setLink c t 5 })
    ∧ (st = 5 → 64 ≤ l.count → exec (.armDone t) s = .next (go 6)))
  ∧ (∀ (s : State) (t : Fin 144) (ul dl : W), s.held = none → safe s.chip = false →
    let c := s.chip
    let st := linkState c t
    let l := linkOf c t
    let age := (period c - l.since).toNat
    (1 ≤ st → st ≤ 5 → (stepLimit st).1 ≤ age → exec (.bringupStepTimeout t) s =
      .next { s with chip := linkDegraded (failLink c t (stepLimit st).2) t 2 (stepLimit st).2 })
    ∧ (st = 9 → (∃ p, l.retryAt = some p ∧ due c p = true) → fldB c NGL_CTL_auto_retry = true → tileUsed c t = true →
      exec (.bringupRetry t) s = .next { s with chip := startBringup c t })
    ∧ (st = 6 → lossLimit c ≤ l.loss → exec (.linkResync t) s = .next { s with chip := setLink c t 7 })
    ∧ (st = 7 → 4000 ≤ age → exec (.resyncTimeout t) s = .next { s with chip := failLink c t 6 })
    ∧ (st = 6 → 32 ≤ l.heldRun → exec (.dlFault t) s =
      .next { s with chip := failLink (linkDegraded (setB c (NGL_L_STAT_dl_fault t) true) t 3 5) t 5 })
    ∧ (st = 6 → 16 ≤ l.rttRun → exec (.rttHigh t) s =
      .next { s with chip := failLink (linkDegraded (setB c (NGL_L_STAT_rtt_high t) true) t 4 3) t 3 })
    ∧ (∀ len unused, st = 8 → l.test = some (len, unused) → len ≤ age →
      let d := wr (wr (sendRequest c t 2 1 (Config.tileAddr 4) []).1 (NGL_L_PRBS_UL t) ul) (NGL_L_PRBS_DL t) dl
      exec (.prbsEnd t ul dl) s = .next { s with chip := if unused then setLink (modLink d t (fun l => { l with test := none })) t 0 else startBringup d t }))
  ∧ (∀ (c : Chip) (t : Fin 144) (n : Nat), n ≤ 9 → linkState (setLink c t n) t = n
    ∧ (let l := linkOf (setLink c t n) t
       l.since = period c ∧ l.count = 0 ∧ l.echoRun = 0 ∧ l.rttRun = 0 ∧ l.loss = 0 ∧ l.heldRun = 0))

/-- R340–R361: the messages of the twin link. Where the rules leave a point open it states the model's reading (log entries 20 to 23, 69 and 71). -/
def Obligations.TwinMessagesAreTaken : Prop :=
  (∀ (s : State) (p : W) (po arr : Int) (stray : Nat), s.held = none →
    let c := countUp { s.chip with twn := { s.chip.twn with tickArr := arr } } TWN_BLOCK_ERR stray
    (followsGrid c = false → exec (.twinTick p po arr stray) s = .next { s with chip := c })
    ∧ (followsGrid c = true → ∃ d : Chip, exec (.twinTick p po arr stray) s = .next { s with chip := d }
      ∧ d.tmr.period = p ∧ d.twn.tickArr = arr
      ∧ d.twn.offsets = (s.chip.twn.offsets ++ [(s.chip.twn.peerArr - (s.chip.twn.tickOfs : Int)) - (arr - po)]).drop (s.chip.twn.offsets.length + 1 - 16)
      ∧ (fldB d TWN_STAT_grid_lock = true → d.twn.lostRun < 16)))
  ∧ (∀ (s : State) (l : List Byte), s.held = none → fldB s.chip TWN_STAT_link_up = true → l.length = 80 →
    crc32c (l.take 76) = beAt l 76 4 → beAt l 0 4 = (period s.chip).toNat →
    exec (.prec l) s = .next { s with chip := precAccept s.chip l })
  ∧ (∀ (s : State), s.held = none →
    let c : Chip := { s.chip with twn := { s.chip.twn with loanIn := 0 } }
    let role := twinRole s.chip
    let k := s.chip.twn.loanIn
    (k = 1 → role = 2 → exec .precRenew s =
      .next { s with chip := { c with twn := { c.twn with renewAt := some c.tmr.ticks } } })
    ∧ (k = 2 → role = 2 → twinState s.chip = 2 → exec .precRelease s =
      .next { s with chip := { c with twn := { c.twn with change := some (1, 3, true) } } })
    ∧ (k = 3 → role = 2 → twinState s.chip = 2 → exec .precHandover s = .next { s with chip := { c with twn := { c.twn with
      handover := some (period c), rxSeq := some (c.twn.peerJseq + 1), change := some (1, 2, true) } } })
    ∧ (k = 4 → role = 1 → c.twn.paired = true →
      let x := if joinRuns c then setFld c TWN_JOIN_STAT_result 0 else c
      exec .precLeave s = .next { s with chip := changeTwin x 1 3 (fldB x TWN_STAT_acting) })
    ∧ (k = 0 → exec .precRenew s = .next s ∧ exec .precRelease s = .next s ∧ exec .precHandover s = .next s ∧ exec .precLeave s = .next s))
  ∧ (∀ (s : State) (l : List Byte) (b : JoinId), s.held = none →
    (msgData 2 l = none → exec (.relay l) s = .next { s with chip := blockErr s.chip })
    ∧ (msgData 3 l = none → exec (.tileCopy l) s = .next { s with chip := blockErr s.chip })
    ∧ (msgData 6 l = none → exec (.urgReq l) s = .next { s with chip := blockErr s.chip })
    ∧ (exec (.joinId b false) s = .next { s with chip := blockErr s.chip })
    ∧ (joining s.chip = true → msgData 4 l = none → exec (.bulk l) s = .next { s with chip := joinFail (blockErr s.chip) 9 })
    ∧ (fldB s.chip TWN_STAT_link_up = true → (l.length ≠ 80 ∨ crc32c (l.take 76) ≠ beAt l 76 4) →
      exec (.prec l) s = .next { s with chip := blockErr s.chip })
    ∧ (fldB s.chip TWN_STAT_link_up = false → exec (.prec l) s = .next s)
    ∧ (twinRole s.chip = 2 → s.chip.twn.paired = true → joining s.chip = false → (msgData 1 l).bind recordAt = none →
      exec (.journal l) s = .next { s with chip := copyistUnfit (blockErr s.chip) 2 0 }))
  ∧ (∀ (s : State) (l d : List Byte) (r : JRec), s.held = none → twinRole s.chip = 2 → s.chip.twn.paired = true →
    msgData 1 l = some d → recordAt d = some r → s.chip.twn.rxSeq = some r.seq → pReached (period s.chip) (r.e - 1) = false →
    exec (.journal l) s = .next { s with chip := { s.chip with twn := { s.chip.twn with
      inbox := s.chip.twn.inbox ++ [r], rxSeq := some (r.seq + 1), lastE := laterP r.e s.chip.twn.lastE } } })
  ∧ (∀ (s : State) (l d : List Byte), s.held = none →
    (msgData 2 l = some d → d.length = 68 → beAt d 0 2 < 144 → joining s.chip = false → exec (.relay l) s =
      .next { s with chip := { s.chip with twn := { s.chip.twn with relays :=
        (beAt d 0 2, BitVec.ofNat 16 (beAt d 2 2), (List.range 32).map (fun i => beAt d (4 + 2 * i) 2)) :: s.chip.twn.relays } } })
    ∧ (∀ (rs : List Repair) (r : Repair), msgData 3 l = some d → d.length = 2308 → s.chip.twn.repairs = r :: rs →
      r.tile = beAt d 0 2 → r.owner = false → pReached (period s.chip) (r.k + 5) = false → rs = [] → exec (.tileCopy l) s =
      .next { s with chip := { s.chip with twn := { s.chip.twn with repairs := [{ r with copy := some d }] } } })
    ∧ (msgData 4 l = some d → joining s.chip = true → exec (.bulk l) s =
      .next { s with chip := memWrite s.chip 12 (slotAddr s.chip (beAt d 0 2)) (bytesAt d 4 arrBytes) }))
  ∧ (∀ (s : State) (b : JoinId), s.held = none → joinRuns s.chip = true → fld s.chip TWN_JOIN_STAT_step = 2 →
    checkReason (joinId s.chip) b = 0 → ((joinId s.chip).keeper = true ∨ b.keeper = true) →
    let c := setFld s.chip TWN_JOIN_STAT_fw_partner b.fw.toNat
    exec (.joinId b true) s = .next { s with chip := { c with twn := { c.twn with joinOk := true } } })
  ∧ (∀ (s : State) (l d : List Byte), s.held = none → twinRole s.chip = 1 → s.chip.twn.paired = true → msgData 6 l = some d →
    let op := nth 0 d 0
    urgentValid s.chip op.toNat = true →
    exec (.urgReq l) s = .next { s with chip := withSource s.chip 5 (fun c => stateChangeAs c 0 (.urgent op) (fun c e => urgentWait c op.toNat e)) })

/-- R344, R360, R363, R370: the journal's records at their E. Where the rules leave a point open it states the model's reading (log entries 29 and 40). -/
def Obligations.JournalledRecordsActAtE : Prop :=
  (∀ (s : State) (r : JRec) (rest : List JRec), s.held = none → s.chip.twn.inbox = r :: rest → due s.chip r.e = true →
    let c := wr { s.chip with twn := { s.chip.twn with inbox := rest } } TWN_JSEQ r.seq
    (∀ a v, r.payload = .reg a v → exec .reg s =
      .next { s with chip := linkEffects (applyDue (asRecord c r (fun c => writeReg c a v))) })
    ∧ (∀ id l, r.payload = .arr id l → exec .arr s = .next { s with chip := if r.source = 3 then asRecord c r (fun c => curArrival c id l)
      else { c with ars := { c.ars with arrIn := some (id, l) } } })
    ∧ (∀ g k n ok, r.payload = .resid g k n ok → exec .resid s = .next { s with chip := { c with prg := { c.prg with resid := c.prg.resid ++ [(g, k, n, ok)] } } })
    ∧ (∀ op, r.payload = .urgent op → exec .urgent s =
      .next { s with chip := urgPending (urgentWait c op.toNat (period c)) })
    ∧ (∀ q w0 w1 w2 w3, r.payload = .doccmd q w0 w1 w2 w3 →
      let x := newDocCmd c w0 w1 w2 w3 (if q = 0 then 1 else if q = 1 then 2 else if q = 2 then 0 else 3)
      exec .doccmd s = .next { s with chip := enqueueCmd x.2 x.1 }))
  ∧ (∀ (s : State) (r : JRec) (rest : List JRec), s.held = none → s.chip.twn.inbox = r :: rest → due s.chip r.e = true →
    let c := wr { s.chip with twn := { s.chip.twn with inbox := rest } } TWN_JSEQ r.seq
    (∀ l, r.payload = .fw l →
      let ws := bytesToWords 64 (l ++ List.replicate (256 - l.length) 0)
      exec .fw s = .next { s with chip := setB ((List.range 64).foldl (fun c i => wr c (TWN_FW_RX i) (nth 0 ws i)) c) TWN_FW_CTL_fw_new true })
    ∧ (∀ off l, r.payload = .csImage off l →
      let pad := c.twn.csStage ++ List.replicate (csBytes - c.twn.csStage.length) 0
      let d : Chip := { c with twn := { c.twn with csStage := putBytes pad off l } }
      exec .csImage s = .next { s with chip := setFld d TWN_CS_CTL_cs_state (if csBytes ≤ off + l.length then 2 else 1) })
    ∧ (∀ q p, r.payload = .snap q → joining s.chip = true → exec (.snap p) s = .next { s with chip := takePart c p })
    ∧ (r.payload = .commit → joining s.chip = true →
      let d := raise (setFld (setFld c TWN_STAT_state 2) TWN_JOIN_STAT_result 1) srcTWN_JOINED 0
      exec .commit s = .next { s with chip := showRepairs { d with twn := { d.twn with
        renewAt := some d.tmr.ticks, commitE := none, resync := false, starting := false, repairs := [], relays := [] } } }))

/-- R338, R349–R353, R366, R370: the loan and the loss of the twin link. Where the rules leave a point open it states the model's reading (log entries 70 and 71). -/
def Obligations.LoanHandoverAndLossOfTheLink : Prop :=
  (∀ (s : State) (tick : Nat), s.held = none →
    let c := advanceTo s.chip tick
    exec (.partnerHbEdge tick) s = .next { s with chip := setB { c with twn := { c.twn with hbEdge := some c.tmr.ticks } } TWN_STAT_partner_hb true })
  ∧ (∀ (s : State), s.held = none → fldB s.chip TWN_STAT_partner_hb = true → noHeartbeat s.chip = true →
    exec .partnerHbLost s = .next { s with chip := raise (setB s.chip TWN_STAT_partner_hb false) srcTWN_PARTNER_HB_LOST 0 })
  ∧ (∀ (s : State) (r : Nat), s.held = none → s.chip.twn.renewAt = some r → s.chip.twn.paired = true →
    let c := s.chip
    (twinRole c = 1 → fldB c TWN_STAT_acting = true → leaseTicks c / 4 ≤ c.tmr.ticks - r → c.twn.fwAlive = true →
      c.twn.loanOut = 0 → exec .loanRenew s = .next { s with chip := formPrec { c with twn := { c.twn with loanOut := 1, fwAlive := false, renewAt := some c.tmr.ticks } } })
    ∧ (twinRole c = 1 → fldB c TWN_STAT_acting = true → twinState c = 2 → keeperStops c r ≤ c.tmr.ticks →
      exec .loanLost s = .next { s with chip := raise (setB (setB c TWN_STAT_acting false) TWN_STAT_loan_lost true) srcTWN_LOAN_LOST 0 })
    ∧ (twinRole c = 2 → twinState c = 2 → c.twn.change = none → copyistTakes c r ≤ c.tmr.ticks →
      exec .loanTaken s = .next { s with chip := changeTwin (raise (setB c TWN_STAT_loan_taken true) srcTWN_LOAN_TAKEN 0) 1 (if c.twn.alone then 3 else 2) true }))
  ∧ (∀ (s : State) (v : W), MayWrite s TWN_LOAN_CTL → twinRole s.chip = 1 → s.chip.twn.applying = false →
    clampN 1 100 (wbits v 0 7) = fld s.chip TWN_LOAN_CTL_lease → 
    (wbit v 30 = false → exec (.fwAlive v) s =
      .next { s with chip := { s.chip with twn := { s.chip.twn with fwAlive := true } } })
    ∧ (wbit v 31 = false → fldB s.chip TWN_STAT_acting = true → twinState s.chip = 2 → s.chip.twn.paired = true →
      s.chip.twn.peerRole / 8 % 2 = 1 → s.chip.twn.handover = none → exec (.handover v) s =
      .next { s with chip := { s.chip with twn := { s.chip.twn with handover := some (period s.chip + 1) } } }))
  ∧ (∀ (s : State) (h : W), s.held = none → s.chip.twn.handover = some h → twinRole s.chip = 1 → due s.chip h = true →
    fldB s.chip TWN_STAT_acting = true →
    let c := withdrawAll (setB s.chip TWN_STAT_acting false)
    let d : Chip := { c with twn := { c.twn with loanOut := 3, rxSeq := some (rd c TWN_JSEQ + 1) } }
    exec .handoverBoundary s = .next { s with chip := changeTwin (formPrec d) 2 2 false })
  ∧ (∀ (s : State) (v : W), MayWrite s TWN_CTL →
    let w := fun b : W => wr s.chip TWN_CTL (toW (b2n (isTwin s.chip) * 2 ^ 31 + wbits (v ||| b) 29 2 * 2 ^ 29
      + max 16 (wbits (v ||| b) 16 8) * 2 ^ 16 + clampN 10 1000 (wbits (v ||| b) 0 10)))
    let c := w 0x10000000
    let d := w 0x08000000
    (wbit v 27 = false → twinRole c = 2 →
      let x := if joining c then setFld c TWN_JOIN_STAT_result 0 else c
      exec (.leave v) s = .next { s with chip := changeTwin { x with twn := { x.twn with loanOut := 4 } } 0 0 false })
    ∧ (wbit v 28 = false → isTwin d = true → twinState d = 0 → twinRole d = 0 → safe d = false → exec (.join v) s =
      .next { s with chip := startJoin d }))
  ∧ (∀ (s : State) (lane : Bool), s.held = none → fldB s.chip TWN_STAT_link_up = true → (lane = true ∨ 4 ≤ s.chip.twn.missed) →
    s.chip.twn.paired = true → twinRole s.chip = 2 → twinState s.chip = 2 → fld s.chip TWN_JOIN_STAT_result = 1 →
    ∃ d : Chip, exec (.twinLinkLoss lane) s = .next { s with chip := d } ∧ twinState d = 4 ∧ twinRole d = 2
      ∧ fldB d TWN_STAT_link_up = false ∧ d.twn.lossAt = some s.chip.tmr.ticks ∧ d.twn.paired = true
      ∧ d.att.raised = s.chip.att.raised ++ [⟨srcTWN_LINK_DOWN, 0, false, s.chip.tmr.period, netTime s.chip⟩])
  ∧ (∀ (s : State), s.held = none → twinState s.chip = 4 →
    let c := s.chip
    (edgeAfterLoss c = true → twinRole c = 2 → exec .twinVerdict s =
      .next { s with chip := changeTwin (setTwin c 0 0 false) 0 0 false })
    ∧ (edgeAfterLoss c = true → twinRole c ≠ 2 → exec .twinVerdict s = .next { s with chip := setFld c TWN_STAT_state 3 })
    ∧ (edgeAfterLoss c = false → noHeartbeat c = true → twinRole c = 2 →
      let d := endPair c
      exec .twinVerdict s = .next { s with chip := setFld { d with twn := { d.twn with alone := true } } TWN_STAT_state 2 })
    ∧ (edgeAfterLoss c = false → noHeartbeat c = true → twinRole c ≠ 2 →
      exec .twinVerdict s = .next { s with chip := setFld (endPair c) TWN_STAT_state 3 }))
  ∧ (∀ (s : State) (l : Nat), s.held = none → s.chip.twn.lossAt = some l → twinRole s.chip = 1 → twinState s.chip = 3 →
    s.chip.twn.paired = true → fldB s.chip TWN_STAT_link_up = false → 2000000 ≤ s.chip.tmr.ticks - l →
    exec .singleDeviceAfterLoss s = .next { s with chip := endPair s.chip })
  ∧ (∀ (s : State) (v : W), MayWrite s TWN_FW_CTL →
    let n := wbits (v ||| 0x80000000) 0 9
    let c := wr s.chip TWN_FW_CTL (toW (b2n (fldB s.chip TWN_FW_CTL_fw_new && !wbit (v ||| 0x80000000) 30) * 2 ^ 30 + n))
    let l := (wordsToBytes ((List.range 64).map (fun i => rd c (TWN_FW_TX i)))).take n
    1 ≤ n → n ≤ 256 → c.twn.applying = false → holdsLoan c = true → journalFull c (16 + (JPayload.fw l).size) = false →
    fld c TWN_STAT_state ≠ 4 →
    exec (.fwSend v) s = .next { s with chip := journalAppend c (effOf c (16 + (JPayload.fw l).size)) (.fw l) })

/-- R355–R363: repairs, joins and control-store swaps. Where the rules leave a point open it states the model's reading (log entries 69, 70, 72 and 73). -/
def Obligations.JoinsRepairsAndControlStoreSwaps : Prop :=
  (∀ (s : State) (t : Fin 144) (r : Repair) (l : List Byte), s.held = none →
    s.chip.twn.repairs.find? (fun r => r.tile == t.val && !r.owner) = some r → r.copy = some l → period s.chip = r.k + 5 →
    ∃ d : Chip, exec (.repairReplay t) s = .next { s with chip := d }
      ∧ d.twn.repairs = s.chip.twn.repairs.map (fun r => if r.tile = t.val then { r with replayed := true } else r)
      ∧ (∀ i, i < 32 * t ∨ 32 * t + 32 ≤ i → getCell d i = getCell s.chip i) ∧ d.regs = s.chip.regs)
  ∧ (∀ (s : State), s.held = none → s.chip.twn.starting = true → fldB s.chip TWN_STAT_link_up = false → safe s.chip = false →
    fldB s.chip TWN_STAT_partner_hb = false →
    (if s.chip.glb.straps.twinId then 2 else 1) * (fld s.chip TWN_CTL_join_wait * 1000000) ≤ s.chip.tmr.ticks →
    exec .joinWaitExpiry s = .next { s with chip := raise (setFld (keeperAlone s.chip) TWN_JOIN_STAT_result 0) srcGLB_JOIN_SKIPPED 0 })
  ∧ (∀ (s : State), s.held = none → joining s.chip = true → twinRole s.chip = 2 →
    let c := s.chip
    let step := fld c TWN_JOIN_STAT_step
    let go : Chip → Nat → State := fun c n =>
      let d : Chip := { c with twn := { c.twn with stepAt := c.tmr.ticks, idOut := if n = 2 then some (joinId c) else c.twn.idOut } }
      { s with chip := setFld d TWN_JOIN_STAT_step n }
    (step = 1 → exec .joinStepDone s = .next (go (setB c TWN_STAT_link_up true) 2))
    ∧ (step = 2 → c.twn.joinOk = true → c.twn.resync = false → exec .joinStepDone s = .next (go c 3))
    ∧ (step = 3 → fldB c TWN_STAT_grid_lock = true → exec .joinStepDone s = .next { s with chip := beginBulk c })
    ∧ (step = 6 → c.twn.repairs = [] → exec .joinStepDone s = .next (go c 7))
    ∧ (∀ n, joinLimit c = some n → n < c.tmr.ticks - c.twn.stepAt → exec .joinStepTimeout s =
      .next { s with chip := joinFail c (if step = 3 then 8 else 0) }))
  ∧ (∀ (s : State), s.held = none → twinRole s.chip = 1 → joinRuns s.chip = true → fld s.chip TWN_JOIN_STAT_step = 4 →
    s.chip.twn.paired = false → docQuiet s.chip = true →
    let stored := (s.chip.ars.store.filter (fun e => e.2 == 1)).map (fun e => e.1)
    let c : Chip := { s.chip with twn := { s.chip.twn with
      paired := true, lastE := period s.chip, missed := 0, bulk := stored.map (BitVec.ofNat 16 ·), bulkLeft := 0 } }
    exec .joinSnapshot s = .next { s with chip := (snapParts s.chip).foldl (fun c p => journalAppend c (effOf c 20016) (.snap (some p))) c })
  ∧ (∀ (s : State) (v : W), MayChange s TWN_CS_CTL →
    let l := memBytes s.chip 12 (bitsAt (rn s.chip TWN_CS_BASE) 0 20 * 65536) csBytes
    (wbit v 30 = false → csChecked s.chip l = true →
      let c := setFld { s.chip with twn := { s.chip.twn with csStage := l } } TWN_CS_CTL_cs_state 1
      exec (.csStage v) s = .next { s with chip := { c with twn := { c.twn with csStagedAt := some (eSingle s.chip) } } })
    ∧ (wbit v 30 = false → csChecked s.chip l = false →
      exec (.csStage v) s = .next { s with chip := setFld s.chip TWN_CS_CTL_cs_state 6 })
    ∧ (wbit v 31 = false → exec (.csSwap v) s =
      .next { s with chip := defer s.chip (eSingle s.chip) TWN_CS_CTL (toW (2 ^ 30)) }))
  ∧ (∀ (s : State), s.held = none → fld s.chip TWN_CS_CTL_cs_state = 3 →
    let l := s.chip.twn.csStage
    let c := (List.range 0x6000).foldl (fun c k => csPut c k (toW (leAt l (4 * k) 4))) s.chip
    (s.chip.doc.cur = none → fldB s.chip DOC_STAT_partial = false → exec .csSwapCopy s = .next { s with chip := setFld ((List.range 0xC0).foldl (fun c i => setTableEntry c i (toW (leAt l (0x18000 + 4 * i) 4))) c) TWN_CS_CTL_cs_state 4 })
    ∧ (∀ e, s.chip.twn.csSwapAt = some e → pReached (period s.chip) (e + 4096) = true →
      exec .csSwapFailed s = .next { s with chip := csSwapEnd s.chip 6 }))

/-- R405–R416, R427: ports and parser. Where the rules leave a point open it states the model's reading (log entry 77). -/
def Obligations.PortsAndParserAct : Prop :=
  (∀ (s : State) (n : Fin 4) (v : W), MayChange s (SVP_P_CTL n) →
    (wbits v 29 3 < 5 → exec (.portCtlWrite n v) s = .next { s with chip := defer s.chip (eSingle s.chip) (SVP_P_CTL n) v })
    ∧ (5 ≤ wbits v 29 3 → exec (.portCtlWrite n v) s =
      .next { s with chip := raise (setB s.chip (SVP_P_STAT_mode_reject n) true) srcSVP_MODE_REJECT 0 }))
  ∧ (∀ (s : State) (n : Fin 4) (rcv : Bool) (x : Deferred), s.held = none →
    s.chip.deferred.filter (fun d => d.addr == SVP_P_CTL n && due s.chip d.e) = [x] →
    let c : Chip := { s.chip with deferred := s.chip.deferred.erase x }
    let d := wr c (SVP_P_CTL n) (x.value &&& 0xFC0000FF)
    let lost := portLoseLink d n rcv
    let clear := setB (setB (setB lost (SVP_P_STAT_pcs_lock n) false) (SVP_P_STAT_fec_lock n) false) (SVP_P_STAT_an_done n) false
    let e := wr clear (TMR_P_COMP_rx_comp n).addr (Config.stampComp (wbits x.value 29 3))
    let t := if wbits (rd c (SVP_P_CTL n)) 26 6 ≠ wbits x.value 26 6 then e else d
    exec (.portRestart n rcv) s = .next { s with chip := t })
  ∧ (∀ (s : State) (n : Fin 4), s.held = none →
    let c := s.chip
    let locked := modPort (setB (setB c (SVP_P_STAT_pcs_lock n) true) (SVP_P_STAT_fec_lock n) true) n
      (fun p => { p with lockAt := some (p.lockAt.getD c.tmr.period) })
    (fld c (SVP_P_CTL_mode n) ≠ 0 → exec (.portBlockLock n) s = .next { s with chip := locked })
    ∧ (∀ k, (port c n).lockAt = some k → 4000 ≤ (c.tmr.period - k).toNat → linkUp c n = false →
      (fldB c (SVP_P_CTL_an_en n) = true → fldB c (SVP_P_STAT_an_done n) = true) →
      exec (.portLinkUp n) s = .next { s with chip := raise (setB c (SVP_P_STAT_link_up n) true) (srcSVP_LINK_UP n) 0 })
    ∧ (fldB c (SVP_P_CTL_an_en n) = true → linkUp c n = false →
      exec (.anFail n) s = .next { s with chip := raise (setB (setB c (SVP_P_STAT_an_done n) false) (SVP_P_STAT_an_fail n) true) (srcSVP_AN_FAIL n) 0 })
    ∧ (fldB c (SVP_P_CTL_an_en n) = true →
      exec (.autonegComplete n) s = .next { s with chip := setB c (SVP_P_STAT_an_done n) true }))
  ∧ (∀ (s : State) (n cause : Fin 4) (rcv : Bool), s.held = none →
    let a := if cause.val < 2 then setB s.chip (SVP_P_STAT_pcs_lock n) false
      else if cause.val = 2 then setB s.chip (SVP_P_STAT_fec_lock n) false else setB s.chip (SVP_P_STAT_hi_ber n) true
    let c := modPort a n (fun p => { p with lockAt := none })
    let d := if rcv then countUp c (SVP_P_RX_FCS n) 1 else c
    let e := setB (setB d (SVP_P_STAT_link_up n) false) (SVP_P_STAT_link_down n) true
    let t := if linkUp c n then raise (countUp e (SVP_P_LINK_DOWN n) 1) (srcSVP_LINK_DOWN n) 0 else c
    exec (.portLinkDown n cause rcv) s = .next { s with chip := if cause.val = 1 ∧ port100 s.chip n = false then s.chip else t })
  ∧ (∀ (s : State) (n : Fin 4) (tick fc fu : Nat) (data : List Byte), s.held = none →
    let len := data.length + 4
    let a := advanceTo s.chip tick
    let b := countUp (countUp a (SVP_P_FEC_CORR n) fc) (SVP_P_FEC_UNCORR n) fu
    let b := if fu = 0 then b else raiseLimited b (srcSVP_FEC_UNCORR n) 0
    let d := modPort (countUp b (SVP_P_RX_FRAMES n) 1) n (fun p => { p with octets := p.octets + BitVec.ofNat 64 len })
    linkUp b n = true → 64 ≤ len → len ≤ 9216 → passHalf data 12 ≠ 0x8808 →
    ((port d n).rx.map (fun f => f.data.length + 4)).sum + len ≤ 32768 →
    exec (.frameReceive n tick data true fc fu) s = .next { s with chip := modPort d n (fun p => { p with rx := p.rx ++ [⟨data, ingressStamp d n, 0, none⟩] }) })
  ∧ (∀ (s : State) (n : Fin 4) (tick fc fu : Nat) (data : List Byte), s.held = none →
    let len := data.length + 4
    let a := advanceTo s.chip tick
    let b := countUp (countUp a (SVP_P_FEC_CORR n) fc) (SVP_P_FEC_UNCORR n) fu
    let c := if fu = 0 then b else raiseLimited b (srcSVP_FEC_UNCORR n) 0
    let d := modPort (countUp c (SVP_P_RX_FRAMES n) 1) n (fun p => { p with octets := p.octets + BitVec.ofNat 64 len })
    let long := decide (len < 64) || decide (9216 < len)
    (linkUp c n = false → ∀ ok, exec (.frameReceive n tick data ok fc fu) s = .next { s with chip := c })
    ∧ (linkUp c n = true → exec (.frameReceive n tick data false fc fu) s = .next { s with chip := countUp c (SVP_P_RX_FCS n) 1 })
    ∧ (linkUp c n = true → long = true →
      exec (.frameReceive n tick data true fc fu) s = .next { s with chip := countUp c (SVP_P_RX_LEN n) 1 })
    ∧ (linkUp c n = true → long = false → passHalf data 12 = 0x8808 →
      exec (.frameReceive n tick data true fc fu) s = .next { s with chip := countUp c (SVP_P_RX_MACCTL n) 1 })
    ∧ (linkUp c n = true → long = false → passHalf data 12 ≠ 0x8808 →
      32768 < ((port d n).rx.map (fun f => f.data.length + 4)).sum + len →
      exec (.frameReceive n tick data true fc fu) s = .next { s with chip := raiseLimited (pktDrop d 0) (srcPKT_OVF n) 0 }))
  ∧ (∀ (s : State) (n : Fin 4) (f0 : RxFrame) (rest : List RxFrame), s.held = none → (port s.chip n).rx = f0 :: rest →
    let c := modPort s.chip n (fun p => { p with rx := rest })
    let gen := activeGen c
    let f := { f0 with gen := gen }
    let k := selectTpl c gen 1 n f.data
    let w := windows c gen k f.data
    let more := modPort c n (fun p => { p with second := p.second ++ [{ f with first := some ⟨tplStrip c gen k, w⟩ }] })
    let short := decide (f.data.length < tplStrip c gen k)
    let again := if short then pktDrop c 1 else more
    let t := if tplRecirc c gen k then again else finishFrame c f ⟨n, false, k, tplPay c gen k, 0⟩ w w
    (lenChecks c gen k f.data = .trunc → exec (.firstPass n) s = .next { s with chip := pktDrop c 1 })
    ∧ (lenChecks c gen k f.data = .lenmis → exec (.firstPass n) s = .next { s with chip := pktDrop c 2 })
    ∧ (lenChecks c gen k f.data = .pass → exec (.firstPass n) s = .next { s with chip := t }))
  ∧ (∀ (s : State) (n : Fin 4) (f : RxFrame) (rest : List RxFrame), s.held = none → (port s.chip n).second = f :: rest →
    let c := modPort s.chip n (fun p => { p with second := rest })
    let fp := f.first.getD ⟨0, []⟩
    let d := f.data.drop fp.strip
    let k := selectTpl c f.gen 2 n d
    let found : Found := ⟨n, true, k, fp.strip + tplPay c f.gen k, fp.strip⟩
    (tplRecirc c f.gen k = true → exec (.secondPass n) s = .next { s with chip := depthFrame c f found })
    ∧ (tplRecirc c f.gen k = false → lenChecks c f.gen k d = .pass →
      exec (.secondPass n) s = .next { s with chip := finishFrame c f found (windows c f.gen k d) fp.outer })
    ∧ (tplRecirc c f.gen k = false → lenChecks c f.gen k d = .trunc → exec (.secondPass n) s = .next { s with chip := pktDrop c 1 })
    ∧ (tplRecirc c f.gen k = false → lenChecks c f.gen k d = .lenmis → exec (.secondPass n) s = .next { s with chip := pktDrop c 2 }))
  ∧ (∀ (s : State) (n : Fin 4), MayWrite s (SVP_P_RX_OCT_LO n) →
    let o := (port s.chip n).octets.toNat
    let c := modPort s.chip n (fun p => { p with octets := 0 })
    exec (.octetRead n) s = .next { s with chip := answer (wr c (SVP_P_RX_OCT_HI n) (toW (o / 2 ^ 32))) (toW o) })

/-- R422–R425, R433: queues, generations, policers and shares. Where the rules leave a point open it states the model's reading (log entry 77). -/
def Obligations.IngressQueuesRulesAndPolicersAct : Prop :=
  (∀ (s : State) (q : Fin 16) (f : QEntry) (rest : List QEntry), s.held = none → queue s.chip q = f :: rest →
    queueOwner s.chip q = 3 → s.chip.svp.ringOff.contains q.val = false →
    let prod := wbits (rd s.chip (PKT_Q_PROD q)) 0 16
    let next := (prod + 1) % ringSlots s.chip q
    next ≠ wbits (rd s.chip (PKT_Q_CONS q)) 0 16 →
    let a := setQueue s.chip q rest
    let b := memWrite a 10 (rn a (PKT_Q_BASE q) * 4096 + prod * slotSize a q) (f.record ++ f.data)
    let c := wr b (PKT_Q_PROD q) (toW next)
    let d : Chip := { c with svp := { c.svp with told := setNth c.svp.told q true } }
    let t := if nth false c.svp.told q then c else msixSend d (wbits (rd d (PKT_Q_CTL q)) 16 8)
    exec (.ringSlotWrite q) s = .next { s with chip := t })
  ∧ (∀ (s : State) (q : Fin 16) (v : W), MayWrite s (PKT_Q_CONS q) →
    let c : Chip := { s.chip with svp := { s.chip.svp with told := setNth s.chip.svp.told q false } }
    exec (.consWrite q v) s = .next { s with chip := wr c (PKT_Q_CONS q) (toW (wbits v 0 16)) })
  ∧ (∀ (s : State) (v : W), MayChange s PKT_GEN → fldB s.chip PKT_GEN_busy = false →
    let c := setB s.chip PKT_GEN_busy true
    exec (.pktSwap v) s = .next { s with chip := { c with svp := { c.svp with swapAt := some (eSingle s.chip) } } }
    ∧ exec (.pktCopy v) s = .next { s with chip := { c with svp := { c.svp with copyAt := some (eSingle s.chip) } } })
  ∧ (∀ (s : State) (v : W), MayChange s PKT_GEN → fldB s.chip PKT_GEN_busy = true →
    exec (.pktSwap v) s = .next { s with chip := pktReject s.chip } ∧ exec (.pktCopy v) s = .next { s with chip := pktReject s.chip })
  ∧ (∀ (s : State) (e : W), s.held = none →
    (s.chip.svp.swapAt = some e → due s.chip e = true →
      let c : Chip := { s.chip with svp := { s.chip.svp with swapAt := none, retiring := true } }
      exec .ruleSetSwap s = .next { s with chip := setFld c PKT_GEN_active_gen (1 - activeGen s.chip) })
    ∧ (s.chip.svp.retiring = true →
      s.chip.svp.ports.all (fun p => p.second.all (fun f => f.gen != 1 - activeGen s.chip)) = true →
      let c : Chip := { s.chip with svp := { s.chip.svp with retiring := false } }
      exec .bankRetire s = .next { s with chip := raise (setB c PKT_GEN_busy false) srcPKT_SWAP_DONE 0 })
    ∧ (s.chip.svp.copyAt = some e → due s.chip e = true →
      let c := setB { s.chip with svp := { s.chip.svp with copyAt := none } } PKT_GEN_busy false
      let to1 : Chip := { c with svp := { c.svp with bank1 := c.svp.bank0 } }
      let to0 : Chip := { c with svp := { c.svp with bank0 := c.svp.bank1 } }
      exec .pktCopyDone s = .next { s with chip := if activeGen c = 0 then to1 else to0 }))
  ∧ (∀ (s : State) (off : BitVec 13) (v : W), MayChange s (PKT_SHADOW + off.toNat) → fldB s.chip PKT_GEN_busy = false →
    let w := shadowStored off.toNat v
    let u := s.chip.svp
    let to1 : Chip := { s.chip with svp := { u with bank1 := mapWrite (fun _ => 0) u.bank1 (off.toNat / 4) w } }
    let to0 : Chip := { s.chip with svp := { u with bank0 := mapWrite (fun _ => 0) u.bank0 (off.toNat / 4) w } }
    exec (.shadowBankWrite off v) s = .next { s with chip := if activeGen s.chip = 0 then to1 else to0 })
  ∧ (∀ (s : State) (off : BitVec 13) (v : W), MayChange s (PKT_SHADOW + off.toNat) → fldB s.chip PKT_GEN_busy = true →
    exec (.shadowBankWrite off v) s = .next { s with chip := pktReject s.chip })
  ∧ (∀ (s : State) (p q : Fin 16) (depth : Bool) (v : W),
    (MayChange s (if depth then PKT_POL_DEPTH p else PKT_POL_RATE p) → exec (.policerWrite p depth v) s =
      .next { s with chip := defer s.chip (eSingle s.chip) (if depth then PKT_POL_DEPTH p else PKT_POL_RATE p) v })
    ∧ (MayChange s (PKT_Q_CTL q) → sharesWith s.chip q v ≤ 1024 → (wbits v 30 2 = 0 ∨ 16 ≤ wbits v 0 11) →
      exec (.queueShareWrite q v) s =
        .next { s with chip := defer s.chip (eSingle s.chip) (PKT_Q_CTL q) (v &&& 0xE0FF07FF) })
    ∧ (MayChange s (PKT_Q_CTL q) → (1024 < sharesWith s.chip q v ∨ (wbits v 30 2 ≠ 0 ∧ wbits v 0 11 < 16)) →
      exec (.queueShareWrite q v) s = .next { s with chip := pktReject s.chip }))

/-- R435–R445: egress. Where the rules leave a point open it states the model's reading (log entry 78). -/
def Obligations.EgressQueuesTransmitAndGate : Prop :=
  (∀ (s : State) (n : Fin 4) (r : Fin 2) (v : W), MayWrite s (TXS_PRING_PROD n r) →
    exec (.ringProdWrite n r v) s = .next { s with chip := wr (modRing s.chip n r (fun d => { d with told := false })) (TXS_PRING_PROD n r) (toW (wbits v 0 12)) })
  ∧ (∀ (s : State) (n : Fin 4) (r : Fin 2), s.held = none →
    let i := (descRing s.chip n r).take
    i ≠ wbits (rd s.chip (TXS_PRING_PROD n r)) 0 12 → s.chip.txs.ringOff.contains (2 * n.val + r.val) = false →
    let a := descAddr s.chip n r i
    let l := memBytes s.chip 11 a 16
    let c := ddrNote s.chip 11 false a 16
    let len := bitsAt (leAt l 8 4) 0 14
    let q := bitsAt (leAt l 8 4) 29 3
    let ts := bitsAt (leAt l 8 4) 27 2
    let buf := leAt l 0 4 + bitsAt (leAt l 4 4) 0 4 * 2 ^ 32
    let next := modRing c n r (fun d => { d with take := (i + 1) % descSize c n r })
    let w3 := leAt l 12 4
    let f : TxFrame := ⟨memBytes c 11 buf len, 0, ts, BitVec.ofNat 16 (bitsAt w3 16 16), bitsAt w3 8 8, bitsAt w3 0 8,
      some (r, i), false⟩
    ((len < 60 ∨ 9212 < len) → exec (.descriptorTake n r) s =
      .next { s with chip := raise (descComplete next n r i 1) srcTXS_DESC_ERR 0 })
    ∧ (60 ≤ len → len ≤ 9212 → ringQueue r q = false → exec (.descriptorTake n r) s =
      .next { s with chip := raise (descComplete next n r i 2) srcTXS_DESC_ERR 0 })
    ∧ (60 ≤ len → len ≤ 9212 → ringQueue r q = true → ts ≤ 1 → fldB c (TXS_P_STAT_silenced n) = false →
      linkUp c n = true → txActing c n = true → txRoom c n q (len + 4) = true → exec (.descriptorTake n r) s =
      .next { s with chip := txEnqueue (ddrNote next 11 false buf len) n q f })
    ∧ (60 ≤ len → len ≤ 9212 → ringQueue r q = true → (ts = 3 ∨ (ts = 2 ∧ len < bitsAt w3 8 8 + 10)) →
      exec (.descriptorTake n r) s = .next { s with chip := raise (descComplete next n r i 3) srcTXS_DESC_ERR 0 })
    ∧ (60 ≤ len → len ≤ 9212 → ringQueue r q = true → ts ≤ 1 → fldB c (TXS_P_STAT_silenced n) = true →
      exec (.descriptorTake n r) s = .next { s with chip := descComplete (txDrop next n q) n r i 6 })
    ∧ (60 ≤ len → len ≤ 9212 → ringQueue r q = true → ts ≤ 1 → fldB c (TXS_P_STAT_silenced n) = false → linkUp c n = false →
      exec (.descriptorTake n r) s = .next { s with chip := descComplete (txDrop next n q) n r i 4 })
    ∧ (60 ≤ len → len ≤ 9212 → ringQueue r q = true → ts ≤ 1 → fldB c (TXS_P_STAT_silenced n) = false → linkUp c n = true →
      txActing c n = false → exec (.descriptorTake n r) s = .next { s with chip := descComplete next n r i 5 })
    ∧ (60 ≤ len → len ≤ 9212 → ringQueue r q = true → ts ≤ 1 → fldB c (TXS_P_STAT_silenced n) = false → linkUp c n = true →
      txActing c n = true → txRoom c n q (len + 4) = false → exec (.descriptorTake n r) s =
      .next { s with chip := if q = 0 then descComplete (txDrop next n q) n r i 8 else c }))
  ∧ (∀ (s : State) (n : Fin 4) (tick q : Nat) (f : TxFrame) (rest : List TxFrame), s.held = none →
    let c := advanceTo s.chip tick
    (txPort c n).sending = none → txActing c n = true → linkUp c n = true → txChoose c n = some q → txQueue c n q = f :: rest →
    let v := if q < 6 then (nth none (txPort c n).finish q).getD 0 else (txPort c n).v
    let x := egressStamp c n
    let d := modTx c n (fun p => { p with queues := setNth p.queues q rest, v := v, sending := some (stampFrame f x, q) })
    let d := if f.ts = 1 then pushTxStamp d n x f.tag else d
    exec (.transmitStart n tick) s = .next { s with chip := newHead (delayMark d n q (d.tmr.ticks - f.tick)) n q })
  ∧ (∀ (s : State) (n : Fin 4) (tick q : Nat) (f : TxFrame), s.held = none →
    let c := advanceTo s.chip tick
    (txPort c n).sending = some (f, q) →
    exec (.transmitEnd n tick) s = .next { s with chip := frameComplete (countUp (modTx c n (fun p => { p with sending := none })) (TXS_PQ_CNT n q) 1) n f 0 })
  ∧ (∀ (s : State) (n : Fin 4) (v : W), MayChange s (TXS_P_GCL_CTL_enable n).addr → fldB s.chip (TXS_P_GCL_CTL_pending n) = false →
    exec (.gclCommit n v) s = .next { s with chip := defer s.chip (eSingle s.chip) (TXS_P_GCL_CTL_enable n).addr (v ||| 0x40000000) })
  ∧ (∀ (s : State) (n : Fin 4) (v : W), MayChange s (TXS_P_GCL_CTL_enable n).addr → fldB s.chip (TXS_P_GCL_CTL_pending n) = true →
    exec (.gclCommit n v) s = .next { s with chip := raise s.chip srcTXS_DESC_ERR 0 })
  ∧ (∀ (s : State) (n : Fin 4) (tick : Nat) (g : GateList) (ts : BitVec 64), s.held = none →
    let c := advanceTo s.chip tick
    (txPort c n).gatePend = some (g, ts) → 0 ≤ tdiff (netTime c) ts →
    let d := modTx c n (fun p => { p with gates := g, gatePend := none })
    let d := wr (setB d (TXS_P_GCL_CTL_pending n) false) (TXS_P_GCL_CYCLE n) (toW g.cycle)
    exec (.gclSwitch n tick) s = .next { s with chip := dropAllOversize (gateShow d n) n })
  ∧ (∀ (s : State) (n : Fin 4) (tick : Nat), s.held = none →
    let c := advanceTo s.chip tick
    let g := (txPort c n).gates
    (g.active (netTime c) = false → exec (.gateEntryChange n tick) s = .next { s with chip := wr c (TXS_P_GCL_STAT n) 0 })
    ∧ (∀ e left, g.active (netTime c) = true → g.position (netTime c) = some (e, left) →
      exec (.gateEntryChange n tick) s = .next { s with chip := wr c (TXS_P_GCL_STAT n) (toW (2 ^ 31 + e)) }))

/-- R376–R388: windows, estimates, commits and the calibration journal. Where the rules leave a point open it states the model's reading (log entries 24, 61, 62 and 63). -/
def Obligations.ConservatorEstimatesAndCommits : Prop :=
  (∀ (s : State), s.held = none → ∃ d : Chip, exec .ditherIntegrate s = .next { s with chip := d }
      ∧ (∀ i, i ∉ (mappedCells s.chip).map (fun e => e.1) → getCell d i = getCell s.chip i)
      ∧ (∀ i, (mappedCells s.chip).countP (fun e => e.1 == i) = 1 →
        let k := period s.chip - 2
        let x := getCell s.chip i
        let m := sampleAt x k
        (counted s.chip i m k = true →
          getCell d i = { x with sums := addSample x.sums (ditherPhase s.chip (freqIndex i) (k - 1)) m })
        ∧ (counted s.chip i m k = false → getCell d i = x))
      ∧ d.regs = s.chip.regs ∧ d.att = s.chip.att ∧ d.ddr = s.chip.ddr)
  ∧ (∀ (s : State), s.held = none → windowEnds s.chip = true → period s.chip ≠ 2 → s.chip.topo = none →
    let c := setB (wr s.chip CNS_WINDOW (rd s.chip CNS_WINDOW + 1)) CNS_STAT_busy true
    let d := galleries.foldl railWindow c
    exec .lockinWindowEnd s = .next { s with chip := { d with cns := { d.cns with windowEnd := some (period d), formed := false, issued := [], rails := [] } } })
  ∧ (∀ (s : State), s.held = none → windowEnds s.chip = true →
    ∃ d : Chip, exec .lockinWindowEnd s = .next { s with chip := d } ∧ d.cns.windowEnd = some (period s.chip)
      ∧ d.cns.formed = false ∧ d.cns.rails = [] ∧ d.tmr = s.chip.tmr ∧ d.lpe.bankA = s.chip.lpe.bankA
      ∧ rd d CNS_WINDOW = rd s.chip CNS_WINDOW + 1)
  ∧ (∀ (s : State) (e : W), s.held = none → s.chip.cns.windowEnd = some e → fldB s.chip CNS_STAT_busy = true →
    stagingRoom s.chip = true → fldB s.chip CNS_CTL_host_bank = true → s.chip.topo = none →
    exec .estimatesDone s = .next { s with chip := setB { s.chip with cns := { s.chip.cns with formed := true } } CNS_STAT_busy false })
  ∧ (∀ (s : State) (e : W), s.held = none → s.chip.cns.windowEnd = some e → fldB s.chip CNS_STAT_busy = true →
    stagingRoom s.chip = true → ∃ d : Chip, exec .estimatesDone s = .next { s with chip := d }
      ∧ d.cns.formed = true ∧ fldB d CNS_STAT_busy = false ∧ d.tmr = s.chip.tmr ∧ d.cns.windowEnd = some e)
  ∧ (∀ (s : State) (g : Fin 36) (e : W), s.held = none → Single s.chip → s.chip.cns.windowEnd = some e → s.chip.cns.formed = true →
    fldB s.chip CNS_CTL_host_bank = false → s.chip.cns.issued.contains g.val = false → mapGet s.chip.lpe.commits g.val = none →
    pReached (period s.chip + 2) (e - 2 + toW (4000 + 64 * g.val)) = true →
    let c : Chip := { s.chip with cns := { s.chip.cns with issued := s.chip.cns.issued ++ [g.val] } }
    exec (.cnsGalleryCommit g) s = .next { s with chip := waitCommit c g (eSingle s.chip) })
  ∧ (∀ (s : State) (bad : Bool), s.held = none → holdsLoan s.chip = false → exec (.calibrationRecordWrite bad) s = .next s)
  ∧ (∀ (s : State) (r : CalRec) (rest : List CalRec), s.held = none → s.chip.cns.journal = r :: rest → holdsLoan s.chip = true →
    let c : Chip := { s.chip with cns := { s.chip.cns with
      journal := rest, seqs := mapWrite (fun _ => 0) s.chip.cns.seqs r.gallery (r.seq + 1) } }
    let a := calSlot r.gallery (r.seq.toNat % 4)
    let good := mramWrite (mramWrite c (a + 64) r.bank) a (r.header ++ leBytes 4 (crc32c r.header))
    let failed := setB (countUp (mramWrite c a (List.replicate 64 0)) CNS_JRNL_ERR_CNT 1) CNS_STAT_jrnl_err true
    exec (.calibrationRecordWrite false) s = .next { s with chip := countUp good CNS_JRNL_CNT 1 }
    ∧ exec (.calibrationRecordWrite true) s = .next { s with chip := raise failed srcCNS_JRNL_ERR 0 })
  ∧ (∀ (s : State) (v : W), MayChange s CNS_COMMIT →
    let g := wbits v 0 6
    let c : Chip := { s.chip with cns := { s.chip.cns with byHost := s.chip.cns.byHost.filter (· != g) ++ [g] } }
    (fldB s.chip CNS_CTL_host_bank = true → wbit v 31 = true → g ≤ 35 →
      exec (.cnsCommit v) s = .next { s with chip := waitCommit (if s.chip.twn.source = 4 then s.chip else c) g (eSingle s.chip) })
    ∧ (fldB s.chip CNS_CTL_host_bank = true → (wbit v 31 = false ∨ 35 < g) → exec (.cnsCommit v) s = .next s)
    ∧ (fldB s.chip CNS_CTL_host_bank = false → exec (.cnsCommit v) s = .next { s with chip := cnsReject s.chip }))

/-- R391, R392, R395: characterization. Where the rules leave a point open it states the model's reading (log entry 64). -/
def Obligations.CharacterizationRequestsAct : Prop :=
  (∀ (s : State) (i : Fin 16) (r : CharReq), s.held = none → getReq s.chip i = some r → (r.status = 1 ∨ r.status = 2) →
    let age := (period s.chip - r.listed).toNat
    1 ≤ age → (age - 1) % 1024 = 0 →
    let from_ := period s.chip + 2
    let d := modCell s.chip r.cell (fun x =>
      { x with grant := some from_, charEnd := some (from_ + toW (r.total * r.dwell)) })
    let g : CharReq := { r with status := 3, from_ := from_, point := 0, samples := [], points := [] }
    (charFree s.chip r.cell = true → charRoom s.chip r.cell = true →
      exec (.charExamine i) s = .next { s with chip := putReq d i (some g) })
    ∧ (charFree s.chip r.cell = true → charRoom s.chip r.cell = false →
      exec (.charExamine i) s = .next { s with chip := putReq s.chip i (some { r with status := 1 }) })
    ∧ (charFree s.chip r.cell = false → r.noDefer = true →
      exec (.charExamine i) s = .next { s with chip := endReq s.chip i r 5 4 })
    ∧ (charFree s.chip r.cell = false → r.noDefer = false →
      exec (.charExamine i) s = .next { s with chip := putReq s.chip i (some { r with status := 2 }) }))
  ∧ (∀ (s : State) (i : Fin 16) (r : CharReq), s.held = none → getReq s.chip i = some r → r.status = 3 →
    (((r.point + 1) * r.dwell : Nat) : Int) ≤ pdiff (period s.chip) (r.from_ + 4) + 1 → s.chip.lpe.computedP = period s.chip →
    changeWaits s.chip (24 * 16) = false →
    let n : CharReq := { r with points := r.points ++ [pointMean r.samples], samples := [], point := r.point + 1 }
    exec (.charPointEnd i) s = .next { s with chip := if r.total ≤ r.point + 1 then charFinish s.chip i n else putReq s.chip i (some n) })
  ∧ (∀ (s : State) (i : Fin 16) (r : CharReq) (v : W), s.held = none → getReq s.chip i = some r →
    (MayChange s (CNS_CHAR_RES_B i) → 4 ≤ r.status → exec (.charRelease i v) s = .next { s with chip := putReq s.chip i none })
    ∧ (MayChange s (CNS_CHAR_RES_B i) → r.status < 3 → exec (.charRelease i v) s = .next { s with chip := endReq s.chip i r 5 7 })
    ∧ (MayChange s (CNS_CHAR_RES_B i) → r.status = 3 → exec (.charRelease i v) s = .next s)
    ∧ (∀ e, r.ended = some e → 4000000 ≤ (period s.chip - e).toNat →
      exec (.charEntryExpiry i) s = .next { s with chip := putReq s.chip i none }))

/-- R465–R481: the Attendant. Where the rules leave a point open it states the model's reading (log entries 65 to 68). -/
def Obligations.AttendantLatchesAndReacts : Prop :=
  (∀ (s : State), s.held = none →
    let now := onePerPeriod (s.chip.att.raised.filter (fun o => o.period != period s.chip))
    let c : Chip := { s.chip with att := { s.chip.att with
      raised := s.chip.att.raised.filter (fun o => o.period == period s.chip) } }
    let c := now.foldl latchBits c
    let item : Nat → Latched := fun x => ⟨x, fld c (ATT_SRC_eff x), now.any (fun o => o.src == x && o.injected),
      now.any (fun o => o.src == x && !o.injected)⟩
    exec .eventLatch s = .next { s with chip := showPins ((latchOrder ((now.map (·.src)).dedup.map item)).foldl reaction c) })
  ∧ (∀ (s : State) (x : Fin 1280), s.held = none → srcReserved x = false → (period s.chip).toNat % winLength s.chip x = 0 →
    let low := fld s.chip (ATT_SRC_persist_thr x) = 0 ∨ fld s.chip (ATT_SRC_win_cnt x) < fld s.chip (ATT_SRC_persist_thr x)
    let clear := setB s.chip (ATT_SRC_lasting x) false
    (low → exec (.persistWindowEnd x) s = .next { s with chip := setFld clear (ATT_SRC_win_cnt x) 0 })
    ∧ (¬ low → exec (.persistWindowEnd x) s = .next { s with chip := setFld s.chip (ATT_SRC_win_cnt x) 0 }))
  ∧ (∀ (s : State) (x : Fin 1280), s.held = none → (srcReserved x = true ∨ (period s.chip).toNat % winLength s.chip x ≠ 0) →
    exec (.persistWindowEnd x) s = .next s)
  ∧ (∀ (s : State) (v : W), MayWrite s ATT_SEV_ACK → exec (.sevAck v) s = .next { s with chip := { s.chip with att :=
      { s.chip.att with acks := s.chip.att.acks ++ [(wbits v 0 11, period s.chip + 2)] } } })
  ∧ (∀ (s : State) (x : Nat) (e : W), s.held = none → s.chip.att.acks = [(x, e)] → due s.chip e = true →
    let c : Chip := { s.chip with att := { s.chip.att with acks := [] } }
    (severeRuns s.chip = true → fld s.chip ATT_SEV_SRC_source = x →
      exec .sevAckEffect s = .next { s with chip := showPins (endSevere c) })
    ∧ ((severeRuns s.chip = false ∨ fld s.chip ATT_SEV_SRC_source ≠ x) →
      exec .sevAckEffect s = .next { s with chip := showPins (raise c srcATT_REJECT 0) }))
  ∧ (∀ (s : State), s.held = none → (∀ a ∈ s.chip.att.acks, due s.chip a.2 = false) →
    (severeRuns s.chip = false ∨ pReached (period s.chip) (rd s.chip ATT_SEV_P + toW (4 * ackTime s.chip)) = false) →
    exec .escalation s = .next s)
  ∧ (∀ (s : State), s.held = none → (∀ a ∈ s.chip.att.acks, due s.chip a.2 = false) → severeRuns s.chip = true →
    pReached (period s.chip) (rd s.chip ATT_SEV_P + toW (4 * ackTime s.chip)) = true →
    let x := fld s.chip ATT_SEV_SRC_source
    exec .escalation s = .next { s with chip := wantSafe (raise s.chip srcATT_ESCALATE (toW x)) 1 x })
  ∧ (∀ (s : State) (v : W), MayWrite s ATT_INJ →
    let x := wbits v 16 11
    let o : Occ := ⟨x, toW (wbits v 0 16), true, period s.chip, netTime s.chip⟩
    (srcReserved x = false → exec (.injection v) s =
      .next { s with chip := { s.chip with att := { s.chip.att with raised := s.chip.att.raised ++ [o] } } })
    ∧ (srcReserved x = true → exec (.injection v) s = .next { s with chip := raise s.chip srcATT_REJECT 0 }))
  ∧ (∀ (s : State) (off : BitVec 16), s.held = none →
    exec (.parityScan (some off)) s = .next { s with chip := raise s.chip srcATT_SELF (toW off.toNat) }
    ∧ exec (.parityScan none) s = .next s)
  ∧ (∀ (s : State) (cause x : Nat), s.held = none → s.chip.att.entry = some (cause, x) →
    ∃ d : Chip, exec .safeStateEntry s = .next { s with chip := d } ∧ d.att.entry = none
      ∧ d.att.final = (if partnerHealthy s.chip then none else some (period s.chip))
      ∧ rd d ATT_GRAVE_P = period s.chip ∧ d.tmr = s.chip.tmr ∧ d.doc.sched = none ∧ d.pdm.bus = [] ∧ d.pdm.seq = none)
  ∧ (∀ (s : State), s.held = none → s.chip.att.entry = none → exec .safeStateEntry s = .next s)
  ∧ (∀ (s : State) (cause x : Nat), s.held = none → s.chip.att.entry = some (cause, x) →
    ∃ d : Chip, exec .safeStateEntry s = .next { s with chip := d } ∧ safe d = true ∧ acting d = false)

/-- R452–R457: the ledger. Where the rules leave a point open it states the model's reading (log entries 15 and 79). -/
def Obligations.LedgerRecordsVaultAndAlarms : Prop :=
  (∀ (s : State), s.held = none →
    let old := s.chip.ldg.opened.filter (fun e => decide (4000 ≤ pdiff s.chip.tmr.period e.2.pFirst))
    exec .eventRecordClose s = .next { s with chip := old.foldl (fun c e => closeRec c e.1) s.chip }
    ∧ (∀ e, old = [e] → mapGet s.chip.ldg.opened e.1 = some e.2 →
      let d : Chip := { s.chip with ldg := { s.chip.ldg with opened := mapDel s.chip.ldg.opened e.1 } }
      exec .eventRecordClose s = .next { s with chip := ledgerPut d 1 e.2.cls e.2.inj e.2.real e.1 e.2.body }))
  ∧ (∀ (s : State) (r : LRec), s.held = none → mapGet s.chip.ldg.ring (s.chip.ldg.copied.toNat % 8192) = some r →
    r.seq = s.chip.ldg.copied → copyAllowed s.chip = true →
    let c := memWrite s.chip 8 (logSlot s.chip (fld s.chip LDG_STAT_log_region) r.seq) (r.bytes s.chip)
    exec (.logCopy 1) s = .next { s with chip := { c with ldg := { c.ldg with copied := r.seq + 1 } } })
  ∧ (∀ (s : State) (n : Nat), s.held = none →
    ((∀ r, mapGet s.chip.ldg.ring (s.chip.ldg.copied.toNat % 8192) = some r → r.seq ≠ s.chip.ldg.copied) ∨ copyAllowed s.chip = false) →
    exec (.logCopy n) s = .next s)
  ∧ (∀ (s : State) (n : Nat), s.held = none →
    exec (.logCopy (n + 1)) s = .next { s with chip := logCopy (logCopyOne s.chip) n })
  ∧ (∀ (s : State) (f : Freeze), s.held = none → s.chip.ldg.freeze = some f → pReached s.chip.ldg.copied (f.seq + 1) = true →
    (f.seq - s.chip.ldg.logFirst).toNat < 2097152 →
    let c := setFld (setB s.chip LDG_STAT_vault_held true) LDG_STAT_vault_class f.cls
    let c := wr (wr c LDG_VAULT_FIRST s.chip.ldg.logFirst) LDG_VAULT_FREEZE f.seq
    let c := setFld c LDG_STAT_log_region (1 - fld c LDG_STAT_log_region)
    exec .vaultHeld s = .next { s with chip := { c with ldg := { c.ldg with freeze := none, logFirst := f.seq + 1 } } })
  ∧ (∀ (s : State), s.held = none →
    (∀ f, s.chip.ldg.freeze = some f → pReached s.chip.ldg.copied (f.seq + 1) = false) → exec .vaultHeld s = .next s)
  ∧ (∀ (s : State) (v : W), wbit v 31 = false →
    (MayWrite s LDG_VAULT_CTL → exec (.vaultRelease v) s = .next s)
    ∧ (MayWrite s LDG_FW_SUBMIT → exec (.fwRecordSubmit v) s = .next s))
  ∧ (∀ (s : State) (v : W),
    (MayWrite s LDG_VAULT_CTL → wbit v 31 = true →
      exec (.vaultRelease v) s = .next { s with chip := setB s.chip LDG_STAT_vault_held false })
    ∧ (MayWrite s LDG_FW_SUBMIT → wbit v 31 = true → s.chip.ldg.waiting.length < 192 →
      let body := (List.range 6).flatMap (fun i => beBytes 4 (rn s.chip (LDG_FW_REC i)))
      exec (.fwRecordSubmit v) s = .next { s with chip := ledgerPut s.chip 7 0 false false (wbits v 0 16) body })
    ∧ (MayWrite s LDG_FW_SUBMIT → wbit v 31 = true → 192 ≤ s.chip.ldg.waiting.length →
      exec (.fwRecordSubmit v) s = .next { s with chip := setB s.chip LDG_STAT_fw_busy true }))
  ∧ (∀ (s : State), s.held = none → s.chip.tmr.period.toNat % 40000 = 0 →
    let l := s.chip.ldg.summary
    let c : Chip := { s.chip with ldg := { s.chip.ldg with
      summary := [], budget := 0, alarms := s.chip.ldg.alarms ++ summaryAlarms l 1280 } }
    let d := countUp c LDG_ALARM_SUMM ((l.map (fun e => e.2.1)).sum)
    (l = [] → exec .alarmWindowEnd s = .next { s with chip := c })
    ∧ (l ≠ [] → exec .alarmWindowEnd s =
      .next { s with chip := raise (setB (showAlarms d) LDG_STAT_alarm_summ true) srcLDG_ALARM_SUMMARY 0 }))
  ∧ (∀ (s : State), s.held = none → s.chip.tmr.period.toNat % 40000 ≠ 0 → exec .alarmWindowEnd s = .next s)
  ∧ (∀ (s : State), s.held = none → (s.chip.ldg.alarms = [] ∨ acting s.chip = false) → exec .alarmSend s = .next s)
  ∧ (∀ (s : State) (a : Alarm) (rest : List Alarm), s.held = none → s.chip.ldg.alarms = a :: rest → acting s.chip = true →
    (kindPorts s.chip 2).filter (fun n => linkUp s.chip n && txActing s.chip n) = [] → exec .alarmSend s = .next s)
  ∧ (∀ (s : State) (a : Alarm) (rest : List Alarm) (n : Nat) (d : Chip), s.held = none → s.chip.ldg.alarms = a :: rest →
    acting s.chip = true → a.seq = none → a.ports = [] →
    (kindPorts s.chip 2).filter (fun n => linkUp s.chip n && txActing s.chip n) = [n] →
    queueFormed (kindNext s.chip 2) n 2 a.summary a.count (kindSeq s.chip 2) a.payload = some d →
    exec .alarmSend s = .next { s with chip := showAlarms { d with ldg := { d.ldg with alarms := rest } } })
  ∧ (∀ (s : State), s.held = none → (fldB s.chip LDG_CTL_export_en = false ∨ acting s.chip = false ∨ exportDue s.chip = false) →
    exec .ledgerExport s = .next s)
  ∧ (∀ (s : State), s.held = none → fldB s.chip LDG_CTL_export_en = true → acting s.chip = true → exportDue s.chip = true →
    kindPorts s.chip 3 = [] →
    exec .ledgerExport s = .next { s with chip := kindNext { s.chip with ldg := { s.chip.ldg with exports := s.chip.ldg.exports.drop 32 } } 3 })
  ∧ (∀ (s : State) (n : Nat) (d : Chip), s.held = none → fldB s.chip LDG_CTL_export_en = true → acting s.chip = true →
    exportDue s.chip = true → kindPorts s.chip 3 = [n] →
    let l := s.chip.ldg.exports.take 32
    let c := kindNext { s.chip with ldg := { s.chip.ldg with exports := s.chip.ldg.exports.drop 32 } } 3
    linkUp c n = true → txActing c n = true →
    queueFormed c n 3 false l.length (kindSeq s.chip 3) (l.flatMap (LRec.bytes s.chip)) = some d →
    exec .ledgerExport s = .next { s with chip := d })

/-- R484–R489: the Vitrine. Where the rules leave a point open it states the model's reading (log entry 78). -/
def Obligations.VitrineCapturesAndExports : Prop :=
  (∀ (s : State) (v : W),
    (s.held = none → fldB s.chip VIT_CTL_in_en = true →
      exec .vitrineInEdge s = .next { s with chip := vitTrigger s.chip (period s.chip + 2) 0 0xFFFF })
    ∧ (MayWrite s VIT_TRIG → exec (.vitTrig v) s = .next { s with chip := vitTrigger s.chip (period s.chip + 2) 1 0xFFFF }))
  ∧ (∀ (s : State), s.held = none → fldB s.chip VIT_CTL_in_en = false → exec .vitrineInEdge s = .next s)
  ∧ (∀ (s : State), s.held = none →
    (s.chip.vit.waits.find? (fun x => due s.chip x.v) = none → exec .vitrineCapture s = .next s)
    ∧ (∀ b, s.chip.vit.copy = none → exec (.vitrineCopyDone b) s = .next s)
    ∧ (s.chip.vit.export_ = none → exec .vitrineExportFrame s = .next s))
  ∧ (∀ (s : State) (x : Capture), s.held = none → s.chip.vit.waits.find? (fun x => due s.chip x.v) = some x →
    let c : Chip := { s.chip with vit := { s.chip.vit with waits := s.chip.vit.waits.erase x } }
    (fldB s.chip VIT_STAT_busy = true → exec .vitrineCapture s =
      .next { s with chip := raise (setB c VIT_STAT_overrun true) srcVIT_BUSY 0 })
    ∧ (fldB s.chip VIT_STAT_busy = false → freeSlot c = none → exec .vitrineCapture s =
      .next { s with chip := raise (setB c VIT_STAT_no_slot true) srcVIT_NO_SLOT 0 })
    ∧ (∀ n, fldB s.chip VIT_STAT_busy = false → freeSlot c = some n →
      let q := c.vit.seq + 1
      let d : Chip := { c with vit := { c.vit with copy := some ⟨n, captureBytes c x n q⟩, seq := q } }
      let d := setB (setFld (setFld d VIT_STAT_last_slot n) VIT_STAT_captures q.toNat) VIT_STAT_busy true
      exec .vitrineCapture s = .next { s with chip := lockSafeSlot (wr d VIT_LAST_V x.v) x.v n }))
  ∧ (∀ (s : State) (x : VitCopy), s.held = none → s.chip.vit.copy = some x →
    let c := setB { s.chip with vit := { s.chip.vit with copy := none } } VIT_STAT_busy false
    let a := vitSlot c x.slot
    let h := putBytes (x.bytes.take 60) 7 [nth 0 x.bytes 7 &&& 0xFE]
    let e := memWrite c 9 a (h ++ leBytes 4 (crc32c h) ++ x.bytes.drop 64)
    (ddrMay c 9 true a x.bytes.length = false → exec (.vitrineCopyDone false) s =
      .next { s with chip := raise (setB e VIT_STAT_copy_err true) srcVIT_COPY_ERR 0 })
    ∧ (ddrMay c 9 true a x.bytes.length = true →
      let d := raise (memWrite c 9 a x.bytes) srcVIT_DONE 0
      exec (.vitrineCopyDone false) s = .next { s with chip := if fldB d VIT_CTL_auto_export then startExport d x.slot else d })
    ∧ exec (.vitrineCopyDone true) s = .next { s with chip := raise (setB e VIT_STAT_copy_err true) srcVIT_COPY_ERR 0 })
  ∧ (∀ (s : State) (v : W), MayWrite s VIT_EXPORT → s.chip.vit.export_ = none →
    exec (.vitExport v) s = .next { s with chip := showExport { s.chip with vit := { s.chip.vit with export_ := some ⟨wbits v 0 4, 0⟩ } } })
  ∧ (∀ (s : State) (v : W) (x : VitExport), MayWrite s VIT_EXPORT → s.chip.vit.export_ = some x →
    exec (.vitExport v) s = .next { s with chip := raise s.chip srcATT_REJECT 0 })
  ∧ (∀ (s : State) (x : VitExport), s.held = none → s.chip.vit.export_ = some x → acting s.chip = false →
    exec .vitrineExportFrame s = .next s)
  ∧ (∀ (s : State) (x : VitExport) (p : Nat), s.held = none → s.chip.vit.export_ = some x → acting s.chip = true →
    kindPorts s.chip 5 = [p] → (linkUp s.chip p && txActing s.chip p) = false →
    let off := 8192 * x.next
    let n := min 8192 (0x71000 - off)
    let f := txDrop (kindNext (ddrNote s.chip 9 false (vitSlot s.chip x.slot + off) n) 5) p 1
    let g := showExport { f with vit := { f.vit with export_ := some ⟨x.slot, x.next + 1⟩ } }
    let z := showExport { g with vit := { g.vit with export_ := none } }
    exec .vitrineExportFrame s = .next { s with chip := if x.next + 1 = exportFrames then z else g })
  ∧ (∀ (s : State) (x : VitExport) (p : Nat) (f : Chip), s.held = none → s.chip.vit.export_ = some x → acting s.chip = true →
    kindPorts s.chip 5 = [p] → (linkUp s.chip p && txActing s.chip p) = true →
    let off := 8192 * x.next
    let n := min 8192 (0x71000 - off)
    let payload := [BitVec.ofNat 8 x.slot, 0, 0, 0] ++ beBytes 4 off ++ memBytes s.chip 9 (vitSlot s.chip x.slot + off) n
    (queueFormed s.chip p 5 false 1 (kindSeq s.chip 5) payload).isSome = true →
    queueFormed (kindNext (ddrNote s.chip 9 false (vitSlot s.chip x.slot + off) n) 5) p 5 false 1 (kindSeq s.chip 5) payload
      = some f →
    let g := showExport { f with vit := { f.vit with export_ := some ⟨x.slot, x.next + 1⟩ } }
    let z := showExport { g with vit := { g.vit with export_ := none } }
    exec .vitrineExportFrame s = .next { s with chip := if x.next + 1 = exportFrames then z else g })

/-- R499–R508, R545: resets. Where the rules leave a point open it states the model's reading (log entries 30, 31 and 32). -/
def Obligations.ResetsBeginAndLeave : Prop :=
  (∀ (s : State), ∃ c : Chip, exec .coldReset s = .next { s with held := some .cold, chip := c }
      ∧ (∀ a, fuseReg a = false → rd c a = resetReg a) ∧ (∀ a, fuseReg a = true → rd c a = rd s.chip a)
      ∧ c.ddr = [] ∧ c.glb.nor = s.chip.glb.nor ∧ c.glb.mram = s.chip.glb.mram
      ∧ c.att.heartbeat = none ∧ c.att.safeN = none ∧ c.att.alertLow = false)
  ∧ (∀ (s : State), s.held ≠ some .cold → ∃ c : Chip, exec .pinReset s = .next { s with held := some .pin, chip := c }
      ∧ (∀ a, keptReg false a = false → a ≠ ATT_CTL_grave.addr → rd c a = resetReg a)
      ∧ (∀ a, keptReg false a = true → rd c a = rd s.chip a) ∧ safe c = safe s.chip
      ∧ c.ddr = s.chip.ddr ∧ c.glb.nor = s.chip.glb.nor ∧ c.glb.mram = s.chip.glb.mram ∧ c.xbr.selfRefresh = true
      ∧ c.att.heartbeat = none ∧ c.att.safeN = none ∧ c.att.alertLow = false)
  ∧ (∀ (s : State) (st : Straps) (w : LoadWorld),
    (s.held = some .cold → exec .pinReset s = .next s) ∧ (s.held = none → exec (.resetRelease st w) s = .next s))
  ∧ (∀ (s : State) (st : Straps) (w : LoadWorld) (h : Hold), s.held = some h →
    ∃ c : Chip, exec (.resetRelease st w) s = .next { s with held := none, chip := c }
      ∧ c = releaseFrom s.chip h st w
      ∧ (w.bist = false → fld c GLB_BOOT_STAT_state = 2 ∧ fld c GLB_BOOT_STAT_stage = 2 ∧ fld c GLB_BOOT_STAT_fail_code = 0x20
        ∧ c.tmr.period = w.periods)
      ∧ (w.bist = true → w.trained = false → fld c GLB_BOOT_STAT_state = 2 ∧ fld c GLB_BOOT_STAT_stage = 3
        ∧ fld c GLB_BOOT_STAT_fail_code = 0x21 ∧ c.tmr.period = w.periods))
  ∧ (∀ (s : State), ∃ c : Chip, exec .perstReset s = .next { s with chip := c }
      ∧ rd c XBR_PCIE_STAT = 0 ∧ c.glb.perst = true ∧ c.pcie.pend = Pcie.reset.pend ∧ c.pcie.table = Pcie.reset.table
      ∧ (∀ a, a ≠ XBR_PCIE_STAT → rd c a = rd s.chip a))

/-- R503, R509, R516, R517, R519: restarts and start actions. Where the rules leave a point open it states the model's reading (log entries 34, 35 and 38). -/
def Obligations.RestartsWatchdogAndStartActions : Prop :=
  (∀ (s : State) (v : W), MayWrite s GLB_RESTART → s.chip.glb.restart = none →
    let wait := fun k : Nat => ({ s.chip with glb := { s.chip.glb with
      restart := some (withRestart v k, period s.chip + 2), byWatchdog := false } } : Chip)
    exec (.fullRestart v) s = .next { s with chip := wait 1 } ∧ exec (.fwRestart v) s = .next { s with chip := wait 2 })
  ∧ (∀ (s : State) (v : W), MayWrite s GLB_RESTART → s.chip.glb.restart ≠ none →
    exec (.fullRestart v) s = .next { s with chip := raise s.chip srcGLB_RESTART_REJECT 0 }
    ∧ exec (.fwRestart v) s = .next { s with chip := raise s.chip srcGLB_RESTART_REJECT 0 })
  ∧ (∀ (s : State) (w : LoadWorld), s.held = none → (∀ v e, s.chip.glb.restart = some (v, e) → due s.chip e = false) →
    exec (.restartEffect w) s = .next s)
  ∧ (∀ (s : State) (v e : W) (w : LoadWorld), s.held = none → s.chip.glb.restart = some (v, e) → due s.chip e = true →
    let c : Chip := { s.chip with glb := { s.chip.glb with restart := none } }
    (wbits v 29 2 = 1 →
      let d := warmState c true
      let d : Chip := { d with glb := { d.glb with sel := some v } }
      exec (.restartEffect w) s = .next { s with chip := load d 2 (restartProfile c v) (wbits v 24 2) w })
    ∧ (wbits v 29 2 = 2 → ∃ d : Chip, exec (.restartEffect w) s = .next { s with chip := d }
      ∧ fld d GLB_BOOT_STAT_last_reset = (if s.chip.glb.byWatchdog then 4 else 3) ∧ fld d GLB_WDT_timeout = 0
      ∧ d.glb.restart = none ∧ d.twn.fwAlive = false ∧ d.tmr = s.chip.tmr))
  ∧ (∀ (s : State) (v : W),
    (MayWrite s GLB_WDT →
      let c := wr s.chip GLB_WDT ((v ||| 0x80000000) &&& 0x4000FFFF)
      exec (.wdtKick v) s = .next { s with chip := { c with glb := { c.glb with wdtFrom := c.tmr.ticks } } })
    ∧ (s.held = none → fld s.chip GLB_WDT_timeout ≠ 0 → s.chip.glb.wdtFrom + wdtTicks s.chip ≤ s.chip.tmr.ticks →
      s.chip.glb.restart = none →
      let c := raise { s.chip with glb := { s.chip.glb with wdtFrom := s.chip.tmr.ticks } } srcGLB_WDT 0
      let d : Chip := { c with glb := { c.glb with
        restart := some (toW (2 ^ 31 + 2 * 2 ^ 29), period c + 2), byWatchdog := true } }
      exec .watchdogExpiry s = .next { s with chip := if fldB c GLB_WDT_restart_en then d else c }))
  ∧ (∀ (s : State), s.held = none →
    (fld s.chip GLB_WDT_timeout = 0 ∨ s.chip.tmr.ticks < s.chip.glb.wdtFrom + wdtTicks s.chip) → exec .watchdogExpiry s = .next s)
  ∧ (∀ (s : State) (v : W), MayWrite s GLB_SVN_COMMIT →
    let old := wbits (rd s.chip GLB_FUSE) 0 16
    exec (.svnCommit v) s =
      .next { s with chip := wr s.chip GLB_FUSE (putField (rd s.chip GLB_FUSE) 0 16 (max old s.chip.glb.svn)) })
  ∧ (∀ (s : State), s.held = none →
    (s.chip.glb.start = none → exec .startArrApply s = .next s ∧ exec .autostart s = .next s)
    ∧ (∀ r, s.chip.glb.start = some r →
      (r.applied = true → exec .startArrApply s = .next s)
      ∧ ((maskTiles s.chip).all (fun t => linkState s.chip t == 6) = false →
        pReached (period s.chip) (r.from_ + 40000) = false → exec .startArrApply s = .next s)
      ∧ ((r.applied = false ∨ r.started = true) → exec .autostart s = .next s)))
  ∧ (∀ (s : State) (r : StartRun), s.held = none → s.chip.glb.start = some r → r.applied = false →
    (maskTiles s.chip).all (fun t => linkState s.chip t == 6) = true →
    bitsAt (leAt s.chip.glb.profile 1 1) 0 2 = curMode s.chip → leAt s.chip.glb.profile 6 2 ≠ 0xFFFF →
    let c := s.chip
    let id := leAt c.glb.profile 6 2
    let a : Chip := { c with glb := { c.glb with start := some { r with applied := true } } }
    (storeState c id ≠ 1 → exec .startArrApply s = .next { s with chip := startFail a 3 0 0xFFFF })
    ∧ (storeState c id = 1 → Single c → reachable c (DOC_CMD 3) = true → fldB c DOC_CTL_host_en = true → hostQueued c < 8 →
      (∀ x ∈ c.deferred, x.addr ≠ DOC_CMD 0 ∧ x.addr ≠ DOC_CMD 1 ∧ x.addr ≠ DOC_CMD 2) →
      ∃ d : Chip, exec .startArrApply s = .next { s with chip := d }
        ∧ d.glb.start = some { r with applied := true, serial := some c.doc.serial }
        ∧ d.doc.incoming = c.doc.incoming ++ [(⟨0x1000FFFF, toW (id + 2 ^ 16), 0, 0, 0, c.doc.serial⟩, eSingle c)]))
  ∧ (∀ (s : State) (r : StartRun), s.held = none → s.chip.glb.start = some r →
    let c := s.chip
    let go : StartRun → State := fun r => { s with chip := { c with glb := { c.glb with start := some r } } }
    (r.applied = false → (maskTiles c).all (fun t => linkState c t == 6) = true → leAt c.glb.profile 6 2 = 0xFFFF →
      bitsAt (leAt c.glb.profile 1 1) 0 2 = curMode c → exec .startArrApply s = .next (go { r with applied := true }))
    ∧ (r.applied = true → r.started = false → r.serial = none → bitsAt (leAt c.glb.profile 0 1) 4 1 = 0 →
      exec .autostart s = .next (go { r with started := true }))
    ∧ (r.applied = true → r.started = false → r.serial = none → bitsAt (leAt c.glb.profile 0 1) 4 1 = 1 → Single c →
      reachable c PRG_CMD = true → fldB c PRG_STAT_busy = false → (∀ x ∈ c.deferred, x.addr ≠ PRG_CMD) →
      ∃ d : Chip, exec .autostart s = .next { s with chip := d }
        ∧ d.glb.start = some { r with started := true, startE := some (eSingle c) }
        ∧ d.deferred = c.deferred ++
          [⟨eSingle c, PRG_CMD, toW (3 * 2 ^ 28 + bitsAt (leAt c.glb.profile 12 1) 0 2 * 2 ^ 24)⟩]))

/-- R518: the NVL block. Where the rules leave a point open it states the model's reading (log entries 5 and 33). -/
def Obligations.NorCommandsAct : Prop :=
  (∀ (s : State) (v : W), MayWrite s NVL_CMD → s.chip.glb.nvl = none →
    let a := rn s.chip NVL_ADDR
    let n := fun k => wbits (withNvl v k) 0 9 + 1
    let st := fun k : Nat => wr { s.chip with glb := { s.chip.glb with nvl := some (withNvl v k, rd s.chip NVL_ADDR) } }
      NVL_STAT (toW (2 ^ 31))
    (n 1 ≤ 256 → exec (.nvlRead v) s = .next { s with chip := st 1 })
    ∧ (n 2 ≤ 256 → inActiveCopy s.chip a (n 2) = false → exec (.nvlProgram v) s = .next { s with chip := st 2 })
    ∧ (inActiveCopy s.chip (sectorOf a) 0x10000 = false → exec (.nvlErase v) s = .next { s with chip := st 3 }))
  ∧ (∀ (s : State) (v : W), MayWrite s NVL_CMD →
    let a := rn s.chip NVL_ADDR
    let n := wbits v 0 9 + 1
    let fin : Nat → State := fun k => { s with chip := wr { s.chip with glb := { s.chip.glb with nvl := none } } NVL_STAT (toW k) }
    (s.chip.glb.nvl ≠ none → exec (.nvlRead v) s = .next s ∧ exec (.nvlProgram v) s = .next s ∧ exec (.nvlErase v) s = .next s)
    ∧ (s.chip.glb.nvl = none →
      (256 < n → exec (.nvlRead v) s = .next (fin 4) ∧ exec (.nvlProgram v) s = .next (fin 4))
      ∧ (n ≤ 256 → inActiveCopy s.chip a n = true → exec (.nvlProgram v) s = .next (fin 2))
      ∧ (inActiveCopy s.chip (sectorOf a) 0x10000 = true → exec (.nvlErase v) s = .next (fin 2))))
  ∧ (∀ (s : State) (b : Bool), s.held = none → s.chip.glb.nvl = none → exec (.nvlDone b) s = .next s)
  ∧ (∀ (s : State) (v a : W), s.held = none → s.chip.glb.nvl = some (v, a) →
    let n := wbits v 0 9 + 1
    let fin : Chip → Nat → Chip := fun c k => wr { c with glb := { c.glb with nvl := none } } NVL_STAT (toW k)
    let page := setPage s.chip (putBytes (pageBytes s.chip) 0 (norBytes s.chip a.toNat n))
    let put := norWrite s.chip a.toNat ((pageBytes s.chip).take n)
    let cleared := norWrite s.chip (sectorOf a.toNat) (List.replicate 0x10000 0xFF)
    exec (.nvlDone true) s = .next { s with chip := raise (fin s.chip 3) srcNVL_WRITE_ERR 0 }
    ∧ (wbits v 28 4 = 1 → exec (.nvlDone false) s = .next { s with chip := fin page 1 })
    ∧ (wbits v 28 4 = 2 → exec (.nvlDone false) s = .next { s with chip := fin put 1 })
    ∧ (wbits v 28 4 = 3 → exec (.nvlDone false) s = .next { s with chip := fin cleared 1 }))

/-- R524–R537: the bus matrix. Where the rules leave a point open it states the model's reading (log entry 45). -/
def Obligations.MatrixGrantsAndAnswers : Prop :=
  (∀ (s : State) (t : Fin 12) (reqs : List MatrixReq) (q : MatrixReq), s.held = none →
    reqs.all (fun q => reqLegal q && (matrixTarget s.chip q.master q.addr).isSome) = true → mapGet s.chip.xbr.busy t.val = none →
    let l := reqs.filter (fun q => reqLegal q && !(s.chip.xbr.busy.map (·.2.master)).contains q.master)
    chooseGrant s.chip t (l.filter (fun q => matrixTarget s.chip q.master q.addr == some t.val)) = some q →
    exec (.matrixGrant t reqs) s = .next { s with chip := { s.chip with xbr := { s.chip.xbr with
      busy := mapPut s.chip.xbr.busy t q,
      granted := mapPut s.chip.xbr.granted t ((grantedAt s.chip t).filter (· != q.master) ++ [q.master]) } } })
  ∧ (∀ (s : State) (t : Fin 12) (reqs : List MatrixReq), s.held = none →
    reqs.all (fun q => reqLegal q && (matrixTarget s.chip q.master q.addr).isSome) = true → mapGet s.chip.xbr.busy t.val ≠ none →
    exec (.matrixGrant t reqs) s = .next s)
  ∧ (∀ (s : State) (t : Fin 12) (q : MatrixReq), s.held = none → reqLegal q = true → matrixTarget s.chip q.master q.addr = none →
    (s.chip.xbr.busy.map (·.2.master)).contains q.master = false →
    exec (.matrixGrant t [q]) s = .next { s with chip := matrixAnswer (matrixError s.chip 1 q.master 15 q.write.isSome q.addr 0) (zeroData q) 1 })
  ∧ (∀ (s : State) (t : Fin 12) (err : Fin 4) (beat : BitVec 9) (m : Fin 14) (beats : BitVec 10), s.held = none →
    (mapGet s.chip.xbr.busy t.val = none →
      exec (.matrixResponse t err beat) s = .next s ∧ exec (.targetTimeout t) s = .next s)
    ∧ (s.chip.xbr.busy.find? (fun e => e.2.master == m.val) = none → exec (.masterReset m beats) s = .next s))
  ∧ (∀ (s : State) (t : Fin 12) (err : Fin 4) (beat : BitVec 9) (q : MatrixReq), s.held = none →
    mapGet s.chip.xbr.busy t.val = some q → 4 ≤ t.val → t.val < 9 →
    let c : Chip := { s.chip with xbr := { s.chip.xbr with busy := mapDel s.chip.xbr.busy t } }
    let off := q.addr % 2 ^ 36
    (4 < q.len → exec (.matrixResponse t err beat) s =
      .next { s with chip := matrixAnswer (accessError c q.master q.write.isSome off true) (zeroData q) 1 })
    ∧ (q.len ≤ 4 → err ≠ 2 → q.write = none →
      let d := masterRead c q.master off
      exec (.matrixResponse t err beat) s =
        .next { s with chip := matrixAnswer d ((leBytes 4 d.readData.toNat).take q.len) d.readResp })
    ∧ (∀ l, q.len ≤ 4 → err ≠ 2 → q.write = some l →
      let d := masterWrite c q.master off (BitVec.ofNat 4 (2 ^ q.len - 1)) (toW (leNat l))
      exec (.matrixResponse t err beat) s = .next { s with chip := matrixAnswer d [] d.readResp }))
  ∧ (∀ (s : State) (t : Fin 12) (err : Fin 4) (beat : BitVec 9) (q : MatrixReq), s.held = none →
    mapGet s.chip.xbr.busy t.val = some q → t.val < 4 →
    let c : Chip := { s.chip with xbr := { s.chip.xbr with busy := mapDel s.chip.xbr.busy t } }
    let off := q.addr % 2 ^ 36
    (ddrMay c q.master q.write.isSome off q.len = false → exec (.matrixResponse t err beat) s =
      .next { s with chip := matrixAnswer (matrixError c 1 q.master t q.write.isSome q.addr 0) (zeroData q) 1 })
    ∧ (ddrMay c q.master false off q.len = true → q.write = none → err = 0 → exec (.matrixResponse t err beat) s =
      .next { s with chip := matrixAnswer c (ddrBytes c off q.len) 0 })
    ∧ (∀ l, ddrMay c q.master true off q.len = true → q.write = some l → err = 0 → exec (.matrixResponse t err beat) s =
      .next { s with chip := matrixAnswer (ddrWrite c off l) [] 0 }))
  ∧ (∀ (s : State) (t : Fin 12) (q : MatrixReq), s.held = none → mapGet s.chip.xbr.busy t.val = some q →
    let c : Chip := { s.chip with xbr := { s.chip.xbr with busy := mapDel s.chip.xbr.busy t } }
    exec (.targetTimeout t) s =
      .next { s with chip := matrixAnswer (matrixError c 3 q.master t q.write.isSome q.addr 0) (zeroData q) 2 })
  ∧ (∀ (s : State) (m : Fin 14) (beats : BitVec 10) (t : Nat) (q : MatrixReq), s.held = none →
    s.chip.xbr.busy.find? (fun e => e.2.master == m.val) = some (t, q) → q.write = none → beats ≠ 0 →
    let c : Chip := { s.chip with xbr := { s.chip.xbr with busy := mapDel s.chip.xbr.busy t } }
    exec (.masterReset m beats) s =
      .next { s with chip := matrixError c 4 m t false q.addr (min beats.toNat (reqBeats q)) })

/-- R534–R545, R556: memory controller and PCIe. Where the rules leave a point open it states the model's reading (log entries 46 and 49). -/
def Obligations.MemoryControllerAndPcieAct : Prop :=
  (∀ (s : State) (a : BitVec 36) (ch : Fin 4) (up : Bool), s.held = none → memServes s.chip = true →
    (fldB s.chip DDR_CTL_scrub_en = true → a.toNat < ddrUsable s.chip →
      exec (.patrolScrub a 1) s = .next { s with chip := eccCorrected s.chip (ddrChannel a.toNat) }
      ∧ exec (.patrolScrub a 2) s = .next { s with chip := eccUncorrected s.chip a.toNat })
    ∧ exec (.ddrRetrain ch true) s = .next { s with chip := raise s.chip (srcDDR_RETRAIN ch) 0 }
    ∧ (let f : Fld := ⟨DDR_STAT, 20 + ch, 1⟩
      let c := setB s.chip f up
      exec (.refreshDerate ch up) s =
        .next { s with chip := if up && !fldB s.chip f then raise c (srcDDR_DERATE ch) 0 else c }))
  ∧ (∀ (s : State) (a : BitVec 36) (bits : Fin 3) (ch : Fin 4) (b : Bool), s.held = none →
    ((memServes s.chip = false ∨ fldB s.chip DDR_CTL_scrub_en = false ∨ ddrUsable s.chip ≤ a.toNat ∨ bits = 0) →
      exec (.patrolScrub a bits) s = .next s)
    ∧ ((memServes s.chip = false ∨ b = false) → exec (.ddrRetrain ch b) s = .next s)
    ∧ (memServes s.chip = false → exec (.refreshDerate ch b) s = .next s))
  ∧ (∀ (s : State) (v : W), MayWrite s XBR_BAR2_WIN →
    exec (.bar2WinWrite v) s = .next { s with chip := wr s.chip XBR_BAR2_WIN (v &&& 0x3F) })
  ∧ (∀ (s : State) (bar2 : Bool) (off : BitVec 32) (dws : BitVec 11) (be : BitVec 4) (w : Option (List Byte)), s.held = none →
    (pcieUp s.chip = false ∨ dws = 0 ∨ (bar2 = false ∧ 2 ^ 26 ≤ off.toNat / 4 * 4)) →
    exec (.pcieRequest bar2 off dws be w) s = .next s)
  ∧ (∀ (s : State) (off : BitVec 32) (be : BitVec 4) (l : List Byte), s.held = none → pcieUp s.chip = true → s.chip.pcie.d3hot = false →
    off.toNat / 4 * 4 < 2 ^ 26 →
    let a := off.toNat / 4 * 4
    let d := masterWrite s.chip 1 a be (toW (leNat l))
    (l.length = 4 → exec (.pcieRequest false off 1 be (some l)) s =
      .next { s with chip := matrixAnswer (if d.readResp = 0 then d else raise d srcPCIE_AER_UNCORR 0) [] d.readResp })
    ∧ exec (.pcieRequest false off 2 be none) s =
      .next { s with chip := matrixAnswer (accessError s.chip 1 false a false) [] 1 })
  ∧ (∀ (s : State) (off : BitVec 32) (be : BitVec 4), s.held = none → pcieUp s.chip = true → s.chip.pcie.d3hot = true →
    off.toNat / 4 * 4 < 2 ^ 26 →
    exec (.pcieRequest false off 1 be none) s = .next { s with chip := matrixAnswer s.chip [] 1 })
  ∧ (∀ (s : State) (off : BitVec 32) (l : List Byte), s.held = none → pcieUp s.chip = true → s.chip.pcie.d3hot = false →
    l.length = 4 →
    let b := bar2Address s.chip (off.toNat / 4 * 4)
    let d := memWrite s.chip 1 b l
    (ddrMay s.chip 1 true b 4 = true → exec (.pcieRequest true off 1 15 (some l)) s = .next { s with chip := matrixAnswer d [] 0 })
    ∧ (ddrMay s.chip 1 true b 4 = false → exec (.pcieRequest true off 1 15 (some l)) s =
      .next { s with chip := matrixAnswer (raise d srcPCIE_AER_UNCORR 0) [] 1 }))
  ∧ (∀ (s : State) (off : BitVec 32) (dws : BitVec 11) (be : BitVec 4), s.held = none → pcieUp s.chip = true → s.chip.pcie.d3hot = false →
    let a := off.toNat / 4 * 4
    (dws = 1 → a < 2 ^ 26 → (masterRead s.chip 1 a).readResp = 0 →
      let d := masterRead s.chip 1 a
      exec (.pcieRequest false off dws be none) s =
        .next { s with chip := matrixAnswer d (enabledBytes be (leBytes 4 d.readData.toNat)) 0 })
    ∧ (dws ≠ 0 → dws.toNat ≤ 1024 → a + 4 * dws.toNat ≤ 2 ^ 32 →
      let b := bar2Address s.chip a
      splitPieces b (4 * dws.toNat) = [(b, 4 * dws.toNat)] → ddrMay s.chip 1 false b (4 * dws.toNat) = true →
      exec (.pcieRequest true off dws be none) s =
        .next { s with chip := matrixAnswer s.chip (ddrBytes s.chip b (4 * dws.toNat)) 0 }))
  ∧ (∀ (s : State) (sp : Fin 6) (w : BitVec 4) (bus : Byte) (cfg : BitVec 4), s.held = none → sp ≠ 0 → 
    (w = 1 ∨ w = 2 ∨ w = 4 ∨ w = 8) →
    let v := toW cfg.toNat
    let c : Chip := { s.chip with
      pcie := { s.chip.pcie with enable := wbit v 0, funcMask := wbit v 1, busMaster := wbit v 2, d3hot := wbit v 3 },
      glb := { s.chip.glb with perst := false } }
    let d := raise (wr c XBR_PCIE_STAT (toW (2 ^ 31 + sp.val * 2 ^ 28 + w.toNat * 2 ^ 24 + bus.toNat * 256))) srcPCIE_LINK_UP 0
    exec (.pcieLinkUp sp w bus cfg) s =
      .next { s with chip := if sp.val < 5 ∨ w.toNat < 8 then raise d srcPCIE_SPEED 0 else d })
  ∧ (∀ (s : State) (sp : Fin 6) (w : BitVec 4) (bus : Byte) (cfg : BitVec 4) (vec : Byte), s.held = none →
    ((sp = 0 ∨ (w ≠ 1 ∧ w ≠ 2 ∧ w ≠ 4 ∧ w ≠ 8)) → exec (.pcieLinkUp sp w bus cfg) s = .next s)
    ∧ (wbit (rd s.chip XBR_PCIE_STAT) 31 = false → exec .pcieLinkDown s = .next { s with chip := resetPcie s.chip })
    ∧ ((bitsAt s.chip.pcie.pend.toNat vec.toNat 1 = 0 ∨ msixReady s.chip vec.toNat = false) →
      exec (.msixPendingSend vec) s = .next s))
  ∧ (∀ (s : State) (vec : Byte), s.held = none →
    (wbit (rd s.chip XBR_PCIE_STAT) 31 = true →
      exec .pcieLinkDown s = .next { s with chip := raise (resetPcie s.chip) srcPCIE_LINK_DOWN 0 })
    ∧ (bitsAt s.chip.pcie.pend.toNat vec.toNat 1 = 1 → msixReady s.chip vec.toNat = true →
      exec (.msixPendingSend vec) s = .next { s with chip := msixEmit s.chip vec.toNat }))

/-- R546–R549: the SMBus target. Where the rules leave a point open it states the model's reading (log entries 47 and 48). -/
def Obligations.SmbusTargetServes : Prop :=
  (∀ (s : State) (data : List Byte), s.held = none →
    let c : Chip := { s.chip with smb := { s.chip.smb with nack := false, out := [] } }
    (data.length = 5 →
      let flags := leAt data 4 1
      let d : Chip := { c with smb := { c.smb with addr := toW (leAt data 0 4), autoinc := bitsAt flags 1 1 == 1 } }
      exec (.smbAddr data 1) s = .next { s with chip := if bitsAt flags 0 1 = 1 then smbRead false d else d })
    ∧ (data.length = 4 → exec (.smbWrite data 1) s = .next { s with chip := smbWrite false c (toW (leAt data 0 4)) }))
  ∧ (∀ (s : State), s.held = none →
    let st := fld s.chip SBM_STAT_status
    let say : List Byte → Chip := fun l => { s.chip with smb := { s.chip.smb with nack := false, out := l } }
    let c := say (blockRead s.chip 0x12 (BitVec.ofNat 8 st :: leBytes 4 s.chip.smb.data.toNat))
    let d : Chip := { c with smb := { c.smb with addr := c.smb.addr + 4 } }
    let t := setB s.chip SBM_STAT_timeout true
    let quiet : Chip := { t with smb := { t.smb with nack := false, out := [] } }
    exec .smbRead s = .next { s with chip := if c.smb.autoinc && st = 0 then smbRead false d else c }
    ∧ exec .smbStatus s = .next { s with chip := say [BitVec.ofNat 8 st] }
    ∧ exec .smbIdent s = .next { s with chip := say (blockRead s.chip 0x14 (leBytes 4 (rn s.chip GLB_ID) ++ leBytes 4 (rn s.chip SBM_STAT))) }
    ∧ exec .smbusTimeout s = .next { s with chip := raise quiet srcSBM_TIMEOUT 0 }
    ∧ (sbAlertLow s.chip = false →
      exec .alertResponse s = .next { s with chip := { s.chip with smb := { s.chip.smb with nack := true, out := [] } } })
    ∧ (sbAlertLow s.chip = true →
      exec .alertResponse s = .next { s with chip := say [BitVec.ofNat 8 (fld s.chip SBM_STAT_address)] }))
  ∧ (∀ (s : State) (data : List Byte) (p : Fin 3), s.held = none →
    let q : Chip := { smbStatus s.chip 6 with smb := { s.chip.smb with nack := true, out := [] } }
    let e : Chip := { smbStatus s.chip 5 with smb := { s.chip.smb with nack := true, out := [] } }
    let form : State := { s with chip := raise (setB q SBM_STAT_proto true) srcSBM_PROTO 0 }
    let pec : State := { s with chip := raise (setB e SBM_STAT_pec_err true) srcSBM_PEC_ERR 0 }
    (data.length ≠ 5 → exec (.smbAddr data p) s = .next form)
    ∧ (data.length ≠ 4 → exec (.smbWrite data p) s = .next form)
    ∧ ((p = 2 ∨ (p = 0 ∧ fldB s.chip SBM_CTL_pec_req = true)) →
      (data.length = 5 → exec (.smbAddr data p) s = .next pec) ∧ (data.length = 4 → exec (.smbWrite data p) s = .next pec)))
  ∧ (∀ (s : State) (data : List Byte) (p : Fin 3), s.held = some .cold →
    exec (.smbAddr data p) s = .next s ∧ exec (.smbWrite data p) s = .next s ∧ exec .smbRead s = .next s
    ∧ exec .smbStatus s = .next s ∧ exec .smbIdent s = .next s ∧ exec .smbusTimeout s = .next s ∧ exec .alertResponse s = .next s)

/-- R557, R559, R560: the power domains. Where the rules leave a point open it states the model's reading (log entries 53 and 54). -/
def Obligations.PowerDomainsSwitch : Prop :=
  (∀ (s : State) (d : Fin 56) (v : W), MayChange s (PDM_DOM d) → 
    let wait := fun k : Nat => ({ s.chip with pdm := { s.chip.pdm with
      waits := s.chip.pdm.waits ++ [(d.val, toW (k * 2 ^ 30 + s.chip.twn.source), eSingle s.chip)] } } : Chip)
    let no := raise (setFld s.chip (PDM_DOM_reason d) 3) srcPDM_DOM_REJECT 0
    ((∀ x ∈ s.chip.pdm.waits, x.1 ≠ d.val) → exec (.domainOn d v) s = .next { s with chip := wait 1 }
      ∧ exec (.domainOff d v) s = .next { s with chip := wait 2 })
    ∧ ((∃ x ∈ s.chip.pdm.waits, x.1 = d.val) → exec (.domainOn d v) s = .next { s with chip := no }
      ∧ exec (.domainOff d v) s = .next { s with chip := no }))
  ∧ (∀ (s : State) (d : Fin 56) (x : W) (e : W), s.held = none →
    s.chip.pdm.waits.find? (fun y => y.1 == d.val && due s.chip y.2.2) = some (d.val, x, e) →
    let c : Chip := { s.chip with pdm := { s.chip.pdm with waits := s.chip.pdm.waits.erase (d.val, x, e) } }
    let st := fld s.chip (PDM_DOM_state d)
    let portless := 42 ≤ d.val ∧ d.val < 46 ∧ fld s.chip (PDM_DOM_state 52) ≠ 1
    let go := fun on : Bool => setDomain { c with pdm := { c.pdm with switching := c.pdm.switching ++ [(d.val, on, period s.chip)] } } d 2
    let no := fun k : Nat => raise (setFld c (PDM_DOM_reason d) k) srcPDM_DOM_REJECT 0
    let r := offReason s.chip d (domainSource x)
    (wbits x 30 2 = 1 → st = 0 → ¬ portless → exec (.domainSwitch d) s = .next { s with chip := go true })
    ∧ (wbits x 30 2 = 1 → st ≠ 2 → portless → exec (.domainSwitch d) s = .next { s with chip := no 4 })
    ∧ (wbits x 30 2 = 2 → st = 1 ∨ st = 3 → r = 0 → exec (.domainSwitch d) s = .next { s with chip := go false })
    ∧ (wbits x 30 2 = 2 → st ≠ 2 → r ≠ 0 → exec (.domainSwitch d) s = .next { s with chip := no r })
    ∧ (wbits x 30 2 = 1 ∨ wbits x 30 2 = 2 → st = 2 → exec (.domainSwitch d) s = .next { s with chip := no 3 }))
  ∧ (∀ (s : State) (d : Fin 56) (x : W) (e : W), s.held = none →
    s.chip.pdm.waits.find? (fun y => y.1 == d.val && due s.chip y.2.2) = some (d.val, x, e) →
    let c : Chip := { s.chip with pdm := { s.chip.pdm with waits := s.chip.pdm.waits.erase (d.val, x, e) } }
    let st := fld s.chip (PDM_DOM_state d)
    (wbits x 30 2 = 1 → (st = 1 ∨ st = 3) → ¬ (42 ≤ d.val ∧ d.val < 46 ∧ fld s.chip (PDM_DOM_state 52) ≠ 1) →
      exec (.domainSwitch d) s = .next { s with chip := c })
    ∧ (wbits x 30 2 = 2 → st = 0 → offReason s.chip d (domainSource x) = 0 → exec (.domainSwitch d) s = .next { s with chip := c }))
  ∧ (∀ (s : State) (d : Fin 56), s.held = none →
    (s.chip.pdm.waits.find? (fun y => y.1 == d.val && due s.chip y.2.2) = none → exec (.domainSwitch d) s = .next s)
    ∧ ((∀ x ∈ s.chip.pdm.switching, x.1 = d.val → x.2.1 = true) → exec (.domainOffDone d) s = .next s)
    ∧ ((∀ x ∈ s.chip.pdm.switching, x.1 = d.val → x.2.1 = false) →
      exec (.domainOnDone d) s = .next s ∧ exec (.domainFault d) s = .next s)
    ∧ ((∀ x ∈ s.chip.pdm.switching, x.1 = d.val → pReached (period s.chip) (x.2.2 + 128) = false) →
      exec (.domainFault d) s = .next s))
  ∧ (∀ (s : State) (d : Fin 56), s.held = none →
    let fin := fun (c : Chip) (k : Nat) => setDomain { c with pdm := { c.pdm with switching := c.pdm.switching.filter (fun x => x.1 != d.val) } } d k
    ((∃ x ∈ s.chip.pdm.switching, x.1 = d.val ∧ x.2.1 = false) →
      exec (.domainOffDone d) s = .next { s with chip := fin (resetDomain s.chip d) 0 })
    ∧ ((∃ x ∈ s.chip.pdm.switching, x.1 = d.val ∧ x.2.1 = true) →
      exec (.domainOnDone d) s = .next { s with chip := fin (resetDomain s.chip d) 1 })
    ∧ ((∃ x ∈ s.chip.pdm.switching, x.1 = d.val ∧ x.2.1 = true ∧ pReached (period s.chip) (x.2.2 + 128) = true) →
      exec (.domainFault d) s = .next { s with chip := raise (fin s.chip 3) srcPDM_DOM_FAULT (toW d.val) }))

/-- R564–R569: the assembly's power tree and the die temperature. Where the rules leave a point open it states the model's reading (log entry 56). -/
def Obligations.AssemblySequencerActs : Prop :=
  (∀ (s : State) (v : W), MayChange s PDM_ASM_CTL →
    let wait := fun k : Nat => ({ s.chip with deferred := s.chip.deferred ++ [⟨eSingle s.chip, PDM_ASM_CTL, putField v 30 2 k⟩] } : Chip)
    (s.chip.pdm.seq = none → exec (.asmUp v) s = .next { s with chip := wait 1 } ∧ exec (.asmDown v) s = .next { s with chip := wait 2 })
    ∧ (s.chip.pdm.seq ≠ none → exec (.asmUp v) s = .next { s with chip := setB s.chip PDM_ASM_STAT_cmd_reject true }
      ∧ exec (.asmDown v) s = .next { s with chip := setB s.chip PDM_ASM_STAT_cmd_reject true })
    ∧ exec (.asmClear v) s = .next { s with chip := wait 3 })
  ∧ (∀ (s : State) (q : SeqRun), s.held = none → s.chip.pdm.seq = some q → q.group < 8 → q.todo = [] → s.chip.pdm.bus = [] →
    ((∀ r ∈ groupRails s.chip q.group, r ∈ q.seen) →
      exec .seqGroupDone s = .next { s with chip := seqAdvance (enterGroup s.chip q) })
    ∧ (∀ r, (groupRails s.chip q.group).find? (fun r => !q.seen.contains r) = some r →
      10000000 ≤ s.chip.tmr.ticks - q.last →
      let c : Chip := { s.chip with pdm := { s.chip.pdm with seq := none } }
      let c := setFld (setFld (setFld c PDM_ASM_STAT_asm_state 5) PDM_ASM_STAT_group q.group) PDM_ASM_STAT_rail r
      exec .seqGroupTimeout s = .next { s with chip := raise c srcPDM_SEQ_FAIL (toW (q.group * 2 ^ 24 + r * 2 ^ 20)) }))
  ∧ (∀ (s : State), s.held = none →
    (groupLeft s.chip = none → exec .seqGroupDone s = .next s ∧ exec .seqGroupTimeout s = .next s)
    ∧ (∀ q r l, groupLeft s.chip = some (q, r :: l) → exec .seqGroupDone s = .next s)
    ∧ (∀ q, groupLeft s.chip = some (q, []) → exec .seqGroupTimeout s = .next s)
    ∧ (∀ q r l, groupLeft s.chip = some (q, r :: l) → s.chip.tmr.ticks - q.last < 10000000 → exec .seqGroupTimeout s = .next s))
  ∧ (∀ (s : State), s.held = none →
    ((∀ e, s.chip.pdm.downAt = some e → due s.chip e = false) → exec .railFaultDown s = .next s)
    ∧ (acting s.chip = false → exec .pmbAlert s = .next { s with chip := raise s.chip srcPDM_PMB_ALERT 0 })
    ∧ (s.chip.pdm.hotRun ≠ 4 → exec .pdmTempCrit s = .next s))
  ∧ (∀ (s : State) (e : W) (q : SeqRun), s.held = none → s.chip.pdm.downAt = some e → due s.chip e = true → s.chip.pdm.seq = some q →
    let c : Chip := { s.chip with pdm := { s.chip.pdm with downAt := none } }
    let d : Chip := { c with pdm := { c.pdm with bus := c.pdm.bus.filter (fun t => t.rail.isNone) } }
    (q.up = true → acting s.chip = true → exec .railFaultDown s = .next { s with chip := startSeq d false })
    ∧ (q.up = false → exec .railFaultDown s = .next { s with chip := c }))
  ∧ (∀ (s : State) (e : W), s.held = none → s.chip.pdm.downAt = some e → due s.chip e = true → s.chip.pdm.seq = none → acting s.chip = true →
    let c : Chip := { s.chip with pdm := { s.chip.pdm with downAt := none } }
    exec .railFaultDown s = .next { s with chip := startSeq c false })
  ∧ (∀ (s : State), s.held = none →
    let c := raise s.chip srcPDM_PMB_ALERT 0
    (acting s.chip = true → exec .pmbAlert s = .next { s with chip := { c with pdm := { c.pdm with alert := railsIn s.chip } } })
    ∧ (s.chip.pdm.hotRun = 4 →
      let c : Chip := { s.chip with pdm := { s.chip.pdm with hotRun := 5 } }
      exec .pdmTempCrit s = .next { s with chip := raise c srcPDM_TEMP_CRIT 0 }))

/-- R561, R562, R565, R591: the PMBus. Where the rules leave a point open it states the model's reading (log entry 55). -/
def Obligations.PmbusTransactionsAct : Prop :=
  (∀ (s : State) (v : W), MayWrite s PDM_PMB_XFER → acting s.chip = true → wbit (rd s.chip PDM_PMB_STAT) 31 = false →
    let queue := fun (k : Nat) (data : Option Nat) =>
      let c := wr s.chip PDM_PMB_STAT 0x80000000
      ({ c with pdm := { c.pdm with bus := c.pdm.bus ++ [⟨none, (withXferOp v k).toNat, data, 0⟩] } } : Chip)
    let data := wbits (rd s.chip PDM_PMB_DATA) 0 16
    exec (.pmbWriteByte v) s = .next { s with chip := queue 1 (some data) }
    ∧ exec (.pmbWriteWord v) s = .next { s with chip := queue 2 (some data) }
    ∧ exec (.pmbReadByte v) s = .next { s with chip := queue 3 none }
    ∧ exec (.pmbReadWord v) s = .next { s with chip := queue 4 none })
  ∧ (∀ (s : State) (v : W), MayWrite s PDM_PMB_XFER →
    let no := wr s.chip PDM_PMB_STAT 5
    (wbit (rd s.chip PDM_PMB_STAT) 31 = true → exec (.pmbWriteByte v) s = .next s ∧ exec (.pmbWriteWord v) s = .next s
      ∧ exec (.pmbReadByte v) s = .next s ∧ exec (.pmbReadWord v) s = .next s)
    ∧ (wbit (rd s.chip PDM_PMB_STAT) 31 = false → acting s.chip = false →
      exec (.pmbWriteByte v) s = .next { s with chip := no } ∧ exec (.pmbWriteWord v) s = .next { s with chip := no }
      ∧ exec (.pmbReadByte v) s = .next { s with chip := no } ∧ exec (.pmbReadWord v) s = .next { s with chip := no }))
  ∧ (∀ (s : State) (status vout iout temp data : BitVec 16) (r : Nat), s.held = none →
    (mayPoll s.chip = false → exec (.pmbPoll status vout iout temp) s = .next s)
    ∧ (s.chip.pdm.bus = [] → exec (.pmbTransactionDone 0 data) s = .next s)
    ∧ (mayPoll s.chip = true → pollRail s.chip = some r → mapGet s.chip.pdm.mode r = none →
      let d : Chip := { s.chip with pdm := { s.chip.pdm with bus := s.chip.pdm.bus ++ [⟨some r, 0x20, none, 0⟩] } }
      exec (.pmbPoll status vout iout temp) s = .next { s with chip := d }))
  ∧ (∀ (s : State) (res : Fin 4) (data : BitVec 16) (t : PmbTx), s.held = none → s.chip.pdm.bus = [t] → t.rail = none → s.chip.pdm.seq = none →
    let c : Chip := { s.chip with pdm := { s.chip.pdm with bus := [] } }
    let op := bitsAt t.cmd 28 3
    (res = 0 → op = 3 → exec (.pmbTransactionDone res data) s =
      .next { s with chip := wr (wr c PDM_PMB_DATA (toW (data.toNat % 256))) PDM_PMB_STAT 1 })
    ∧ (res = 0 → op = 4 → exec (.pmbTransactionDone res data) s =
      .next { s with chip := wr (wr c PDM_PMB_DATA (toW data.toNat)) PDM_PMB_STAT 1 })
    ∧ (res = 0 → op = 1 ∨ op = 2 → exec (.pmbTransactionDone res data) s = .next { s with chip := wr c PDM_PMB_STAT 1 })
    ∧ (res ≠ 0 → t.tries < 2 → exec (.pmbTransactionDone res data) s =
      .next { s with chip := { c with pdm := { c.pdm with bus := [{ t with tries := t.tries + 1 }] } } })
    ∧ (res ≠ 0 → 2 ≤ t.tries → exec (.pmbTransactionDone res data) s = .next { s with chip := wr c PDM_PMB_STAT (toW (res.val + 1)) }))
  ∧ (∀ (s : State) (status vout iout temp : BitVec 16) (r : Nat), s.held = none → mayPoll s.chip = true → pollRail s.chip = some r →
    mapGet s.chip.pdm.mode r ≠ none →
    let c := takeStatusWord s.chip r status
    let d : Chip := { c with pdm := { c.pdm with
      polled := r, vout := mapPut c.pdm.vout r vout, iout := mapPut c.pdm.iout r iout,
      temp := mapPut c.pdm.temp r temp, reading := c.pdm.reading.map (fun l => l.erase r) } }
    let alerted : Chip := { c with pdm := { c.pdm with alert := c.pdm.alert.erase r } }
    (s.chip.pdm.alert = [] → exec (.pmbPoll status vout iout temp) s = .next { s with chip := endReading (noteSeen (showGood d r) r) })
    ∧ (r ∈ s.chip.pdm.alert → exec (.pmbPoll status vout iout temp) s = .next { s with chip := showGood alerted r }))

/-- R571–R579, R596: the converter. Where the rules leave a point open it states the model's reading (log entry 58). -/
def Obligations.ConverterRunsSequences : Prop :=
  (∀ (s : State) (n : Fin 4) (v : W),
    let trig : Chip → Chip := fun c =>
      if c.aux.pend.contains n.val = true then raiseLimited (countUp (setB c AUX_STAT_overrun true) AUX_OVERRUN_CNT 1) srcAUX_OVERRUN 0
      else nextConversion { c with aux := { c.aux with pend := c.aux.pend ++ [n.val] } }
    let stored := showAux (wr s.chip (AUX_SEQ_CTL n) (seqCtlStored (v ||| 0x80000000)))
    (MayWrite s (AUX_SEQ_CTL n) → fldB stored AUX_CTL_adc_en = true → exec (.adcSeqGo n v) s = .next { s with chip := trig stored })
    ∧ (s.held = none → fldB s.chip AUX_CTL_adc_en = true → fld s.chip (AUX_SEQ_CTL_trig n) = 1 →
      (period s.chip).toNat % max 4 (fld s.chip (AUX_SEQ_CTL_interval n)) = 0 →
      exec (.adcTimerTrigger n) s = .next { s with chip := trig s.chip }))
  ∧ (∀ (s : State) (n : Fin 4) (v : W),
    let stored := showAux (wr s.chip (AUX_SEQ_CTL n) (seqCtlStored (v ||| 0x80000000)))
    (MayWrite s (AUX_SEQ_CTL n) → fldB stored AUX_CTL_adc_en = false → exec (.adcSeqGo n v) s = .next { s with chip := stored })
    ∧ (s.held = none → (fldB s.chip AUX_CTL_adc_en = false ∨ fld s.chip (AUX_SEQ_CTL_trig n) ≠ 1
        ∨ (period s.chip).toNat % max 4 (fld s.chip (AUX_SEQ_CTL_interval n)) ≠ 0) →
      exec (.adcTimerTrigger n) s = .next s)
    ∧ (MayWrite s AUX_URG → fldB s.chip AUX_CTL_adc_en = false → exec (.adcUrgent v) s = .next s))
  ∧ (∀ (s : State) (code : BitVec 16) (ovr ok : Bool) (offset gain : Byte) (hi lo : BitVec 22), s.held = none →
    (s.chip.aux.conv = none → exec (.adcConversionDone code ovr) s = .next s)
    ∧ ((s.chip.aux.conv ≠ none ∨ s.chip.aux.lastEnd = none ∨ (∃ t, s.chip.aux.lastEnd = some t ∧ s.chip.tmr.ticks - t < 10000)) →
      exec .adcPowerDown s = .next s)
    ∧ ((fld s.chip AUX_CTL_trim_interval = 0 ∨ fldB s.chip AUX_STAT_trimming = true
        ∨ s.chip.tmr.ticks - s.chip.aux.trimEnd < fld s.chip AUX_CTL_trim_interval * 1000000000) →
      exec .trimInterval s = .next s)
    ∧ ((fldB s.chip AUX_STAT_trimming = false ∨ s.chip.aux.trimN < 64 ∨ (ok = true ∧ s.chip.aux.trimN < 256)) →
      exec (.trimDone ok offset gain hi lo) s = .next s))
  ∧ (∀ (s : State) (v : W), MayWrite s AUX_URG → fldB s.chip AUX_CTL_adc_en = true →
    (fldB s.chip AUX_STAT_urg_busy = false → exec (.adcUrgent v) s =
      .next { s with chip := nextConversion { s.chip with aux := { s.chip.aux with urgent := some (wbits v 0 6) } } })
    ∧ (fldB s.chip AUX_STAT_urg_busy = true → exec (.adcUrgent v) s = .next { s with chip := setB s.chip AUX_STAT_urg_reject true }))
  ∧ (∀ (s : State) (code : BitVec 16) (ovr : Bool) (k : ConvKind) (ch : Nat), s.held = none → s.chip.aux.conv = some (k, ch) →
    let c : Chip := { s.chip with aux := { s.chip.aux with conv := none, lastEnd := some s.chip.tmr.ticks, ovrLast := ovr } }
    let w := resultWord s.chip k ch code ovr
    let d := wr (queueResult (if ovr then overrange c ch else c) w) (AUX_LAST ch) w
    let e := useResult d ch code.toInt ovr s.chip.aux.ovrLast
    (k = .urgent → exec (.adcConversionDone code ovr) s = .next { s with chip := nextConversion (wr e AUX_URG_RES w) })
    ∧ (k = .trim → exec (.adcConversionDone code ovr) s =
      .next { s with chip := nextConversion { e with aux := { e.aux with trimN := e.aux.trimN + 1 } } })
    ∧ (∀ n i, k = .seq n i → exec (.adcConversionDone code ovr) s = .next { s with chip := nextConversion (afterConversion e k w) })
    ∧ (32 ≤ ch ∨ s.chip.aux.ovrLast = true → e = d))
  ∧ (∀ (s : State) (t : Nat), s.held = none → s.chip.aux.conv = none → s.chip.aux.lastEnd = some t → 10000 ≤ s.chip.tmr.ticks - t →
    exec .adcPowerDown s = .next { s with chip := setB s.chip AUX_STAT_powered false })
  ∧ (∀ (s : State), MayWrite s AUX_RESQ →
    let say : W → Chip := fun w => { s.chip with readData := w, readResp := 0 }
    (s.chip.aux.queue = [] → exec .adcResultPop s = .next { s with chip := say 0 })
    ∧ (∀ w t, s.chip.aux.queue = w :: t →
      let c := say w
      exec .adcResultPop s = .next { s with chip := showAux { c with aux := { c.aux with queue := t } } }))
  ∧ (∀ (s : State) (v : W),
    let want : Chip → Chip := fun c => nextConversion { c with aux := { c.aux with trimWanted := true } }
    (MayWrite s AUX_CTL → exec (.trimGo v) s = .next { s with chip := want (wr s.chip AUX_CTL ((v ||| 0x40000000) &&& 0x80FF0000)) })
    ∧ (s.held = none → fld s.chip AUX_CTL_trim_interval ≠ 0 → fldB s.chip AUX_STAT_trimming = false →
      fld s.chip AUX_CTL_trim_interval * 1000000000 ≤ s.chip.tmr.ticks - s.chip.aux.trimEnd →
      exec .trimInterval s = .next { s with chip := want s.chip }))
  ∧ (∀ (s : State) (offset gain : Byte) (hi lo : BitVec 22), s.held = none → fldB s.chip AUX_STAT_trimming = true →
    (∀ k, s.chip.aux.conv ≠ some (.trim, k)) →
    let c : Chip := { s.chip with aux := { s.chip.aux with trimEnd := s.chip.tmr.ticks, trimN := 0 } }
    let c := setB c AUX_STAT_trimming false
    let gen := (wbits (rd c AUX_TRIM_STAT) 16 16 + 1) % 2 ^ 16
    let stat := wr c AUX_TRIM_STAT (toW (gen * 2 ^ 16 + offset.toNat * 2 ^ 8 + gain.toNat))
    let refs := wr (wr stat AUX_TRIM_REF_HI (toW hi.toNat)) AUX_TRIM_REF_LO (toW lo.toNat)
    let good := raise (wr refs CNS_TRACE (toW gen)) srcAUX_TRIM_DONE 0
    let bad := raise (setB c AUX_STAT_trim_fail true) srcAUX_TRIM_FAIL 0
    (256 ≤ s.chip.aux.trimN → exec (.trimDone true offset gain hi lo) s = .next { s with chip := nextConversion good })
    ∧ (64 ≤ s.chip.aux.trimN → exec (.trimDone false offset gain hi lo) s = .next { s with chip := nextConversion bad }))

/-- R581–R589: the DAC and the TEC zones. Where the rules leave a point open it states the model's reading (log entries 59 and 60). -/
def Obligations.DacAndTecAct : Prop :=
  (∀ (s : State) (k : Fin 16) (v : W), 
    let wait := fun (a : Nat) => ({ s.chip with deferred := s.chip.deferred ++ [⟨eSingle s.chip, a, v⟩] } : Chip)
    (MayChange s (AUX_DAC_CODE k) → exec (.dacCode k v) s = .next { s with chip := wait (AUX_DAC_CODE k) })
    ∧ (MayChange s (AUX_DAC_CFG k) → wbits v 0 3 ≠ 6 → exec (.dacRange k v) s = .next { s with chip := wait (AUX_DAC_CFG k) })
    ∧ (MayChange s (AUX_DAC_CFG k) → wbits v 0 3 = 6 → exec (.dacRange k v) s =
      .next { s with chip := raise (setB s.chip AUX_STAT_dac_reject true) srcAUX_DAC_REJECT 0 }))
  ∧ (∀ (s : State) (k : Fin 16), s.held = none → (dacCh s.chip k).st ≠ 2 → exec (.dacChangeDone k) s = .next s)
  ∧ (∀ (s : State) (k : Fin 16), s.held = none → s.chip.aux.dac.length = 16 → (dacCh s.chip k).st = 2 →
    ∃ c : Chip, exec (.dacChangeDone k) s = .next { s with chip := c } ∧ (dacCh c k).st = 1 ∧ (dacCh c k).code = (dacCh s.chip k).code
      ∧ fld c (AUX_DAC_CFG_state k) = 1 ∧ (∀ j : Fin 16, j ≠ k → dacCh c j = dacCh s.chip j)
      ∧ (∀ a, a ≠ AUX_DAC_CFG k → rd c a = rd s.chip a))
  ∧ (∀ (s : State) (v : W),
    (s.held = none → acting s.chip = true → fld s.chip GLB_BOOT_STAT_state = 1 →
      exec .tecStep s = .next { s with chip := (List.range 8).foldl tecZone s.chip })
    ∧ (s.held = none → acting s.chip = false ∨ fld s.chip GLB_BOOT_STAT_state ≠ 1 → exec .tecStep s = .next s)
    ∧ (MayWrite s AUX_TEC_EVT → exec (.tecEvt v) s =
      .next { s with chip := ((List.range 8).filter (fun z => bitsAt v.toNat z 1 == 1)).foldl (fun c z => raise c (srcTEC_FAULT z) 0) s.chip }))

/-- R622–R624: the TAP and the debug master. Where the rules leave a point open it states the model's reading (log entries 50 and 51). -/
def Obligations.TapInstructionsAndDebugMaster : Prop :=
  (∀ (s : State), 
    let tap := fun (code : Nat) (drives highZ : Bool) => ({ s with chip := { s.chip with
      jtag := { s.chip.jtag with ir := code, drives := drives, highZ := highZ } } } : State)
    exec .idcodeIr s = .next (tap 0x01 false false) ∧ exec .samplePreload s = .next (tap 0x02 false false)
    ∧ exec .bypassIr s = .next (tap 0xFF false false)
    ∧ (fldB s.chip TMX_STAT_test_en = true →
      exec .extestIr s = .next (tap 0x03 true false) ∧ exec .clampIr s = .next (tap 0x04 true false)
      ∧ exec .highzIr s = .next (tap 0x05 false true) ∧ exec .extestPulse s = .next (tap 0x06 true false)
      ∧ exec .extestTrain s = .next (tap 0x07 true false) ∧ exec .debugIr s = .next (tap 0x20 false false))
    ∧ (fldB s.chip TMX_STAT_test_en = false →
      exec .extestIr s = .next (tap 0xFF false false) ∧ exec .clampIr s = .next (tap 0xFF false false)
      ∧ exec .highzIr s = .next (tap 0xFF false false) ∧ exec .extestPulse s = .next (tap 0xFF false false)
      ∧ exec .extestTrain s = .next (tap 0xFF false false) ∧ exec .debugIr s = .next (tap 0xFF false false)))
  ∧ (∀ (s : State) (a : BitVec 40) (w : Option W), s.held = none →
    let first := raise { s.chip with jtag := { s.chip.jtag with seen := true } } srcTMX_DEBUG 0
    let c : Chip := if s.chip.jtag.seen then s.chip else first
    let off := a.toNat % 2 ^ 36
    (jtagOn s.chip = false → exec (.jtagDebugAccess a w) s = .next s)
    ∧ (jtagOn s.chip = true → a.toNat / 2 ^ 36 ≠ 1 → matrixTarget c 13 a.toNat = none → w = none →
      let e := matrixError c 1 13 15 false a.toNat 0
      exec (.jtagDebugAccess a w) s = .next { s with chip := { e with readData := 0, readResp := 1 } })
    ∧ (∀ t, jtagOn s.chip = true → a.toNat / 2 ^ 36 ≠ 1 → matrixTarget c 13 a.toNat = some t →
      (4 ≤ t ∨ ddrMay c 13 false off 4 = true) → w = none →
      exec (.jtagDebugAccess a w) s =
        .next { s with chip := { c with readData := toW (leNat (targetBytes c t ⟨13, a.toNat, 4, none⟩)), readResp := 0 } })
    ∧ (∀ t v, jtagOn s.chip = true → a.toNat / 2 ^ 36 ≠ 1 → matrixTarget c 13 a.toNat = some t → t ≠ 10 →
      (4 ≤ t ∨ ddrMay c 13 true off 4 = true) → w = some v →
      let d := lateWrite c 13 a.toNat v
      exec (.jtagDebugAccess a w) s = .next { s with chip := { d with readResp := 0 } })
    ∧ (jtagOn s.chip = true → a.toNat / 2 ^ 36 = 1 → w = none →
      exec (.jtagDebugAccess a w) s = .next { s with chip := masterRead c 13 off })
    ∧ (∀ v, jtagOn s.chip = true → a.toNat / 2 ^ 36 = 1 → w = some v → isTwin c = true → isChange c off = true →
      exec (.jtagDebugAccess a w) s = .next { s with chip := raise (setB c TMX_STAT_jtag_reject true) srcTMX_JTAG_REJECT 0 })
    ∧ (∀ v, jtagOn s.chip = true → a.toNat / 2 ^ 36 = 1 → w = some v → isTwin c = false ∨ isChange c off = false →
      exec (.jtagDebugAccess a w) s = .next { s with chip := masterWrite c 13 off 15 v }))

/-- R12–R14, R523, R530: register space. Which masters write late is the model's reading of R177 and R624. Where the rules leave a point open it states the model's reading (log entries 41 to 44). -/
def Obligations.RegisterSpaceAccesses : Prop :=
  (∀ (s : State) (m : Fin 14) (a : BitVec 26) (be : BitVec 4) (v : W), s.held = none → a.toNat % 4 ≠ 0 →
    ∃ c d : Chip, exec (.registerWrite m a be v) s = .next { s with chip := c } ∧ c.readResp = 1
      ∧ exec (.clearOnRead m a) s = .next { s with chip := d } ∧ d.readResp = 1 ∧ d.readData = 0
      ∧ (∀ b, (b < XBR_STAT ∨ XBR_ERR_CNT < b) → rd c b = rd s.chip b ∧ rd d b = rd s.chip b) ∧ c.ddr = s.chip.ddr ∧ d.ddr = s.chip.ddr
      ∧ (c.att.raised.getLast?).map (fun o => (o.src, o.data)) = some (srcXBR_ACCESS, toW (m.val * 2 ^ 26 + a.toNat))
      ∧ (d.att.raised.getLast?).map (fun o => (o.src, o.data)) = some (srcXBR_ACCESS, toW (m.val * 2 ^ 26 + a.toNat)))
  ∧ (∀ (s : State) (m : Fin 14) (a : BitVec 26) (be : BitVec 4) (v : W), s.held = none → a.toNat % 4 = 0 → be ≠ 15 →
    ∃ c : Chip, exec (.registerWrite m a be v) s = .next { s with chip := c } ∧ c.readResp = 0
      ∧ (∀ b, (b < XBR_STAT ∨ XBR_ERR_CNT < b) → rd c b = rd s.chip b)
      ∧ (c.att.raised.getLast?).map (fun o => (o.src, o.data)) = some (srcXBR_ACCESS, toW (m.val * 2 ^ 26 + a.toNat)))
  ∧ (∀ (s : State) (m : Fin 14) (a : BitVec 26) (v : W), s.held = none → a.toNat % 4 = 0 → regMaster m = true → m.val ≠ 4 → m.val ≠ 13 →
    busTarget a.toNat ≠ 15 → busTarget a.toNat ≠ 9 → reachable s.chip a.toNat = true →
    let c := withSource s.chip (masterSource m) (fun c => writeReg c a.toNat v)
    exec (.registerWrite m a 15 v) s = .next { s with chip := { c with readResp := 0 } })
  ∧ (∀ (s : State) (m : Fin 14) (v : W), s.held = none → m.val = 1 → bootHalted s.chip = false →
    let stored : Nat → W → State := fun a w =>
      let c := wr s.chip a w
      { s with chip := { c with readResp := 0 } }
    let keep := rd s.chip AUX_STAT &&& ~~~(v &&& 0x1F400000)
    exec (.registerWrite m (BitVec.ofNat 26 PDM_TEMP_CTL) 15 v) s =
      .next (stored PDM_TEMP_CTL ((rd s.chip PDM_TEMP_CTL &&& 0xFFFF0000) ||| (v &&& 0xFFFF)))
    ∧ (∀ i : Fin 8, exec (.registerWrite m (BitVec.ofNat 26 (TMX_SEL i)) 15 v) s =
      .next (stored (TMX_SEL i) ((rd s.chip (TMX_SEL i) &&& 0xFFFF0000) ||| (v &&& 0xFFFF))))
    ∧ (domainOn s.chip 53 = true → exec (.registerWrite m (BitVec.ofNat 26 AUX_STAT) 15 v) s = .next (stored AUX_STAT keep)))
  ∧ (∀ (s : State) (m : Fin 14), s.held = none → bootHalted s.chip = false → regMaster m = true →
    let c : Chip := { s.chip with readData := rd s.chip XBR_ERR_CNT, readResp := 0 }
    exec (.clearOnRead m (BitVec.ofNat 26 XBR_ERR_CNT)) s =
      .next { s with chip := if m.val < 3 then wr c XBR_ERR_CNT 0 else c })

/-- R65 (with R58, R64, R67, R71): the effect of an adjustment. -/
def Obligations.AdjustmentIsSlewedOrSplit : Prop :=
  (∀ (s : State), s.held = none → (∀ a, s.chip.tmr.adj = some a → due s.chip a.e = false) → exec .adjustmentEffect s = .next s)
  ∧ (∀ (s : State) (a : Adj), s.held = none → s.chip.tmr.adj = some a → due s.chip a.e = true →
    let t := s.chip.tmr
    let d := (if a.absolute then tdiff a.value t.bndNs else a.value.toInt) + t.slew
    let k := (d + 125) / 250
    let slewed := d.natAbs ≤ rn s.chip TMR_SLEW_LIMIT ∧ a.forceStep = false ∧ fldB s.chip TMR_STAT_time_valid = true
    let ofs := fun c : Chip => rd64 c TMR_CX_OFS_LO TMR_CX_OFS_HI
    let cnt := fun c : Chip => fld c TMR_STAT_step_cnt
    ∃ c : Chip, exec .adjustmentEffect s = .next { s with chip := c }
      ∧ c.tmr.adj = none ∧ fldB c TMR_STAT_adj_busy = false ∧ fldB c TMR_STAT_time_valid = true ∧ c.tmr.period = t.period
      ∧ fldB c TMR_STAT_slewing = (c.tmr.slew != 0)
      ∧ (slewed → c.tmr.slew = d ∧ c.tmr.timeNs = t.timeNs ∧ c.tmr.bndNs = t.bndNs ∧ ofs c = ofs s.chip ∧ cnt c = cnt s.chip
        ∧ rd c LDG_SEQ = rd s.chip LDG_SEQ)
      ∧ (¬ slewed → c.tmr.slew = d - 250 * k ∧ -125 ≤ d - 250 * k ∧ d - 250 * k ≤ 124
        ∧ c.tmr.bndNs = t.bndNs + BitVec.ofInt 64 (250 * k)
        ∧ (fldB s.chip TMR_CTL_clk_mode = false → c.tmr.timeNs = t.timeNs + BitVec.ofInt 64 (250 * k) ∧ ofs c = ofs s.chip)
        ∧ (fldB s.chip TMR_CTL_clk_mode = true → c.tmr.timeNs = t.timeNs ∧ ofs c = ofs s.chip + BitVec.ofInt 64 (250 * k))
        ∧ (k = 0 → cnt c = cnt s.chip ∧ rd c LDG_SEQ = rd s.chip LDG_SEQ)
        ∧ (k ≠ 0 → cnt c = (cnt s.chip + 1) % 256 ∧ rd c LDG_SEQ = rd s.chip LDG_SEQ + 1)))

/-- R54, R59, R66: the period boundary and the slew ticks. Where the rules leave a point open it states the model's reading (log entry 91). -/
def Obligations.PeriodsBeginOnNetworkTimeAndSlew : Prop :=
  (∀ (s : State) (temp : BitVec 16), s.held = none → s.chip.twn.paired = false → followsGrid s.chip = false → fldB s.chip TMR_CTL_clk_mode = false → s.chip.tmr.slew = 0 → 0 < s.chip.tmr.inc →
    let t := s.chip.tmr
    let at_ := fun n : Nat => t.timeNs.toNat * 2 ^ 32 + t.timeFrac.toNat + n * t.inc
    let goal := t.bndNs.toNat + 250
    t.bndNs.toNat ≤ t.timeNs.toNat → at_ (210 - t.tick) < goal * 2 ^ 32 → goal < 2 ^ 63 →
    ∃ n : Nat, goal * 2 ^ 32 ≤ at_ n ∧ (∀ m < n, at_ m < goal * 2 ^ 32) ∧
      (let r : Chip := { s.chip with tmr := { t with
        timeNs := BitVec.ofNat 64 (at_ n / 2 ^ 32), timeFrac := BitVec.ofNat 32 (at_ n), cxFree := t.cxFree + BitVec.ofNat 64 n,
        lastNs := BitVec.ofNat 64 (at_ (n - 1) / 2 ^ 32), slewed := 0,
        ticks := t.ticks + n, bndNs := BitVec.ofNat 64 goal, tick := 0, period := t.period + 1 } }
      let c := markLinks (linkEffects (linksPeriod (restartLeaves (twinAfter (applyLates (shiftInputs r))))))
      exec (.periodBoundary temp) s = .next { s with chip := startPeriod (showPins (heartbeat (liveBits (boundaryWork (boundaryEffects c) temp)))) }))
  ∧ (∀ (s : State), s.held = none → 210 ≤ s.chip.tmr.tick → exec .slewCorrection s = .next s)
  ∧ (∀ (s : State) (i : Fin 4), s.held = none → fldB s.chip TMR_CTL_clk_mode = false → s.chip.tmr.tick < 30 + 60 * i.val →
    30 + 60 * i.val ≤ s.chip.tmr.tick + 60 →
    let r := runTicks s.chip (30 + 60 * i.val - s.chip.tmr.tick)
    let takes := i.val < fld s.chip TMR_CTL_slew_rate ∧ s.chip.tmr.slew ≠ 0
    let d : Int := if 0 < s.chip.tmr.slew then 1 else -1
    let moved : Chip := { r with tmr := { r.tmr with
      timeNs := r.tmr.timeNs + BitVec.ofInt 64 d, slew := r.tmr.slew - d, slewed := r.tmr.slewed + d } }
    (takes → exec .slewCorrection s = .next { s with chip := setB moved TMR_STAT_slewing (decide (s.chip.tmr.slew - d ≠ 0)) })
    ∧ (¬ takes → exec .slewCorrection s = .next { s with chip := r }))

/-- The queue of waiting commands (log entries 1 and 2). -/
def Obligations.StepTakesTheFrontCommand : Prop :=
  (∀ (c : Instr) (s : State) (l : List Instr), step { s with pending := c :: l } = exec c { s with pending := l })
  ∧ (∀ (s : State), s.pending = [] → step s = .next s)
  ∧ (∀ (s : State) (nbits w : Nat), decodeTableWord nbits w = none ∧ s.withFetchWord nbits w = s)

/-- Every command of the table completes in every state. Where the rules leave a point open it states the model's reading (log entries 1, 3 and 30). -/
def Obligations.EveryCommandCompletes : Prop :=
  (∀ (c : Instr) (s : State), ∃ t : State, exec c s = .next t ∧ t.pending = s.pending)
  ∧ (∀ (s : State) (c : Instr) (l : List Instr), s.pending = c :: l → ∃ t : State, step s = .next t ∧ t.pending = l)

/-- R499–R504: the invariant of a held reset, kept by every step. Where the rules leave a point open it states the model's reading (log entries 10, 11, 30 and 32). -/
def Obligations.HeldDeviceStaysInReset : Prop :=
  (∀ (s t : State), HeldInv s → step s = .next t → HeldInv t)

/-- R499: the base of the invariant. Where the rules leave a point open it states the model's reading (log entries 10 and 11). -/
def Obligations.ResetMeetsTheInvariant : Prop :=
  (HeldInv State.reset)
  ∧ (HeldInv { State.reset with held := some .cold, chip := coldState State.reset.chip })

/-- R15: what reset leaves. Where the rules leave a point open it states the model's reading (log entries 9 and 10). -/
def Obligations.ResetGivesTheSpecsValues : Prop :=
  ((∀ a, rd State.reset.chip a = resetReg a) ∧ State.reset.held = none ∧ State.reset.pending = [] ∧ State.reset.chip.ddr = [])
  ∧ ((let c := State.reset.chip
    rd c TMR_INC_NS = 1 ∧ rd c TMR_INC_FRAC = 0 ∧ rd c PDM_TEMP_CTL = 0x3200 ∧ rd c PDM_ON0 = 0xFFFFFFFF ∧ rd c PDM_ON1 = 0x00FFFFFF
    ∧ (∀ d : Fin 56, fld c (PDM_DOM_state d) = 1) ∧ rd c AUX_CTL = 0x803C0000
    ∧ (∀ k : Fin 16, fld c (AUX_DAC_CFG_range k) = 7 ∧ fld c (AUX_DAC_CFG_state k) = 0)
    ∧ (∀ i : Fin 4, rn c (ATT_WIN_LEN i) = 4000 * 10 ^ i.val)
    ∧ (∀ t : Fin 12, (List.range 14).map (fun m => matrixPriority c m t) = [8, 6, 4, 12, 14, 13, 15, 10, 9, 5, 11, 11, 12, 2])))

/-- R499–R501, R546, R548: a held reset. Where the rules leave a point open it states the model's reading (log entry 30). -/
def Obligations.HeldResetTakesNoCommand : Prop :=
  (∀ (c : Instr) (s : State), s.held.isSome = true → actsInReset c = false → exec c s = .next s)
  ∧ (∀ (s : State) (data : List Byte) (pec : Fin 3), s.held = some .cold →
    exec (.smbAddr data pec) s = .next s ∧ exec (.smbWrite data pec) s = .next s ∧ exec .smbRead s = .next s
    ∧ exec .smbStatus s = .next s ∧ exec .smbIdent s = .next s ∧ exec .smbusTimeout s = .next s ∧ exec .alertResponse s = .next s)
  ∧ (∀ (s : State) (data : List Byte), s.held = some .pin →
    (data.length = 4 → ∃ c : Chip, exec (.smbWrite data 1) s = .next { s with chip := c } ∧ fld c SBM_STAT_status = 2
      ∧ Keeps [23] [] s.chip c)
    ∧ (data.length = 5 → bitsAt (leAt data 4 1) 0 1 = 1 → ∃ c : Chip, exec (.smbAddr data 1) s = .next { s with chip := c }
      ∧ fld c SBM_STAT_status = 2 ∧ c.smb.data = 0 ∧ Keeps [23] [] s.chip c))

/-- R500, R501: what a COLD reset erases has no influence afterwards. Where the rules leave a point open it states the model's reading (log entries 30 and 32). -/
def Obligations.ColdResetErasesThePast : Prop :=
  (∀ (s t : State) (l : List Instr) (n : Nat), ColdAlike s t →
    Host.Core.run Sys2Proof.core (n + 1) ({ s with pending := .coldReset :: l } : State)
      = Host.Core.run Sys2Proof.core (n + 1) ({ t with pending := .coldReset :: l } : State))

/-- R10, R518, R534 and log entries 4 and 5: the memories. -/
def Obligations.MemoryOperationsKeepTheCanonicalForm : Prop :=
  (∀ (c : Chip) (a : Nat) (v : W) (l : List Byte),
    (mapWf resetReg c.regs = true → mapWf resetReg (wr c a v).regs = true)
    ∧ (mapWf (fun _ => 0) c.ddr = true → mapWf (fun _ => 0) (ddrWrite c a l).ddr = true)
    ∧ (mapWf (fun _ => 0xFF) c.glb.nor = true → mapWf (fun _ => 0xFF) (norWrite c a l).glb.nor = true)
    ∧ (mapWf (fun _ => 0xFF) c.glb.mram = true → mapWf (fun _ => 0xFF) (mramWrite c a l).glb.mram = true))
  ∧ (∀ (c : Chip) (a : Nat) (l : List Byte),
    ddrBytes (ddrWrite c a l) a l.length = l ∧ norBytes (norWrite c a l) a l.length = l
    ∧ (∀ b, (b < a ∨ a + l.length ≤ b) → ddrByte (ddrWrite c a l) b = ddrByte c b ∧ norBytes (norWrite c a l) b 1 = norBytes c b 1))
  ∧ (∀ (c : Chip) (a n : Nat), mapWf (fun _ => 0) c.ddr = true → (ddrWrite c a (ddrBytes c a n)).ddr = c.ddr)

/-- R518, R530, R537: the frames of the memory commands. Where the rules leave a point open it states the model's reading (log entries 5 and 33). -/
def Obligations.MemoryWritesTouchOnlyTheirBytes : Prop :=
  (∀ (s t : State) (p : Fin 12) (err : Fin 4) (beat : BitVec 9) (q : MatrixReq), s.held = none → mapGet s.chip.xbr.busy p.val = some q → p.val < 4 →
    exec (.matrixResponse p err beat) s = .next t →
    let off := q.addr % 2 ^ 36
    t.chip.glb.nor = s.chip.glb.nor ∧ t.chip.glb.mram = s.chip.glb.mram
    ∧ ((q.write = none ∨ ddrMay s.chip q.master true off q.len = false) → t.chip.ddr = s.chip.ddr)
    ∧ (∀ l, q.write = some l → ∀ b, (b < off ∨ off + l.length ≤ b) → ddrByte t.chip b = ddrByte s.chip b)
    ∧ (∀ l, q.write = some l → ddrMay s.chip q.master true off q.len = true → err = 0 →
      ddrBytes t.chip off l.length = l ∧ (∀ a, rd t.chip a = rd s.chip a)))
  ∧ (∀ (s t : State) (v a : W), s.held = none → s.chip.glb.nvl = some (v, a) → exec (.nvlDone false) s = .next t →
    t.chip.ddr = s.chip.ddr ∧ t.chip.glb.mram = s.chip.glb.mram
    ∧ (wbits v 28 4 = 2 → (∀ b, (b < a.toNat ∨ a.toNat + (wbits v 0 9 + 1) ≤ b) → norBytes t.chip b 1 = norBytes s.chip b 1)
      ∧ (∀ r, r ≠ NVL_STAT → rd t.chip r = rd s.chip r))
    ∧ (wbits v 28 4 = 3 → (∀ b, (b < a.toNat / 0x10000 * 0x10000 ∨ a.toNat / 0x10000 * 0x10000 + 0x10000 ≤ b) →
        norBytes t.chip b 1 = norBytes s.chip b 1)
      ∧ (∀ b, a.toNat / 0x10000 * 0x10000 ≤ b → b < a.toNat / 0x10000 * 0x10000 + 0x10000 → norBytes t.chip b 1 = [0xFF])
      ∧ (∀ r, r ≠ NVL_STAT → rd t.chip r = rd s.chip r)))

/-- R81, R591, R595: the frames of the time, power tree and analog commands. -/
def Obligations.FamiliesKeepOtherRegistersAndMemory : Prop :=
  (∀ (c : Instr) (s t : State), isTimeCmd c = true → c ≠ .adjustmentEffect → exec c s = .next t → Keeps [3, 16, 21] [] s.chip t.chip)
  ∧ (∀ (s t : State), exec .adjustmentEffect s = .next t →
    (∀ a, a / 0x100000 ∉ [3, 15, 21] → a ∉ [LDG_SEQ, PRG_STAT_time_step.addr] → rd t.chip a = rd s.chip a)
    ∧ t.chip.glb.nor = s.chip.glb.nor ∧ t.chip.glb.mram = s.chip.glb.mram ∧ t.chip.glb.sram = s.chip.glb.sram
    ∧ ((∀ n : Fin 4, (txPort s.chip n).gatePend = none) → Keeps [3, 15] [LDG_SEQ, PRG_STAT_time_step.addr] s.chip t.chip))
  ∧ (∀ (c : Instr) (s t : State), isAssemblyCmd c = true → exec c s = .next t → Keeps [1, 16, 21] [] s.chip t.chip)
  ∧ (∀ (c : Instr) (s t : State), isAnalogCmd c = true → exec c s = .next t → Keeps [1, 16, 20, 21] [CNS_TRACE] s.chip t.chip)

/-- R508, R530, R559: registers that cannot be reached. Where the rules leave a point open it states the model's reading (log entry 44). -/
def Obligations.UnreachableRegistersKeepTheirValues : Prop :=
  (∀ (s : State) (a : BitVec 26) (v : W), s.held = none → bootHalted s.chip = true → a.toNat % 4 = 0 →
    0x100000 ≤ a.toNat → a.toNat / 0x100000 ≠ 2 →
    let c : Chip := { s.chip with readResp := 0 }
    exec (.registerWrite 1 a 15 v) s = .next { s with chip := c }
    ∧ exec (.clearOnRead 1 a) s = .next { s with chip := { c with readData := 0xFFFFFFFF } })
  ∧ (∀ (s : State) (a : BitVec 26) (v : W) (d : Nat), s.held = none → bootHalted s.chip = false → a.toNat % 4 = 0 →
    busTarget a.toNat ≠ 15 → domainOf a.toNat = some d → domainOn s.chip d = false → s.chip.twn.applying = false →
    ∃ c e : Chip, exec (.registerWrite 1 a 15 v) s = .next { s with chip := c } ∧ c.readResp = 2 ∧ Keeps [21] [] s.chip c
      ∧ fldB c XBR_STAT_slverr = true
      ∧ exec (.clearOnRead 1 a) s = .next { s with chip := e } ∧ e.readResp = 2 ∧ e.readData = 0 ∧ Keeps [21] [] s.chip e
      ∧ fldB e XBR_STAT_slverr = true)

/-- R527: arbitration. -/
def Obligations.MatrixArbitration : Prop :=
  (∀ (s : State) (t : Fin 12) (reqs : List MatrixReq), s.held = none → reqs ≠ [] →
    (∀ q ∈ reqs, reqLegal q = true ∧ matrixTarget s.chip q.master q.addr = some t.val ∧ (∀ e ∈ s.chip.xbr.busy, e.2.master ≠ q.master)) →
    let pri := fun (m : Nat) => matrixPriority s.chip m t
    let past := (mapGet s.chip.xbr.granted t.val).getD []
    (mapGet s.chip.xbr.busy t.val = none → ∃ q ∈ reqs, ∃ c : Chip, exec (.matrixGrant t reqs) s = .next { s with chip := c }
      ∧ mapGet c.xbr.busy t.val = some q ∧ (mapGet c.xbr.granted t.val).getD [] = past.filter (· != q.master) ++ [q.master]
      ∧ (∀ r ∈ reqs, pri r.master ≤ pri q.master)
      ∧ (∀ r ∈ reqs, pri r.master = pri q.master → r.master ≠ q.master →
        (r.master ∈ past → q.master ∈ past → past.idxOf q.master < past.idxOf r.master)
        ∧ (r.master ∉ past → q.master ∉ past) ∧ (r.master ∉ past → q.master < r.master)))
    ∧ (mapGet s.chip.xbr.busy t.val ≠ none → exec (.matrixGrant t reqs) s = .next s))
  ∧ ((∀ t : Fin 12, (List.range 14).map (fun m => matrixPriority State.reset.chip m t) = [8, 6, 4, 12, 14, 13, 15, 10, 9, 5, 11, 11, 12, 2])
    ∧ State.reset.chip.xbr.granted = [])

/-- R68: refused adjustments. -/
def Obligations.AdjustmentsRefused : Prop :=
  (∀ (s : State) (v : W), MayChange s TMR_ADJ_CTL_go.addr →
    let no := raise (setB s.chip TMR_STAT_adj_reject true) srcTMR_ADJ_REJECT 0
    let busy := fldB s.chip TMR_STAT_adj_busy = true ∨ fldB s.chip TMR_STAT_tod_armed = true
    (busy ∨ wbit v 3 = true → exec (.adjGo v) s = .next { s with chip := no })
    ∧ (busy ∨ wbit v 0 = true ∨ fldB s.chip TMR_CTL_tod_src = false → exec (.todArm v) s = .next { s with chip := no })
    ∧ no.tmr = s.chip.tmr ∧ fldB no TMR_STAT_adj_reject = true ∧ fldB no TMR_STAT_adj_busy = fldB s.chip TMR_STAT_adj_busy
    ∧ fldB no TMR_STAT_tod_armed = fldB s.chip TMR_STAT_tod_armed ∧ srcClass srcTMR_ADJ_REJECT = 0)

/-- R347: the refusal of a device without the loan. -/
def Obligations.WritesWithoutTheLoanAreRefused : Prop :=
  (∀ (s : State) (v : W), NoLoan s → (∀ a, reachable s.chip a = true) →
    exec (.incStage v) s = .next (notKeeper s TMR_INC_NS) ∧ exec (.incCommit v) s = .next (notKeeper s TMR_INC_FRAC)
    ∧ exec (.adjGo v) s = .next (notKeeper s TMR_ADJ_CTL_go.addr) ∧ exec (.todArm v) s = .next (notKeeper s TMR_ADJ_CTL_go.addr)
    ∧ (∀ d : Fin 56, exec (.domainOn d v) s = .next (notKeeper s (PDM_DOM d)) ∧ exec (.domainOff d v) s = .next (notKeeper s (PDM_DOM d)))
    ∧ exec (.asmUp v) s = .next (notKeeper s PDM_ASM_CTL) ∧ exec (.asmDown v) s = .next (notKeeper s PDM_ASM_CTL)
    ∧ exec (.asmClear v) s = .next (notKeeper s PDM_ASM_CTL)
    ∧ (∀ k : Fin 16, exec (.dacCode k v) s = .next (notKeeper s (AUX_DAC_CODE k)) ∧ exec (.dacRange k v) s = .next (notKeeper s (AUX_DAC_CFG k))))
  ∧ (∀ (s : State) (v : W), NoLoan s → (∀ a, reachable s.chip a = true) →
    (∀ (g : Fin 36) (w : BitVec 11) (j : Fin 128), let no := notKeeper s (LPE_CELL_CMD_cmd g).addr
      exec (.stagingBankWrite g w v) s = .next (notKeeper s (stagingReg g w.toNat))
      ∧ exec (.cellCmdNop g v) s = .next no ∧ exec (.enable g v) s = .next no ∧ exec (.disable g v) s = .next no
      ∧ exec (.hold g v) s = .next no ∧ exec (.resume g v) s = .next no
      ∧ exec (.trimWrite g j v) s = .next (notKeeper s (LPE_TRIM_trim_tgt g j).addr))
    ∧ (let no := notKeeper s INV_CMD
      exec (.invNop v) s = .next no ∧ exec (.markStuck v) s = .next no ∧ exec (.clearStuck v) s = .next no
      ∧ exec (.clearHist v) s = .next no ∧ exec (.clearSw v) s = .next no)
    ∧ exec (.docCmdWrite v) s = .next (notKeeper s (DOC_CMD 3)) ∧ exec (.docUrgWrite v) s = .next (notKeeper s DOC_URG)
    ∧ exec (.docAbort v) s = .next (notKeeper s DOC_ABORT) ∧ exec (.docEpochReq v) s = .next (notKeeper s DOC_EPOCH_REQ)
    ∧ exec (.custLoad v) s = .next (notKeeper s DOC_CUST_CTL) ∧ exec (.custCommit v) s = .next (notKeeper s DOC_CUST_CTL)
    ∧ (∀ off : BitVec 17, exec (.controlStoreWrite off v) s = .next (notKeeper s (0x2000000 + off.toNat)))
    ∧ exec (.accede v) s = .next (notKeeper s ARS_CMD) ∧ exec (.delete v) s = .next (notKeeper s ARS_CMD)
    ∧ exec (.fetch v) s = .next (notKeeper s ARS_CMD)
    ∧ (let no := notKeeper s PRG_CMD
      exec (.load v) s = .next no ∧ exec (.check v) s = .next no ∧ exec (.start v) s = .next no
      ∧ exec (.stage v) s = .next no ∧ exec (.stop v) s = .next no ∧ exec (.clear v) s = .next no)
    ∧ exec (.curModeWrite v) s = .next (notKeeper s CUR_CTL) ∧ exec (.curCmdEnqueue v) s = .next (notKeeper s (CUR_CMD 3)))
  ∧ (∀ (s : State) (v : W), NoLoan s → (∀ a, reachable s.chip a = true) →
    (∀ t : Fin 144, let no := notKeeper s (NGL_L_CTL t)
      exec (.bringup t v) s = .next no ∧ exec (.linkDown t v) s = .next no ∧ exec (.prbs t v) s = .next no)
    ∧ exec (.cnsCommit v) s = .next (notKeeper s CNS_COMMIT)
    ∧ (∀ n : Fin 16, exec (.charRelease n v) s = .next (notKeeper s (CNS_CHAR_RES_B n))
      ∧ exec (.policerWrite n false v) s = .next (notKeeper s (PKT_POL_RATE n))
      ∧ exec (.policerWrite n true v) s = .next (notKeeper s (PKT_POL_DEPTH n))
      ∧ exec (.queueShareWrite n v) s = .next (notKeeper s (PKT_Q_CTL n)))
    ∧ (∀ n : Fin 4, exec (.portCtlWrite n v) s = .next (notKeeper s (SVP_P_CTL n))
      ∧ exec (.gclCommit n v) s = .next (notKeeper s (TXS_P_GCL_CTL n)))
    ∧ exec (.pktSwap v) s = .next (notKeeper s PKT_GEN) ∧ exec (.pktCopy v) s = .next (notKeeper s PKT_GEN)
    ∧ (∀ off : BitVec 13, exec (.shadowBankWrite off v) s = .next (notKeeper s (PKT_SHADOW + off.toNat)))
    ∧ (∀ off : BitVec 18, (slotOffset off.toNat).isSome = true →
      exec (.stepMemoryWrite off v) s = .next (notKeeper s (0x400000 + off.toNat))))
  ∧ (∀ (s : State) (m : Fin 14) (a : BitVec 26) (v : W), NoLoan s → m.val = 1 → reachable s.chip a.toNat = true → a.toNat ∈ [TMR_CTL, TMR_SLEW_LIMIT, PDM_CTL, NGL_CTL, LDG_CTL, INV_CTL] →
    let t := notKeeper s a.toNat
    exec (.registerWrite m a 15 v) s = .next { t with chip := { t.chip with readResp := 0 } })
  ∧ (∀ (s : State) (v : W), NoLoan s → reachable s.chip TMR_TIME_LO = true → reachable s.chip GLB_WDT = true → reachable s.chip GLB_RESTART = true →
    (∃ c : Chip, exec .timeReadLatch s = .next { s with chip := c } ∧ c.readData = BitVec.ofNat 32 (netTime s.chip).toNat ∧ c.readResp = 0)
    ∧ (∃ c : Chip, exec (.wdtKick v) s = .next { s with chip := c } ∧ rd c GLB_WDT = (v &&& 0x4000FFFF))
    ∧ (s.chip.glb.restart = none → ∃ c : Chip, exec (.fwRestart v) s = .next { s with chip := c }
      ∧ c.glb.restart = some (withRestart v 2, period s.chip + 2)))

/-- R549: the alert of the SMBus target. -/
def Obligations.AlertLineAndItsAnswer : Prop :=
  (∀ (s : State), s.held ≠ some .cold →
    let low := s.chip.att.alertLow = true ∧ fldB s.chip SBM_CTL_sb_alert_en = true
    (sbAlertLow s.chip = true ↔ low)
    ∧ (∃ c : Chip, exec .alertResponse s = .next { s with chip := c } ∧ c.att.alertLow = s.chip.att.alertLow
      ∧ sbAlertLow c = sbAlertLow s.chip ∧ c.regs = s.chip.regs
      ∧ (low → c.smb.nack = false ∧ c.smb.out = [BitVec.ofNat 8 (fld s.chip SBM_STAT_address)])
      ∧ (¬ low → c.smb.nack = true ∧ c.smb.out = [])))
end

