-- ==== Sys2Proof/Laws/Bits.lean ====
section
/-! SUPPORT. Fields of words: reading a field after one was replaced (R7). -/

namespace Sys2Proof.Machine

/-- A number cut at bit `lo` and at bit `lo + n`. -/
theorem bitsAt_split (x lo n : Nat) : x = (x / 2 ^ (lo + n) * 2 ^ n + bitsAt x lo n) * 2 ^ lo + x % 2 ^ lo := by
  have h1 : x / 2 ^ lo = x / 2 ^ (lo + n) * 2 ^ n + x / 2 ^ lo % 2 ^ n := by
    rw [Nat.pow_add, ← Nat.div_div_eq_div_mul]
    rw [Nat.mul_comm]
    exact (Nat.div_add_mod _ _).symm
  unfold bitsAt
  rw [← h1, Nat.mul_comm]
  exact (Nat.div_add_mod _ _).symm

theorem bitsAt_lt (x lo n : Nat) : bitsAt x lo n < 2 ^ n := Nat.mod_lt _ (Nat.two_pow_pos n)

theorem bitsAt_le (x lo n : Nat) : bitsAt x lo n * 2 ^ lo ≤ x := by
  have h := bitsAt_split x lo n
  have h2 : bitsAt x lo n * 2 ^ lo ≤ (x / 2 ^ (lo + n) * 2 ^ n + bitsAt x lo n) * 2 ^ lo :=
    Nat.mul_le_mul_right _ (Nat.le_add_left _ _)
  omega

/-- The number behind a word with a field replaced. -/
theorem putField_toNat (w : W) (lo n v : Nat) (h : lo + n ≤ 32) :
    (putField w lo n v).toNat = (w.toNat / 2 ^ (lo + n) * 2 ^ n + v % 2 ^ n) * 2 ^ lo + w.toNat % 2 ^ lo := by
  have hs := bitsAt_split w.toNat lo n
  have hv : v % 2 ^ n < 2 ^ n := Nat.mod_lt _ (Nat.two_pow_pos n)
  have hw : w.toNat < 2 ^ 32 := w.isLt
  have hL : w.toNat % 2 ^ lo < 2 ^ lo := Nat.mod_lt _ (Nat.two_pow_pos lo)
  have hA : w.toNat / 2 ^ (lo + n) < 2 ^ (32 - (lo + n)) := by
    rw [Nat.div_lt_iff_lt_mul (Nat.two_pow_pos _), ← Nat.pow_add]
    have : 32 - (lo + n) + (lo + n) = 32 := by omega
    rw [this]; exact hw
  have hlt : (w.toNat / 2 ^ (lo + n) * 2 ^ n + v % 2 ^ n) * 2 ^ lo + w.toNat % 2 ^ lo < 2 ^ 32 := by
    have h1 : w.toNat / 2 ^ (lo + n) * 2 ^ n + v % 2 ^ n + 1 ≤ 2 ^ (32 - (lo + n)) * 2 ^ n := by
      have : (w.toNat / 2 ^ (lo + n) + 1) * 2 ^ n ≤ 2 ^ (32 - (lo + n)) * 2 ^ n := Nat.mul_le_mul_right _ hA
      rw [Nat.add_mul, Nat.one_mul] at this
      omega
    have h2 := Nat.mul_le_mul_right (2 ^ lo) h1
    have h3 : 2 ^ (32 - (lo + n)) * 2 ^ n * 2 ^ lo = 2 ^ 32 := by
      rw [← Nat.pow_add, ← Nat.pow_add]
      congr 1
      omega
    rw [h3, Nat.add_mul, Nat.one_mul] at h2
    omega
  unfold putField toW fieldAt
  rw [BitVec.toNat_ofNat]
  have e : w.toNat - bitsAt w.toNat lo n * 2 ^ lo + v % 2 ^ n * 2 ^ lo
      = (w.toNat / 2 ^ (lo + n) * 2 ^ n + v % 2 ^ n) * 2 ^ lo + w.toNat % 2 ^ lo := by
    rw [Nat.add_mul] at hs ⊢
    omega
  rw [e]
  exact Nat.mod_eq_of_lt hlt

/-- A field reads back the value put into it, cut to its width. -/
theorem wbits_putField_same (w : W) (lo n v : Nat) (h : lo + n ≤ 32) : wbits (putField w lo n v) lo n = v % 2 ^ n := by
  have hL : w.toNat % 2 ^ lo < 2 ^ lo := Nat.mod_lt _ (Nat.two_pow_pos lo)
  unfold wbits bitsAt
  rw [putField_toNat w lo n v h, Nat.add_comm (_ * 2 ^ lo), Nat.add_mul_div_right _ _ (Nat.two_pow_pos lo),
    Nat.div_eq_of_lt hL, Nat.zero_add, Nat.add_comm, Nat.add_mul_mod_self_right, Nat.mod_mod]

/-- A field above the one replaced is as before. -/
theorem wbits_putField_above (w : W) (lo n v lo' n' : Nat) (h : lo + n ≤ 32) (ha : lo + n ≤ lo') :
    wbits (putField w lo n v) lo' n' = wbits w lo' n' := by
  have hv : v % 2 ^ n < 2 ^ n := Nat.mod_lt _ (Nat.two_pow_pos n)
  have hL : w.toNat % 2 ^ lo < 2 ^ lo := Nat.mod_lt _ (Nat.two_pow_pos lo)
  have key : (putField w lo n v).toNat / 2 ^ (lo + n) = w.toNat / 2 ^ (lo + n) := by
    rw [putField_toNat w lo n v h, Nat.pow_add, ← Nat.div_div_eq_div_mul,
      Nat.add_comm (_ * 2 ^ lo), Nat.add_mul_div_right _ _ (Nat.two_pow_pos lo), Nat.div_eq_of_lt hL, Nat.zero_add,
      Nat.add_comm, Nat.add_mul_div_right _ _ (Nat.two_pow_pos n), Nat.div_eq_of_lt hv, Nat.zero_add]
  unfold wbits bitsAt
  obtain ⟨k, rfl⟩ := Nat.exists_eq_add_of_le ha
  rw [Nat.pow_add (m := lo + n), ← Nat.div_div_eq_div_mul, key, Nat.div_div_eq_div_mul]

/-- A field below the one replaced is as before. -/
theorem wbits_putField_below (w : W) (lo n v lo' n' : Nat) (h : lo + n ≤ 32) (hb : lo' + n' ≤ lo) :
    wbits (putField w lo n v) lo' n' = wbits w lo' n' := by
  have key : (putField w lo n v).toNat % 2 ^ lo = w.toNat % 2 ^ lo := by
    rw [putField_toNat w lo n v h, Nat.add_comm, Nat.add_mul_mod_self_right, Nat.mod_mod]
  have cut : ∀ x : Nat, x / 2 ^ lo' % 2 ^ n' = x % 2 ^ lo / 2 ^ lo' % 2 ^ n' := by
    intro x
    obtain ⟨k, rfl⟩ := Nat.exists_eq_add_of_le hb
    rw [show lo' + n' + k = lo' + (n' + k) by omega, Nat.pow_add (m := lo'), Nat.mod_mul_right_div_self,
      Nat.pow_add, Nat.mod_mul_right_mod]
  unfold wbits bitsAt
  rw [cut, key, ← cut]

/-- Any two fields of a word that do not meet: one is as before when the other is replaced. -/
theorem wbits_putField_other (w : W) (lo n v lo' n' : Nat) (h : lo + n ≤ 32) (hd : lo + n ≤ lo' ∨ lo' + n' ≤ lo) :
    wbits (putField w lo n v) lo' n' = wbits w lo' n' :=
  hd.elim (wbits_putField_above w lo n v lo' n' h) (wbits_putField_below w lo n v lo' n' h)

theorem wbit_eq (w : W) (i : Nat) : wbit w i = w.toNat.testBit i := by
  have h2 := Nat.mod_two_eq_zero_or_one (w.toNat / 2 ^ i)
  unfold wbit bitsAt
  rw [Nat.testBit_eq_decide_div_mod_eq, Nat.pow_one]
  rcases h2 with h | h <;> rw [h] <;> rfl

/-- A bit of a word with bits forced to 1. -/
theorem wbit_or (a b : W) (i : Nat) : wbit (a ||| b) i = (wbit a i || wbit b i) := by
  simp [wbit_eq]

/-- A field that covers a forced one reads the code put into it. -/
theorem wbits_zero_width (w : W) (lo : Nat) : wbits w lo 0 = 0 := by
  unfold wbits bitsAt
  rw [Nat.pow_zero, Nat.mod_one]

/-- The signed reading of a word. -/
theorem wInt_toInt (v : W) : wInt v = v.toInt := by
  have h := v.isLt
  unfold wInt sext
  rw [BitVec.toInt_eq_toNat_cond]
  simp only [Nat.mod_eq_of_lt h]
  split <;> split <;> omega

end Sys2Proof.Machine
end

