-- ==== Sys2Proof/Laws/Exec.lean ====
section
/-! SUPPORT. exec on each command is the command's meaning; what the target of SMBus does under a held reset. -/

namespace Sys2Proof.Machine

/-- The SMBus target on a device that no reset holds. -/
theorem runSmb_live (s : State) (f : Bool → Chip → Chip) (h : s.held = none) : runSmb s f = .next { s with chip := f false s.chip } := by
  unfold runSmb; rw [h]; rfl

/-- The SMBus target in a PIN reset. -/
theorem runSmb_pin (s : State) (f : Bool → Chip → Chip) (h : s.held = some .pin) : runSmb s f = .next { s with chip := f true s.chip } := by
  unfold runSmb; rw [h]; rfl

/-- The SMBus target in a COLD reset. -/
theorem runSmb_cold (s : State) (f : Bool → Chip → Chip) (h : s.held = some .cold) : runSmb s f = .next s := by
  unfold runSmb; rw [h]

theorem exec_periodBoundary (s : State) {temp} : exec (.periodBoundary temp) s = execPeriodBoundary temp s := rfl
theorem exec_registerWrite (s : State) {m} {addr} {be} {v} : exec (.registerWrite m addr be v) s = execRegisterWrite m addr be v s := rfl
theorem exec_clearOnRead (s : State) {m} {addr} : exec (.clearOnRead m addr) s = execClearOnRead m addr s := rfl
theorem exec_incStage (s : State) {v} : exec (.incStage v) s = execIncStage v s := rfl
theorem exec_incCommit (s : State) {v} : exec (.incCommit v) s = execIncCommit v s := rfl
theorem exec_timeWriteEffect (s : State) : exec (.timeWriteEffect) s = execTimeWriteEffect s := rfl
theorem exec_adjGo (s : State) {v} : exec (.adjGo v) s = execAdjGo v s := rfl
theorem exec_todArm (s : State) {v} : exec (.todArm v) s = execTodArm v s := rfl
theorem exec_adjustmentEffect (s : State) : exec (.adjustmentEffect) s = execAdjustmentEffect s := rfl
theorem exec_slewCorrection (s : State) : exec (.slewCorrection) s = execSlewCorrection s := rfl
theorem exec_timeReadLatch (s : State) : exec (.timeReadLatch) s = execTimeReadLatch s := rfl
theorem exec_ppsInEdge (s : State) {tick} {highNs} : exec (.ppsInEdge tick highNs) s = execPpsInEdge tick highNs s := rfl
theorem exec_ppsInRead (s : State) : exec (.ppsInRead) s = execPpsInRead s := rfl
theorem exec_ppsOutRise (s : State) {tick} : exec (.ppsOutRise tick) s = execPpsOutRise tick s := rfl
theorem exec_ppsOutFall (s : State) {tick} : exec (.ppsOutFall tick) s = execPpsOutFall tick s := rfl
theorem exec_txtsPop (s : State) {p} : exec (.txtsPop p) s = execTxtsPop p s := rfl
theorem exec_galleryCompute (s : State) : exec (.galleryCompute) s = execGalleryCompute s := rfl
theorem exec_neighbourRing (s : State) {bad} : exec (.neighbourRing bad) s = execNeighbourRing bad s := rfl
theorem exec_bankCommit (s : State) {g} : exec (.bankCommit g) s = execBankCommit g s := rfl
theorem exec_stagingBankWrite (s : State) {g} {w} {v} : exec (.stagingBankWrite g w v) s = execStagingBankWrite g w v s := rfl
theorem exec_lawWindowWrite (s : State) {off} {v} : exec (.lawWindowWrite off v) s = execLawWindowWrite off v s := rfl
theorem exec_settleReport (s : State) {g} : exec (.settleReport g) s = execSettleReport g s := rfl
theorem exec_cellCmdNop (s : State) {g} {w} : exec (.cellCmdNop g w) s = execCellCmdNop g w s := rfl
theorem exec_enable (s : State) {g} {w} : exec (.enable g w) s = execEnable g w s := rfl
theorem exec_disable (s : State) {g} {w} : exec (.disable g w) s = execDisable g w s := rfl
theorem exec_hold (s : State) {g} {w} : exec (.hold g w) s = execHold g w s := rfl
theorem exec_resume (s : State) {g} {w} : exec (.resume g w) s = execResume g w s := rfl
theorem exec_cellCmdEffect (s : State) {g} : exec (.cellCmdEffect g) s = execCellCmdEffect g s := rfl
theorem exec_trimWrite (s : State) {g} {j} {v} : exec (.trimWrite g j v) s = execTrimWrite g j v s := rfl
theorem exec_invNop (s : State) {w} : exec (.invNop w) s = execInvNop w s := rfl
theorem exec_markStuck (s : State) {w} : exec (.markStuck w) s = execMarkStuck w s := rfl
theorem exec_clearStuck (s : State) {w} : exec (.clearStuck w) s = execClearStuck w s := rfl
theorem exec_clearHist (s : State) {w} : exec (.clearHist w) s = execClearHist w s := rfl
theorem exec_clearSw (s : State) {w} : exec (.clearSw w) s = execClearSw w s := rfl
theorem exec_invCmdEffect (s : State) : exec (.invCmdEffect) s = execInvCmdEffect s := rfl
theorem exec_targetSwap (s : State) : exec (.targetSwap) s = execTargetSwap s := rfl
theorem exec_targetRevert (s : State) : exec (.targetRevert) s = execTargetRevert s := rfl
theorem exec_microwordFetch (s : State) : exec (.microwordFetch) s = execMicrowordFetch s := rfl
theorem exec_opNop (s : State) : exec (.opNop) s = execOpNop s := rfl
theorem exec_aluAdd (s : State) : exec (.aluAdd) s = execAluAdd s := rfl
theorem exec_aluSubtract (s : State) : exec (.aluSubtract) s = execAluSubtract s := rfl
theorem exec_aluAnd (s : State) : exec (.aluAnd) s = execAluAnd s := rfl
theorem exec_aluOr (s : State) : exec (.aluOr) s = execAluOr s := rfl
theorem exec_aluXor (s : State) : exec (.aluXor) s = execAluXor s := rfl
theorem exec_aluShiftLeft (s : State) : exec (.aluShiftLeft) s = execAluShiftLeft s := rfl
theorem exec_aluShiftRight (s : State) : exec (.aluShiftRight) s = execAluShiftRight s := rfl
theorem exec_aluMove (s : State) : exec (.aluMove) s = execAluMove s := rfl
theorem exec_aluCompare (s : State) : exec (.aluCompare) s = execAluCompare s := rfl
theorem exec_lds (s : State) : exec (.lds) s = execLds s := rfl
theorem exec_sts (s : State) : exec (.sts) s = execSts s := rfl
theorem exec_rdb (s : State) {late} : exec (.rdb late) s = execRdb late s := rfl
theorem exec_wrb (s : State) {late} : exec (.wrb late) s = execWrb late s := rfl
theorem exec_getp (s : State) : exec (.getp) s = execGetp s := rfl
theorem exec_lookup (s : State) : exec (.lookup) s = execLookup s := rfl
theorem exec_loadt (s : State) : exec (.loadt) s = execLoadt s := rfl
theorem exec_swapat (s : State) : exec (.swapat) s = execSwapat s := rfl
theorem exec_revert (s : State) : exec (.revert) s = execRevert s := rfl
theorem exec_copyp (s : State) : exec (.copyp) s = execCopyp s := rfl
theorem exec_sett (s : State) : exec (.sett) s = execSett s := rfl
theorem exec_shape (s : State) : exec (.shape) s = execShape s := rfl
theorem exec_shrst (s : State) : exec (.shrst) s = execShrst s := rfl
theorem exec_collect (s : State) : exec (.collect) s = execCollect s := rfl
theorem exec_epoch (s : State) : exec (.epoch) s = execEpoch s := rfl
theorem exec_charq (s : State) : exec (.charq) s = execCharq s := rfl
theorem exec_evt (s : State) : exec (.evt) s = execEvt s := rfl
theorem exec_docDone (s : State) : exec (.docDone) s = execDocDone s := rfl
theorem exec_vitrig (s : State) : exec (.vitrig) s = execVitrig s := rfl
theorem exec_longOpEnd (s : State) : exec (.longOpEnd) s = execLongOpEnd s := rfl
theorem exec_seqNext (s : State) : exec (.seqNext) s = execSeqNext s := rfl
theorem exec_jump (s : State) : exec (.jump) s = execJump s := rfl
theorem exec_call (s : State) : exec (.call) s = execCall s := rfl
theorem exec_ret (s : State) : exec (.ret) s = execRet s := rfl
theorem exec_brt (s : State) : exec (.brt) s = execBrt s := rfl
theorem exec_brf (s : State) : exec (.brf) s = execBrf s := rfl
theorem exec_dispatchCmd (s : State) : exec (.dispatchCmd) s = execDispatchCmd s := rfl
theorem exec_halt (s : State) : exec (.halt) s = execHalt s := rfl
theorem exec_periodWaitEnd (s : State) : exec (.periodWaitEnd) s = execPeriodWaitEnd s := rfl
theorem exec_docCmdWrite (s : State) {v} : exec (.docCmdWrite v) s = execDocCmdWrite v s := rfl
theorem exec_docCmdEnqueue (s : State) : exec (.docCmdEnqueue) s = execDocCmdEnqueue s := rfl
theorem exec_apply (s : State) : exec (.apply) s = execApply s := rfl
theorem exec_setTarget (s : State) : exec (.setTarget) s = execSetTarget s := rfl
theorem exec_shapeSet (s : State) : exec (.shapeSet) s = execShapeSet s := rfl
theorem exec_shapeRestore (s : State) : exec (.shapeRestore) s = execShapeRestore s := rfl
theorem exec_charSweep (s : State) : exec (.charSweep) s = execCharSweep s := rfl
theorem exec_vitMark (s : State) : exec (.vitMark) s = execVitMark s := rfl
theorem exec_resetEntry (s : State) : exec (.resetEntry) s = execResetEntry s := rfl
theorem exec_idleLoop (s : State) : exec (.idleLoop) s = execIdleLoop s := rfl
theorem exec_abortTail (s : State) : exec (.abortTail) s = execAbortTail s := rfl
theorem exec_urgHold (s : State) : exec (.urgHold) s = execUrgHold s := rfl
theorem exec_urgStop (s : State) : exec (.urgStop) s = execUrgStop s := rfl
theorem exec_partialHandler (s : State) : exec (.partialHandler) s = execPartialHandler s := rfl
theorem exec_docUrgWrite (s : State) {v} : exec (.docUrgWrite v) s = execDocUrgWrite v s := rfl
theorem exec_urgPending (s : State) : exec (.urgPending) s = execUrgPending s := rfl
theorem exec_docUrgLate (s : State) : exec (.docUrgLate) s = execDocUrgLate s := rfl
theorem exec_docAbort (s : State) {v} : exec (.docAbort v) s = execDocAbort v s := rfl
theorem exec_abortResolve (s : State) : exec (.abortResolve) s = execAbortResolve s := rfl
theorem exec_runLimitExpiry (s : State) : exec (.runLimitExpiry) s = execRunLimitExpiry s := rfl
theorem exec_docEpochReq (s : State) {v} : exec (.docEpochReq v) s = execDocEpochReq v s := rfl
theorem exec_epochPrepare (s : State) : exec (.epochPrepare) s = execEpochPrepare s := rfl
theorem exec_epochDecide (s : State) : exec (.epochDecide) s = execEpochDecide s := rfl
theorem exec_epochCommit (s : State) : exec (.epochCommit) s = execEpochCommit s := rfl
theorem exec_epochStray (s : State) {t} : exec (.epochStray t) s = execEpochStray t s := rfl
theorem exec_custLoad (s : State) {v} : exec (.custLoad v) s = execCustLoad v s := rfl
theorem exec_custRegionOpen (s : State) : exec (.custRegionOpen) s = execCustRegionOpen s := rfl
theorem exec_controlStoreWrite (s : State) {off} {v} : exec (.controlStoreWrite off v) s = execControlStoreWrite off v s := rfl
theorem exec_custCommit (s : State) {v} : exec (.custCommit v) s = execCustCommit v s := rfl
theorem exec_custCheckDone (s : State) : exec (.custCheckDone) s = execCustCheckDone s := rfl
theorem exec_accede (s : State) {w} : exec (.accede w) s = execAccede w s := rfl
theorem exec_delete (s : State) {w} : exec (.delete w) s = execDelete w s := rfl
theorem exec_fetch (s : State) {w} : exec (.fetch w) s = execFetch w s := rfl
theorem exec_arsCmdEffect (s : State) : exec (.arsCmdEffect) s = execArsCmdEffect s := rfl
theorem exec_accessionStored (s : State) : exec (.accessionStored) s = execAccessionStored s := rfl
theorem exec_fillStart (s : State) : exec (.fillStart) s = execFillStart s := rfl
theorem exec_fillComplete (s : State) {bad} : exec (.fillComplete bad) s = execFillComplete bad s := rfl
theorem exec_storeCopyDone (s : State) {e} : exec (.storeCopyDone e) s = execStoreCopyDone e s := rfl
theorem exec_pageLate (s : State) : exec (.pageLate) s = execPageLate s := rfl
theorem exec_load (s : State) {w} : exec (.load w) s = execLoad w s := rfl
theorem exec_check (s : State) {w} : exec (.check w) s = execCheck w s := rfl
theorem exec_start (s : State) {w} : exec (.start w) s = execStart w s := rfl
theorem exec_stage (s : State) {w} : exec (.stage w) s = execStage w s := rfl
theorem exec_stop (s : State) {w} : exec (.stop w) s = execStop w s := rfl
theorem exec_clear (s : State) {w} : exec (.clear w) s = execClear w s := rfl
theorem exec_stepMemoryWrite (s : State) {off} {v} : exec (.stepMemoryWrite off v) s = execStepMemoryWrite off v s := rfl
theorem exec_programmeOrigin (s : State) : exec (.programmeOrigin) s = execProgrammeOrigin s := rfl
theorem exec_stageSwap (s : State) : exec (.stageSwap) s = execStageSwap s := rfl
theorem exec_programmeStop (s : State) : exec (.programmeStop) s = execProgrammeStop s := rfl
theorem exec_programmeEnd (s : State) : exec (.programmeEnd) s = execProgrammeEnd s := rfl
theorem exec_residencyTest (s : State) : exec (.residencyTest) s = execResidencyTest s := rfl
theorem exec_keeperResidencyTest (s : State) : exec (.keeperResidencyTest) s = execKeeperResidencyTest s := rfl
theorem exec_stepCompletion (s : State) : exec (.stepCompletion) s = execStepCompletion s := rfl
theorem exec_timeStepRejoin (s : State) : exec (.timeStepRejoin) s = execTimeStepRejoin s := rfl
theorem exec_announcement (s : State) : exec (.announcement) s = execAnnouncement s := rfl
theorem exec_curModeWrite (s : State) {v} : exec (.curModeWrite v) s = execCurModeWrite v s := rfl
theorem exec_curModeEffect (s : State) : exec (.curModeEffect) s = execCurModeEffect s := rfl
theorem exec_demandReport (s : State) : exec (.demandReport) s = execDemandReport s := rfl
theorem exec_curatorEpoch (s : State) : exec (.curatorEpoch) s = execCuratorEpoch s := rfl
theorem exec_carrySweepEnd (s : State) : exec (.carrySweepEnd) s = execCarrySweepEnd s := rfl
theorem exec_curCmdEnqueue (s : State) {v} : exec (.curCmdEnqueue v) s = execCurCmdEnqueue v s := rfl
theorem exec_connect (s : State) : exec (.connect) s = execConnect s := rfl
theorem exec_disconnect (s : State) : exec (.disconnect) s = execDisconnect s := rfl
theorem exec_curClear (s : State) : exec (.curClear) s = execCurClear s := rfl
theorem exec_loadPerm (s : State) : exec (.loadPerm) s = execLoadPerm s := rfl
theorem exec_loadArr (s : State) : exec (.loadArr) s = execLoadArr s := rfl
theorem exec_curApply (s : State) : exec (.curApply) s = execCurApply s := rfl
theorem exec_cacheWriteEnd (s : State) : exec (.cacheWriteEnd) s = execCacheWriteEnd s := rfl
theorem exec_curDocQueuePlace (s : State) : exec (.curDocQueuePlace) s = execCurDocQueuePlace s := rfl
theorem exec_curDocRecord (s : State) : exec (.curDocRecord) s = execCurDocRecord s := rfl
theorem exec_curDonePop (s : State) : exec (.curDonePop) s = execCurDonePop s := rfl
theorem exec_docDonePop (s : State) : exec (.docDonePop) s = execDocDonePop s := rfl
theorem exec_echo (s : State) {t} {tag} {o} {a} {errs} : exec (.echo t tag o a errs) s = execEcho t tag o a errs s := rfl
theorem exec_downlinkFrame (s : State) {t} : exec (.downlinkFrame t) s = execDownlinkFrame t s := rfl
theorem exec_uplinkFrame (s : State) {t} {tag} {resv} {data} {errs} {other} {onTime} : exec (.uplinkFrame t tag resv data errs other onTime) s = execUplinkFrame t tag resv data errs other onTime s := rfl
theorem exec_svcWrite (s : State) {v} : exec (.svcWrite v) s = execSvcWrite v s := rfl
theorem exec_svcRead (s : State) {v} : exec (.svcRead v) s = execSvcRead v s := rfl
theorem exec_writeAck (s : State) {t} {frame} {errs} : exec (.writeAck t frame errs) s = execWriteAck t frame errs s := rfl
theorem exec_readData (s : State) {t} {frame} {errs} : exec (.readData t frame errs) s = execReadData t frame errs s := rfl
theorem exec_svcError (s : State) {t} {frame} {errs} : exec (.svcError t frame errs) s = execSvcError t frame errs s := rfl
theorem exec_svcTimeout (s : State) : exec (.svcTimeout) s = execSvcTimeout s := rfl
theorem exec_bringup (s : State) {t} {v} : exec (.bringup t v) s = execBringup t v s := rfl
theorem exec_linkDown (s : State) {t} {v} : exec (.linkDown t v) s = execLinkDown t v s := rfl
theorem exec_prbs (s : State) {t} {v} : exec (.prbs t v) s = execPrbs t v s := rfl
theorem exec_trainDone (s : State) {t} {errs} : exec (.trainDone t errs) s = execTrainDone t errs s := rfl
theorem exec_alignDone (s : State) {t} : exec (.alignDone t) s = execAlignDone t s := rfl
theorem exec_identDone (s : State) {t} {frame} {errs} : exec (.identDone t frame errs) s = execIdentDone t frame errs s := rfl
theorem exec_configDone (s : State) {t} {frame} {errs} : exec (.configDone t frame errs) s = execConfigDone t frame errs s := rfl
theorem exec_armDone (s : State) {t} : exec (.armDone t) s = execArmDone t s := rfl
theorem exec_bringupStepTimeout (s : State) {t} : exec (.bringupStepTimeout t) s = execBringupStepTimeout t s := rfl
theorem exec_bringupRetry (s : State) {t} : exec (.bringupRetry t) s = execBringupRetry t s := rfl
theorem exec_linkResync (s : State) {t} : exec (.linkResync t) s = execLinkResync t s := rfl
theorem exec_resyncTimeout (s : State) {t} : exec (.resyncTimeout t) s = execResyncTimeout t s := rfl
theorem exec_dlFault (s : State) {t} : exec (.dlFault t) s = execDlFault t s := rfl
theorem exec_rttHigh (s : State) {t} : exec (.rttHigh t) s = execRttHigh t s := rfl
theorem exec_prbsEnd (s : State) {t} {ul} {dl} : exec (.prbsEnd t ul dl) s = execPrbsEnd t ul dl s := rfl
theorem exec_twinTick (s : State) {p} {peerOffset} {arr} {stray} : exec (.twinTick p peerOffset arr stray) s = execTwinTick p peerOffset arr stray s := rfl
theorem exec_prec (s : State) {data} : exec (.prec data) s = execPrec data s := rfl
theorem exec_precRenew (s : State) : exec (.precRenew) s = execPrecRenew s := rfl
theorem exec_precRelease (s : State) : exec (.precRelease) s = execPrecRelease s := rfl
theorem exec_precHandover (s : State) : exec (.precHandover) s = execPrecHandover s := rfl
theorem exec_precLeave (s : State) : exec (.precLeave) s = execPrecLeave s := rfl
theorem exec_journal (s : State) {data} : exec (.journal data) s = execJournal data s := rfl
theorem exec_relay (s : State) {data} : exec (.relay data) s = execRelay data s := rfl
theorem exec_tileCopy (s : State) {data} : exec (.tileCopy data) s = execTileCopy data s := rfl
theorem exec_bulk (s : State) {data} : exec (.bulk data) s = execBulk data s := rfl
theorem exec_joinId (s : State) {id} {good} : exec (.joinId id good) s = execJoinId id good s := rfl
theorem exec_urgReq (s : State) {data} : exec (.urgReq data) s = execUrgReq data s := rfl
theorem exec_reg (s : State) : exec (.reg) s = execReg s := rfl
theorem exec_arr (s : State) : exec (.arr) s = execArr s := rfl
theorem exec_resid (s : State) : exec (.resid) s = execResid s := rfl
theorem exec_urgent (s : State) : exec (.urgent) s = execUrgent s := rfl
theorem exec_doccmd (s : State) : exec (.doccmd) s = execDoccmd s := rfl
theorem exec_fw (s : State) : exec (.fw) s = execFw s := rfl
theorem exec_csImage (s : State) : exec (.csImage) s = execCsImage s := rfl
theorem exec_snap (s : State) {part} : exec (.snap part) s = execSnap part s := rfl
theorem exec_commit (s : State) : exec (.commit) s = execCommit s := rfl
theorem exec_partnerHbEdge (s : State) {tick} : exec (.partnerHbEdge tick) s = execPartnerHbEdge tick s := rfl
theorem exec_partnerHbLost (s : State) : exec (.partnerHbLost) s = execPartnerHbLost s := rfl
theorem exec_loanRenew (s : State) : exec (.loanRenew) s = execLoanRenew s := rfl
theorem exec_loanLost (s : State) : exec (.loanLost) s = execLoanLost s := rfl
theorem exec_loanTaken (s : State) : exec (.loanTaken) s = execLoanTaken s := rfl
theorem exec_fwAlive (s : State) {v} : exec (.fwAlive v) s = execFwAlive v s := rfl
theorem exec_handover (s : State) {v} : exec (.handover v) s = execHandover v s := rfl
theorem exec_handoverBoundary (s : State) : exec (.handoverBoundary) s = execHandoverBoundary s := rfl
theorem exec_leave (s : State) {v} : exec (.leave v) s = execLeave v s := rfl
theorem exec_join (s : State) {v} : exec (.join v) s = execJoin v s := rfl
theorem exec_twinLinkLoss (s : State) {lane} : exec (.twinLinkLoss lane) s = execTwinLinkLoss lane s := rfl
theorem exec_twinVerdict (s : State) : exec (.twinVerdict) s = execTwinVerdict s := rfl
theorem exec_repairReplay (s : State) {t} : exec (.repairReplay t) s = execRepairReplay t s := rfl
theorem exec_joinWaitExpiry (s : State) : exec (.joinWaitExpiry) s = execJoinWaitExpiry s := rfl
theorem exec_joinStepDone (s : State) : exec (.joinStepDone) s = execJoinStepDone s := rfl
theorem exec_joinStepTimeout (s : State) : exec (.joinStepTimeout) s = execJoinStepTimeout s := rfl
theorem exec_joinSnapshot (s : State) : exec (.joinSnapshot) s = execJoinSnapshot s := rfl
theorem exec_csStage (s : State) {v} : exec (.csStage v) s = execCsStage v s := rfl
theorem exec_csSwap (s : State) {v} : exec (.csSwap v) s = execCsSwap v s := rfl
theorem exec_csSwapCopy (s : State) : exec (.csSwapCopy) s = execCsSwapCopy s := rfl
theorem exec_csSwapFailed (s : State) : exec (.csSwapFailed) s = execCsSwapFailed s := rfl
theorem exec_fwSend (s : State) {v} : exec (.fwSend v) s = execFwSend v s := rfl
theorem exec_ditherIntegrate (s : State) : exec (.ditherIntegrate) s = execDitherIntegrate s := rfl
theorem exec_lockinWindowEnd (s : State) : exec (.lockinWindowEnd) s = execLockinWindowEnd s := rfl
theorem exec_estimatesDone (s : State) : exec (.estimatesDone) s = execEstimatesDone s := rfl
theorem exec_cnsGalleryCommit (s : State) {g} : exec (.cnsGalleryCommit g) s = execCnsGalleryCommit g s := rfl
theorem exec_calibrationRecordWrite (s : State) {bad} : exec (.calibrationRecordWrite bad) s = execCalibrationRecordWrite bad s := rfl
theorem exec_cnsCommit (s : State) {v} : exec (.cnsCommit v) s = execCnsCommit v s := rfl
theorem exec_charExamine (s : State) {i} : exec (.charExamine i) s = execCharExamine i s := rfl
theorem exec_charPointEnd (s : State) {i} : exec (.charPointEnd i) s = execCharPointEnd i s := rfl
theorem exec_charRelease (s : State) {i} {v} : exec (.charRelease i v) s = execCharRelease i v s := rfl
theorem exec_charEntryExpiry (s : State) {i} : exec (.charEntryExpiry i) s = execCharEntryExpiry i s := rfl
theorem exec_portCtlWrite (s : State) {n} {v} : exec (.portCtlWrite n v) s = execPortCtlWrite n v s := rfl
theorem exec_portRestart (s : State) {n} {receiving} : exec (.portRestart n receiving) s = execPortRestart n receiving s := rfl
theorem exec_portLinkUp (s : State) {n} : exec (.portLinkUp n) s = execPortLinkUp n s := rfl
theorem exec_portLinkDown (s : State) {n} {cause} {receiving} : exec (.portLinkDown n cause receiving) s = execPortLinkDown n cause receiving s := rfl
theorem exec_anFail (s : State) {n} : exec (.anFail n) s = execAnFail n s := rfl
theorem exec_frameReceive (s : State) {n} {tick} {data} {fcsOk} {fecCorr} {fecUncorr} : exec (.frameReceive n tick data fcsOk fecCorr fecUncorr) s = execFrameReceive n tick data fcsOk fecCorr fecUncorr s := rfl
theorem exec_firstPass (s : State) {n} : exec (.firstPass n) s = execFirstPass n s := rfl
theorem exec_secondPass (s : State) {n} : exec (.secondPass n) s = execSecondPass n s := rfl
theorem exec_ringSlotWrite (s : State) {q} : exec (.ringSlotWrite q) s = execRingSlotWrite q s := rfl
theorem exec_consWrite (s : State) {q} {v} : exec (.consWrite q v) s = execConsWrite q v s := rfl
theorem exec_pktSwap (s : State) {v} : exec (.pktSwap v) s = execPktSwap v s := rfl
theorem exec_ruleSetSwap (s : State) : exec (.ruleSetSwap) s = execRuleSetSwap s := rfl
theorem exec_bankRetire (s : State) : exec (.bankRetire) s = execBankRetire s := rfl
theorem exec_pktCopy (s : State) {v} : exec (.pktCopy v) s = execPktCopy v s := rfl
theorem exec_shadowBankWrite (s : State) {off} {v} : exec (.shadowBankWrite off v) s = execShadowBankWrite off v s := rfl
theorem exec_policerWrite (s : State) {n} {depth} {v} : exec (.policerWrite n depth v) s = execPolicerWrite n depth v s := rfl
theorem exec_queueShareWrite (s : State) {q} {v} : exec (.queueShareWrite q v) s = execQueueShareWrite q v s := rfl
theorem exec_octetRead (s : State) {n} : exec (.octetRead n) s = execOctetRead n s := rfl
theorem exec_ringProdWrite (s : State) {n} {r} {v} : exec (.ringProdWrite n r v) s = execRingProdWrite n r v s := rfl
theorem exec_descriptorTake (s : State) {n} {r} : exec (.descriptorTake n r) s = execDescriptorTake n r s := rfl
theorem exec_transmitStart (s : State) {n} {tick} : exec (.transmitStart n tick) s = execTransmitStart n tick s := rfl
theorem exec_transmitEnd (s : State) {n} {tick} : exec (.transmitEnd n tick) s = execTransmitEnd n tick s := rfl
theorem exec_gclCommit (s : State) {n} {v} : exec (.gclCommit n v) s = execGclCommit n v s := rfl
theorem exec_gclSwitch (s : State) {n} {tick} : exec (.gclSwitch n tick) s = execGclSwitch n tick s := rfl
theorem exec_gateEntryChange (s : State) {n} {tick} : exec (.gateEntryChange n tick) s = execGateEntryChange n tick s := rfl
theorem exec_eventLatch (s : State) : exec (.eventLatch) s = execEventLatch s := rfl
theorem exec_persistWindowEnd (s : State) {src} : exec (.persistWindowEnd src) s = execPersistWindowEnd src s := rfl
theorem exec_sevAck (s : State) {v} : exec (.sevAck v) s = execSevAck v s := rfl
theorem exec_sevAckEffect (s : State) : exec (.sevAckEffect) s = execSevAckEffect s := rfl
theorem exec_escalation (s : State) : exec (.escalation) s = execEscalation s := rfl
theorem exec_injection (s : State) {v} : exec (.injection v) s = execInjection v s := rfl
theorem exec_parityScan (s : State) {bad} : exec (.parityScan bad) s = execParityScan bad s := rfl
theorem exec_safeStateEntry (s : State) : exec (.safeStateEntry) s = execSafeStateEntry s := rfl
theorem exec_eventRecordClose (s : State) : exec (.eventRecordClose) s = execEventRecordClose s := rfl
theorem exec_logCopy (s : State) {n} : exec (.logCopy n) s = execLogCopy n s := rfl
theorem exec_vaultHeld (s : State) : exec (.vaultHeld) s = execVaultHeld s := rfl
theorem exec_vaultRelease (s : State) {v} : exec (.vaultRelease v) s = execVaultRelease v s := rfl
theorem exec_fwRecordSubmit (s : State) {v} : exec (.fwRecordSubmit v) s = execFwRecordSubmit v s := rfl
theorem exec_alarmWindowEnd (s : State) : exec (.alarmWindowEnd) s = execAlarmWindowEnd s := rfl
theorem exec_alarmSend (s : State) : exec (.alarmSend) s = execAlarmSend s := rfl
theorem exec_ledgerExport (s : State) : exec (.ledgerExport) s = execLedgerExport s := rfl
theorem exec_vitrineInEdge (s : State) : exec (.vitrineInEdge) s = execVitrineInEdge s := rfl
theorem exec_vitTrig (s : State) {v} : exec (.vitTrig v) s = execVitTrig v s := rfl
theorem exec_vitrineCapture (s : State) : exec (.vitrineCapture) s = execVitrineCapture s := rfl
theorem exec_vitrineCopyDone (s : State) {bad} : exec (.vitrineCopyDone bad) s = execVitrineCopyDone bad s := rfl
theorem exec_vitExport (s : State) {v} : exec (.vitExport v) s = execVitExport v s := rfl
theorem exec_vitrineExportFrame (s : State) : exec (.vitrineExportFrame) s = execVitrineExportFrame s := rfl
theorem exec_coldReset (s : State) : exec (.coldReset) s = execColdReset s := rfl
theorem exec_pinReset (s : State) : exec (.pinReset) s = execPinReset s := rfl
theorem exec_resetRelease (s : State) {straps} {w} : exec (.resetRelease straps w) s = execResetRelease straps w s := rfl
theorem exec_startArrApply (s : State) : exec (.startArrApply) s = execStartArrApply s := rfl
theorem exec_autostart (s : State) : exec (.autostart) s = execAutostart s := rfl
theorem exec_fullRestart (s : State) {v} : exec (.fullRestart v) s = execFullRestart v s := rfl
theorem exec_fwRestart (s : State) {v} : exec (.fwRestart v) s = execFwRestart v s := rfl
theorem exec_restartEffect (s : State) {w} : exec (.restartEffect w) s = execRestartEffect w s := rfl
theorem exec_wdtKick (s : State) {v} : exec (.wdtKick v) s = execWdtKick v s := rfl
theorem exec_watchdogExpiry (s : State) : exec (.watchdogExpiry) s = execWatchdogExpiry s := rfl
theorem exec_perstReset (s : State) : exec (.perstReset) s = execPerstReset s := rfl
theorem exec_nvlRead (s : State) {v} : exec (.nvlRead v) s = execNvlRead v s := rfl
theorem exec_nvlProgram (s : State) {v} : exec (.nvlProgram v) s = execNvlProgram v s := rfl
theorem exec_nvlErase (s : State) {v} : exec (.nvlErase v) s = execNvlErase v s := rfl
theorem exec_nvlDone (s : State) {bad} : exec (.nvlDone bad) s = execNvlDone bad s := rfl
theorem exec_svnCommit (s : State) {v} : exec (.svnCommit v) s = execSvnCommit v s := rfl
theorem exec_matrixGrant (s : State) {t} {reqs} : exec (.matrixGrant t reqs) s = execMatrixGrant t reqs s := rfl
theorem exec_matrixResponse (s : State) {t} {err} {beat} : exec (.matrixResponse t err beat) s = execMatrixResponse t err beat s := rfl
theorem exec_targetTimeout (s : State) {t} : exec (.targetTimeout t) s = execTargetTimeout t s := rfl
theorem exec_masterReset (s : State) {m} {beats} : exec (.masterReset m beats) s = execMasterReset m beats s := rfl
theorem exec_patrolScrub (s : State) {a} {bits} : exec (.patrolScrub a bits) s = execPatrolScrub a bits s := rfl
theorem exec_ddrRetrain (s : State) {ch} {moved} : exec (.ddrRetrain ch moved) s = execDdrRetrain ch moved s := rfl
theorem exec_bar2WinWrite (s : State) {v} : exec (.bar2WinWrite v) s = execBar2WinWrite v s := rfl
theorem exec_pcieRequest (s : State) {bar2} {off} {dws} {be} {write} : exec (.pcieRequest bar2 off dws be write) s = execPcieRequest bar2 off dws be write s := rfl
theorem exec_pcieLinkUp (s : State) {speed} {width} {bus} {cfg} : exec (.pcieLinkUp speed width bus cfg) s = execPcieLinkUp speed width bus cfg s := rfl
theorem exec_pcieLinkDown (s : State) : exec (.pcieLinkDown) s = execPcieLinkDown s := rfl
theorem exec_msixPendingSend (s : State) {vec} : exec (.msixPendingSend vec) s = execMsixPendingSend vec s := rfl
theorem exec_smbAddr (s : State) {data} {pec} : exec (.smbAddr data pec) s = execSmbAddr data pec s := rfl
theorem exec_smbWrite (s : State) {data} {pec} : exec (.smbWrite data pec) s = execSmbWrite data pec s := rfl
theorem exec_smbRead (s : State) : exec (.smbRead) s = execSmbRead s := rfl
theorem exec_smbStatus (s : State) : exec (.smbStatus) s = execSmbStatus s := rfl
theorem exec_smbIdent (s : State) : exec (.smbIdent) s = execSmbIdent s := rfl
theorem exec_smbusTimeout (s : State) : exec (.smbusTimeout) s = execSmbusTimeout s := rfl
theorem exec_alertResponse (s : State) : exec (.alertResponse) s = execAlertResponse s := rfl
theorem exec_domainOn (s : State) {d} {v} : exec (.domainOn d v) s = execDomainOn d v s := rfl
theorem exec_domainOff (s : State) {d} {v} : exec (.domainOff d v) s = execDomainOff d v s := rfl
theorem exec_domainSwitch (s : State) {d} : exec (.domainSwitch d) s = execDomainSwitch d s := rfl
theorem exec_domainOffDone (s : State) {d} : exec (.domainOffDone d) s = execDomainOffDone d s := rfl
theorem exec_domainOnDone (s : State) {d} : exec (.domainOnDone d) s = execDomainOnDone d s := rfl
theorem exec_domainFault (s : State) {d} : exec (.domainFault d) s = execDomainFault d s := rfl
theorem exec_asmUp (s : State) {v} : exec (.asmUp v) s = execAsmUp v s := rfl
theorem exec_asmDown (s : State) {v} : exec (.asmDown v) s = execAsmDown v s := rfl
theorem exec_asmClear (s : State) {v} : exec (.asmClear v) s = execAsmClear v s := rfl
theorem exec_seqGroupDone (s : State) : exec (.seqGroupDone) s = execSeqGroupDone s := rfl
theorem exec_seqGroupTimeout (s : State) : exec (.seqGroupTimeout) s = execSeqGroupTimeout s := rfl
theorem exec_pmbWriteByte (s : State) {v} : exec (.pmbWriteByte v) s = execPmbWriteByte v s := rfl
theorem exec_pmbWriteWord (s : State) {v} : exec (.pmbWriteWord v) s = execPmbWriteWord v s := rfl
theorem exec_pmbReadByte (s : State) {v} : exec (.pmbReadByte v) s = execPmbReadByte v s := rfl
theorem exec_pmbReadWord (s : State) {v} : exec (.pmbReadWord v) s = execPmbReadWord v s := rfl
theorem exec_pmbTransactionDone (s : State) {res} {data} : exec (.pmbTransactionDone res data) s = execPmbTransactionDone res data s := rfl
theorem exec_pmbPoll (s : State) {status} {vout} {iout} {temp} : exec (.pmbPoll status vout iout temp) s = execPmbPoll status vout iout temp s := rfl
theorem exec_pmbAlert (s : State) : exec (.pmbAlert) s = execPmbAlert s := rfl
theorem exec_railFaultDown (s : State) : exec (.railFaultDown) s = execRailFaultDown s := rfl
theorem exec_pdmTempCrit (s : State) : exec (.pdmTempCrit) s = execPdmTempCrit s := rfl
theorem exec_adcSeqGo (s : State) {n} {v} : exec (.adcSeqGo n v) s = execAdcSeqGo n v s := rfl
theorem exec_adcTimerTrigger (s : State) {n} : exec (.adcTimerTrigger n) s = execAdcTimerTrigger n s := rfl
theorem exec_adcUrgent (s : State) {v} : exec (.adcUrgent v) s = execAdcUrgent v s := rfl
theorem exec_adcConversionDone (s : State) {code} {ovr} : exec (.adcConversionDone code ovr) s = execAdcConversionDone code ovr s := rfl
theorem exec_adcPowerDown (s : State) : exec (.adcPowerDown) s = execAdcPowerDown s := rfl
theorem exec_adcResultPop (s : State) : exec (.adcResultPop) s = execAdcResultPop s := rfl
theorem exec_trimGo (s : State) {v} : exec (.trimGo v) s = execTrimGo v s := rfl
theorem exec_trimInterval (s : State) : exec (.trimInterval) s = execTrimInterval s := rfl
theorem exec_trimDone (s : State) {ok} {offset} {gain} {hi} {lo} : exec (.trimDone ok offset gain hi lo) s = execTrimDone ok offset gain hi lo s := rfl
theorem exec_dacCode (s : State) {k} {v} : exec (.dacCode k v) s = execDacCode k v s := rfl
theorem exec_dacRange (s : State) {k} {v} : exec (.dacRange k v) s = execDacRange k v s := rfl
theorem exec_dacChangeDone (s : State) {k} : exec (.dacChangeDone k) s = execDacChangeDone k s := rfl
theorem exec_tecStep (s : State) : exec (.tecStep) s = execTecStep s := rfl
theorem exec_tecEvt (s : State) {v} : exec (.tecEvt v) s = execTecEvt v s := rfl
theorem exec_idcodeIr (s : State) : exec (.idcodeIr) s = execIdcodeIr s := rfl
theorem exec_samplePreload (s : State) : exec (.samplePreload) s = execSamplePreload s := rfl
theorem exec_extestIr (s : State) : exec (.extestIr) s = execExtestIr s := rfl
theorem exec_clampIr (s : State) : exec (.clampIr) s = execClampIr s := rfl
theorem exec_highzIr (s : State) : exec (.highzIr) s = execHighzIr s := rfl
theorem exec_extestPulse (s : State) : exec (.extestPulse) s = execExtestPulse s := rfl
theorem exec_extestTrain (s : State) : exec (.extestTrain) s = execExtestTrain s := rfl
theorem exec_debugIr (s : State) : exec (.debugIr) s = execDebugIr s := rfl
theorem exec_bypassIr (s : State) : exec (.bypassIr) s = execBypassIr s := rfl
theorem exec_jtagDebugAccess (s : State) {a} {write} : exec (.jtagDebugAccess a write) s = execJtagDebugAccess a write s := rfl
theorem exec_portBlockLock (s : State) {n} : exec (.portBlockLock n) s = execPortBlockLock n s := rfl
theorem exec_autonegComplete (s : State) {n} : exec (.autonegComplete n) s = execAutonegComplete n s := rfl
theorem exec_pktCopyDone (s : State) : exec (.pktCopyDone) s = execPktCopyDone s := rfl
theorem exec_refreshDerate (s : State) {ch} {raised} : exec (.refreshDerate ch raised) s = execRefreshDerate ch raised s := rfl
theorem exec_singleDeviceAfterLoss (s : State) : exec (.singleDeviceAfterLoss) s = execSingleDeviceAfterLoss s := rfl

end Sys2Proof.Machine
end

