-- ==== Sys2Proof/Laws/SMap.lean ====
section
/-! SUPPORT. Sparse maps: reading after writing, and that every operation keeps the canonical form. -/

namespace Sys2Proof.Machine

theorem mapGet_mapPut {α : Type} (m : List (Nat × α)) (k j : Nat) (v : α) :
    mapGet (mapPut m k v) j = if k = j then some v else mapGet m j := by
  induction m with
  | nil => simp [mapPut, mapGet]
  | cons e t ih =>
    obtain ⟨a, x⟩ := e
    unfold mapPut
    split
    · simp [mapGet]
    · split
      · subst_vars
        by_cases h : a = j <;> simp [mapGet, h]
      · simp only [mapGet, ih]
        by_cases h : a = j <;> by_cases h' : k = j <;> simp_all

theorem mapGet_mapDel {α : Type} (m : List (Nat × α)) (k j : Nat) :
    mapGet (mapDel m k) j = if k = j then none else mapGet m j := by
  induction m with
  | nil => simp [mapDel, mapGet]
  | cons e t ih =>
    obtain ⟨a, x⟩ := e
    simp only [mapDel]
    split
    · subst_vars
      rw [ih]
      by_cases h : a = j <;> simp [mapGet, h]
    · simp only [mapGet, ih]
      by_cases h : a = j <;> by_cases h' : k = j <;> simp_all

/-- A read after a write: the value written at its key, every other key as before. -/
theorem mapRead_mapWrite {α : Type} [DecidableEq α] (d : Nat → α) (m : List (Nat × α)) (k j : Nat) (v : α) :
    mapRead d (mapWrite d m k v) j = if k = j then v else mapRead d m j := by
  unfold mapRead mapWrite
  by_cases hv : v = d k
  · simp only [hv, if_true, mapGet_mapDel]
    by_cases h : k = j
    · subst h; simp
    · simp [h]
  · simp only [hv, if_false, mapGet_mapPut]
    by_cases h : k = j <;> simp [h]

theorem keysRise_mono {α : Type} {lo lo' : Nat} {m : List (Nat × α)} (h : keysRise lo m = true) (hl : lo' ≤ lo) :
    keysRise lo' m = true := by
  cases m with
  | nil => rfl
  | cons e t =>
    obtain ⟨a, x⟩ := e
    simp only [keysRise, Bool.and_eq_true, decide_eq_true_eq] at h ⊢
    exact ⟨hl.trans h.1, h.2⟩

theorem keysRise_mapDel {α : Type} {lo : Nat} {m : List (Nat × α)} (k : Nat) (h : keysRise lo m = true) :
    keysRise lo (mapDel m k) = true := by
  induction m generalizing lo with
  | nil => rfl
  | cons e t ih =>
    obtain ⟨a, x⟩ := e
    simp only [keysRise, Bool.and_eq_true, decide_eq_true_eq] at h
    simp only [mapDel]
    split
    · exact ih (keysRise_mono h.2 (by omega))
    · simp only [keysRise, Bool.and_eq_true, decide_eq_true_eq]
      exact ⟨h.1, ih h.2⟩

theorem keysRise_mapPut {α : Type} {lo : Nat} {m : List (Nat × α)} (k : Nat) (v : α) (hk : lo ≤ k)
    (h : keysRise lo m = true) : keysRise lo (mapPut m k v) = true := by
  induction m generalizing lo with
  | nil => simp [mapPut, keysRise, hk]
  | cons e t ih =>
    obtain ⟨a, x⟩ := e
    simp only [keysRise, Bool.and_eq_true, decide_eq_true_eq] at h
    unfold mapPut
    split
    · simp only [keysRise, Bool.and_eq_true, decide_eq_true_eq]
      exact ⟨hk, by omega, h.2⟩
    · split
      · subst_vars
        simp only [keysRise, Bool.and_eq_true, decide_eq_true_eq]
        exact ⟨h.1, h.2⟩
      · simp only [keysRise, Bool.and_eq_true, decide_eq_true_eq]
        exact ⟨h.1, ih (by omega) h.2⟩

theorem all_mapDel {α : Type} (p : Nat × α → Bool) (m : List (Nat × α)) (k : Nat) (h : m.all p = true) :
    (mapDel m k).all p = true := by
  induction m with
  | nil => rfl
  | cons e t ih =>
    obtain ⟨a, x⟩ := e
    simp only [List.all_cons, Bool.and_eq_true] at h
    simp only [mapDel]
    split
    · exact ih h.2
    · simp only [List.all_cons, Bool.and_eq_true]
      exact ⟨h.1, ih h.2⟩

theorem all_mapPut {α : Type} (p : Nat × α → Bool) (m : List (Nat × α)) (k : Nat) (v : α) (h : m.all p = true)
    (hv : p (k, v) = true) : (mapPut m k v).all p = true := by
  induction m with
  | nil => simp [mapPut, hv]
  | cons e t ih =>
    obtain ⟨a, x⟩ := e
    have h' := h
    simp only [List.all_cons, Bool.and_eq_true] at h'
    unfold mapPut
    split
    · simp only [List.all_cons, Bool.and_eq_true]
      exact ⟨hv, h'⟩
    · split
      · subst_vars
        simp only [List.all_cons, Bool.and_eq_true]
        exact ⟨hv, h'.2⟩
      · simp only [List.all_cons, Bool.and_eq_true]
        exact ⟨h'.1, ih h'.2⟩

/-- A write keeps the canonical form. -/
theorem mapWf_mapWrite {α : Type} [DecidableEq α] (d : Nat → α) (m : List (Nat × α)) (k : Nat) (v : α)
    (h : mapWf d m = true) : mapWf d (mapWrite d m k v) = true := by
  simp only [mapWf, Bool.and_eq_true] at h ⊢
  unfold mapWrite
  split
  · exact ⟨keysRise_mapDel k h.1, all_mapDel _ m k h.2⟩
  · next hv => exact ⟨keysRise_mapPut k v (Nat.zero_le k) h.1, all_mapPut _ m k v h.2 (by simpa using hv)⟩

/-- A run of writes keeps the canonical form. -/
theorem mapWf_mapWriteRun {α : Type} [DecidableEq α] (d : Nat → α) (l : List α) :
    ∀ (m : List (Nat × α)) (k : Nat), mapWf d m = true → mapWf d (mapWriteRun d m k l) = true := by
  induction l with
  | nil => intro m k h; exact h
  | cons v t ih => intro m k h; exact ih _ _ (mapWf_mapWrite d m k v h)

/-- A read after a run of writes: the values written over their keys, every other key as before. -/
theorem mapRead_mapWriteRun {α : Type} [DecidableEq α] (d : Nat → α) (l : List α) :
    ∀ (m : List (Nat × α)) (k j : Nat),
      mapRead d (mapWriteRun d m k l) j = if k ≤ j ∧ j < k + l.length then l.getD (j - k) (d j) else mapRead d m j := by
  induction l with
  | nil => intro m k j; simp [mapWriteRun]
  | cons v t ih =>
    intro m k j
    simp only [mapWriteRun, ih, mapRead_mapWrite, List.length_cons]
    by_cases h : k = j
    · subst h
      simp
    · by_cases h1 : k + 1 ≤ j ∧ j < k + 1 + t.length
      · have h2 : k ≤ j ∧ j < k + (t.length + 1) := by omega
        have h3 : j - k = (j - (k + 1)) + 1 := by omega
        simp [h1, h2, h3]
      · have h2 : ¬ (k ≤ j ∧ j < k + (t.length + 1)) := by omega
        simp only [h1, h2, h, if_false]

/-- The empty map has the canonical form. -/
theorem mapWf_nil {α : Type} [DecidableEq α] (d : Nat → α) : mapWf d ([] : List (Nat × α)) = true := rfl

end Sys2Proof.Machine
end

