-- ==== Sys2Proof/Laws/State.lean ====
section
/-! SUPPORT. What the named operations leave as it was, field by field of the device; true by the operations' shape. -/

namespace Sys2Proof.Machine

variable (c : Chip)

@[simp] theorem wr_deferred (a : Nat) (v : W) : (wr c a v).deferred = c.deferred := rfl
@[simp] theorem wr_readData (a : Nat) (v : W) : (wr c a v).readData = c.readData := rfl
@[simp] theorem wr_readResp (a : Nat) (v : W) : (wr c a v).readResp = c.readResp := rfl
@[simp] theorem wr_free (a : Nat) (v : W) : (wr c a v).free = c.free := rfl
@[simp] theorem wr_tmr (a : Nat) (v : W) : (wr c a v).tmr = c.tmr := rfl
@[simp] theorem wr_att (a : Nat) (v : W) : (wr c a v).att = c.att := rfl
@[simp] theorem wr_twn (a : Nat) (v : W) : (wr c a v).twn = c.twn := rfl
@[simp] theorem wr_ldg (a : Nat) (v : W) : (wr c a v).ldg = c.ldg := rfl
@[simp] theorem wr_glb (a : Nat) (v : W) : (wr c a v).glb = c.glb := rfl
@[simp] theorem wr_topo (a : Nat) (v : W) : (wr c a v).topo = c.topo := rfl
@[simp] theorem wr_ddr (a : Nat) (v : W) : (wr c a v).ddr = c.ddr := rfl
@[simp] theorem wr_svp (a : Nat) (v : W) : (wr c a v).svp = c.svp := rfl
@[simp] theorem wr_txs (a : Nat) (v : W) : (wr c a v).txs = c.txs := rfl
@[simp] theorem wr_pcie (a : Nat) (v : W) : (wr c a v).pcie = c.pcie := rfl
@[simp] theorem wr_lpe (a : Nat) (v : W) : (wr c a v).lpe = c.lpe := rfl
@[simp] theorem wr_ars (a : Nat) (v : W) : (wr c a v).ars = c.ars := rfl
@[simp] theorem wr_prg (a : Nat) (v : W) : (wr c a v).prg = c.prg := rfl
@[simp] theorem wr_doc (a : Nat) (v : W) : (wr c a v).doc = c.doc := rfl
@[simp] theorem wr_cur (a : Nat) (v : W) : (wr c a v).cur = c.cur := rfl
@[simp] theorem wr_ngl (a : Nat) (v : W) : (wr c a v).ngl = c.ngl := rfl
@[simp] theorem wr_cns (a : Nat) (v : W) : (wr c a v).cns = c.cns := rfl
@[simp] theorem wr_vit (a : Nat) (v : W) : (wr c a v).vit = c.vit := rfl
@[simp] theorem wr_pdm (a : Nat) (v : W) : (wr c a v).pdm = c.pdm := rfl
@[simp] theorem wr_aux (a : Nat) (v : W) : (wr c a v).aux = c.aux := rfl
@[simp] theorem wr_xbr (a : Nat) (v : W) : (wr c a v).xbr = c.xbr := rfl
@[simp] theorem wr_smb (a : Nat) (v : W) : (wr c a v).smb = c.smb := rfl
@[simp] theorem wr_jtag (a : Nat) (v : W) : (wr c a v).jtag = c.jtag := rfl

@[simp] theorem setFld_deferred (f : Fld) (v : Nat) : (setFld c f v).deferred = c.deferred := rfl
@[simp] theorem setFld_readData (f : Fld) (v : Nat) : (setFld c f v).readData = c.readData := rfl
@[simp] theorem setFld_readResp (f : Fld) (v : Nat) : (setFld c f v).readResp = c.readResp := rfl
@[simp] theorem setFld_free (f : Fld) (v : Nat) : (setFld c f v).free = c.free := rfl
@[simp] theorem setFld_tmr (f : Fld) (v : Nat) : (setFld c f v).tmr = c.tmr := rfl
@[simp] theorem setFld_att (f : Fld) (v : Nat) : (setFld c f v).att = c.att := rfl
@[simp] theorem setFld_twn (f : Fld) (v : Nat) : (setFld c f v).twn = c.twn := rfl
@[simp] theorem setFld_ldg (f : Fld) (v : Nat) : (setFld c f v).ldg = c.ldg := rfl
@[simp] theorem setFld_glb (f : Fld) (v : Nat) : (setFld c f v).glb = c.glb := rfl
@[simp] theorem setFld_topo (f : Fld) (v : Nat) : (setFld c f v).topo = c.topo := rfl
@[simp] theorem setFld_ddr (f : Fld) (v : Nat) : (setFld c f v).ddr = c.ddr := rfl
@[simp] theorem setFld_svp (f : Fld) (v : Nat) : (setFld c f v).svp = c.svp := rfl
@[simp] theorem setFld_txs (f : Fld) (v : Nat) : (setFld c f v).txs = c.txs := rfl
@[simp] theorem setFld_pcie (f : Fld) (v : Nat) : (setFld c f v).pcie = c.pcie := rfl
@[simp] theorem setFld_lpe (f : Fld) (v : Nat) : (setFld c f v).lpe = c.lpe := rfl
@[simp] theorem setFld_ars (f : Fld) (v : Nat) : (setFld c f v).ars = c.ars := rfl
@[simp] theorem setFld_prg (f : Fld) (v : Nat) : (setFld c f v).prg = c.prg := rfl
@[simp] theorem setFld_doc (f : Fld) (v : Nat) : (setFld c f v).doc = c.doc := rfl
@[simp] theorem setFld_cur (f : Fld) (v : Nat) : (setFld c f v).cur = c.cur := rfl
@[simp] theorem setFld_ngl (f : Fld) (v : Nat) : (setFld c f v).ngl = c.ngl := rfl
@[simp] theorem setFld_cns (f : Fld) (v : Nat) : (setFld c f v).cns = c.cns := rfl
@[simp] theorem setFld_vit (f : Fld) (v : Nat) : (setFld c f v).vit = c.vit := rfl
@[simp] theorem setFld_pdm (f : Fld) (v : Nat) : (setFld c f v).pdm = c.pdm := rfl
@[simp] theorem setFld_aux (f : Fld) (v : Nat) : (setFld c f v).aux = c.aux := rfl
@[simp] theorem setFld_xbr (f : Fld) (v : Nat) : (setFld c f v).xbr = c.xbr := rfl
@[simp] theorem setFld_smb (f : Fld) (v : Nat) : (setFld c f v).smb = c.smb := rfl
@[simp] theorem setFld_jtag (f : Fld) (v : Nat) : (setFld c f v).jtag = c.jtag := rfl

@[simp] theorem setB_deferred (f : Fld) (b : Bool) : (setB c f b).deferred = c.deferred := rfl
@[simp] theorem setB_readData (f : Fld) (b : Bool) : (setB c f b).readData = c.readData := rfl
@[simp] theorem setB_readResp (f : Fld) (b : Bool) : (setB c f b).readResp = c.readResp := rfl
@[simp] theorem setB_free (f : Fld) (b : Bool) : (setB c f b).free = c.free := rfl
@[simp] theorem setB_tmr (f : Fld) (b : Bool) : (setB c f b).tmr = c.tmr := rfl
@[simp] theorem setB_att (f : Fld) (b : Bool) : (setB c f b).att = c.att := rfl
@[simp] theorem setB_twn (f : Fld) (b : Bool) : (setB c f b).twn = c.twn := rfl
@[simp] theorem setB_ldg (f : Fld) (b : Bool) : (setB c f b).ldg = c.ldg := rfl
@[simp] theorem setB_glb (f : Fld) (b : Bool) : (setB c f b).glb = c.glb := rfl
@[simp] theorem setB_topo (f : Fld) (b : Bool) : (setB c f b).topo = c.topo := rfl
@[simp] theorem setB_ddr (f : Fld) (b : Bool) : (setB c f b).ddr = c.ddr := rfl
@[simp] theorem setB_svp (f : Fld) (b : Bool) : (setB c f b).svp = c.svp := rfl
@[simp] theorem setB_txs (f : Fld) (b : Bool) : (setB c f b).txs = c.txs := rfl
@[simp] theorem setB_pcie (f : Fld) (b : Bool) : (setB c f b).pcie = c.pcie := rfl
@[simp] theorem setB_lpe (f : Fld) (b : Bool) : (setB c f b).lpe = c.lpe := rfl
@[simp] theorem setB_ars (f : Fld) (b : Bool) : (setB c f b).ars = c.ars := rfl
@[simp] theorem setB_prg (f : Fld) (b : Bool) : (setB c f b).prg = c.prg := rfl
@[simp] theorem setB_doc (f : Fld) (b : Bool) : (setB c f b).doc = c.doc := rfl
@[simp] theorem setB_cur (f : Fld) (b : Bool) : (setB c f b).cur = c.cur := rfl
@[simp] theorem setB_ngl (f : Fld) (b : Bool) : (setB c f b).ngl = c.ngl := rfl
@[simp] theorem setB_cns (f : Fld) (b : Bool) : (setB c f b).cns = c.cns := rfl
@[simp] theorem setB_vit (f : Fld) (b : Bool) : (setB c f b).vit = c.vit := rfl
@[simp] theorem setB_pdm (f : Fld) (b : Bool) : (setB c f b).pdm = c.pdm := rfl
@[simp] theorem setB_aux (f : Fld) (b : Bool) : (setB c f b).aux = c.aux := rfl
@[simp] theorem setB_xbr (f : Fld) (b : Bool) : (setB c f b).xbr = c.xbr := rfl
@[simp] theorem setB_smb (f : Fld) (b : Bool) : (setB c f b).smb = c.smb := rfl
@[simp] theorem setB_jtag (f : Fld) (b : Bool) : (setB c f b).jtag = c.jtag := rfl

@[simp] theorem wr64_deferred (l h : Nat) (v : BitVec 64) : (wr64 c l h v).deferred = c.deferred := rfl
@[simp] theorem wr64_readData (l h : Nat) (v : BitVec 64) : (wr64 c l h v).readData = c.readData := rfl
@[simp] theorem wr64_readResp (l h : Nat) (v : BitVec 64) : (wr64 c l h v).readResp = c.readResp := rfl
@[simp] theorem wr64_free (l h : Nat) (v : BitVec 64) : (wr64 c l h v).free = c.free := rfl
@[simp] theorem wr64_tmr (l h : Nat) (v : BitVec 64) : (wr64 c l h v).tmr = c.tmr := rfl
@[simp] theorem wr64_att (l h : Nat) (v : BitVec 64) : (wr64 c l h v).att = c.att := rfl
@[simp] theorem wr64_twn (l h : Nat) (v : BitVec 64) : (wr64 c l h v).twn = c.twn := rfl
@[simp] theorem wr64_ldg (l h : Nat) (v : BitVec 64) : (wr64 c l h v).ldg = c.ldg := rfl
@[simp] theorem wr64_glb (l h : Nat) (v : BitVec 64) : (wr64 c l h v).glb = c.glb := rfl
@[simp] theorem wr64_topo (l h : Nat) (v : BitVec 64) : (wr64 c l h v).topo = c.topo := rfl
@[simp] theorem wr64_ddr (l h : Nat) (v : BitVec 64) : (wr64 c l h v).ddr = c.ddr := rfl
@[simp] theorem wr64_svp (l h : Nat) (v : BitVec 64) : (wr64 c l h v).svp = c.svp := rfl
@[simp] theorem wr64_txs (l h : Nat) (v : BitVec 64) : (wr64 c l h v).txs = c.txs := rfl
@[simp] theorem wr64_pcie (l h : Nat) (v : BitVec 64) : (wr64 c l h v).pcie = c.pcie := rfl
@[simp] theorem wr64_lpe (l h : Nat) (v : BitVec 64) : (wr64 c l h v).lpe = c.lpe := rfl
@[simp] theorem wr64_ars (l h : Nat) (v : BitVec 64) : (wr64 c l h v).ars = c.ars := rfl
@[simp] theorem wr64_prg (l h : Nat) (v : BitVec 64) : (wr64 c l h v).prg = c.prg := rfl
@[simp] theorem wr64_doc (l h : Nat) (v : BitVec 64) : (wr64 c l h v).doc = c.doc := rfl
@[simp] theorem wr64_cur (l h : Nat) (v : BitVec 64) : (wr64 c l h v).cur = c.cur := rfl
@[simp] theorem wr64_ngl (l h : Nat) (v : BitVec 64) : (wr64 c l h v).ngl = c.ngl := rfl
@[simp] theorem wr64_cns (l h : Nat) (v : BitVec 64) : (wr64 c l h v).cns = c.cns := rfl
@[simp] theorem wr64_vit (l h : Nat) (v : BitVec 64) : (wr64 c l h v).vit = c.vit := rfl
@[simp] theorem wr64_pdm (l h : Nat) (v : BitVec 64) : (wr64 c l h v).pdm = c.pdm := rfl
@[simp] theorem wr64_aux (l h : Nat) (v : BitVec 64) : (wr64 c l h v).aux = c.aux := rfl
@[simp] theorem wr64_xbr (l h : Nat) (v : BitVec 64) : (wr64 c l h v).xbr = c.xbr := rfl
@[simp] theorem wr64_smb (l h : Nat) (v : BitVec 64) : (wr64 c l h v).smb = c.smb := rfl
@[simp] theorem wr64_jtag (l h : Nat) (v : BitVec 64) : (wr64 c l h v).jtag = c.jtag := rfl

@[simp] theorem countUp_deferred (a n : Nat) : (countUp c a n).deferred = c.deferred := rfl
@[simp] theorem countUp_readData (a n : Nat) : (countUp c a n).readData = c.readData := rfl
@[simp] theorem countUp_readResp (a n : Nat) : (countUp c a n).readResp = c.readResp := rfl
@[simp] theorem countUp_free (a n : Nat) : (countUp c a n).free = c.free := rfl
@[simp] theorem countUp_tmr (a n : Nat) : (countUp c a n).tmr = c.tmr := rfl
@[simp] theorem countUp_att (a n : Nat) : (countUp c a n).att = c.att := rfl
@[simp] theorem countUp_twn (a n : Nat) : (countUp c a n).twn = c.twn := rfl
@[simp] theorem countUp_ldg (a n : Nat) : (countUp c a n).ldg = c.ldg := rfl
@[simp] theorem countUp_glb (a n : Nat) : (countUp c a n).glb = c.glb := rfl
@[simp] theorem countUp_topo (a n : Nat) : (countUp c a n).topo = c.topo := rfl
@[simp] theorem countUp_ddr (a n : Nat) : (countUp c a n).ddr = c.ddr := rfl
@[simp] theorem countUp_svp (a n : Nat) : (countUp c a n).svp = c.svp := rfl
@[simp] theorem countUp_txs (a n : Nat) : (countUp c a n).txs = c.txs := rfl
@[simp] theorem countUp_pcie (a n : Nat) : (countUp c a n).pcie = c.pcie := rfl
@[simp] theorem countUp_lpe (a n : Nat) : (countUp c a n).lpe = c.lpe := rfl
@[simp] theorem countUp_ars (a n : Nat) : (countUp c a n).ars = c.ars := rfl
@[simp] theorem countUp_prg (a n : Nat) : (countUp c a n).prg = c.prg := rfl
@[simp] theorem countUp_doc (a n : Nat) : (countUp c a n).doc = c.doc := rfl
@[simp] theorem countUp_cur (a n : Nat) : (countUp c a n).cur = c.cur := rfl
@[simp] theorem countUp_ngl (a n : Nat) : (countUp c a n).ngl = c.ngl := rfl
@[simp] theorem countUp_cns (a n : Nat) : (countUp c a n).cns = c.cns := rfl
@[simp] theorem countUp_vit (a n : Nat) : (countUp c a n).vit = c.vit := rfl
@[simp] theorem countUp_pdm (a n : Nat) : (countUp c a n).pdm = c.pdm := rfl
@[simp] theorem countUp_aux (a n : Nat) : (countUp c a n).aux = c.aux := rfl
@[simp] theorem countUp_xbr (a n : Nat) : (countUp c a n).xbr = c.xbr := rfl
@[simp] theorem countUp_smb (a n : Nat) : (countUp c a n).smb = c.smb := rfl
@[simp] theorem countUp_jtag (a n : Nat) : (countUp c a n).jtag = c.jtag := rfl

@[simp] theorem countFld_deferred (f : Fld) (n : Nat) : (countFld c f n).deferred = c.deferred := rfl
@[simp] theorem countFld_readData (f : Fld) (n : Nat) : (countFld c f n).readData = c.readData := rfl
@[simp] theorem countFld_readResp (f : Fld) (n : Nat) : (countFld c f n).readResp = c.readResp := rfl
@[simp] theorem countFld_free (f : Fld) (n : Nat) : (countFld c f n).free = c.free := rfl
@[simp] theorem countFld_tmr (f : Fld) (n : Nat) : (countFld c f n).tmr = c.tmr := rfl
@[simp] theorem countFld_att (f : Fld) (n : Nat) : (countFld c f n).att = c.att := rfl
@[simp] theorem countFld_twn (f : Fld) (n : Nat) : (countFld c f n).twn = c.twn := rfl
@[simp] theorem countFld_ldg (f : Fld) (n : Nat) : (countFld c f n).ldg = c.ldg := rfl
@[simp] theorem countFld_glb (f : Fld) (n : Nat) : (countFld c f n).glb = c.glb := rfl
@[simp] theorem countFld_topo (f : Fld) (n : Nat) : (countFld c f n).topo = c.topo := rfl
@[simp] theorem countFld_ddr (f : Fld) (n : Nat) : (countFld c f n).ddr = c.ddr := rfl
@[simp] theorem countFld_svp (f : Fld) (n : Nat) : (countFld c f n).svp = c.svp := rfl
@[simp] theorem countFld_txs (f : Fld) (n : Nat) : (countFld c f n).txs = c.txs := rfl
@[simp] theorem countFld_pcie (f : Fld) (n : Nat) : (countFld c f n).pcie = c.pcie := rfl
@[simp] theorem countFld_lpe (f : Fld) (n : Nat) : (countFld c f n).lpe = c.lpe := rfl
@[simp] theorem countFld_ars (f : Fld) (n : Nat) : (countFld c f n).ars = c.ars := rfl
@[simp] theorem countFld_prg (f : Fld) (n : Nat) : (countFld c f n).prg = c.prg := rfl
@[simp] theorem countFld_doc (f : Fld) (n : Nat) : (countFld c f n).doc = c.doc := rfl
@[simp] theorem countFld_cur (f : Fld) (n : Nat) : (countFld c f n).cur = c.cur := rfl
@[simp] theorem countFld_ngl (f : Fld) (n : Nat) : (countFld c f n).ngl = c.ngl := rfl
@[simp] theorem countFld_cns (f : Fld) (n : Nat) : (countFld c f n).cns = c.cns := rfl
@[simp] theorem countFld_vit (f : Fld) (n : Nat) : (countFld c f n).vit = c.vit := rfl
@[simp] theorem countFld_pdm (f : Fld) (n : Nat) : (countFld c f n).pdm = c.pdm := rfl
@[simp] theorem countFld_aux (f : Fld) (n : Nat) : (countFld c f n).aux = c.aux := rfl
@[simp] theorem countFld_xbr (f : Fld) (n : Nat) : (countFld c f n).xbr = c.xbr := rfl
@[simp] theorem countFld_smb (f : Fld) (n : Nat) : (countFld c f n).smb = c.smb := rfl
@[simp] theorem countFld_jtag (f : Fld) (n : Nat) : (countFld c f n).jtag = c.jtag := rfl

@[simp] theorem raise_regs (k : Nat) (v : W) : (raise c k v).regs = c.regs := rfl
@[simp] theorem raise_deferred (k : Nat) (v : W) : (raise c k v).deferred = c.deferred := rfl
@[simp] theorem raise_readData (k : Nat) (v : W) : (raise c k v).readData = c.readData := rfl
@[simp] theorem raise_readResp (k : Nat) (v : W) : (raise c k v).readResp = c.readResp := rfl
@[simp] theorem raise_free (k : Nat) (v : W) : (raise c k v).free = c.free := rfl
@[simp] theorem raise_tmr (k : Nat) (v : W) : (raise c k v).tmr = c.tmr := rfl
@[simp] theorem raise_twn (k : Nat) (v : W) : (raise c k v).twn = c.twn := rfl
@[simp] theorem raise_ldg (k : Nat) (v : W) : (raise c k v).ldg = c.ldg := rfl
@[simp] theorem raise_glb (k : Nat) (v : W) : (raise c k v).glb = c.glb := rfl
@[simp] theorem raise_topo (k : Nat) (v : W) : (raise c k v).topo = c.topo := rfl
@[simp] theorem raise_ddr (k : Nat) (v : W) : (raise c k v).ddr = c.ddr := rfl
@[simp] theorem raise_svp (k : Nat) (v : W) : (raise c k v).svp = c.svp := rfl
@[simp] theorem raise_txs (k : Nat) (v : W) : (raise c k v).txs = c.txs := rfl
@[simp] theorem raise_pcie (k : Nat) (v : W) : (raise c k v).pcie = c.pcie := rfl
@[simp] theorem raise_lpe (k : Nat) (v : W) : (raise c k v).lpe = c.lpe := rfl
@[simp] theorem raise_ars (k : Nat) (v : W) : (raise c k v).ars = c.ars := rfl
@[simp] theorem raise_prg (k : Nat) (v : W) : (raise c k v).prg = c.prg := rfl
@[simp] theorem raise_doc (k : Nat) (v : W) : (raise c k v).doc = c.doc := rfl
@[simp] theorem raise_cur (k : Nat) (v : W) : (raise c k v).cur = c.cur := rfl
@[simp] theorem raise_ngl (k : Nat) (v : W) : (raise c k v).ngl = c.ngl := rfl
@[simp] theorem raise_cns (k : Nat) (v : W) : (raise c k v).cns = c.cns := rfl
@[simp] theorem raise_vit (k : Nat) (v : W) : (raise c k v).vit = c.vit := rfl
@[simp] theorem raise_pdm (k : Nat) (v : W) : (raise c k v).pdm = c.pdm := rfl
@[simp] theorem raise_aux (k : Nat) (v : W) : (raise c k v).aux = c.aux := rfl
@[simp] theorem raise_xbr (k : Nat) (v : W) : (raise c k v).xbr = c.xbr := rfl
@[simp] theorem raise_smb (k : Nat) (v : W) : (raise c k v).smb = c.smb := rfl
@[simp] theorem raise_jtag (k : Nat) (v : W) : (raise c k v).jtag = c.jtag := rfl

@[simp] theorem freeNext_regs : (freeNext c).regs = c.regs := rfl
@[simp] theorem freeNext_deferred : (freeNext c).deferred = c.deferred := rfl
@[simp] theorem freeNext_readData : (freeNext c).readData = c.readData := rfl
@[simp] theorem freeNext_readResp : (freeNext c).readResp = c.readResp := rfl
@[simp] theorem freeNext_tmr : (freeNext c).tmr = c.tmr := rfl
@[simp] theorem freeNext_att : (freeNext c).att = c.att := rfl
@[simp] theorem freeNext_twn : (freeNext c).twn = c.twn := rfl
@[simp] theorem freeNext_ldg : (freeNext c).ldg = c.ldg := rfl
@[simp] theorem freeNext_glb : (freeNext c).glb = c.glb := rfl
@[simp] theorem freeNext_topo : (freeNext c).topo = c.topo := rfl
@[simp] theorem freeNext_ddr : (freeNext c).ddr = c.ddr := rfl
@[simp] theorem freeNext_svp : (freeNext c).svp = c.svp := rfl
@[simp] theorem freeNext_txs : (freeNext c).txs = c.txs := rfl
@[simp] theorem freeNext_pcie : (freeNext c).pcie = c.pcie := rfl
@[simp] theorem freeNext_lpe : (freeNext c).lpe = c.lpe := rfl
@[simp] theorem freeNext_ars : (freeNext c).ars = c.ars := rfl
@[simp] theorem freeNext_prg : (freeNext c).prg = c.prg := rfl
@[simp] theorem freeNext_doc : (freeNext c).doc = c.doc := rfl
@[simp] theorem freeNext_cur : (freeNext c).cur = c.cur := rfl
@[simp] theorem freeNext_ngl : (freeNext c).ngl = c.ngl := rfl
@[simp] theorem freeNext_cns : (freeNext c).cns = c.cns := rfl
@[simp] theorem freeNext_vit : (freeNext c).vit = c.vit := rfl
@[simp] theorem freeNext_pdm : (freeNext c).pdm = c.pdm := rfl
@[simp] theorem freeNext_aux : (freeNext c).aux = c.aux := rfl
@[simp] theorem freeNext_xbr : (freeNext c).xbr = c.xbr := rfl
@[simp] theorem freeNext_smb : (freeNext c).smb = c.smb := rfl
@[simp] theorem freeNext_jtag : (freeNext c).jtag = c.jtag := rfl

@[simp] theorem defer_regs (e : W) (a : Nat) (v : W) : (defer c e a v).regs = c.regs := rfl
@[simp] theorem defer_readData (e : W) (a : Nat) (v : W) : (defer c e a v).readData = c.readData := rfl
@[simp] theorem defer_readResp (e : W) (a : Nat) (v : W) : (defer c e a v).readResp = c.readResp := rfl
@[simp] theorem defer_free (e : W) (a : Nat) (v : W) : (defer c e a v).free = c.free := rfl
@[simp] theorem defer_tmr (e : W) (a : Nat) (v : W) : (defer c e a v).tmr = c.tmr := rfl
@[simp] theorem defer_att (e : W) (a : Nat) (v : W) : (defer c e a v).att = c.att := rfl
@[simp] theorem defer_twn (e : W) (a : Nat) (v : W) : (defer c e a v).twn = c.twn := rfl
@[simp] theorem defer_ldg (e : W) (a : Nat) (v : W) : (defer c e a v).ldg = c.ldg := rfl
@[simp] theorem defer_glb (e : W) (a : Nat) (v : W) : (defer c e a v).glb = c.glb := rfl
@[simp] theorem defer_topo (e : W) (a : Nat) (v : W) : (defer c e a v).topo = c.topo := rfl
@[simp] theorem defer_ddr (e : W) (a : Nat) (v : W) : (defer c e a v).ddr = c.ddr := rfl
@[simp] theorem defer_svp (e : W) (a : Nat) (v : W) : (defer c e a v).svp = c.svp := rfl
@[simp] theorem defer_txs (e : W) (a : Nat) (v : W) : (defer c e a v).txs = c.txs := rfl
@[simp] theorem defer_pcie (e : W) (a : Nat) (v : W) : (defer c e a v).pcie = c.pcie := rfl
@[simp] theorem defer_lpe (e : W) (a : Nat) (v : W) : (defer c e a v).lpe = c.lpe := rfl
@[simp] theorem defer_ars (e : W) (a : Nat) (v : W) : (defer c e a v).ars = c.ars := rfl
@[simp] theorem defer_prg (e : W) (a : Nat) (v : W) : (defer c e a v).prg = c.prg := rfl
@[simp] theorem defer_doc (e : W) (a : Nat) (v : W) : (defer c e a v).doc = c.doc := rfl
@[simp] theorem defer_cur (e : W) (a : Nat) (v : W) : (defer c e a v).cur = c.cur := rfl
@[simp] theorem defer_ngl (e : W) (a : Nat) (v : W) : (defer c e a v).ngl = c.ngl := rfl
@[simp] theorem defer_cns (e : W) (a : Nat) (v : W) : (defer c e a v).cns = c.cns := rfl
@[simp] theorem defer_vit (e : W) (a : Nat) (v : W) : (defer c e a v).vit = c.vit := rfl
@[simp] theorem defer_pdm (e : W) (a : Nat) (v : W) : (defer c e a v).pdm = c.pdm := rfl
@[simp] theorem defer_aux (e : W) (a : Nat) (v : W) : (defer c e a v).aux = c.aux := rfl
@[simp] theorem defer_xbr (e : W) (a : Nat) (v : W) : (defer c e a v).xbr = c.xbr := rfl
@[simp] theorem defer_smb (e : W) (a : Nat) (v : W) : (defer c e a v).smb = c.smb := rfl
@[simp] theorem defer_jtag (e : W) (a : Nat) (v : W) : (defer c e a v).jtag = c.jtag := rfl

@[simp] theorem answer_regs (v : W) : (answer c v).regs = c.regs := rfl
@[simp] theorem answer_deferred (v : W) : (answer c v).deferred = c.deferred := rfl
@[simp] theorem answer_free (v : W) : (answer c v).free = c.free := rfl
@[simp] theorem answer_tmr (v : W) : (answer c v).tmr = c.tmr := rfl
@[simp] theorem answer_att (v : W) : (answer c v).att = c.att := rfl
@[simp] theorem answer_twn (v : W) : (answer c v).twn = c.twn := rfl
@[simp] theorem answer_ldg (v : W) : (answer c v).ldg = c.ldg := rfl
@[simp] theorem answer_glb (v : W) : (answer c v).glb = c.glb := rfl
@[simp] theorem answer_topo (v : W) : (answer c v).topo = c.topo := rfl
@[simp] theorem answer_ddr (v : W) : (answer c v).ddr = c.ddr := rfl
@[simp] theorem answer_svp (v : W) : (answer c v).svp = c.svp := rfl
@[simp] theorem answer_txs (v : W) : (answer c v).txs = c.txs := rfl
@[simp] theorem answer_pcie (v : W) : (answer c v).pcie = c.pcie := rfl
@[simp] theorem answer_lpe (v : W) : (answer c v).lpe = c.lpe := rfl
@[simp] theorem answer_ars (v : W) : (answer c v).ars = c.ars := rfl
@[simp] theorem answer_prg (v : W) : (answer c v).prg = c.prg := rfl
@[simp] theorem answer_doc (v : W) : (answer c v).doc = c.doc := rfl
@[simp] theorem answer_cur (v : W) : (answer c v).cur = c.cur := rfl
@[simp] theorem answer_ngl (v : W) : (answer c v).ngl = c.ngl := rfl
@[simp] theorem answer_cns (v : W) : (answer c v).cns = c.cns := rfl
@[simp] theorem answer_vit (v : W) : (answer c v).vit = c.vit := rfl
@[simp] theorem answer_pdm (v : W) : (answer c v).pdm = c.pdm := rfl
@[simp] theorem answer_aux (v : W) : (answer c v).aux = c.aux := rfl
@[simp] theorem answer_xbr (v : W) : (answer c v).xbr = c.xbr := rfl
@[simp] theorem answer_smb (v : W) : (answer c v).smb = c.smb := rfl
@[simp] theorem answer_jtag (v : W) : (answer c v).jtag = c.jtag := rfl

@[simp] theorem ledgerPut_deferred (t k : Nat) (i r : Bool) (n : Nat) (l : List Byte) : (ledgerPut c t k i r n l).deferred = c.deferred := rfl
@[simp] theorem ledgerPut_readData (t k : Nat) (i r : Bool) (n : Nat) (l : List Byte) : (ledgerPut c t k i r n l).readData = c.readData := rfl
@[simp] theorem ledgerPut_readResp (t k : Nat) (i r : Bool) (n : Nat) (l : List Byte) : (ledgerPut c t k i r n l).readResp = c.readResp := rfl
@[simp] theorem ledgerPut_free (t k : Nat) (i r : Bool) (n : Nat) (l : List Byte) : (ledgerPut c t k i r n l).free = c.free := rfl
@[simp] theorem ledgerPut_tmr (t k : Nat) (i r : Bool) (n : Nat) (l : List Byte) : (ledgerPut c t k i r n l).tmr = c.tmr := rfl
@[simp] theorem ledgerPut_att (t k : Nat) (i r : Bool) (n : Nat) (l : List Byte) : (ledgerPut c t k i r n l).att = c.att := rfl
@[simp] theorem ledgerPut_twn (t k : Nat) (i r : Bool) (n : Nat) (l : List Byte) : (ledgerPut c t k i r n l).twn = c.twn := rfl
@[simp] theorem ledgerPut_glb (t k : Nat) (i r : Bool) (n : Nat) (l : List Byte) : (ledgerPut c t k i r n l).glb = c.glb := rfl
@[simp] theorem ledgerPut_topo (t k : Nat) (i r : Bool) (n : Nat) (l : List Byte) : (ledgerPut c t k i r n l).topo = c.topo := rfl
@[simp] theorem ledgerPut_ddr (t k : Nat) (i r : Bool) (n : Nat) (l : List Byte) : (ledgerPut c t k i r n l).ddr = c.ddr := rfl
@[simp] theorem ledgerPut_svp (t k : Nat) (i r : Bool) (n : Nat) (l : List Byte) : (ledgerPut c t k i r n l).svp = c.svp := rfl
@[simp] theorem ledgerPut_txs (t k : Nat) (i r : Bool) (n : Nat) (l : List Byte) : (ledgerPut c t k i r n l).txs = c.txs := rfl
@[simp] theorem ledgerPut_pcie (t k : Nat) (i r : Bool) (n : Nat) (l : List Byte) : (ledgerPut c t k i r n l).pcie = c.pcie := rfl
@[simp] theorem ledgerPut_lpe (t k : Nat) (i r : Bool) (n : Nat) (l : List Byte) : (ledgerPut c t k i r n l).lpe = c.lpe := rfl
@[simp] theorem ledgerPut_ars (t k : Nat) (i r : Bool) (n : Nat) (l : List Byte) : (ledgerPut c t k i r n l).ars = c.ars := rfl
@[simp] theorem ledgerPut_prg (t k : Nat) (i r : Bool) (n : Nat) (l : List Byte) : (ledgerPut c t k i r n l).prg = c.prg := rfl
@[simp] theorem ledgerPut_doc (t k : Nat) (i r : Bool) (n : Nat) (l : List Byte) : (ledgerPut c t k i r n l).doc = c.doc := rfl
@[simp] theorem ledgerPut_cur (t k : Nat) (i r : Bool) (n : Nat) (l : List Byte) : (ledgerPut c t k i r n l).cur = c.cur := rfl
@[simp] theorem ledgerPut_ngl (t k : Nat) (i r : Bool) (n : Nat) (l : List Byte) : (ledgerPut c t k i r n l).ngl = c.ngl := rfl
@[simp] theorem ledgerPut_cns (t k : Nat) (i r : Bool) (n : Nat) (l : List Byte) : (ledgerPut c t k i r n l).cns = c.cns := rfl
@[simp] theorem ledgerPut_vit (t k : Nat) (i r : Bool) (n : Nat) (l : List Byte) : (ledgerPut c t k i r n l).vit = c.vit := rfl
@[simp] theorem ledgerPut_pdm (t k : Nat) (i r : Bool) (n : Nat) (l : List Byte) : (ledgerPut c t k i r n l).pdm = c.pdm := rfl
@[simp] theorem ledgerPut_aux (t k : Nat) (i r : Bool) (n : Nat) (l : List Byte) : (ledgerPut c t k i r n l).aux = c.aux := rfl
@[simp] theorem ledgerPut_xbr (t k : Nat) (i r : Bool) (n : Nat) (l : List Byte) : (ledgerPut c t k i r n l).xbr = c.xbr := rfl
@[simp] theorem ledgerPut_smb (t k : Nat) (i r : Bool) (n : Nat) (l : List Byte) : (ledgerPut c t k i r n l).smb = c.smb := rfl
@[simp] theorem ledgerPut_jtag (t k : Nat) (i r : Bool) (n : Nat) (l : List Byte) : (ledgerPut c t k i r n l).jtag = c.jtag := rfl

@[simp] theorem raise_raised (k : Nat) (v : W) :
    (raise c k v).att.raised = c.att.raised ++ [⟨k, v, false, c.tmr.period, netTime c⟩] := rfl

@[simp] theorem defer_deferred (e : W) (a : Nat) (v : W) : (defer c e a v).deferred = c.deferred ++ [⟨e, a, v⟩] := rfl

@[simp] theorem answer_readData (v : W) : (answer c v).readData = v := rfl

@[simp] theorem answer_readResp (v : W) : (answer c v).readResp = 0 := rfl

end Sys2Proof.Machine
end

