-- ==== Sys2Proof/Laws/Mem.lean ====
section
/-! SUPPORT. The memories: every operation on LPDDR6, the NOR and the MRAM keeps their canonical form; a byte after a write. -/

namespace Sys2Proof.Machine

/-- LPDDR6 at reset has the canonical form. -/
theorem ddrWf_reset : Memory.wf Chip.reset.ddr = true := rfl

/-- A write of LPDDR6 keeps its canonical form. -/
theorem ddrWf_ddrWrite (c : Chip) (a : Nat) (l : List Byte) (h : Memory.wf c.ddr = true) : Memory.wf (ddrWrite c a l).ddr = true :=
  mapWf_mapWriteRun _ l c.ddr a h

theorem ite_ddr {p : Prop} [Decidable p] (a b : Chip) : (if p then a else b).ddr = if p then a.ddr else b.ddr := by split <;> rfl

@[simp] theorem errorEvent_ddr (c : Chip) (k m b : Nat) : (errorEvent c k m b).ddr = c.ddr := by
  unfold errorEvent raiseLimited
  repeat' split
  all_goals rfl

/-- The record of a matrix error leaves LPDDR6. -/
@[simp] theorem matrixError_ddr (c : Chip) (k m t : Nat) (w : Bool) (a b : Nat) : (matrixError c k m t w a b).ddr = c.ddr := by
  unfold matrixError
  rw [errorEvent_ddr, ite_ddr, wr_ddr, wr_ddr, wr_ddr, ite_self, ite_ddr, countUp_ddr, wr_ddr, ite_self]

/-- A master's write of LPDDR6, granted or denied, keeps its canonical form. -/
theorem ddrWf_memWrite (c : Chip) (m a : Nat) (l : List Byte) (h : Memory.wf c.ddr = true) : Memory.wf (memWrite c m a l).ddr = true := by
  unfold memWrite
  split
  · exact ddrWf_ddrWrite c a l h
  · unfold ddrNote; split
    · exact h
    · rw [matrixError_ddr]; exact h

/-- A write of the NOR keeps its canonical form. -/
theorem norWf_norWrite (c : Chip) (a : Nat) (l : List Byte) (h : mapWf (fun _ => 0xFF) c.glb.nor = true) :
    mapWf (fun _ => 0xFF) (norWrite c a l).glb.nor = true := mapWf_mapWriteRun _ l c.glb.nor a h

/-- A write of the MRAM keeps its canonical form. -/
theorem mramWf_mramWrite (c : Chip) (a : Nat) (l : List Byte) (h : mapWf (fun _ => 0xFF) c.glb.mram = true) :
    mapWf (fun _ => 0xFF) (mramWrite c a l).glb.mram = true := mapWf_mapWriteRun _ l c.glb.mram a h

/-- A byte of LPDDR6 after a write. -/
theorem ddrByte_ddrWrite (c : Chip) (a b : Nat) (l : List Byte) :
    ddrByte (ddrWrite c a l) b = if a ≤ b ∧ b < a + l.length then l.getD (b - a) 0 else ddrByte c b :=
  mapRead_mapWriteRun _ l c.ddr a b

/-- A write of LPDDR6 changes no register. -/
@[simp] theorem rd_ddrWrite (c : Chip) (a b : Nat) (l : List Byte) : rd (ddrWrite c a l) b = rd c b := rfl

end Sys2Proof.Machine
end

