-- ==== Sys2Proof/Laws/Ops.lean ====
section
/-! SUPPORT. The named operations: a read after a write of registers and fields, what a raised event leaves, and what the shared
write operations do on a device outside a pair. -/

namespace Sys2Proof.Machine

/-! ### Registers and fields -/

/-- A read after a write. -/
theorem rd_wr (c : Chip) (a b : Nat) (v : W) : rd (wr c a v) b = if a = b then v else rd c b :=
  mapRead_mapWrite resetReg c.regs a b v

@[simp] theorem rd_wr_same (c : Chip) (a : Nat) (v : W) : rd (wr c a v) a = v := by rw [rd_wr, if_pos rfl]

theorem rd_wr_other (c : Chip) {a b : Nat} (v : W) (h : a ≠ b) : rd (wr c a v) b = rd c b := by rw [rd_wr, if_neg h]

theorem fld_eq (c : Chip) (f : Fld) : fld c f = wbits (rd c f.addr) f.lo f.width := rfl

theorem fld_wr_other (c : Chip) {a : Nat} (v : W) {f : Fld} (h : a ≠ f.addr) : fld (wr c a v) f = fld c f := by
  rw [fld_eq, rd_wr_other c v h, fld_eq]

/-- A field reads back the value given to it. -/
theorem fld_setFld_same (c : Chip) (f : Fld) (v : Nat) (h : f.lo + f.width ≤ 32) :
    fld (setFld c f v) f = v % 2 ^ f.width := by
  unfold setFld
  rw [fld_eq, rd_wr_same, wbits_putField_same _ _ _ _ h]

/-- A field of another register is as before. -/
theorem fld_setFld_addr (c : Chip) {f g : Fld} (v : Nat) (h : f.addr ≠ g.addr) : fld (setFld c f v) g = fld c g :=
  fld_wr_other c _ h

/-- Another field of the same register is as before. -/
theorem fld_setFld_other (c : Chip) {f g : Fld} (v : Nat) (ha : f.addr = g.addr) (hw : f.lo + f.width ≤ 32)
    (hd : f.lo + f.width ≤ g.lo ∨ g.lo + g.width ≤ f.lo) : fld (setFld c f v) g = fld c g := by
  unfold setFld
  rw [fld_eq, ha, rd_wr_same, wbits_putField_other _ _ _ _ _ _ hw hd, fld_eq]

/-- Another register is as before. -/
theorem rd_setFld_other (c : Chip) {f : Fld} {a : Nat} (v : Nat) (h : f.addr ≠ a) : rd (setFld c f v) a = rd c a :=
  rd_wr_other c _ h

/-- A one-bit field reads back the truth value given to it. -/
theorem fldB_setB_same (c : Chip) (f : Fld) (b : Bool) (h : f.lo + f.width ≤ 32) (hw : f.width = 1) :
    fldB (setB c f b) f = b := by
  unfold fldB setB
  rw [fld_setFld_same c f _ h, hw]
  cases b <;> rfl

theorem fldB_wr_other (c : Chip) {a : Nat} (v : W) {f : Fld} (h : a ≠ f.addr) : fldB (wr c a v) f = fldB c f := by
  unfold fldB; rw [fld_wr_other c v h]

theorem fldB_setFld_addr (c : Chip) {f g : Fld} (v : Nat) (h : f.addr ≠ g.addr) : fldB (setFld c f v) g = fldB c g := by
  unfold fldB; rw [fld_setFld_addr c v h]

theorem fldB_setB_addr (c : Chip) {f g : Fld} (b : Bool) (h : f.addr ≠ g.addr) : fldB (setB c f b) g = fldB c g :=
  fldB_setFld_addr c _ h

theorem fldB_setB_other (c : Chip) {f g : Fld} (b : Bool) (ha : f.addr = g.addr) (hw : f.lo + f.width ≤ 32)
    (hd : f.lo + f.width ≤ g.lo ∨ g.lo + g.width ≤ f.lo) : fldB (setB c f b) g = fldB c g := by
  unfold fldB setB; rw [fld_setFld_other c _ ha hw hd]

theorem fld_setB_addr (c : Chip) {f g : Fld} (b : Bool) (h : f.addr ≠ g.addr) : fld (setB c f b) g = fld c g :=
  fld_setFld_addr c _ h

theorem rd_setB_other (c : Chip) {f : Fld} {a : Nat} (b : Bool) (h : f.addr ≠ a) : rd (setB c f b) a = rd c a :=
  rd_setFld_other c _ h

@[simp] theorem rd_raise (c : Chip) (k : Nat) (v : W) (a : Nat) : rd (raise c k v) a = rd c a := rfl
@[simp] theorem fld_raise (c : Chip) (k : Nat) (v : W) (f : Fld) : fld (raise c k v) f = fld c f := rfl
@[simp] theorem fldB_raise (c : Chip) (k : Nat) (v : W) (f : Fld) : fldB (raise c k v) f = fldB c f := rfl
@[simp] theorem period_wr (c : Chip) (a : Nat) (v : W) : period (wr c a v) = period c := rfl
@[simp] theorem period_setFld (c : Chip) (f : Fld) (v : Nat) : period (setFld c f v) = period c := rfl
@[simp] theorem period_setB (c : Chip) (f : Fld) (b : Bool) : period (setB c f b) = period c := rfl
@[simp] theorem period_raise (c : Chip) (k : Nat) (v : W) : period (raise c k v) = period c := rfl

/-- The registers keep their canonical form. -/
theorem regsWf_wr (c : Chip) (a : Nat) (v : W) (h : mapWf resetReg c.regs = true) :
    mapWf resetReg (wr c a v).regs = true := mapWf_mapWrite resetReg c.regs a v h

/-! ### Commands -/

/-- A command on a device that no reset holds. -/
theorem run_live (s : State) (f : Chip → Chip) (h : s.held = none) : run s f = .next { s with chip := f s.chip } := by
  simp [run, h]

/-- A command while a reset is held changes nothing. -/
theorem run_held (s : State) (f : Chip → Chip) (h : s.held.isSome = true) : run s f = .next s := by
  simp [run, h]

/-- A write row acts where its register can be reached. -/
theorem hostWrite_reach (c : Chip) (a : Nat) (k : Chip → Chip) (h : reachable c a = true) : hostWrite c a k = k c := by
  simp [hostWrite, h]

/-- A read row acts where its register can be reached. -/
theorem hostRead_reach (c : Chip) (a : Nat) (k : Chip → Chip) (h : reachable c a = true) : hostRead c a k = k c := by
  simp [hostRead, h]

/-- No change waits on a device outside a pair that has its verdict. -/
theorem changeWaits_single (c : Chip) (n : Nat) (h2 : c.twn.paired = false) (h4 : fld c TWN_STAT_state ≠ 4) :
    changeWaits c n = false := by
  simp [changeWaits, journalFull, h2, h4]

/-- A device outside a pair accepts state changes. -/
theorem mayChange_single (c : Chip) (h1 : fldB c TWN_CTL_twin_en = false) : mayChange c = true := by
  simp [mayChange, holdsLoan, h1]

/-- On a device outside a pair a state change is taken with E = P + 2 (R57). -/
theorem stateChangeAs_single (c : Chip) (d : W) (p : JPayload) (k : Chip → W → Chip)
    (h1 : fldB c TWN_CTL_twin_en = false) (h2 : c.twn.paired = false) (h3 : c.twn.applying = false)
    (h4 : fld c TWN_STAT_state ≠ 4) : stateChangeAs c d p k = k c (c.tmr.period + 2) := by
  simp [stateChangeAs, changeWaits_single c _ h2 h4, holdsLoan, effOf, journalAppend, h1, h2, h3]

/-- A state-change write row on a device outside a pair. -/
theorem hostChange_single (c : Chip) (a : Nat) (v : W) (k : Chip → W → Chip) (h : reachable c a = true)
    (h1 : fldB c TWN_CTL_twin_en = false) (h2 : c.twn.paired = false) (h3 : c.twn.applying = false)
    (h4 : fld c TWN_STAT_state ≠ 4) : hostChange c a v k = k c (c.tmr.period + 2) := by
  unfold hostChange stateChange
  rw [hostWrite_reach c a _ h, stateChangeAs_single c _ _ k h1 h2 h3 h4]

/-- A judged state-change write row on a device outside a pair: what the judgement refuses changes what the refusal says, the rest is
taken with E = P + 2. -/
theorem hostChangeIf_single (c : Chip) (a : Nat) (v : W) (judge : Chip → Option Chip) (k : Chip → W → Chip)
    (h : reachable c a = true) (h1 : fldB c TWN_CTL_twin_en = false) (h2 : c.twn.paired = false) (h3 : c.twn.applying = false)
    (h4 : fld c TWN_STAT_state ≠ 4) :
    hostChangeIf c a v judge k = match judge c with | some d => d | none => k c (c.tmr.period + 2) := by
  unfold hostChangeIf stateChange
  rw [hostWrite_reach c a _ h]
  simp only [mayChange_single c h1, if_true]
  rw [stateChangeAs_single c _ _ k h1 h2 h3 h4] <;> cases judge c <;> rfl

/-- A judged write row whose judgement refuses nothing, on a device outside a pair: taken with E = P + 2. -/
theorem hostChangeIf_taken (c : Chip) (a : Nat) (v : W) (judge : Chip → Option Chip) (k : Chip → W → Chip)
    (h : reachable c a = true) (h1 : fldB c TWN_CTL_twin_en = false) (h2 : c.twn.paired = false) (h3 : c.twn.applying = false)
    (h4 : fld c TWN_STAT_state ≠ 4) (hj : judge c = none) : hostChangeIf c a v judge k = k c (c.tmr.period + 2) := by
  rw [hostChangeIf_single c a v judge k h h1 h2 h3 h4, hj]

/-- A judged write row whose judgement refuses, on a device outside a pair: what the refusal says. -/
theorem hostChangeIf_refused (c : Chip) (a : Nat) (v : W) (judge : Chip → Option Chip) (k : Chip → W → Chip) (d : Chip)
    (h : reachable c a = true) (h1 : fldB c TWN_CTL_twin_en = false) (h2 : c.twn.paired = false) (h3 : c.twn.applying = false)
    (h4 : fld c TWN_STAT_state ≠ 4) (hj : judge c = some d) : hostChangeIf c a v judge k = d := by
  rw [hostChangeIf_single c a v judge k h h1 h2 h3 h4, hj]

/-- A state change without an effective period of its own, on a device outside a pair: taken at once. -/
theorem hostChangeNow_single (c : Chip) (a : Nat) (v : W) (k : Chip → Chip) (h : reachable c a = true)
    (h1 : fldB c TWN_CTL_twin_en = false) (h2 : c.twn.paired = false) (h3 : c.twn.applying = false)
    (h4 : fld c TWN_STAT_state ≠ 4) : hostChangeNow c a v k = k c := by
  unfold hostChangeNow
  rw [hostChange_single c a v _ h h1 h2 h3 h4]
  simp [h2]

end Sys2Proof.Machine
end

