-- ==== Sys2Proof/Tests/Slice0.lean ====
section
/-! SUPPORT. Tests: ill-formed commands, worked examples of the spec, and for every statement a state and operands that meet its
hypotheses. -/

open Sys2Proof Sys2Proof.Machine

namespace Sys2Proof.Tests

set_option Elab.async false

/-! ### States the tests begin from -/

def dev (f : Chip → Chip) : State := { State.reset with chip := f State.reset.chip }
def base : State := State.reset
def wTopo : Topo := ⟨1, 1, 0, 1, 1, [0], 0, [(0, ⟨0, false, 0, []⟩)]⟩
def wCell : State := dev (fun c => setFld { c with topo := some wTopo, lpe := { c.lpe with bankA := [(15, 1)] } } (NGL_L_STAT_state 0) 6)
def wRun : State := dev (fun c =>
  { c with topo := some wTopo, lpe := { c.lpe with bankA := [(15, 1)], cells := [(0, { Cell.reset with mode := .run })] } })
def wHold : State := dev (fun c =>
  { c with topo := some wTopo, lpe := { c.lpe with bankA := [(15, 1)], cells := [(0, { Cell.reset with mode := .hold })] } })
def wCellCmd : State := dev (fun c =>
  { c with topo := some wTopo, lpe := { c.lpe with bankA := [(15, 1)], cmds := [(0, ⟨0x02000000, 0⟩)] } })
def wRoutine (w : Nat) (ph : DocPhase) : Routine :=
  { freshRoutine Chip.reset 0x20 ⟨0x20000000, 0, 0, 0, 0, 0⟩ with word := w, phase := ph, regs := List.replicate 16 4 }
def wRuns (r : Routine) : State := dev (fun c => { c with doc := { c.doc with cur := some r } })
def wRuns2 (r : Routine) (f : Chip → Chip) : State := { (wRuns r) with chip := f (wRuns r).chip }
def wOpR (op : Nat) : Routine := wRoutine (microword 1 0 0 0 0 op 2 3 4 0 0 0x00800000) .issue
def wOp (op : Nat) : State := wRuns (wOpR op)
def wSeqR (n : Nat) : Routine := { wRoutine (microword 1 0 n 0 0x20 0 2 3 4 0 0 0) .next with stack := [7] }
def wSeq (n : Nat) : State := wRuns (wSeqR n)
def wAluR (sub : Nat) : Routine := wRoutine (microword 1 0 0 0 0 1 2 3 4 1 sub 7) .issue
def wAlu (sub : Nat) : State := wRuns (wAluR sub)
def wLook : State := wRuns2 (wOpR 8) (fun c => { c with ars := { c.ars with cache := [(63, { CacheEntry.empty with st := 2, id := 4 })] } })
def wColl : State := wRuns2 (wOpR 0x14) (fun c => { c with doc := { c.doc with stepB := some 9 } })
def wContent : List Byte := List.replicate 60 0 ++ leBytes 4 (crc32c (List.replicate 60 0))
def wLoad : State := wRuns2 (wOpR 9) (fun c => { c with ars := { c.ars with cache := [(4, { CacheEntry.empty with st := 2, id := 4, content := wContent })] } })
def wApplyR : Routine :=
  { wRoutine 0 .fetch with opcode := 0x10, pc := 0x100, cmd := ⟨0x10000000, 0x10004, 0, 0, 0, 0⟩, regs := [0x10004, 0, 0, 0] ++ List.replicate 12 0 }
def wApply : State := wRuns2 wApplyR (fun c => { c with ars := { c.ars with cache := [(4, { CacheEntry.empty with st := 2, id := 4, content := wContent })] } })
def wArs (w : W) : State := dev (fun c => { c with ars := { c.ars with cmd := some (w, 0), store := [(4, 1)] } })
def wPrg (o : W) (cache : List (Nat × CacheEntry)) : State := dev (fun c =>
  setSlot (wr (setFld { c with ars := { c.ars with cache := cache }, prg := { c.prg with mem := [(0, 100), (1, 0x00040000)], run := some (PrgRun.fresh 0 (some o)) } }
    (PRG_S_HDR_step_count 0) 1) (PRG_S_SPAN 0) 100) 0 3)
def wRef (b : W) : StepRef := ⟨b, 0, 0, stepOf 100 0x00040000, b.toNat⟩

/-! ### The WellFormed checks refuse what no environment sends -/

theorem test_wf_pps_tick : wellFormed (.ppsInEdge 255 200) = false ∧ wellFormed (.ppsInEdge 254 200) = true := by decide
theorem test_wf_pps_out_tick : wellFormed (.ppsOutRise 255) = false ∧ wellFormed (.ppsOutFall 255) = false := by decide
theorem test_wf_hb_tick : wellFormed (.partnerHbEdge 255) = false ∧ wellFormed (.partnerHbEdge 0) = true := by decide
theorem test_wf_transmit_tick : wellFormed (.transmitStart 0 255) = false ∧ wellFormed (.transmitEnd 0 255) = false := by decide
theorem test_wf_gate_tick : wellFormed (.gclSwitch 0 255) = false ∧ wellFormed (.gateEntryChange 0 255) = false := by decide
theorem test_wf_uplink_length : wellFormed (.uplinkFrame 0 0 0 (List.replicate 145 0) 0 0 true) = false := by decide +kernel
theorem test_wf_request_master : wellFormed (.matrixGrant 0 [⟨14, 0, 32, none⟩]) = false := by decide
theorem test_wf_request_crosses_16k : wellFormed (.matrixGrant 0 [⟨0, 16383, 2, none⟩]) = false := by decide
theorem test_wf_request_data : wellFormed (.matrixGrant 0 [⟨0, 0, 2, some [1]⟩]) = false := by decide
theorem test_wf_pcie_empty : wellFormed (.pcieRequest false 0 0 15 none) = false := by decide
theorem test_wf_pcie_data : wellFormed (.pcieRequest true 0 2 15 (some [1, 2, 3, 4])) = false := by decide
theorem test_wf_link_speed : wellFormed (.pcieLinkUp 0 8 0 0) = false ∧ wellFormed (.pcieLinkUp 5 3 0 0) = false := by decide
theorem test_wf_overrange_code : wellFormed (.adcConversionDone 5 true) = false ∧ wellFormed (.adcConversionDone 0x7FFF true) = true := by decide

/-! ### The chip of a next state, and what the tests read of it -/

def chipOf (o : Host.Outcome State Fault Refusal) : Chip :=
  match o with
  | .next t => t.chip
  | _ => Chip.reset

/-! ### Worked examples of the spec -/

/-- R23's example: tag 0x0003 is 9 periods after 0xFFFA, 0xFFF0 is 10 before it. -/
theorem test_tag_compare : tagDiff 0x0003 0xFFFA = 9 ∧ tagDiff 0xFFF0 0xFFFA = -10 := by decide

/-- R39's example: port 300 through the reference fabric. -/
theorem test_wire_trace : nextWire 301 0 9 1 = 406 ∧ nextWire 406 1 9 1 = 203 ∧ nextWire 203 2 9 1 = 229 := by decide

/-- R69's example: a step of k = −12,001 with 80 ns to slew. -/
def wStep : State := dev (fun c => { c with tmr := { c.tmr with
  adj := some ⟨BitVec.ofInt 64 (-3000170), false, false, 0⟩, timeNs := 5000000500, bndNs := 5000000500 } })
theorem test_adjustment_steps : (chipOf (execAdjustmentEffect wStep)).tmr.bndNs = 4997000250 ∧ (chipOf (execAdjustmentEffect wStep)).tmr.slew = 80
    ∧ fld (chipOf (execAdjustmentEffect wStep)) TMR_STAT_step_cnt = 1 := by decide +kernel
/-- R69's example: a period that slews gains 4 ns. -/
theorem test_slew_tick : (chipOf (execSlewCorrection (dev (fun c => setFld { c with tmr := { c.tmr with slew := 80 } } TMR_CTL_slew_rate 4)))).tmr.slew = 79 := by
  decide +kernel

/-- R56: the increment is held between 0.999 ns and 1.001 ns. -/
theorem test_increment_clamped : rd (chipOf (execIncCommit 0xFFFFFFFF (dev (fun c => wr c TMR_INC_NS 2)))) TMR_INC_FRAC = 0x00418937 := by decide +kernel

/-- R88's and R99's example: t_b = 0.00083264 of bar 10 and cross 12,000, φ̂ = −0.0136 and t̂_b = 0.00065612, within a few LSB. -/
def wPar : Par := ⟨-2097152, 65536, 16384, 0, 0, 0, 81920, 52, 131020, 40, 36, [], 0, true⟩
theorem test_measurement : (ratioB 10 (recipSigma (12010 * 65536)) - 3492).natAbs ≤ 2 ∧ (ratioC (12000 * 65536) (recipSigma (12010 * 65536)) - 4190812).natAbs ≤ 64 := by
  decide +kernel
theorem test_prediction : (phiHat wPar ⟨660603, 658506, 0, -23069, 16358⟩ - (-57042)).natAbs ≤ 64 ∧ (predictB wPar (-57042) - 2752).natAbs ≤ 16 := by
  decide +kernel

/-- R103's and R104's example: h_eq has code 10,240 on branch 1 in CROSS, and v_h = 0.158284 gives code 10,373. -/
theorem test_hold_code : heatCode (heatEq wPar (phiRef 1 1)) = 10240 ∧ heaterOut 663891 65535 0 = 10373 := by decide +kernel

/-- R268's example: the dwells of three matchings. -/
theorem test_dwells : epochDwells [6000, 3000, 1000] 400 8 = [221, 123, 56] := by decide

/-- R372's example: cell 459 has frequency index 13. -/
theorem test_frequency_index : freqIndex 459 = 13 := by decide

/-- R577's example: an urgent conversion of channel 33 after an overrange one. -/
def wConv (k : ConvKind) (ch : Nat) (o : Bool) : State := dev (fun c => { c with aux := { c.aux with conv := some (k, ch), ovrLast := o } })
theorem test_urgent_result : rd (chipOf (execAdcConversionDone 0x099A false (wConv .urgent 33 true))) AUX_URG_RES = 0x6021099A := by decide +kernel
theorem test_overrange_result : (chipOf (execAdcConversionDone 0x7FFF true (wConv (.seq 0 1) 6 false))).aux.queue = [0x80467FFF] := by decide +kernel

/-- R373, R585: at ψ = 0 the sine is T[0] = 25, and an amplitude of 16,384 adds (16,384 × 25 + 2^14) >> 15 = 13. -/
theorem test_sine_at_start : sineCode (wr Chip.reset (AUX_DAC_SHAPE 2) 0x80004000) 2 5 5 = 0x800D := by decide +kernel

/-- R584: the zero code of the bipolar ranges is 32,768. -/
theorem test_zero_codes : [0, 1, 2, 3, 4, 5].map zeroCode = [0, 0, 32768, 32768, 0, 0] := by decide

/-- R587: a thermistor at its nominal resistance is at 25.0 °C, 3,200 / 128 °C. -/
theorem test_nominal_thermistor : (betaKelvin (2 ^ 96) 3435).map (fun k => (k / 2 ^ 73 - 27315 * 2 ^ 23 / 100 + 2 ^ 15) / 2 ^ 16) = some 3200 := by
  decide +kernel

/-- R537's example: partition 1, the log at 0x600 MiB of 128 MiB, is written by the ledger, master 8, and by no host. -/
def wPart : Chip := wr (wr (wr (wr Chip.reset (DDR_PART_BASE 1) 0x600) (DDR_PART_SIZE 1) 128) (DDR_PART_RD 1) 0x2103) (DDR_PART_WR 1) 0x0100
theorem test_partition_rights : partGrants wPart 8 true 0x60000000 32 = true ∧ partGrants wPart 1 true 0x60000000 32 = false
    ∧ partGrants wPart 1 false 0x67FFFFE0 32 = true ∧ partGrants wPart 1 false 0x67FFFFE0 64 = false := by decide +kernel

/-- R527: with reset priorities the Docent, master 4, goes before the PCIe endpoint, master 1. -/
theorem test_arbitration : chooseGrant Chip.reset 4 [⟨1, 0, 4, none⟩, ⟨4, 0, 4, none⟩] = some ⟨4, 0, 4, none⟩ := by decide +kernel

/-- R623: the fixed bits of IDCODE: the stepping, 0x4608 and bit 0. -/
theorem test_idcode_fixed_bits : ∀ j : Nat, j < 4 → bitsAt (2 ^ 28 + 0x4608 * 2 ^ 12 + j * 2 + 1) 12 16 = 0x4608
    ∧ bitsAt (2 ^ 28 + 0x4608 * 2 ^ 12 + j * 2 + 1) 28 4 = 1 ∧ bitsAt (2 ^ 28 + 0x4608 * 2 ^ 12 + j * 2 + 1) 0 1 = 1 := by decide
theorem test_extest_needs_test_en : (chipOf (execExtestIr base)).jtag.ir = 0xFF := by decide +kernel

/-- R12: a misaligned write is refused, its record names kind 5. -/
theorem test_misaligned_write : fld (chipOf (execRegisterWrite 1 2 15 0 base)) XBR_ERR_INFO_kind = 5
    ∧ (chipOf (execRegisterWrite 1 2 15 0 base)).readResp = 1 := by decide +kernel
/-- R14: PCIe reads clear an RC count, JTAG reads do not. -/
theorem test_clear_on_read : rd (chipOf (execClearOnRead 1 (BitVec.ofNat 26 XBR_ERR_CNT) (dev (fun c => wr c XBR_ERR_CNT 7)))) XBR_ERR_CNT = 0
    ∧ rd (chipOf (execClearOnRead 13 (BitVec.ofNat 26 XBR_ERR_CNT) (dev (fun c => wr c XBR_ERR_CNT 7)))) XBR_ERR_CNT = 7 := by decide +kernel

/-- R508: a boot-halted device answers all ones outside GLB and NVL. -/
theorem test_boot_halt_read : (chipOf (execClearOnRead 1 (BitVec.ofNat 26 PDM_ON0) (dev (fun c => setFld c GLB_BOOT_STAT_state 2)))).readData = 0xFFFFFFFF := by
  decide +kernel

/-- R500: a COLD reset holds the device, and time does not pass in it. -/
theorem test_cold_reset_holds : (chipOf (execAdjustmentEffect { wStep with held := some .cold })).tmr.slew = 0 := by decide +kernel
/-- R548: in a PIN reset the SMBus window answers NOT_READY. -/
theorem test_smbus_not_ready : fld (chipOf (execSmbWrite [1, 2, 3, 4] 1 { base with held := some .pin })) SBM_STAT_status = 2 := by decide +kernel

/-- R560: OFF of the management cores is refused with reason 1. -/
theorem test_domain_refused : fld (chipOf (execDomainSwitch 54 (dev (fun c => { c with pdm := { c.pdm with waits := [(54, 0x80000000, 0)] } })))) (PDM_DOM_reason 54) = 1 := by
  decide +kernel
/-- R559: a gallery whose state is lost holds its cells in OFF. -/
theorem test_gallery_state_lost : (chipOf (execDomainOffDone 0 { wRun with chip := { wRun.chip with pdm := { wRun.chip.pdm with switching := [(0, false, 0)] } } })).lpe.cells = [] := by
  decide +kernel

/-! ### Commands wait in order -/

theorem test_queue_order : (match step { base with pending := [.idcodeIr, .bypassIr] } with
    | .next t => t.pending == [.bypassIr]
    | _ => false) = true := by decide +kernel

/-! ### Witnesses: the hypotheses of each statement are met -/

theorem test_wit_time_writes :
    MayChange base TMR_INC_NS ∧ MayChange base TMR_INC_FRAC
    ∧ (MayChange base TMR_ADJ_CTL_go.addr ∧ fldB base.chip TMR_STAT_adj_busy = false
      ∧ fldB base.chip TMR_STAT_tod_armed = false ∧ wbit 0x1 0 = true ∧ wbit 0x1 3 = false)
    ∧ (let s := dev (fun c => setB c TMR_CTL_tod_src true)
      MayChange s TMR_ADJ_CTL_go.addr ∧ fldB s.chip TMR_STAT_adj_busy = false
      ∧ fldB s.chip TMR_STAT_tod_armed = false ∧ fldB s.chip TMR_CTL_tod_src = true ∧ wbit 0x8 0 = false
      ∧ wbit 0x8 3 = true) := by refine ⟨?_, ?_, ?_, ?_⟩ <;> decide +kernel

def wInc : State := dev (fun c => { c with tmr := { c.tmr with incPend := some (2 ^ 32, 0) } })
def wRate : State := dev (fun c => { c with tmr := { c.tmr with cxPend := some (5, 0) } })
def wStampEntry : TxStamp := ⟨⟨7, 0, 0⟩, 1, false⟩
def wStamps : State := dev (fun c => { c with tmr := { c.tmr with txq := [[], [], [], [wStampEntry]] } })
def wPpsIn : State := dev (fun c => setB c TMR_CTL_pps_in_en true)
def wPpsRise : State :=
  dev (fun c => { (setB (setB c TMR_CTL_pps_out_en true) TMR_CTL_pps_out_valid_only false) with
    tmr := { c.tmr with timeNs := 1000000000, lastNs := 999999999, bndNs := 1000000000 } })
def wPpsFall : State := dev (fun c => { (wr c TMR_PPS_OUT_WIDTH 1) with tmr := { c.tmr with ppsOut := some 0, ticks := 2000 } })

theorem test_wit_time_effects :
    (wInc.held = none ∧ wInc.chip.tmr.incPend = some (2 ^ 32, 0) ∧ due wInc.chip 0 = true ∧ wInc.chip.tmr.cxPend = none)
    ∧ (wRate.held = none ∧ wRate.chip.tmr.incPend = none ∧ wRate.chip.tmr.cxPend = some (5, 0)
      ∧ due wRate.chip 0 = true)
    ∧ MayWrite base TMR_TIME_LO ∧ MayWrite base TMR_PPS_IN_LO
    ∧ (MayWrite wStamps (TMR_P_TXTS_META 3) ∧ nth [] wStamps.chip.tmr.txq 3 = [wStampEntry])
    ∧ (wPpsIn.held = none ∧ fldB (advanceTo wPpsIn.chip 40) TMR_CTL_pps_in_en = true
      ∧ (advanceTo wPpsIn.chip 40).tmr.ppsEdge = none ∧ fldB (advanceTo wPpsIn.chip 40) TMR_STAT_pps_in_new = false
      ∧ fldB (advanceTo wPpsIn.chip 40) TMR_STAT_tod_armed = false)
    ∧ (wPpsRise.held = none ∧ ppsOutEnabled (advanceTo wPpsRise.chip 0) = true ∧ (advanceTo wPpsRise.chip 0).tmr.ppsOut = none
      ∧ ppsPhase (advanceTo wPpsRise.chip 0) (netTime (advanceTo wPpsRise.chip 0))
        < (tdiff (netTime (advanceTo wPpsRise.chip 0)) (advanceTo wPpsRise.chip 0).tmr.lastNs).toNat)
    ∧ (wPpsFall.held = none ∧ (advanceTo wPpsFall.chip 5).tmr.ppsOut = some 0
      ∧ 1000 * rn (advanceTo wPpsFall.chip 5) TMR_PPS_OUT_WIDTH ≤ (advanceTo wPpsFall.chip 5).tmr.ticks - 0) := by
  refine ⟨?_, ?_, ?_, ?_, ?_, ?_, ?_, ?_⟩ <;> decide +kernel

theorem test_wit_cell_commands_wait_for_their_period :
        (MayChange wCell (LPE_CELL_CMD_cmd 0).addr ∧ cmdReason wCell.chip (0 : Fin 36) (putField 0 24 4 0) = none)
    ∧ (MayChange base (LPE_CELL_CMD_cmd 0).addr ∧ cmdReason base.chip (0 : Fin 36) (putField 0 24 4 0) = some 2
    ∧ cmdReason base.chip (0 : Fin 36) (putField 0x00020000 24 4 1) = some 1 ∧ cmdReason base.chip (0 : Fin 36) (putField 0 24 4 2) = some 2
    ∧ cmdReason wHold.chip (0 : Fin 36) (putField 0 24 4 3) = some 3 ∧ cmdReason wRun.chip (0 : Fin 36) (putField 0 24 4 4) = some 3)
    ∧ (wbits 0x05000000 24 4 = 5 ∧ wbits 0x02000100 24 4 ≤ 4 ∧ wbit 0x02000100 8 = true ∧ cellLive base.chip (cmdCell (0 : Fin 36) 0) = false
    ∧ cellLive wCell.chip (cmdCell (0 : Fin 36) 0x02000000) = true ∧ mapGet wCell.chip.lpe.cmds (0 : Fin 36) = none)
    ∧ (MayChange wCell (LPE_CELL_CMD_cmd 0).addr ∧ cmdReason wCell.chip (0 : Fin 36) (putField 0 24 4 1) = none ∧ cmdReason wCell.chip (0 : Fin 36) (putField 0x100 24 4 1) = none)
    ∧ (MayChange wCell (LPE_CELL_CMD_cmd 0).addr ∧ cmdReason wCell.chip (0 : Fin 36) (putField 0 24 4 2) = none ∧ cmdReason wCell.chip (0 : Fin 36) (putField 0x100 24 4 2) = none)
    ∧ (MayChange wRun (LPE_CELL_CMD_cmd 0).addr ∧ cmdReason wRun.chip (0 : Fin 36) (putField 0 24 4 3) = none ∧ cmdReason wRun.chip (0 : Fin 36) (putField 0x100 24 4 3) = none)
    ∧ (MayChange wHold (LPE_CELL_CMD_cmd 0).addr ∧ cmdReason wHold.chip (0 : Fin 36) (putField 0 24 4 4) = none ∧ cmdReason wHold.chip (0 : Fin 36) (putField 0x100 24 4 4) = none)
    ∧ (wCellCmd.held = none ∧ mapGet wCellCmd.chip.lpe.cmds 0 = some ⟨0x02000000, 0⟩ ∧ due wCellCmd.chip 0 = true
      ∧ wbit 0x02000000 8 = false
      ∧ cellReason (setB { wCellCmd.chip with lpe := { wCellCmd.chip.lpe with cmds := mapDel wCellCmd.chip.lpe.cmds 0 } }
          (LPE_CMD_STAT_busy 0) false) (cmdCell 0 0x02000000) (wbits 0x02000000 24 4) = none)
    ∧ (let s := dev (fun c => { c with lpe := { c.lpe with cmds := [(0, ⟨0x02000100, 0⟩)] } })
      s.held = none ∧ mapGet s.chip.lpe.cmds (0 : Fin 36) = some ⟨0x02000100, 0⟩ ∧ due s.chip 0 = true ∧ wbit 0x02000100 8 = true) := by
  refine ⟨?_, ?_, ?_, ?_, ?_, ?_, ?_, ?_, ?_⟩ <;> decide +kernel

theorem test_wit_inventory_commands_wait_and_act :
        (MayChange wCell INV_CMD ∧ wCell.chip.lpe.invCmd = none ∧ (mapCellOf wCell.chip (invCell (putField 0 28 4 0))).isSome = true)
    ∧ (MayChange base INV_CMD ∧ ∀ k : Fin 5, mapCellOf base.chip (invCell (putField 0 28 4 k)) = none)
    ∧ (MayChange wCell INV_CMD ∧ wCell.chip.lpe.invCmd = none
      ∧ (mapCellOf wCell.chip (invCell (putField 0x0C000000 28 4 1))).isSome = true ∧ wbits (putField 0x0C000000 28 4 1) 26 2 ≠ 0)
    ∧ (MayChange wCell INV_CMD ∧ wCell.chip.lpe.invCmd = none
      ∧ (mapCellOf wCell.chip (invCell (putField 0 28 4 2))).isSome = true)
    ∧ (MayChange wCell INV_CMD ∧ wCell.chip.lpe.invCmd = none
      ∧ (mapCellOf wCell.chip (invCell (putField 0 28 4 3))).isSome = true)
    ∧ (MayChange wCell INV_CMD ∧ wCell.chip.lpe.invCmd = none
      ∧ (mapCellOf wCell.chip (invCell (putField 0 28 4 4))).isSome = true)
    ∧ (let s := dev (fun c => { c with lpe := { c.lpe with invCmd := some (0x20000000, 0) } })
      s.held = none ∧ s.chip.lpe.invCmd = some (0x20000000, 0) ∧ due s.chip 0 = true)
    ∧ (MayChange base (LPE_TRIM_trim_tgt 0 127).addr) := by
  refine ⟨?_, ?_, ?_, ?_, ?_, ?_, ?_, ?_⟩ <;> decide +kernel

theorem test_wit_gallery_period_work :
        ((let s := dev (fun c => { (setFld c GLB_BOOT_STAT_state 1) with topo := some wTopo, lpe := { c.lpe with computedP := 1 } })
    s.held = none ∧ computesCells s.chip = true ∧ bootHalted s.chip = false ∧ s.chip.lpe.computedP ≠ s.chip.tmr.period)
    ∧ base.chip.lpe.computedP = base.chip.tmr.period)
    ∧ (let s := dev (fun c => { (setFld c GLB_BOOT_STAT_state 1) with topo := some wTopo, lpe := { c.lpe with computedP := 1 } })
      s.held = none ∧ computesCells s.chip = true ∧ bootHalted s.chip = false ∧ s.chip.lpe.computedP ≠ s.chip.tmr.period
      ∧ 7 ∉ (mappedCells s.chip).map Prod.fst)
    ∧ (wCell.held = none ∧ (∀ e ∈ mappedCells wCell.chip, ∀ i ∈ e.2.nbs, i < 8192))
    ∧ (let s := dev (fun c => { c with lpe := { c.lpe with open_ := [(3, 0)] }, tmr := { c.tmr with period := 9 } })
      s.held = none ∧ mapGet s.chip.lpe.open_ (3 : Fin 36) = some 0 ∧ changedCells s.chip (3 : Fin 36) 0 = []
      ∧ pReached s.chip.tmr.period (0 + 9) = true)
    ∧ (MayWrite base (0xA40000 + (0x3FFFC : BitVec 18).toNat) ∧ fld base.chip GLB_BOOT_STAT_state ≠ 1
    ∧ (let s := dev (fun c => setFld c GLB_BOOT_STAT_state 1); MayWrite s (0xA40000 + (0x3FFFC : BitVec 18).toNat) ∧ fld s.chip GLB_BOOT_STAT_state = 1))
    ∧ ((291 : Nat) ≤ 511 % 512)
    ∧ (let s := dev (fun c => { c with lpe := { c.lpe with commits := [(35, 0)] } })
      s.held = none ∧ mapGet s.chip.lpe.commits (35 : Fin 36) = some 0 ∧ due s.chip 0 = true)
    ∧ ((let s := dev (fun c => setB c CNS_CTL_host_bank true)
      MayChange s (stagingReg (35 : Fin 36) (2047 : BitVec 11).toNat) ∧ fldB s.chip CNS_CTL_host_bank = true ∧ committing s.chip (35 : Fin 36) = false)
    ∧ (let s := dev (fun c => setB { c with lpe := { c.lpe with commits := [(35, 0)] } } CNS_CTL_host_bank true)
      MayChange s (stagingReg (35 : Fin 36) (2047 : BitVec 11).toNat) ∧ fldB s.chip CNS_CTL_host_bank = true ∧ committing s.chip (35 : Fin 36) = true)
    ∧ (let s := dev (fun c => setB c CNS_CTL_host_bank false)
      MayChange s (stagingReg (0 : Fin 36) (0 : BitVec 11).toNat) ∧ fldB s.chip CNS_CTL_host_bank = false)) := by
  refine ⟨?_, ?_, ?_, ?_, ?_, ?_, ?_, ?_⟩ <;> decide +kernel

theorem test_wit_alu_words_compute_and_set_flags :
        (AtOp (wAlu 0) (wAluR 0) 1 ∧ mwSub (wAluR 0).word = 0)
    ∧ (AtOp (wAlu 1) (wAluR 1) 1 ∧ mwSub (wAluR 1).word = 1)
    ∧ (AtOp (wAlu 2) (wAluR 2) 1 ∧ mwSub (wAluR 2).word = 2)
    ∧ (AtOp (wAlu 3) (wAluR 3) 1 ∧ mwSub (wAluR 3).word = 3)
    ∧ (AtOp (wAlu 4) (wAluR 4) 1 ∧ mwSub (wAluR 4).word = 4)
    ∧ (AtOp (wAlu 5) (wAluR 5) 1 ∧ mwSub (wAluR 5).word = 5)
    ∧ (AtOp (wAlu 6) (wAluR 6) 1 ∧ mwSub (wAluR 6).word = 6)
    ∧ (AtOp (wAlu 7) (wAluR 7) 1 ∧ mwSub (wAluR 7).word = 7)
    ∧ (AtOp (wAlu 8) (wAluR 8) 1 ∧ mwSub (wAluR 8).word = 8) := by
  refine ⟨?_, ?_, ?_, ?_, ?_, ?_, ?_, ?_, ?_⟩ <;> decide +kernel

theorem test_wit_docent_operations_act :
        (AtOp (wOp 0) (wOpR 0) 0)
    ∧ (AtOp (wOp 2) (wOpR 2) 2)
    ∧ (AtOp (wOp 3) (wOpR 3) 3)
    ∧ (AtOp (wOp 4) (wOpR 4) 4 ∧ rdbBlock (toW (mwImm (wOpR 4).word) + aluA (wOpR 4)).toNat = true
      ∧ (masterRead (wOp 4).chip 4 (toW (mwImm (wOpR 4).word) + aluA (wOpR 4)).toNat).readResp = 0)
    ∧ (AtOp (wOp 6) (wOpR 6) 6)
    ∧ (AtOp wLook (wOpR 8) 8 ∧ residentEntry wLook.chip (BitVec.ofNat 16 (wbits (aluA (wOpR 8)) 0 16)) = some 63)
    ∧ (AtOp wLoad (wOpR 9) 9 ∧ (aluA (wOpR 9)).toNat ≤ 63 ∧ (entryOf wLoad.chip (aluA (wOpR 9)).toNat).st = 2
      ∧ hdrCrcOk (entryOf wLoad.chip (aluA (wOpR 9)).toNat).content = true
      ∧ bodyCrcOk (entryOf wLoad.chip (aluA (wOpR 9)).toNat).content = true)
    ∧ (AtOp (wOp 0x0A) (wOpR 0x0A) 0x0A ∧ 1 ≤ pdiff (aluA (wOpR 0x0A)) (wOp 0x0A).chip.tmr.period ∧ (wOp 0x0A).chip.doc.sched = none)
    ∧ (AtOp (wOp 0x0B) (wOpR 0x0B) 0x0B ∧ 1 ≤ pdiff (aluA (wOpR 0x0B)) (wOp 0x0B).chip.tmr.period ∧ (wOp 0x0B).chip.doc.sched = none)
    ∧ (AtOp (wOp 0xC) (wOpR 0xC) 0xC)
    ∧ (AtOp (wOp 0xD) (wOpR 0xD) 0xD ∧ (aluA (wOpR 0xD)).toNat ≤ 4607)
    ∧ (AtOp (wOp 0x10) (wOpR 0x10) 0x10 ∧ (aluA (wOpR 0x10)).toNat < 64)
    ∧ (AtOp (wOp 0x11) (wOpR 0x11) 0x11)
    ∧ (AtOp wColl (wOpR 0x14) 0x14 ∧ wColl.chip.doc.stepB = some 9)
    ∧ (AtOp (wOp 0x15) (wOpR 0x15) 0x15)
    ∧ (AtOp (wOp 0x18) (wOpR 0x18) 0x18)
    ∧ (AtOp (wOp 0x19) (wOpR 0x19) 0x19 ∧ (wOpR 0x19).cmd.source < 4 ∧ (wOpR 0x19).written = false
      ∧ (wOpR 0x19).partial_ = false ∧ wbit (aluA (wOpR 0x19)) 0 = false ∧ mwImm (wOpR 0x19).word % 16 ≠ 6)
    ∧ (AtOp (wOp 0x1A) (wOpR 0x1A) 0x1A)
    ∧ (AtOp (wOp 0x16) (wOpR 0x16) 0x16)
    ∧ (AtOp (wOp 5) (wOpR 5) 5 ∧ wrbBlock (toW (mwImm (wOpR 5).word) + aluA (wOpR 5)).toNat = true
      ∧ (toW (mwImm (wOpR 5).word) + aluA (wOpR 5)).toNat % 4 = 0
      ∧ reachable (wOp 5).chip (toW (mwImm (wOpR 5).word) + aluA (wOpR 5)).toNat = true)
    ∧ (residentEntry (wOp 8).chip (BitVec.ofNat 16 (wbits (aluA (wOpR 8)) 0 16)) = none ∧ (entryOf (wOp 9).chip (aluA (wOpR 9)).toNat).st ≠ 2
    ∧ (let s := wRuns2 (wOpR 9) (fun c => { c with ars := { c.ars with cache := [(4, { CacheEntry.empty with st := 2, content := List.replicate 64 1 })] } })
      AtOp s (wOpR 9) 9 ∧ (entryOf s.chip (aluA (wOpR 9)).toNat).st = 2 ∧ hdrCrcOk (entryOf s.chip (aluA (wOpR 9)).toNat).content = false)
    ∧ (let s := wRuns2 (wOpR 0xA) (fun c => { c with tmr := { c.tmr with period := 9 } })
      AtOp s (wOpR 0xA) 0xA ∧ pdiff (aluA (wOpR 0xA)) s.chip.tmr.period < 1)
    ∧ (let r := { wOpR 0xD with regs := List.replicate 16 5000 }; AtOp (wRuns r) r 0xD ∧ 4607 < (aluA r).toNat)
    ∧ (let r := { wOpR 0x10 with regs := List.replicate 16 64 }; AtOp (wRuns r) r 0x10 ∧ 64 ≤ (aluA r).toNat)
    ∧ (wOp 0x14).chip.doc.stepB = none
    ∧ (let r := { wOpR 4 with regs := List.replicate 16 0xFFFFFF }; AtOp (wRuns r) r 4 ∧ rdbBlock (toW (mwImm r.word) + aluA r).toNat = false
      ∧ wrbBlock (toW (mwImm r.word) + aluA r).toNat = false)) := by
  refine ⟨?_, ?_, ?_, ?_, ?_, ?_, ?_, ?_, ?_, ?_, ?_, ?_, ?_, ?_, ?_, ?_, ?_, ?_, ?_, ?_, ?_⟩ <;> decide +kernel

theorem test_wit_microwords_are_fetched_and_sequenced :
        (let r := { wRoutine 0 .fetch with pc := 0x101 }
      Runs (wRuns r) r ∧ r.phase = .fetch ∧ eccCheck (microAt (wRuns r).chip (r.pc % 8192)) = some (microAt (wRuns r).chip 0x101, false)
      ∧ mwIntr (microAt (wRuns r).chip 0x101) = false ∧ opListed (mwOp (microAt (wRuns r).chip 0x101)) = true
      ∧ (mwOp (microAt (wRuns r).chip 0x101) = 1 → mwSub (microAt (wRuns r).chip 0x101) ≤ 8))
    ∧ (Runs (wRuns (wRoutine 0 .long)) (wRoutine 0 .long) ∧ (wRoutine 0 .long).phase = .long ∧ (wRoutine 0 .long).badAccess = false)
    ∧ (let s := dev (fun c => { c with tmr := { c.tmr with period := 1 }, doc := { c.doc with cur := some (wRoutine 0 .wait) } })
      Runs s (wRoutine 0 .wait) ∧ (wRoutine 0 .wait).phase = .wait ∧ s.chip.tmr.period ≠ (wRoutine 0 .wait).waitP)
    ∧ (AtSeq (wSeq 0) (wSeqR 0) 0)
    ∧ (AtSeq (wSeq 1) (wSeqR 1) 1)
    ∧ (AtSeq (wSeq 2) (wSeqR 2) 2 ∧ (wSeqR 2).stack.length < 8)
    ∧ (AtSeq (wSeq 3) (wSeqR 3) 3 ∧ (wSeqR 3).stack = [7])
    ∧ ((let r := { wSeqR 2 with stack := List.replicate 8 0 }; AtSeq (wRuns r) r 2 ∧ 8 ≤ r.stack.length)
    ∧ (let r := { wSeqR 3 with stack := [] }; AtSeq (wRuns r) r 3 ∧ r.stack = [])
    ∧ (let r := { wRoutine 0 .long with badAccess := true }; Runs (wRuns r) r ∧ r.phase = .long ∧ r.badAccess = true)
    ∧ (let r := { wRoutine 0 .fetch with pc := 0x1900 }
      let s := wRuns2 r (fun c => csPut c (4 * 0x1900) 3)
      Runs s r ∧ eccCheck (microAt s.chip (r.pc % 8192)) = none))
    ∧ (AtSeq (wSeq 4) (wSeqR 4) 4)
    ∧ (AtSeq (wSeq 5) (wSeqR 5) 5)
    ∧ (AtSeq (wSeq 7) (wSeqR 7) 7)
    ∧ (let s := dev (fun c => { c with doc := { c.doc with cnsQ := [⟨0x28000001, 0, 0, 0, 3, 1⟩] } })
      s.held = none ∧ docStopped s.chip = false ∧ s.chip.doc.cur = none ∧ s.chip.doc.csHold = false
      ∧ popCommand s.chip = some (⟨0x28000001, 0, 0, 0, 3, 1⟩, { s.chip with doc := { s.chip.doc with cnsQ := [] } })
      ∧ nextUrgent s.chip = none ∧ entryValid s.chip 0x28 = true)
    ∧ (base.held = none ∧ docStopped base.chip = false ∧ base.chip.doc.resetEntry = true)
    ∧ (let r := { wRoutine 0 .next with periods := 70000 }
      Runs (wRuns r) r ∧ fld (wRuns r).chip DOC_CTL_run_limit < r.periods) := by
  refine ⟨?_, ?_, ?_, ?_, ?_, ?_, ?_, ?_, ?_, ?_, ?_, ?_, ?_, ?_⟩ <;> decide +kernel

theorem test_wit_vendor_routines_act :
        (let r := { wRoutine 0 .fetch with opcode := 0x12, cmd := ⟨0x12000000, 0x11000, 1, 0, 0, 0⟩ }
      let s := wRuns r
      Runs s r ∧ r.opcode = 0x12 ∧ r.phase = .fetch ∧ r.cmd.source < 4 ∧ r.stage = 0 ∧ nextUrgent s.chip = none
      ∧ epochHold s.chip = false ∧ wbits r.cmd.w1 0 13 ≤ 4607 ∧ wbit r.cmd.w1 16 = true ∧ s.chip.doc.sched = none)
    ∧ (let r := { wRoutine 0 .fetch with opcode := 0x18 }
      Runs (wRuns r) r ∧ r.opcode = 0x18 ∧ r.phase = .fetch ∧ r.cmd.source < 4)
    ∧ (let r := { wRoutine 0 .fetch with opcode := 0x19 }
      Runs (wRuns r) r ∧ r.opcode = 0x19 ∧ r.phase = .fetch ∧ r.cmd.source < 4)
    ∧ (let r := { wRoutine 0 .fetch with opcode := 0x28 }
      Runs (wRuns r) r ∧ r.opcode = 0x28 ∧ r.phase = .fetch ∧ r.cmd.source < 4)
    ∧ (let r := { wRoutine 0 .fetch with opcode := 0x30 }
      Runs (wRuns r) r ∧ r.opcode = 0x30 ∧ r.phase = .fetch ∧ r.cmd.source < 4)
    ∧ (let r := { wRoutine 0 .fetch with opcode := 8, cmd := internalCmd 8 4 }
      Runs (wRuns r) r ∧ r.opcode = 0x08 ∧ 4 ≤ r.cmd.source)
    ∧ (let r := { wRoutine 0 .fetch with opcode := 9, cmd := internalCmd 9 4 }
      let s := wRuns2 r (fun c => { c with doc := { c.doc with saved := some (wRoutine 0 .next) } })
      Runs s r ∧ r.opcode = 0x09 ∧ 4 ≤ r.cmd.source ∧ s.chip.doc.saved = some (wRoutine 0 .next))
    ∧ (let r := { wRoutine 0 .fetch with opcode := 2, cmd := internalCmd 2 5 }
      let s := wRuns2 r (fun c => { c with doc := { c.doc with stepB := some 0 } })
      Runs s r ∧ r.opcode = 0x02 ∧ 4 ≤ r.cmd.source ∧ settledAll s.chip = true)
    ∧ (let r := { wRoutine 0 .fetch with opcode := 0xF, cmd := internalCmd 0xF 5 }
      let s := wRuns2 r (fun c => { c with doc := { c.doc with saved := some (wRoutine 0 .next) } })
      Runs s r ∧ r.opcode = 0x0F ∧ 4 ≤ r.cmd.source ∧ r.stage = 0 ∧ s.chip.doc.saved = some (wRoutine 0 .next)
      ∧ s.chip.doc.forceBack = false ∧ entryPolicy s.chip (wRoutine 0 .next).opcode = 0)
    ∧ (let r := wApplyR
      let s := wApply
      Runs s r ∧ r.opcode = 0x10 ∧ r.pc = 0x100 ∧ r.phase = .fetch ∧ r.cmd.source < 4 ∧ r.regs.length = 16
      ∧ nextUrgent s.chip = none ∧ epochHold s.chip = false ∧ s.chip.doc.sched = none ∧ wbit (reg r 0) 16 = true
      ∧ r.movedTold = false ∧ reg r 7 = 0 ∧ residentEntry s.chip (BitVec.ofNat 16 (wbits (reg r 0) 0 16)) = some 4
      ∧ (entryOf s.chip 4).st = 2 ∧ hdrCrcOk (entryOf s.chip 4).content = true ∧ bodyCrcOk (entryOf s.chip 4).content = true) := by
  refine ⟨?_, ?_, ?_, ?_, ?_, ?_, ?_, ?_, ?_, ?_⟩ <;> decide +kernel

theorem test_wit_docent_requests_wait_and_act :
        (MayChange base (DOC_CMD 3) ∧ fldB base.chip DOC_CTL_host_en = true ∧ hostQueued base.chip < 8
    ∧ (let s := dev (fun c => setB c DOC_CTL_host_en false); MayChange s (DOC_CMD 3) ∧ fldB s.chip DOC_CTL_host_en = false))
    ∧ (let s := dev (fun c => { c with doc := { c.doc with incoming := [(⟨0x10000001, 0, 0, 0, 0, 1⟩, 0)] } })
      s.held = none ∧ s.chip.doc.incoming = [(⟨0x10000001, 0, 0, 0, 0, 1⟩, 0)] ∧ due s.chip 0 = true
      ∧ (⟨0x10000001, 0, 0, 0, 0, 1⟩ : DocCmd).source = 0 ∧ wbits 0x10000001 24 8 < 0xC0)
    ∧ (let s := dev (fun c => { c with doc := { c.doc with table := [(8, 0x80000200)] } })
      MayChange s DOC_URG ∧ urgentValid s.chip (wbits 8 0 8) = true)
    ∧ (MayChange base DOC_URG ∧ urgentValid base.chip (wbits 0 0 8) = false
    ∧ (let s := dev (fun c => { c with doc := { c.doc with abort := some ⟨1, 0, true, none⟩ } }); MayChange s DOC_ABORT ∧ s.chip.doc.abort ≠ none))
    ∧ (let s := dev (fun c => { c with doc := { c.doc with urgWait := [(9, 0)] } })
      s.held = none ∧ s.chip.doc.urgWait = [(9, 0)] ∧ due s.chip 0 = true)
    ∧ (let s := dev (fun c => { c with doc := { c.doc with urgPend := [(9, 0)] }, tmr := { c.tmr with period := 17 } })
      s.held = none ∧ s.chip.doc.urgPend = [(9, 0)] ∧ 16 < pdiff s.chip.tmr.period 0 ∧ (9, 0) ∉ s.chip.doc.urgTold)
    ∧ (MayChange base DOC_ABORT ∧ base.chip.doc.abort = none)
    ∧ (let x : DocCmd := ⟨0x10000001, 0, 0, 0, 0, 1⟩
      let s := dev (fun c => { c with doc := { c.doc with hostQ := [x], abort := some ⟨1, 0, true, none⟩ } })
      s.held = none ∧ s.chip.doc.abort = some ⟨1, 0, true, none⟩ ∧ due s.chip 0 = true ∧ wbit 1 31 = false
      ∧ s.chip.doc.cur = none ∧ s.chip.doc.saved = none ∧ (queuedCommands s.chip).find? (hasTag 1) = some x)
    ∧ (let s := dev (fun c => { c with doc := { c.doc with sched := some ⟨false, 0, 1⟩ }, lpe := { c.lpe with pendEmpty := false } })
      s.held = none ∧ s.chip.doc.sched = some ⟨false, 0, 1⟩ ∧ due s.chip 0 = true ∧ s.chip.lpe.pendEmpty = false)
    ∧ (let s := dev (fun c => { c with doc := { c.doc with sched := some ⟨true, 0, 1⟩ } })
      s.held = none ∧ s.chip.doc.sched = some ⟨true, 0, 1⟩ ∧ due s.chip 0 = true)
    ∧ (MayChange base DOC_CUST_CTL ∧ wbit 0 1 = false ∧ fldB base.chip DOC_CUST_CTL_load = false)
    ∧ ((let s := dev (fun c => setB c DOC_CUST_CTL_load true); MayChange s DOC_CUST_CTL ∧ fldB s.chip DOC_CUST_CTL_load = true)
    ∧ MayChange base DOC_CUST_CTL ∧ fldB base.chip DOC_CUST_CTL_load = false)
    ∧ (let s := dev (fun c => { c with doc := { c.doc with custWait := true } })
      s.held = none ∧ s.chip.doc.custWait = true ∧ customerRuns s.chip = false ∧ queuedCommands s.chip = [])
    ∧ (let s := dev (fun c => setB c DOC_CUST_CTL_load true)
      MayChange s (0x2000000 + (0x1FFFC : BitVec 17).toNat) ∧ fldB s.chip DOC_CUST_CTL_load = true
      ∧ 0x18000 ≤ (0x1FFFC : BitVec 17).toNat)
    ∧ (let s := dev (fun c => setFld c DOC_CUST_STAT_result 3)
      s.held = none ∧ fld s.chip DOC_CUST_STAT_result = 3)
    ∧ (let s := dev (fun c => { c with doc := { c.doc with done := [⟨0x10, 0, 1, 7, false, false, 0, 0, 9⟩] } })
      MayWrite s DOC_DONE0 ∧ s.chip.doc.done = [⟨0x10, 0, 1, 7, false, false, 0, 0, 9⟩]) := by
  refine ⟨?_, ?_, ?_, ?_, ?_, ?_, ?_, ?_, ?_, ?_, ?_, ?_, ?_, ?_, ?_, ?_⟩ <;> decide +kernel

theorem test_wit_mode_changes_prepare_and_commit :
        (MayChange base DOC_EPOCH_REQ ∧ epochReason base.chip (wbits 0x1001 0 2) = 0)
    ∧ (MayChange base DOC_EPOCH_REQ ∧ epochReason base.chip (wbits 0x1002 0 2) ≠ 0)
    ∧ (let s := dev (fun c => setB c DOC_EPOCH_STAT_preparing true)
      s.held = none ∧ epochBusy s.chip = true ∧ s.chip.doc.epoch.started = false ∧ due s.chip s.chip.doc.epoch.q = true)
    ∧ (let s := dev (fun c => setB { c with doc := { c.doc with epoch := { c.doc.epoch with started := true, c := 1, decided := none } } } DOC_EPOCH_STAT_preparing true)
      s.held = none ∧ epochBusy s.chip = true ∧ s.chip.doc.epoch.started = true ∧ s.chip.doc.epoch.decided = none
      ∧ due s.chip (s.chip.doc.epoch.c - 1) = true ∧ epochMissing s.chip = [])
    ∧ (let s := dev (fun c => setB { c with doc := { c.doc with epoch := { c.doc.epoch with started := true, parts := [100], c := 1, decided := none } } } DOC_EPOCH_STAT_preparing true)
      s.held = none ∧ epochBusy s.chip = true ∧ s.chip.doc.epoch.started = true ∧ s.chip.doc.epoch.decided = none
      ∧ due s.chip (s.chip.doc.epoch.c - 1) = true ∧ epochMissing s.chip ≠ [])
    ∧ (let s := dev (fun c => setB { c with doc := { c.doc with epoch := { c.doc.epoch with started := true, decided := some true } } } DOC_EPOCH_STAT_preparing true)
      s.held = none ∧ epochBusy s.chip = true ∧ s.chip.doc.epoch.decided = some true ∧ due s.chip s.chip.doc.epoch.c = true)
    ∧ (let s := dev (fun c => setFld { c with doc := { c.doc with epoch := { c.doc.epoch with last := some (0, 0), behind := [143] } }, tmr := { c.tmr with period := 64 } } (NGL_L_STAT_state 143) 6)
      s.held = none ∧ s.chip.doc.epoch.last = some (0, 0) ∧ (143 : Fin 144).val ∈ s.chip.doc.epoch.behind ∧ due s.chip (0 + 64) = true
      ∧ linkState s.chip (143 : Fin 144) = 6 ∧ linkHeld s.chip = false) := by
  refine ⟨?_, ?_, ?_, ?_, ?_, ?_, ?_⟩ <;> decide +kernel

theorem test_wit_arrangements_are_stored_and_paged :
        (MayChange base ARS_CMD ∧ fldB base.chip ARS_STAT_busy = false)
    ∧ (let s := dev (fun c => setB c ARS_STAT_busy true)
      MayChange s ARS_CMD ∧ fldB s.chip ARS_STAT_busy = true)
    ∧ (let s := wArs 0x20000004
      s.held = none ∧ s.chip.ars.cmd = some (0x20000004, 0) ∧ due s.chip 0 = true
      ∧ wbits 0x20000004 28 4 = 2 ∧ inUse s.chip (BitVec.ofNat 16 (wbits 0x20000004 0 16)) = false
      ∧ idReserved s.chip (wbits 0x20000004 0 16) = false ∧ storeState s.chip (wbits 0x20000004 0 16) = 1
      ∧ wbits 0x30000004 28 4 = 3)
    ∧ (let s := dev (fun c => { c with ars := { c.ars with accede := some (4, [1]) } })
      s.held = none ∧ s.chip.ars.accede = some (4, [1]))
    ∧ (let s := dev (fun c => { c with ars := { c.ars with store := [(4, 1)], due := [⟨9, 4, true⟩] } })
      s.held = none ∧ s.chip.ars.fill = none ∧ fillChoice s.chip = some 4 ∧ fillVictim s.chip = some 0
      ∧ (entryOf s.chip 0).st = 0)
    ∧ (let s := dev (fun c => { c with ars := { c.ars with fill := some ⟨3, 4, true⟩ } })
      s.held = none ∧ s.chip.ars.fill = some ⟨3, 4, true⟩
      ∧ (true || !(hdrCrcOk (memBytes s.chip 6 (slotAddr s.chip 4) arrBytes) && bodyCrcOk (memBytes s.chip 6 (slotAddr s.chip 4) arrBytes))) = true)
    ∧ (let s := dev (fun c => { c with ars := { c.ars with cache := [(63, ⟨2, true, 4, [7]⟩)] } })
      s.held = none ∧ (entryOf s.chip (63 : Fin 64)).st = 2 ∧ (entryOf s.chip (63 : Fin 64)).dirty = true)
    ∧ (let s := wPrg (toW (pagerLead base.chip)) []
      s.held = none ∧ (allSteps s.chip (pagerLead s.chip)).head? = some (0, wRef (toW (pagerLead base.chip)))
      ∧ (wRef (toW (pagerLead base.chip))).dist = (pagerLead s.chip : Int)
      ∧ residentEntry s.chip 4 = none ∧ (toW (pagerLead base.chip), 4) ∉ s.chip.ars.lateTold) := by
  refine ⟨?_, ?_, ?_, ?_, ?_, ?_, ?_, ?_⟩ <;> decide +kernel

theorem test_wit_programmes_run_their_steps :
        (MayChange base PRG_CMD ∧ fldB base.chip PRG_STAT_busy = false)
    ∧ (let s := dev (fun c => setB c PRG_STAT_busy true)
      MayChange s PRG_CMD ∧ fldB s.chip PRG_STAT_busy = true)
    ∧ (let s := dev (fun c => setSlot c 3 1)
      MayChange s (0x400000 + (0x2FFFC : BitVec 18).toNat) ∧ slotState s.chip (((0x2FFFC : BitVec 18).toNat - 0x10000) / 0x8000) = 1)
    ∧ (MayChange base (0x400000 + (0x10000 : BitVec 18).toNat) ∧ slotState base.chip (((0x10000 : BitVec 18).toNat - 0x10000) / 0x8000) ≠ 1)
    ∧ (let s := wPrg 0 []
      s.held = none ∧ s.chip.prg.run = some (PrgRun.fresh 0 (some 0)) ∧ slotState s.chip 0 = 3 ∧ due s.chip 0 = true ∧ s.chip.prg.rejoin = none)
    ∧ (let s := { wPrg 0 [] with chip := { (wPrg 0 []).chip with prg := { (wPrg 0 []).chip.prg with staged := some (PrgRun.fresh 1 (some 0), true) } } }
      s.held = none ∧ s.chip.prg.staged = some (PrgRun.fresh 1 (some 0), true) ∧ due s.chip 0 = true ∧ s.chip.prg.rejoin = none
      ∧ s.chip.prg.run = some (PrgRun.fresh 0 (some 0)))
    ∧ (let s := dev (fun c => { c with prg := { c.prg with run := some { PrgRun.fresh 0 (some 0) with stop := some 0 } } })
      s.held = none ∧ s.chip.prg.run = some { PrgRun.fresh 0 (some 0) with stop := some 0 } ∧ due s.chip 0 = true)
    ∧ (let s := dev (fun c => setSlot { c with prg := { c.prg with run := some (PrgRun.fresh 0 (some 0)) } } 0 4)
      s.held = none ∧ s.chip.prg.run = some (PrgRun.fresh 0 (some 0)) ∧ slotCyclic s.chip 0 = false
      ∧ due s.chip (0 + toW (slotSpan s.chip 0)) = true ∧ slotState s.chip 0 = 4 ∧ s.chip.prg.staged = none ∧ s.chip.prg.rejoin = none)
    ∧ (let s := wPrg 8 [(4, ⟨2, false, 4, []⟩)]
      s.held = none ∧ s.chip.prg.rejoin ≠ some s.chip.tmr.period ∧ s.chip.prg.run = some (PrgRun.fresh 0 (some 8))
      ∧ (upcoming s.chip (PrgRun.fresh 0 (some 8)) (runLimit s.chip (PrgRun.fresh 0 (some 8))) 8).head? = some (wRef 8)
      ∧ stepResident s.chip 0 (wRef 8) = true ∧ s.chip.doc.prgQ.length < 4 ∧ residentEntry s.chip 4 = some 4)
    ∧ (let s := { wPrg 24 [] with chip := { (wPrg 24 []).chip with twn := { (wPrg 24 []).chip.twn with paired := true } } }
      s.held = none ∧ s.chip.twn.paired = true ∧ holdsLoan s.chip = true ∧ dueSteps s.chip 24 = [(0, wRef 24)]
      ∧ (0, (wRef 24).index, (wRef 24).cycle) ∉ s.chip.prg.residTold ∧ wbit (rd s.chip PRG_MISS) 0 = false)
    ∧ (let s := dev (fun c => { c with prg := { c.prg with done := [(5, 1)] } })
      s.held = none ∧ s.chip.prg.done = [(5, 1)])
    ∧ (let s := dev (fun c => { c with prg := { c.prg with rejoin := some 0, run := some (PrgRun.fresh 0 (some 0)) }, tmr := { c.tmr with period := 1 } })
      s.held = none ∧ s.chip.prg.rejoin = some 0 ∧ s.chip.tmr.period ≠ 0 ∧ due s.chip 0 = true
      ∧ s.chip.prg.run = some (PrgRun.fresh 0 (some 0)) ∧ slotState s.chip 0 ≠ 3)
    ∧ (let s := { wPrg 8 [(4, ⟨2, false, 4, []⟩)] with chip := wr (wPrg 8 [(4, ⟨2, false, 4, []⟩)]).chip PRG_CTL 0x10008 }
      s.held = none ∧ wbit (rd s.chip PRG_CTL) 16 = true ∧ dueSteps s.chip (annLead s.chip) = [(0, wRef 8)]
      ∧ isSent s.chip 0 (wRef 8) = false ∧ residentContent s.chip 4 = some []) := by
  refine ⟨?_, ?_, ?_, ?_, ?_, ?_, ?_, ?_, ?_, ?_, ?_, ?_, ?_⟩ <;> decide +kernel

def wDemF : QEntry := ⟨List.replicate 32 0, [1, 0, 0, 1, 0, 0, 0, 0, 0, 0, 0, 0, 0, 0, 0, 9]⟩
def wDem : State := dev (fun c => setQueue (wr (wr (setFld { c with topo := some wTopo } CUR_STAT_mode 1) CUR_RX_CTL 0x80000001) (PKT_Q_CTL 1) 0x40000000) 1 [wDemF])

theorem test_wit_curator_keeps_modes_demand_and_epochs :
        (MayChange base CUR_CTL ∧ sameMode base.chip (wbits 0 0 2) = true ∧ sameMode base.chip (wbits 1 0 2) = false
    ∧ modeReason base.chip (wbits 1 0 2) = 0 ∧ sameMode base.chip (wbits 3 0 2) = false ∧ modeReason base.chip (wbits 3 0 2) = 3)
    ∧ (let s := dev (fun c => { c with cur := { c.cur with modeWait := some (2, 0) } })
      s.held = none ∧ s.chip.cur.modeWait = some (2, 0) ∧ due s.chip 0 = true)
    ∧ (wDem.held = none ∧ wbits (rd wDem.chip CUR_RX_CTL) 0 4 = 1 ∧ wbit (rd wDem.chip CUR_RX_CTL) 31 = true ∧ curMode wDem.chip = 1
    ∧ acting wDem.chip = true ∧ queueOwner wDem.chip 1 = 1 ∧ queue wDem.chip 1 = [wDemF] ∧ reportOk (reportPayload wDemF) = true
    ∧ reportCount (reportPayload wDemF) = 1 ∧ reportOk (reportPayload ⟨List.replicate 32 0, [2]⟩) = false)
    ∧ (let s := dev (fun c => setFld { c with cur := { c.cur with next := some 0 } } CUR_STAT_mode 1)
      s.held = none ∧ s.chip.cur.next = some 0 ∧ due s.chip 0 = true ∧ s.chip.cur.sweep = none ∧ s.chip.cur.todo = none
      ∧ s.chip.cur.script = [] ∧ curMode s.chip = 1 ∧ acting s.chip = true)
    ∧ (let s := dev (fun c => { c with cur := { c.cur with sweep := some 1, frozen := [(1, 3)] } })
      s.held = none ∧ s.chip.cur.sweep = some 1)
    ∧ (MayChange base (CUR_CMD 3) ∧ base.chip.cur.queue.length + base.chip.cur.incoming.length < 16
    ∧ (let s := dev (fun c => { c with cur := { c.cur with queue := List.replicate 16 ⟨0, 0, 0, 0⟩ } })
       MayChange s (CUR_CMD 3) ∧ 16 ≤ s.chip.cur.queue.length))
    ∧ (let s := dev (fun c => { c with cur := { c.cur with done := [⟨1, 1, 0, 0, 0, 0, 0⟩] } })
      MayWrite s CUR_DONE0 ∧ s.chip.cur.done = [⟨1, 1, 0, 0, 0, 0, 0⟩])
    ∧ (MayWrite base CUR_DONE0 ∧ base.chip.cur.done = []) := by
  refine ⟨?_, ?_, ?_, ?_, ?_, ?_, ?_, ?_⟩ <;> decide +kernel

def wCurAt (w0 w1 : W) : State := dev (fun c => setFld { c with topo := some wTopo, cur := { c.cur with queue := [⟨w0, w1, 0, 0⟩] } } CUR_STAT_mode 1)
def wLoadPerm : State :=
  { (wCurAt 0x04000000 0) with chip := (List.range 160).foldl (fun c i => wr c (CUR_PERM 0 i) 0xFFFFFFFF) (wCurAt 0x04000000 0).chip }
def wLoadArrBytes : List Byte := List.replicate 8 0 ++ [1, 0, 0, 0] ++ List.replicate 6 0 ++ [1] ++ List.replicate 13 0
def wLoadArr : State := dev (fun c => setFld { c with
  topo := some wTopo, cur := { c.cur with queue := [⟨0x05000000, 4, 0, 0⟩] },
  ars := { c.ars with store := [(4, 1)], cache := [(0, ⟨2, false, 4, wLoadArrBytes⟩)] } } CUR_STAT_mode 1)

theorem test_wit_curator_commands_act :
        (let s := wCurAt 0x01000000 0
      CurHead s ⟨0x01000000, 0, 0, 0⟩ [] 1 ∧ entryOk (curTake s.chip) (0, 0, 0) = true
      ∧ mapGet (curTake s.chip).cur.work 0 = none ∧ userOf (curTake s.chip) 0 = none)
    ∧ (let s := wCurAt 0x02000000 0
      CurHead s ⟨0x02000000, 0, 0, 0⟩ [] 2 ∧ entryOk (curTake s.chip) (0, 0, 0) = true)
    ∧ (CurHead (wCurAt 0x03000000 0) ⟨0x03000000, 0, 0, 0⟩ [] 3)
    ∧ (CurHead wLoadPerm ⟨0x04000000, 0, 0, 0⟩ [] 4 ∧ (curTake wLoadPerm.chip).topo = some wTopo
    ∧ permValid wTopo (permEntries (permBuffer (curTake wLoadPerm.chip) (wbits 0 0 2))) = true)
    ∧ (let c := curTake wLoadArr.chip
      CurHead wLoadArr ⟨0x05000000, 4, 0, 0⟩ [] 5 ∧ c.topo = some wTopo ∧ storeState c (wbits 4 0 16) = 1
      ∧ bitsAt (arrFlags (arrContent c 4)) 0 1 = 1 ∧ leAt (arrContent c 4) 8 4 = wTopo.topologyId.toNat)
    ∧ (CurHead (wCurAt 0x06000000 0xFFFF) ⟨0x06000000, 0xFFFF, 0, 0⟩ [] 6 ∧ acting (wCurAt 0x06000000 0xFFFF).chip = true
    ∧ changeWaits (wCurAt 0x06000000 0xFFFF).chip (20 + arrBytes) = false
    ∧ (let c := (curTake (wCurAt 0x06000000 0xFFFF).chip)
       let r := routePerm c wTopo (workPerm c) (refOf c c.cur.ref) false
       c.twn.paired = false ∧ c.topo = some wTopo ∧ fldB c CUR_CTL_drop_ok = false ∧ r.1.status false ≠ 3 ∧ (idChoice r.2).isSome))
    ∧ (let s := wCurAt 0x07000000 0
      s.held = none ∧ s.chip.cur.queue = [⟨0x07000000, 0, 0, 0⟩] ∧ s.chip.cur.incoming = []
      ∧ ((showCur s.chip).cur.job.isSome || safe (showCur s.chip)) = false ∧ curRefusal (showCur s.chip) ⟨0x07000000, 0, 0, 0⟩ = some 13)
    ∧ (CurHead (wCurAt 0x01000000 0x3FF) ⟨0x01000000, 0x3FF, 0, 0⟩ [] 1 ∧ entryOk (curTake (wCurAt 0x01000000 0x3FF).chip) (0x3FF, 0, 0) = false
    ∧ CurHead (wCurAt 0x06000000 0) ⟨0x06000000, 0, 0, 0⟩ [] 6 ∧ badId (curTake (wCurAt 0x06000000 0).chip) ⟨0x06000000, 0, 0, 0⟩ = true
    ∧ (curTake (wCurAt 0x06000000 0).chip).topo.isSome = true)
    ∧ (let s := dev (fun c => { c with cur := { c.cur with writes := [⟨4, none, [7], none, none⟩] } })
      s.held = none ∧ s.chip.cur.writes = [⟨4, none, [7], none, none⟩] ∧ s.chip.cur.todo = none)
    ∧ (let j : CurJob := ⟨0, true, true, 0, 1, 0, 0, 4, [], 0⟩
      (dev (fun c => { c with cur := { c.cur with job := some j } })).chip.cur.job = some j ∧ j.stage = 0)
    ∧ (let j : CurJob := ⟨0, true, true, 0, 1, 0, 0, 4, [], 1⟩
      let s := dev (fun c => { c with cur := { c.cur with job := some j } })
      s.held = none ∧ s.chip.cur.job = some j ∧ j.stage = 1 ∧ s.chip.twn.paired = false
      ∧ s.chip.doc.curQ.length + (s.chip.doc.incoming.filter (fun e => e.1.source == 2)).length < 4 ∧ changeWaits s.chip 36 = false)
    ∧ (let j : CurJob := ⟨0, true, true, 0, 1, 0, 0, 4, [], 2⟩
      let x : DoneRec := { tag := 0, status := 1, source := 2, partial_ := false, bMoved := false, opcode := 0x10, roll := 0, abortRes := 0, stepTag := 0 }
      let s := dev (fun c => { c with cur := { c.cur with job := some j }, doc := { c.doc with curDone := [x] } })
      s.held = none ∧ s.chip.doc.curDone = [x] ∧ s.chip.cur.job = some j ∧ j.stage = 2 ∧ x.status = 1) := by
  refine ⟨?_, ?_, ?_, ?_, ?_, ?_, ?_, ?_, ?_, ?_, ?_, ?_⟩ <;> decide +kernel

def wLink (st : Nat) (f : Link → Link) : State := dev (fun c =>
  modLink (setFld { c with topo := some wTopo } (NGL_L_STAT_state 0) st) 0 f)
def wFrame : List Byte := List.replicate 140 0 ++ beBytes 4 (crc32c (beBytes 2 0 ++ List.replicate 140 0))
def wSvc (r : SvcRun) : State := dev (fun c => { c with ngl := { c.ngl with svc := some r } })
def wReply (op : Byte) : List Byte :=
  let l : List Byte := [op, 7, 1, 0, 0, 0, 0, 0, 0, 0, 5]
  0x66 :: l ++ beBytes 4 (crc32c l)

theorem test_wit_link_frames_and_service_frames_act :
        (let s := wLink 6 (fun l => { l with sendFrom := some 0 })
      s.held = none ∧ safe s.chip = false ∧ linkSends s.chip 0 = true ∧ (linkOf s.chip 0).sendFrom = some 0 ∧ due s.chip 0 = true
      ∧ runsFabric s.chip = true ∧ inRepair s.chip 0 = false)
    ∧ (let s := wLink 6 id
      s.held = none ∧ linkSends (countUp s.chip (NGL_L_SYNC_ERR 0) 3) 0 = true ∧ linkHeld (countUp s.chip (NGL_L_SYNC_ERR 0) 3) = false
      ∧ (linkOf s.chip 0).got = false ∧ wFrame.length = 144
      ∧ frameCrcOk 0 wFrame = true ∧ (0 : BitVec 16) = BitVec.ofNat 16 (period s.chip).toNat)
    ∧ (let s := wLink 6 id
      s.held = none ∧ linkSends (countUp s.chip (NGL_L_SYNC_ERR 0) 0) 0 = true ∧ linkHeld (countUp s.chip (NGL_L_SYNC_ERR 0) 0) = false
      ∧ (linkOf s.chip 0).got = false)
    ∧ (let s := wLink 6 id
      s.held = none ∧ linkSends (countUp s.chip (NGL_L_SYNC_ERR 0) 0) 0 = true ∧ linkHeld (countUp s.chip (NGL_L_SYNC_ERR 0) 0) = false
      ∧ (linkOf s.chip 0).got = false ∧ wFrame.length = 144 ∧ frameCrcOk 1 wFrame = false ∧ frameCrcOk 0 wFrame = true
      ∧ (let s := { s with chip := { s.chip with tmr := { s.chip.tmr with period := 1 } } };
         linkSends (countUp s.chip (NGL_L_SYNC_ERR 0) 0) 0 = true ∧ linkHeld (countUp s.chip (NGL_L_SYNC_ERR 0) 0) = false
         ∧ (linkOf s.chip 0).got = false ∧ (0 : BitVec 16) ≠ BitVec.ofNat 16 (period (countUp s.chip (NGL_L_SYNC_ERR 0) 0)).toNat))
    ∧ (let s := wLink 6 id
      s.held = none ∧ linkHeld (countUp s.chip (NGL_L_SYNC_ERR 0) 0) = false ∧ 2 ≤ linkState s.chip 0 ∧ linkState s.chip 0 ≤ 7
      ∧ (0 : BitVec 16) = BitVec.ofNat 16 (period s.chip).toNat)
    ∧ (let s := wLink 6 id
      MayWrite s NGL_SVC_CMD ∧ s.chip.ngl.svc = none ∧ holdsLoan s.chip = true ∧ wbits (withSvcOp 0x01000000 1) 24 3 ≠ 0
      ∧ wbits (withSvcOp 0x01000000 1) 0 8 < 144 ∧ linkState s.chip (wbits (withSvcOp 0x01000000 1) 0 8) = 6
      ∧ linkState s.chip (wbits (withSvcOp 0x01000000 2) 0 8) = 6 ∧ wbits (withSvcOp 0x01000000 2) 24 3 ≠ 0)
    ∧ (MayWrite base NGL_SVC_CMD ∧ base.chip.ngl.svc = none ∧ wbits (withSvcOp 0 1) 24 3 = 0 ∧ wbits (withSvcOp 0x01000000 2) 24 3 ≠ 0
    ∧ wbits (withSvcOp 0x01000000 2) 0 8 < 144 ∧ holdsLoan base.chip = true ∧ linkState base.chip (wbits (withSvcOp 0x01000000 2) 0 8) ≠ 6
    ∧ MayWrite (wSvc ⟨0, false, 1, 0, 7⟩) NGL_SVC_CMD ∧ (wSvc ⟨0, false, 1, 0, 7⟩).chip.ngl.svc.isSome = true)
    ∧ ((linkOf base.chip 0).svcOut = none)
    ∧ ((wSvc ⟨0, false, 1, 0, 7⟩).held = none ∧ (wSvc ⟨0, false, 1, 0, 7⟩).chip.ngl.svc = some ⟨0, false, 1, 0, 7⟩
    ∧ svcFrameOk (wReply 0x81) = true ∧ beAt (wReply 0x81) 2 1 = 7 ∧ beAt (wReply 0x81) 1 1 = 0x81
    ∧ svcFrameOk (wReply 0x82) = true ∧ beAt (wReply 0x82) 2 1 = 7 ∧ beAt (wReply 0x82) 1 1 = 0x82
    ∧ svcFrameOk (wReply 0x8F) = true ∧ beAt (wReply 0x8F) 2 1 = 7 ∧ beAt (wReply 0x8F) 1 1 = 0x8F
    ∧ (wSvc ⟨0, true, 1, -64, 7⟩).chip.ngl.svc = some ⟨0, true, 1, -64, 7⟩ ∧ 64 ≤ (period (wSvc ⟨0, true, 1, -64, 7⟩).chip - (-64)).toNat) := by
  refine ⟨?_, ?_, ?_, ?_, ?_, ?_, ?_, ?_, ?_⟩ <;> decide +kernel

def wIdent (w : Nat) : List Byte :=
  let l : List Byte := [0x82, 7, 1, 0, 0, 0, 0] ++ beBytes 4 w
  0x66 :: l ++ beBytes 4 (crc32c l)

theorem test_wit_links_come_up_and_leave_service :
        (MayChange (wLink 0 id) (NGL_L_CTL 0) ∧ (linkOf (wLink 0 id).chip 0).cmd = none
    ∧ linkRefusal (wLink 0 id).chip 0 (withLinkCmd 0 1) = 0 ∧ linkRefusal (wLink 0 id).chip 0 (withLinkCmd 0 2) = 0
    ∧ linkRefusal base.chip 0 (withLinkCmd 64 3) = 0)
    ∧ ((wLink 1 id).held = none ∧ safe (wLink 1 id).chip = false ∧ linkState (wLink 1 id).chip 0 = 1
    ∧ safe (countUp (wLink 1 id).chip (NGL_L_SYNC_ERR 0) 0) = false ∧ linkState (countUp (wLink 1 id).chip (NGL_L_SYNC_ERR 0) 0) 0 = 1
    ∧ (let s := wLink 2 (fun l => { l with echoRun := 16 }); safe s.chip = false ∧ linkState s.chip 0 = 2 ∧ (linkOf s.chip 0).echoRun = 16)
    ∧ (let s := wLink 3 (fun l => { l with req := some 7 }); linkState s.chip 0 = 3 ∧ (linkOf s.chip 0).test = none ∧ (linkOf s.chip 0).req = some 7)
    ∧ svcFrameOk (wIdent 0x00320100) = true ∧ beAt (wIdent 0x00320100) 1 1 = 0x82 ∧ beAt (wIdent 0x00320100) 2 1 = 7
    ∧ wbits (svcWord (wIdent 0x00320100) 0) 16 16 = 0x0032 ∧ wbits (svcWord (wIdent 0x00320100) 0) 8 8 = 0x01
    ∧ (let s := wLink 4 (fun l => { l with req := some 7 }); linkState s.chip 0 = 4 ∧ (linkOf s.chip 0).req = some 7)
    ∧ (let s := wLink 5 (fun l => { l with count := 64 }); safe s.chip = false ∧ linkState s.chip 0 = 5 ∧ (linkOf s.chip 0).count = 64))
    ∧ ((wLink 5 (fun l => { l with since := -256 })).held = none ∧ safe (wLink 5 id).chip = false
    ∧ (let s := wLink 5 (fun l => { l with since := -256 }); linkState s.chip 0 = 5 ∧ (stepLimit 5).1 ≤ (period s.chip - (linkOf s.chip 0).since).toNat)
    ∧ (let s := wLink 9 (fun l => { l with retryAt := some 0 }); linkState s.chip 0 = 9 ∧ (linkOf s.chip 0).retryAt = some 0
      ∧ due s.chip 0 = true ∧ tileUsed s.chip 0 = true)
    ∧ (let s := dev (fun c => setB (wLink 9 (fun l => { l with retryAt := some 0 })).chip NGL_CTL_auto_retry true); fldB s.chip NGL_CTL_auto_retry = true)
    ∧ (let s := wLink 6 (fun l => { l with loss := 255, heldRun := 32, rttRun := 16 }); linkState s.chip 0 = 6
      ∧ lossLimit s.chip ≤ (linkOf s.chip 0).loss ∧ (linkOf s.chip 0).heldRun = 32 ∧ (linkOf s.chip 0).rttRun = 16)
    ∧ (let s := wLink 7 (fun l => { l with since := -4000 }); linkState s.chip 0 = 7 ∧ 4000 ≤ (period s.chip - (linkOf s.chip 0).since).toNat)
    ∧ (let s := wLink 8 (fun l => { l with since := -64, test := some (64, true) }); linkState s.chip 0 = 8
      ∧ (linkOf s.chip 0).test = some (64, true) ∧ 64 ≤ (period s.chip - (linkOf s.chip 0).since).toNat)) := by
  refine ⟨?_, ?_, ?_⟩ <;> decide +kernel

def wTwin (role st : Nat) (act : Bool) (f : Chip → Chip) : State := dev (fun c =>
  f (setTwin (setB (setB c TWN_CTL_twin_en true) TWN_STAT_link_up true) role st act))
def wPrec : List Byte := List.replicate 76 0 ++ beBytes 4 (crc32c (List.replicate 76 0))
def wMsg (typ : Nat) (l : List Byte) : List Byte :=
  let head : List Byte := beBytes 1 typ ++ beBytes 2 ((l.length + 4) / 8) ++ [0, 0, 0, 0]
  l ++ beBytes 4 (crc32c (head ++ l))
def wJournal : List Byte := wMsg 1 ([0,0,0,7, 0,0,1,0, 9,0, 0,0, 0,0,0,0] ++ List.replicate 4 0)
def wRelay : List Byte := wMsg 2 (List.replicate 68 0)
def wBulk : List Byte := wMsg 4 (List.replicate 4 0)
def wRep : Repair := ⟨0, 0, false, none, 0, false, false⟩
def wUrg : List Byte := wMsg 6 [8, 0, 0, 0]

theorem test_wit_twin_messages_are_taken :
        (followsGrid base.chip = false ∧ base.held = none ∧ followsGrid (wTwin 2 2 false id).chip = true)
    ∧ ((wTwin 1 2 true id).held = none ∧ fldB (wTwin 1 2 true id).chip TWN_STAT_link_up = true ∧ wPrec.length = 80
    ∧ crc32c (wPrec.take 76) = beAt wPrec 76 4 ∧ beAt wPrec 0 4 = (period (wTwin 1 2 true id).chip).toNat)
    ∧ ((let s := wTwin 2 2 false (fun c => { c with twn := { c.twn with loanIn := 1 } }); s.held = none ∧ twinRole s.chip = 2 ∧ twinState s.chip = 2)
    ∧ twinRole (wTwin 2 2 false (fun c => { c with twn := { c.twn with loanIn := 2 } })).chip = 2
    ∧ twinState (wTwin 2 2 false (fun c => { c with twn := { c.twn with loanIn := 3 } })).chip = 2
    ∧ (let s := wTwin 1 2 true (fun c => { c with twn := { c.twn with loanIn := 4, paired := true } }); s.chip.twn.paired = true ∧ twinRole s.chip = 1))
    ∧ (base.held = none ∧ msgData 2 [] = none ∧ msgData 3 [] = none ∧ msgData 6 [] = none ∧ msgData 4 [] = none
    ∧ joining (wTwin 2 1 false id).chip = true ∧ fldB (wTwin 2 2 false id).chip TWN_STAT_link_up = true
    ∧ fldB base.chip TWN_STAT_link_up = false ∧ (msgData 1 []).bind recordAt = none ∧ joining (wTwin 2 2 false id).chip = false)
    ∧ (let s := wTwin 2 2 false (fun c => { c with twn := { c.twn with paired := true, rxSeq := some 7 } })
      s.held = none ∧ twinRole s.chip = 2 ∧ s.chip.twn.paired = true ∧ (msgData 1 wJournal).bind recordAt = some ⟨7, 256, .commit, 0, 0⟩
      ∧ s.chip.twn.rxSeq = some 7 ∧ pReached (period s.chip) (256 - 1) = false)
    ∧ (base.held = none ∧ msgData 2 wRelay = some (List.replicate 68 0) ∧ joining base.chip = false
    ∧ wRep.owner = false ∧ pReached (period base.chip) (wRep.k + 5) = false
    ∧ msgData 4 wBulk = some (List.replicate 4 0) ∧ joining (wTwin 2 1 false id).chip = true)
    ∧ (let s := wTwin 2 1 false (fun c => setFld c TWN_JOIN_STAT_step 2)
      s.held = none ∧ joinRuns s.chip = true ∧ fld s.chip TWN_JOIN_STAT_step = 2)
    ∧ (let s := wTwin 1 2 true (fun c => setTableEntry { c with twn := { c.twn with paired := true } } 8 0x80000000)
      s.held = none ∧ twinRole s.chip = 1 ∧ s.chip.twn.paired = true ∧ msgData 6 wUrg = some [8, 0, 0, 0] ∧ urgentValid s.chip 8 = true) := by
  refine ⟨?_, ?_, ?_, ?_, ?_, ?_, ?_, ?_⟩ <;> decide +kernel

theorem test_wit_journalled_records_act_at_e :
        (let s := dev (fun c => { c with twn := { c.twn with inbox := [⟨1, 0, .commit, 0, 0⟩] } })
      s.held = none ∧ s.chip.twn.inbox = [⟨1, 0, .commit, 0, 0⟩] ∧ due s.chip 0 = true)
    ∧ (let s := wTwin 2 1 false (fun c => { c with twn := { c.twn with inbox := [⟨1, 0, .commit, 0, 0⟩] } })
      s.held = none ∧ s.chip.twn.inbox = [⟨1, 0, .commit, 0, 0⟩] ∧ due s.chip 0 = true ∧ joining s.chip = true) := by
  refine ⟨?_, ?_⟩ <;> decide +kernel

theorem test_wit_loan_handover_and_loss_of_the_link :
        (base.held = none)
    ∧ (let s := wTwin 1 2 true (fun c => setB c TWN_STAT_partner_hb true)
      s.held = none ∧ fldB s.chip TWN_STAT_partner_hb = true ∧ noHeartbeat s.chip = true)
    ∧ ((let s := wTwin 1 2 true (fun c => { c with tmr := { c.tmr with ticks := 200000000 }, twn := { c.twn with renewAt := some 0, paired := true, fwAlive := true } })
      s.held = none ∧ s.chip.twn.renewAt = some 0 ∧ s.chip.twn.paired = true ∧ twinRole s.chip = 1 ∧ fldB s.chip TWN_STAT_acting = true
      ∧ leaseTicks s.chip / 4 ≤ s.chip.tmr.ticks - 0 ∧ s.chip.twn.fwAlive = true ∧ s.chip.twn.loanOut = 0 ∧ twinState s.chip = 2
      ∧ keeperStops s.chip 0 ≤ s.chip.tmr.ticks)
    ∧ (let s := wTwin 2 2 false (fun c => { c with tmr := { c.tmr with ticks := 200000000 }, twn := { c.twn with renewAt := some 0, paired := true } })
      twinRole s.chip = 2 ∧ twinState s.chip = 2 ∧ s.chip.twn.change = none ∧ copyistTakes s.chip 0 ≤ s.chip.tmr.ticks))
    ∧ (let s := wTwin 1 2 true (fun c => { c with twn := { c.twn with paired := true, peerRole := 8 } })
      MayWrite s TWN_LOAN_CTL ∧ twinRole s.chip = 1 ∧ s.chip.twn.applying = false
      ∧ clampN 1 100 (wbits (BitVec.ofNat 32 (fld s.chip TWN_LOAN_CTL_lease)) 0 7) = fld s.chip TWN_LOAN_CTL_lease
      ∧ fldB s.chip TWN_STAT_acting = true ∧ twinState s.chip = 2 ∧ s.chip.twn.peerRole / 8 % 2 = 1 ∧ s.chip.twn.handover = none)
    ∧ (let s := wTwin 1 2 true (fun c => { c with twn := { c.twn with handover := some 0 } })
      s.held = none ∧ s.chip.twn.handover = some 0 ∧ twinRole s.chip = 1 ∧ due s.chip 0 = true ∧ fldB s.chip TWN_STAT_acting = true)
    ∧ (MayWrite (wTwin 2 2 false id) TWN_CTL ∧ twinRole (wTwin 2 2 false id).chip = 2 ∧ twinState (wTwin 2 2 false id).chip = 2
    ∧ (let s := wTwin 0 0 false id; MayWrite s TWN_CTL ∧ isTwin (wr s.chip TWN_CTL (toW (2 ^ 31))) = true ∧ twinState s.chip = 0 ∧ twinRole s.chip = 0 ∧ safe s.chip = false))
    ∧ (let s := wTwin 2 2 false (fun c => setFld { c with twn := { c.twn with paired := true } } TWN_JOIN_STAT_result 1)
      s.held = none ∧ fldB s.chip TWN_STAT_link_up = true ∧ s.chip.twn.paired = true ∧ twinRole s.chip = 2 ∧ twinState s.chip = 2
      ∧ fld s.chip TWN_JOIN_STAT_result = 1)
    ∧ ((let s := wTwin 2 4 false id; s.held = none ∧ twinState s.chip = 4 ∧ edgeAfterLoss s.chip = false ∧ noHeartbeat s.chip = true ∧ twinRole s.chip = 2)
    ∧ (let s := wTwin 1 4 true (fun c => { c with twn := { c.twn with hbEdge := some 1, lossAt := some 0 } }); twinState s.chip = 4 ∧ edgeAfterLoss s.chip = true ∧ twinRole s.chip ≠ 2)
    ∧ edgeAfterLoss (wTwin 2 4 false (fun c => { c with twn := { c.twn with hbEdge := some 1, lossAt := some 0 } })).chip = true
    ∧ edgeAfterLoss (wTwin 1 4 true id).chip = false)
    ∧ (let s := dev (fun c => setTwin { c with tmr := { c.tmr with ticks := 2000000 }, twn := { c.twn with paired := true, lossAt := some 0 } } 1 3 true)
      s.held = none ∧ s.chip.twn.lossAt = some 0 ∧ twinRole s.chip = 1 ∧ twinState s.chip = 3 ∧ s.chip.twn.paired = true
      ∧ fldB s.chip TWN_STAT_link_up = false ∧ 2000000 ≤ s.chip.tmr.ticks - 0)
    ∧ (let s := wTwin 1 2 true (fun c => { c with twn := { c.twn with paired := true } })
      MayWrite s TWN_FW_CTL ∧ 1 ≤ wbits ((4 : W) ||| 0x80000000) 0 9 ∧ wbits ((4 : W) ||| 0x80000000) 0 9 ≤ 256 ∧ s.chip.twn.applying = false
      ∧ holdsLoan s.chip = true ∧ fld s.chip TWN_STAT_state ≠ 4) := by
  refine ⟨?_, ?_, ?_, ?_, ?_, ?_, ?_, ?_, ?_, ?_⟩ <;> decide +kernel

theorem test_wit_joins_repairs_and_control_store_swaps :
        (let r : Repair := ⟨0, -5, false, some [], 0, false, false⟩
      let s := dev (fun c => { c with twn := { c.twn with repairs := [r] } })
      s.held = none ∧ s.chip.twn.repairs.find? (fun r => r.tile == 0 && !r.owner) = some r ∧ period s.chip = r.k + 5)
    ∧ (let s := dev (fun c => { c with tmr := { c.tmr with ticks := 2000000000 }, twn := { c.twn with starting := true } })
      s.held = none ∧ s.chip.twn.starting = true ∧ fldB s.chip TWN_STAT_link_up = false ∧ safe s.chip = false
      ∧ fldB s.chip TWN_STAT_partner_hb = false
      ∧ (if s.chip.glb.straps.twinId then 2 else 1) * (fld s.chip TWN_CTL_join_wait * 1000000) ≤ s.chip.tmr.ticks)
    ∧ ((let s := wTwin 2 1 false (fun c => setFld { c with tmr := { c.tmr with ticks := 2000000001 } } TWN_JOIN_STAT_step 1)
      s.held = none ∧ joining s.chip = true ∧ twinRole s.chip = 2 ∧ fld s.chip TWN_JOIN_STAT_step = 1
      ∧ joinLimit s.chip = some 2000000 ∧ 2000000 < s.chip.tmr.ticks - s.chip.twn.stepAt)
    ∧ (let s := wTwin 2 1 false (fun c => setFld { c with twn := { c.twn with joinOk := true } } TWN_JOIN_STAT_step 2)
      joining s.chip = true ∧ fld s.chip TWN_JOIN_STAT_step = 2 ∧ s.chip.twn.joinOk = true ∧ s.chip.twn.resync = false)
    ∧ (let s := wTwin 2 1 false (fun c => setFld (setB c TWN_STAT_grid_lock true) TWN_JOIN_STAT_step 3)
      joining s.chip = true ∧ fld s.chip TWN_JOIN_STAT_step = 3 ∧ fldB s.chip TWN_STAT_grid_lock = true)
    ∧ (let s := wTwin 2 1 false (fun c => setFld c TWN_JOIN_STAT_step 6)
      joining s.chip = true ∧ fld s.chip TWN_JOIN_STAT_step = 6 ∧ s.chip.twn.repairs = []))
    ∧ (let s := wTwin 1 3 true (fun c => setFld (setFld c TWN_JOIN_STAT_step 4) TWN_JOIN_STAT_result 3)
      s.held = none ∧ twinRole s.chip = 1 ∧ joinRuns s.chip = true ∧ fld s.chip TWN_JOIN_STAT_step = 4 ∧ s.chip.twn.paired = false
      ∧ docQuiet s.chip = true)
    ∧ (MayChange base TWN_CS_CTL ∧ wbit 0 30 = false ∧ wbit 0 31 = false)
    ∧ (let s := dev (fun c => setFld { c with twn := { c.twn with csSwapAt := some (-4096) } } TWN_CS_CTL_cs_state 3)
      s.held = none ∧ fld s.chip TWN_CS_CTL_cs_state = 3 ∧ s.chip.doc.cur = none ∧ fldB s.chip DOC_STAT_partial = false
      ∧ s.chip.twn.csSwapAt = some (-4096) ∧ pReached (period s.chip) (-4096 + 4096) = true) := by
  refine ⟨?_, ?_, ?_, ?_, ?_, ?_⟩ <;> decide +kernel

theorem test_wit_ports_and_parser_act :
        (∀ n : Fin 4, MayChange base (SVP_P_CTL n))
    ∧ (let s := dev (fun c => { c with deferred := [⟨0, SVP_P_CTL 0, 0x20000000⟩] })
      s.held = none ∧ s.chip.deferred.filter (fun d => d.addr == SVP_P_CTL 0 && due s.chip d.e) = [⟨0, SVP_P_CTL 0, 0x20000000⟩])
    ∧ (let s := dev (fun c => modPort (wr c (SVP_P_CTL 3) 0x30000000) 3 (fun p => { p with lockAt := some (-4000) }))
      s.held = none ∧ fld s.chip (SVP_P_CTL_mode 3) ≠ 0 ∧ (port s.chip 3).lockAt = some (-4000) ∧ 4000 ≤ (s.chip.tmr.period - (-4000)).toNat
      ∧ linkUp s.chip 3 = false ∧ (fldB s.chip (SVP_P_CTL_an_en 3) || fldB (wr s.chip (SVP_P_CTL 3) 0x3C000000) (SVP_P_CTL_an_en 3)) = true)
    ∧ (base.held = none ∧ port100 base.chip 0 = false)
    ∧ (let s := dev (fun c => setB c (SVP_P_STAT_link_up 0) true)
      s.held = none ∧ linkUp (countUp (countUp (advanceTo s.chip 0) (SVP_P_FEC_CORR 0) 0) (SVP_P_FEC_UNCORR 0) 0) 0 = true
      ∧ passHalf (List.replicate 60 0) 12 ≠ 0x8808)
    ∧ (let s := dev (fun c => setB c (SVP_P_STAT_link_up 0) true)
      base.held = none ∧ s.held = none
      ∧ linkUp (countUp (countUp (advanceTo base.chip 0) (SVP_P_FEC_CORR 0) 0) (SVP_P_FEC_UNCORR 0) 0) 0 = false
      ∧ linkUp (countUp (countUp (advanceTo s.chip 0) (SVP_P_FEC_CORR 0) 0) (SVP_P_FEC_UNCORR 0) 0) 0 = true
      ∧ passHalf (List.replicate 12 0 ++ [0x88, 0x08] ++ List.replicate 46 0) 12 = 0x8808)
    ∧ (let s := dev (fun c => modPort c 0 (fun p => { p with rx := [⟨[], ⟨0, 0, 0⟩, 0, none⟩] }))
      s.held = none ∧ (port s.chip 0).rx = [⟨[], ⟨0, 0, 0⟩, 0, none⟩]
      ∧ lenChecks s.chip (activeGen s.chip) (selectTpl s.chip (activeGen s.chip) 1 0 []) [] = .pass)
    ∧ (let s := dev (fun c => modPort c 0 (fun p => { p with second := [⟨[], ⟨0, 0, 0⟩, 0, none⟩] }))
      s.held = none ∧ (port s.chip 0).second = [⟨[], ⟨0, 0, 0⟩, 0, none⟩]
      ∧ lenChecks s.chip 0 (selectTpl s.chip 0 2 0 []) [] = .pass ∧ tplRecirc s.chip 0 (selectTpl s.chip 0 2 0 []) = false)
    ∧ (MayWrite base (SVP_P_RX_OCT_LO 3)) := by
  refine ⟨?_, ?_, ?_, ?_, ?_, ?_, ?_, ?_, ?_⟩ <;> decide +kernel

theorem test_wit_ingress_queues_rules_and_policers_act :
        (let s := dev (fun c => setQueue (wr (wr c (PKT_Q_CTL 2) 0xC0000000) (PKT_Q_SLOTS 2) 4) 2 [⟨[], []⟩])
      s.held = none ∧ queue s.chip 2 = [⟨[], []⟩] ∧ queueOwner s.chip 2 = 3 ∧ s.chip.svp.ringOff.contains 2 = false
      ∧ (wbits (rd s.chip (PKT_Q_PROD 2)) 0 16 + 1) % ringSlots s.chip 2 ≠ wbits (rd s.chip (PKT_Q_CONS 2)) 0 16)
    ∧ (MayWrite base (PKT_Q_CONS 15))
    ∧ (MayChange base PKT_GEN ∧ fldB base.chip PKT_GEN_busy = false)
    ∧ (let s := dev (fun c => setB c PKT_GEN_busy true)
      MayChange s PKT_GEN ∧ fldB s.chip PKT_GEN_busy = true)
    ∧ (let s := dev (fun c => { c with svp := { c.svp with swapAt := some 0, copyAt := some 0, retiring := true } })
      s.held = none ∧ s.chip.svp.swapAt = some 0 ∧ due s.chip 0 = true ∧ s.chip.svp.retiring = true ∧ s.chip.svp.copyAt = some 0
      ∧ s.chip.svp.ports.all (fun p => p.second.all (fun f => f.gen != 1 - activeGen s.chip)) = true)
    ∧ (MayChange base (PKT_SHADOW + 0) ∧ fldB base.chip PKT_GEN_busy = false)
    ∧ (let s := dev (fun c => setB c PKT_GEN_busy true)
      MayChange s (PKT_SHADOW + 0) ∧ fldB s.chip PKT_GEN_busy = true)
    ∧ (MayChange base (PKT_POL_DEPTH 15) ∧ MayChange base (PKT_POL_RATE 0) ∧ MayChange base (PKT_Q_CTL 15)
    ∧ sharesWith base.chip 15 0x40000010 ≤ 1024 ∧ wbits 0x40000008 30 2 ≠ 0 ∧ wbits 0x40000008 0 11 < 16) := by
  refine ⟨?_, ?_, ?_, ?_, ?_, ?_, ?_, ?_⟩ <;> decide +kernel

theorem test_wit_egress_queues_transmit_and_gate :
        (MayWrite base (TXS_PRING_PROD 3 1))
    ∧ ((let s := dev (fun c => wr c (TXS_PRING_PROD 0 0) 1)
      s.held = none ∧ (descRing s.chip 0 0).take ≠ wbits (rd s.chip (TXS_PRING_PROD 0 0)) 0 12 ∧ s.chip.txs.ringOff.contains 0 = false
      ∧ bitsAt (leAt (memBytes s.chip 11 (descAddr s.chip 0 0 0) 16) 8 4) 0 14 < 60)
    ∧ (let s := dev (fun c => ddrWrite (wr (wr (setB (setB (wr (wr c (DDR_PART_SIZE 0) 1) (DDR_PART_RD 0) 0xFFFF) (SVP_P_STAT_link_up 0) true) (TXS_P_STAT_acting 0) true) (TXS_PRING_PROD 0 0) 1) (TXS_PQ_SHARE 0 7) 4) (descAddr c 0 0 0)
        (List.replicate 8 0 ++ leBytes 4 (7 * 2 ^ 29 + 60) ++ List.replicate 4 0))
      let l := memBytes s.chip 11 (descAddr s.chip 0 0 0) 16
      bitsAt (leAt l 8 4) 0 14 = 60 ∧ bitsAt (leAt l 8 4) 29 3 = 7 ∧ ringQueue 0 7 = true ∧ linkUp s.chip 0 = true ∧ txActing s.chip 0 = true
      ∧ txRoom s.chip 0 7 64 = true))
    ∧ (let s := dev (fun c => modTx (setB (setB c (SVP_P_STAT_link_up 0) true) (TXS_P_STAT_acting 0) true) 0 (fun p => { p with queues := setNth p.queues 7 [plainFrame []] }))
      let c := advanceTo s.chip 0
      s.held = none ∧ (txPort c 0).sending = none ∧ txActing c 0 = true ∧ linkUp c 0 = true ∧ txChoose c 0 = some 7 ∧ txQueue c 0 7 = [plainFrame []])
    ∧ (let s := dev (fun c => modTx c 0 (fun p => { p with sending := some (plainFrame [], 7) }))
      s.held = none ∧ (txPort (advanceTo s.chip 0) 0).sending = some (plainFrame [], 7))
    ∧ (MayChange base (TXS_P_GCL_CTL_enable 3).addr ∧ fldB base.chip (TXS_P_GCL_CTL_pending 3) = false)
    ∧ (let s := dev (fun c => setB c (TXS_P_GCL_CTL_pending 3) true)
      MayChange s (TXS_P_GCL_CTL_enable 3).addr ∧ fldB s.chip (TXS_P_GCL_CTL_pending 3) = true)
    ∧ (let s := dev (fun c => modTx c 0 (fun p => { p with gatePend := some (⟨true, 0, [1]⟩, 0) }))
      s.held = none ∧ (txPort (advanceTo s.chip 0) 0).gatePend = some (⟨true, 0, [1]⟩, 0) ∧ 0 ≤ tdiff (netTime (advanceTo s.chip 0)) 0)
    ∧ (base.held = none ∧ (txPort (advanceTo base.chip 0) 0).gates.active (netTime (advanceTo base.chip 0)) = false
    ∧ (let s := dev (fun c => modTx c 0 (fun p => { p with gates := ⟨true, 0, [0x01000005]⟩ }))
      let c := advanceTo s.chip 0
      (txPort c 0).gates.active (netTime c) = true ∧ (txPort c 0).gates.position (netTime c) = some (0, 5))) := by
  refine ⟨?_, ?_, ?_, ?_, ?_, ?_, ?_, ?_⟩ <;> decide +kernel

def wTopoS : State := dev (fun c => { c with topo := some wTopo })
def wCnsBase : State := dev (fun c => setB { c with cns := { c.cns with windowEnd := some 0 } } CNS_STAT_busy true)
def wCal : State := dev (fun c => { c with cns := { c.cns with journal := [⟨3, [], [], 2⟩] } })

theorem test_wit_conservator_estimates_and_commits :
        (base.held = none ∧ (mappedCells wTopoS.chip).countP (fun e => e.1 == 0) = 1)
    ∧ (let s := dev (fun c => { c with tmr := { c.tmr with period := 40002 } })
      s.held = none ∧ windowEnds s.chip = true ∧ period s.chip ≠ 2 ∧ s.chip.topo = none)
    ∧ (let s := dev (fun c => { c with tmr := { c.tmr with period := 40002 } })
      s.held = none ∧ windowEnds s.chip = true)
    ∧ (let s := dev (fun c => setB (setB { c with cns := { c.cns with windowEnd := some 0 } } CNS_STAT_busy true) CNS_CTL_host_bank true)
      s.held = none ∧ s.chip.cns.windowEnd = some 0 ∧ fldB s.chip CNS_STAT_busy = true ∧ stagingRoom s.chip = true
      ∧ fldB s.chip CNS_CTL_host_bank = true ∧ s.chip.topo = none)
    ∧ (wCnsBase.held = none ∧ wCnsBase.chip.cns.windowEnd = some 0 ∧ fldB wCnsBase.chip CNS_STAT_busy = true
    ∧ stagingRoom wCnsBase.chip = true)
    ∧ (let s := dev (fun c => { c with tmr := { c.tmr with period := 44064 }, cns := { c.cns with formed := true, windowEnd := some 40002 } })
      s.held = none ∧ Single s.chip ∧ s.chip.cns.windowEnd = some 40002 ∧ s.chip.cns.formed = true ∧ fldB s.chip CNS_CTL_host_bank = false
      ∧ s.chip.cns.issued.contains 1 = false ∧ mapGet s.chip.lpe.commits 1 = none
      ∧ pReached (period s.chip + 2) (40002 - 2 + toW (4000 + 64 * 1)) = true)
    ∧ (let s := dev (fun c => setB c TWN_CTL_twin_en true)
      s.held = none ∧ holdsLoan s.chip = false)
    ∧ (wCal.held = none ∧ wCal.chip.cns.journal = [⟨3, [], [], 2⟩] ∧ holdsLoan wCal.chip = true)
    ∧ (let s := dev (fun c => setB c CNS_CTL_host_bank true)
      MayChange s CNS_COMMIT ∧ fldB s.chip CNS_CTL_host_bank = true ∧ wbit 0x80000023 31 = true ∧ wbits 0x80000023 0 6 ≤ 35
      ∧ wbit 0 31 = false ∧ MayChange base CNS_COMMIT ∧ fldB base.chip CNS_CTL_host_bank = false) := by
  refine ⟨?_, ?_, ?_, ?_, ?_, ?_, ?_, ?_, ?_⟩ <;> decide +kernel

def wReqR : CharReq := ⟨1, 0, 1, 5, 0, true, 200, 64, 32767, -1, none, -205, 0, [], []⟩
def wReq (r : CharReq) : State := dev (fun c => { c with cns := { c.cns with reqs := setNth c.cns.reqs 0 (some r) } })

theorem test_wit_characterization_requests_act :
        ((let s := wReq wReqR
      s.held = none ∧ getReq s.chip 0 = some wReqR ∧ wReqR.status = 1 ∧ 1 ≤ (period s.chip - wReqR.listed).toNat
      ∧ ((period s.chip - wReqR.listed).toNat - 1) % 1024 = 0 ∧ charFree s.chip wReqR.cell = false ∧ charRoom s.chip wReqR.cell = true)
    ∧ charFree (dev (fun c => { (wReq wReqR).chip with lpe := { c.lpe with pendEmpty := true, cells := [(0, { Cell.reset with mode := .run })] } })).chip 0 = true)
    ∧ (let r := { wReqR with status := 3 }
      let s := dev (fun c => { (wReq r).chip with lpe := { c.lpe with computedP := 0 } })
      s.held = none ∧ getReq s.chip 0 = some r ∧ (((r.point + 1) * r.dwell : Nat) : Int) ≤ pdiff (period s.chip) (r.from_ + 4) + 1
      ∧ s.chip.lpe.computedP = period s.chip ∧ changeWaits s.chip (24 * 16) = false)
    ∧ ((let r := { wReqR with status := 4, ended := some (-4000000) }
      (wReq r).held = none ∧ getReq (wReq r).chip 0 = some r ∧ MayChange (wReq r) (CNS_CHAR_RES_B 0)
        ∧ 4000000 ≤ (period (wReq r).chip - (-4000000)).toNat)
    ∧ MayChange (wReq wReqR) (CNS_CHAR_RES_B 0) ∧ wReqR.status < 3) := by
  refine ⟨?_, ?_, ?_⟩ <;> decide +kernel

theorem test_wit_attendant_latches_and_reacts :
        (base.held = none)
    ∧ (base.held = none ∧ srcReserved 1 = false ∧ (period base.chip).toNat % winLength base.chip 1 = 0
    ∧ fld base.chip (ATT_SRC_win_cnt 1) = 0)
    ∧ (base.held = none ∧ srcReserved 1279 = true
    ∧ (let s := dev (fun c => { c with tmr := { c.tmr with period := 1 } })
      s.held = none ∧ (period s.chip).toNat % winLength s.chip (1 : Fin 1280) ≠ 0))
    ∧ (MayWrite base ATT_SEV_ACK)
    ∧ (let s := dev (fun c => setB { c with att := { c.att with acks := [(0, 0)] } } ATT_CTL_severe true)
      s.held = none ∧ s.chip.att.acks = [(0, 0)] ∧ due s.chip 0 = true ∧ severeRuns s.chip = true ∧ fld s.chip ATT_SEV_SRC_source = 0)
    ∧ (base.held = none ∧ base.chip.att.acks = [] ∧ severeRuns base.chip = false)
    ∧ (let s := dev (fun c => setB { c with tmr := { c.tmr with period := 4000000 } } ATT_CTL_severe true)
      s.held = none ∧ s.chip.att.acks = [] ∧ severeRuns s.chip = true
      ∧ pReached (period s.chip) (rd s.chip ATT_SEV_P + toW (4 * ackTime s.chip)) = true)
    ∧ (MayWrite base ATT_INJ ∧ srcReserved (wbits 0x00010000 16 11) = false ∧ srcReserved (wbits 0x07FF0000 16 11) = true)
    ∧ (base.held = none)
    ∧ (let s := dev (fun c => { c with att := { c.att with entry := some (0, 1) } })
      s.held = none ∧ s.chip.att.entry = some (0, 1))
    ∧ (base.held = none ∧ base.chip.att.entry = none)
    ∧ (let s := dev (fun c => { c with att := { c.att with entry := some (0, 1) } })
      s.held = none ∧ s.chip.att.entry = some (0, 1)) := by
  refine ⟨?_, ?_, ?_, ?_, ?_, ?_, ?_, ?_, ?_, ?_, ?_, ?_⟩ <;> decide +kernel

def wRec : LRec := ⟨5, 1, 0, false, true, true, 7, [], 0⟩

theorem test_wit_ledger_records_vault_and_alarms :
        (let e : Nat × OpenRec := (3, ⟨0, -4000, 1, 0, 0, 0, false, true⟩)
      let s := dev (fun c => { c with ldg := { c.ldg with opened := [e] } })
      s.held = none ∧ s.chip.ldg.opened.filter (fun e => decide (4000 ≤ pdiff s.chip.tmr.period e.2.pFirst)) = [e]
      ∧ mapGet s.chip.ldg.opened 3 = some e.2)
    ∧ (let s := dev (fun c => { c with ldg := { c.ldg with ring := [(5, wRec)], copied := 5 } })
      s.held = none ∧ mapGet s.chip.ldg.ring (s.chip.ldg.copied.toNat % 8192) = some wRec ∧ wRec.seq = s.chip.ldg.copied
      ∧ copyAllowed s.chip = true)
    ∧ (base.held = none ∧ mapGet base.chip.ldg.ring (base.chip.ldg.copied.toNat % 8192) = none)
    ∧ (base.held = none)
    ∧ (let s := dev (fun c => { c with ldg := { c.ldg with freeze := some ⟨5, 2⟩, copied := 6 } })
      s.held = none ∧ s.chip.ldg.freeze = some ⟨5, 2⟩ ∧ pReached s.chip.ldg.copied (5 + 1) = true
      ∧ (5 - s.chip.ldg.logFirst).toNat < 2097152)
    ∧ (base.held = none ∧ base.chip.ldg.freeze = none)
    ∧ (MayWrite base LDG_VAULT_CTL ∧ MayWrite base LDG_FW_SUBMIT ∧ wbit 0 31 = false)
    ∧ (MayWrite base LDG_VAULT_CTL ∧ MayWrite base LDG_FW_SUBMIT ∧ wbit 0x80000000 31 = true ∧ base.chip.ldg.waiting.length < 192
    ∧ (let s := dev (fun c => { c with ldg := { c.ldg with waiting := List.replicate 192 wRec } })
      MayWrite s LDG_FW_SUBMIT ∧ 192 ≤ s.chip.ldg.waiting.length))
    ∧ (base.held = none ∧ base.chip.tmr.period.toNat % 40000 = 0)
    ∧ (let s := dev (fun c => { c with tmr := { c.tmr with period := 1 } }); s.held = none ∧ s.chip.tmr.period.toNat % 40000 ≠ 0)
    ∧ (base.held = none ∧ base.chip.ldg.alarms = []
    ∧ (let s := dev (fun c => setB { c with ldg := { c.ldg with alarms := [⟨[], 1, false, none, []⟩] } } ATT_CTL_grave true)
      s.held = none ∧ acting s.chip = false))
    ∧ (let s := dev (fun c => { c with ldg := { c.ldg with alarms := [⟨[], 1, false, none, []⟩] } })
      s.held = none ∧ s.chip.ldg.alarms = [⟨[], 1, false, none, []⟩] ∧ acting s.chip = true
      ∧ (kindPorts s.chip 2).filter (fun n => linkUp s.chip n && txActing s.chip n) = [])
    ∧ (let s := dev (fun c => wr (wr (setB (setB { c with ldg := { c.ldg with alarms := [⟨[], 1, false, none, []⟩] } } (SVP_P_STAT_link_up 0) true) (TXS_P_STAT_acting 0) true)
        TXS_SRC_PORTS 0x111111) (TXS_PQ_SHARE 0 5) 64)
      s.held = none ∧ s.chip.ldg.alarms = [⟨[], 1, false, none, []⟩] ∧ acting s.chip = true
      ∧ (kindPorts s.chip 2).filter (fun n => linkUp s.chip n && txActing s.chip n) = [0]
      ∧ (queueFormed (kindNext s.chip 2) 0 2 false 1 (kindSeq s.chip 2) []).isSome = true)
    ∧ (base.held = none ∧ exportDue base.chip = false)
    ∧ (let s := dev (fun c => setB { c with ldg := { c.ldg with exports := List.replicate 32 wRec } } LDG_CTL_export_en true)
      s.held = none ∧ fldB s.chip LDG_CTL_export_en = true ∧ acting s.chip = true ∧ exportDue s.chip = true
      ∧ kindPorts s.chip 3 = [])
    ∧ (let s := dev (fun c => wr (wr (setB (setB (setB { c with ldg := { c.ldg with exports := List.replicate 32 wRec } } LDG_CTL_export_en true) (SVP_P_STAT_link_up 0) true) (TXS_P_STAT_acting 0) true)
        TXS_SRC_PORTS 0x1000) (TXS_PQ_SHARE 0 4) 64)
      s.held = none ∧ exportDue s.chip = true ∧ kindPorts s.chip 3 = [0] ∧ linkUp s.chip 0 = true ∧ txActing s.chip 0 = true) := by
  refine ⟨?_, ?_, ?_, ?_, ?_, ?_, ?_, ?_, ?_, ?_, ?_, ?_, ?_, ?_, ?_, ?_⟩ <;> decide +kernel

theorem test_wit_vitrine_captures_and_exports :
        ((let s := dev (fun c => setB c VIT_CTL_in_en true); s.held = none ∧ fldB s.chip VIT_CTL_in_en = true) ∧ MayWrite base VIT_TRIG)
    ∧ (let s := dev (fun c => setB c VIT_CTL_in_en false); s.held = none ∧ fldB s.chip VIT_CTL_in_en = false)
    ∧ (base.held = none ∧ base.chip.vit.waits = [] ∧ base.chip.vit.copy = none ∧ base.chip.vit.export_ = none)
    ∧ (let s := dev (fun c => { c with vit := { c.vit with waits := [⟨0, 1, 0xFFFF⟩] } })
      s.held = none ∧ s.chip.vit.waits.find? (fun x => due s.chip x.v) = some ⟨0, 1, 0xFFFF⟩ ∧ fldB s.chip VIT_STAT_busy = false
      ∧ (freeSlot s.chip).isSome = true ∧ fldB (setB s.chip VIT_STAT_busy true) VIT_STAT_busy = true
      ∧ freeSlot (wr s.chip VIT_SLOT_LOCK 0xFFFF) = none)
    ∧ (let s := dev (fun c => { wr (wr c (DDR_PART_SIZE 0) 1) (DDR_PART_WR 0) 0xFFFF with vit := { c.vit with copy := some ⟨0, [1]⟩ } })
      s.held = none ∧ s.chip.vit.copy = some ⟨0, [1]⟩ ∧ ddrMay s.chip 9 true (vitSlot s.chip 0) 1 = true
      ∧ ddrMay base.chip 9 true (vitSlot base.chip 0) 1 = false)
    ∧ (MayWrite base VIT_EXPORT ∧ base.chip.vit.export_ = none)
    ∧ (let s := dev (fun c => { c with vit := { c.vit with export_ := some ⟨0, 56⟩ } })
      MayWrite s VIT_EXPORT ∧ s.chip.vit.export_ = some ⟨0, 56⟩)
    ∧ (let s := dev (fun c => setB { c with vit := { c.vit with export_ := some ⟨0, 56⟩ } } TWN_CTL_twin_en true)
      s.held = none ∧ s.chip.vit.export_ = some ⟨0, 56⟩ ∧ acting s.chip = false)
    ∧ (let s := dev (fun c => wr { c with vit := { c.vit with export_ := some ⟨0, 56⟩ } } TXS_SRC_PORTS 0x100000)
      s.held = none ∧ acting s.chip = true ∧ kindPorts s.chip 5 = [0] ∧ (linkUp s.chip 0 && txActing s.chip 0) = false)
    ∧ (let s := dev (fun c => wr (wr (wr (wr (setB (setB { c with vit := { c.vit with export_ := some ⟨0, 56⟩ } } (SVP_P_STAT_link_up 0) true) (TXS_P_STAT_acting 0) true)
        TXS_SRC_PORTS 0x100000) (TXS_PQ_SHARE 0 1) 64) (DDR_PART_SIZE 0) 8) (DDR_PART_WR 0) 0xFFFF)
      s.held = none ∧ acting s.chip = true ∧ kindPorts s.chip 5 = [0] ∧ (linkUp s.chip 0 && txActing s.chip 0) = true
      ∧ (let payload := [0, 0, 0, 0] ++ beBytes 4 0x70000 ++ memBytes s.chip 9 (vitSlot s.chip 0 + 0x70000) 0x1000
         (queueFormed s.chip 0 5 false 1 (kindSeq s.chip 5) payload).isSome = true
         ∧ (queueFormed (kindNext (ddrNote s.chip 9 false (vitSlot s.chip 0 + 0x70000) 0x1000) 5) 0 5 false 1 (kindSeq s.chip 5) payload).isSome = true)) := by
  refine ⟨?_, ?_, ?_, ?_, ?_, ?_, ?_, ?_, ?_, ?_⟩ <;> decide +kernel

theorem test_wit_resets_begin_and_leave :
        (base.held ≠ some .cold ∧ keptReg false ATT_GRAVE = true ∧ keptReg false LDG_SEQ = false)
    ∧ (({ base with held := some .cold } : State).held = some .cold ∧ base.held = none)
    ∧ (({ base with held := some .cold } : State).held = some .cold) := by
  refine ⟨?_, ?_, ?_⟩ <;> decide +kernel

theorem test_wit_restarts_watchdog_and_start_actions :
        (MayWrite base GLB_RESTART ∧ base.chip.glb.restart = none)
    ∧ (let s := dev (fun c => { c with glb := { c.glb with restart := some (0xA0000000, 9) } })
      MayWrite s GLB_RESTART ∧ s.chip.glb.restart ≠ none)
    ∧ (base.held = none ∧ base.chip.glb.restart = none)
    ∧ (let s := dev (fun c => { c with glb := { c.glb with restart := some (0xA0000000, 0) } })
      s.held = none ∧ s.chip.glb.restart = some (0xA0000000, 0) ∧ due s.chip 0 = true ∧ wbits 0xA0000000 29 2 = 1
      ∧ wbits 0xC0000000 29 2 = 2)
    ∧ (MayWrite base GLB_WDT ∧ (let s := dev (fun c => setFld { c with tmr := { c.tmr with ticks := 1000000 } } GLB_WDT_timeout 1)
      s.held = none ∧ fld s.chip GLB_WDT_timeout ≠ 0 ∧ s.chip.glb.wdtFrom + wdtTicks s.chip ≤ s.chip.tmr.ticks ∧ s.chip.glb.restart = none))
    ∧ (base.held = none ∧ fld base.chip GLB_WDT_timeout = 0)
    ∧ (MayWrite base GLB_SVN_COMMIT)
    ∧ (base.held = none ∧ base.chip.glb.start = none
    ∧ (let s := dev (fun c => { c with topo := some wTopo, glb := { c.glb with start := some ⟨0, [], true, none, true, none⟩ } })
      s.chip.glb.start = some ⟨0, [], true, none, true, none⟩
      ∧ (maskTiles s.chip).all (fun t => linkState s.chip t == 6) = false ∧ pReached (period s.chip) (0 + 40000) = false))
    ∧ (let s := fun (st : Nat) => dev (fun c => { c with
        ars := { c.ars with store := [(4, st)] },
        glb := { c.glb with start := some ⟨0, [], false, none, false, none⟩, profile := [0, 0, 0, 0, 0, 0, 4, 0, 0, 0, 0, 0, 1] } })
      (s 1).held = none ∧ (s 1).chip.glb.start = some ⟨0, [], false, none, false, none⟩
      ∧ (maskTiles (s 1).chip).all (fun t => linkState (s 1).chip t == 6) = true
      ∧ bitsAt (leAt (s 1).chip.glb.profile 1 1) 0 2 = curMode (s 1).chip ∧ leAt (s 1).chip.glb.profile 6 2 ≠ 0xFFFF
      ∧ storeState (s 1).chip 4 = 1 ∧ storeState (s 0).chip 4 ≠ 1 ∧ Single (s 1).chip ∧ reachable (s 1).chip (DOC_CMD 3) = true
      ∧ fldB (s 1).chip DOC_CTL_host_en = true ∧ hostQueued (s 1).chip < 8 ∧ (s 1).chip.deferred = [])
    ∧ (let p := fun (b : Byte) => [b, 0, 0, 0, 0, 0, 0xFF, 0xFF, 0, 0, 0, 0, 1]
      let s := fun (b : Byte) (r : StartRun) => dev (fun c => { c with glb := { c.glb with start := some r, profile := p b } })
      let r : StartRun := ⟨0, [], false, none, false, none⟩
      (s 0 r).held = none ∧ (s 0 r).chip.glb.start = some r ∧ (maskTiles (s 0 r).chip).all (fun t => linkState (s 0 r).chip t == 6) = true
      ∧ leAt (p 0) 6 2 = 0xFFFF ∧ bitsAt (leAt (p 0) 1 1) 0 2 = curMode (s 0 r).chip ∧ bitsAt (leAt (p 0) 0 1) 4 1 = 0
      ∧ bitsAt (leAt (p 16) 0 1) 4 1 = 1 ∧ Single (s 16 r).chip ∧ reachable (s 16 r).chip PRG_CMD = true
      ∧ fldB (s 16 r).chip PRG_STAT_busy = false ∧ (s 16 r).chip.deferred = []) := by
  refine ⟨?_, ?_, ?_, ?_, ?_, ?_, ?_, ?_, ?_, ?_⟩ <;> decide +kernel

theorem test_wit_nor_commands_act :
        (MayWrite base NVL_CMD ∧ base.chip.glb.nvl = none ∧ wbits (withNvl 255 1) 0 9 + 1 ≤ 256
    ∧ inActiveCopy base.chip (rn base.chip NVL_ADDR) 256 = false ∧ inActiveCopy base.chip (sectorOf (rn base.chip NVL_ADDR)) 0x10000 = false)
    ∧ (MayWrite base NVL_CMD ∧ base.chip.glb.nvl = none ∧ wbits 256 0 9 + 1 > 256
    ∧ (let s := dev (fun c => { c with glb := { c.glb with nvl := some (0x10000000, 0) } }); MayWrite s NVL_CMD ∧ s.chip.glb.nvl ≠ none)
    ∧ (let s := dev (fun c => setFld { c with glb := { c.glb with nor := [(16, 1)] } } GLB_BOOT_STAT_state 1)
      MayWrite s NVL_CMD ∧ s.chip.glb.nvl = none ∧ inActiveCopy s.chip (rn s.chip NVL_ADDR) 1 = true
        ∧ inActiveCopy s.chip (sectorOf (rn s.chip NVL_ADDR)) 0x10000 = true))
    ∧ (base.held = none ∧ base.chip.glb.nvl = none)
    ∧ (let s := dev (fun c => { c with glb := { c.glb with nvl := some (0x10000000, 0) } })
      s.held = none ∧ s.chip.glb.nvl = some (0x10000000, 0) ∧ wbits 0x10000000 28 4 = 1 ∧ wbits 0x20000000 28 4 = 2 ∧ wbits 0x30000000 28 4 = 3) := by
  refine ⟨?_, ?_, ?_, ?_⟩ <;> decide +kernel

def wBus : State := dev (fun c => { wr (wr (wr c (DDR_PART_SIZE 0) 1) (DDR_PART_WR 0) 0xFFFF) (DDR_PART_RD 0) 0xFFFF with xbr := { c.xbr with busy := [(0, ⟨0, 0, 32, none⟩)] } })

theorem test_wit_matrix_grants_and_answers :
        (let q : MatrixReq := ⟨0, 0, 32, none⟩
      base.held = none ∧ [q].all (fun q => reqLegal q && (matrixTarget base.chip q.master q.addr).isSome) = true
      ∧ mapGet base.chip.xbr.busy 0 = none ∧ chooseGrant base.chip 0 [q] = some q ∧ matrixTarget base.chip 0 0 = some 0)
    ∧ (let q : MatrixReq := ⟨0, 0, 32, none⟩
      wBus.held = none ∧ [q].all (fun q => reqLegal q && (matrixTarget wBus.chip q.master q.addr).isSome) = true
      ∧ mapGet wBus.chip.xbr.busy 0 ≠ none)
    ∧ (let q : MatrixReq := ⟨2, 0, 32, none⟩
      base.held = none ∧ reqLegal q = true ∧ matrixTarget base.chip q.master q.addr = none ∧ base.chip.xbr.busy = [])
    ∧ (base.held = none ∧ base.chip.xbr.busy = [])
    ∧ (let s := fun (n : Nat) => dev (fun c => { c with xbr := { c.xbr with busy := [(4, ⟨0, 2 ^ 36, n, none⟩)] } })
      (s 4).held = none ∧ mapGet (s 4).chip.xbr.busy 4 = some ⟨0, 2 ^ 36, 4, none⟩
      ∧ mapGet (s 8).chip.xbr.busy 4 = some ⟨0, 2 ^ 36, 8, none⟩)
    ∧ (let s := wBus
      s.held = none ∧ mapGet s.chip.xbr.busy 0 = some ⟨0, 0, 32, none⟩ ∧ ddrMay s.chip 0 false 0 32 = true ∧ ddrMay base.chip 0 false 0 32 = false
      ∧ ddrMay s.chip 0 true 0 32 = true)
    ∧ (wBus.held = none ∧ mapGet wBus.chip.xbr.busy 0 = some ⟨0, 0, 32, none⟩)
    ∧ (wBus.held = none ∧ wBus.chip.xbr.busy.find? (fun e => e.2.master == 0) = some (0, ⟨0, 0, 32, none⟩) ∧ (1 : BitVec 10) ≠ 0) := by
  refine ⟨?_, ?_, ?_, ?_, ?_, ?_, ?_, ?_⟩ <;> decide +kernel

theorem test_wit_memory_controller_and_pcie_act :
        (let s := dev (fun c => setB (setB c DDR_STAT_trained true) DDR_CTL_scrub_en true)
      s.held = none ∧ memServes s.chip = true ∧ fldB s.chip DDR_CTL_scrub_en = true ∧ (0 : BitVec 36).toNat < ddrUsable s.chip)
    ∧ (base.held = none ∧ memServes base.chip = false)
    ∧ (MayWrite base XBR_BAR2_WIN)
    ∧ (base.held = none ∧ pcieUp base.chip = false)
    ∧ (let s := dev (fun c => wr c XBR_PCIE_STAT 0x80000000)
      s.held = none ∧ pcieUp s.chip = true ∧ s.chip.pcie.d3hot = false ∧ ([1, 2, 3, 4] : List Byte).length = 4)
    ∧ (let s := dev (fun c => wr { c with pcie := { c.pcie with d3hot := true } } XBR_PCIE_STAT 0x80000000)
      s.held = none ∧ pcieUp s.chip = true ∧ s.chip.pcie.d3hot = true)
    ∧ (let s := dev (fun c => wr (wr (wr c (DDR_PART_SIZE 0) 1) (DDR_PART_WR 0) 0xFFFF) XBR_PCIE_STAT 0x80000000)
      s.held = none ∧ pcieUp s.chip = true ∧ s.chip.pcie.d3hot = false ∧ ddrMay s.chip 1 true (bar2Address s.chip 0) 4 = true
      ∧ ddrMay base.chip 1 true (bar2Address base.chip 0) 4 = false)
    ∧ (let s := dev (fun c => wr (wr (wr c (DDR_PART_SIZE 0) 1) (DDR_PART_RD 0) 0xFFFF) XBR_PCIE_STAT 0x80000000)
      s.held = none ∧ pcieUp s.chip = true ∧ s.chip.pcie.d3hot = false ∧ (masterRead s.chip 1 0).readResp = 0
      ∧ splitPieces (bar2Address s.chip 0) 4 = [(bar2Address s.chip 0, 4)] ∧ ddrMay s.chip 1 false (bar2Address s.chip 0) 4 = true)
    ∧ (base.held = none ∧ (1 : Fin 6) ≠ 0)
    ∧ (base.held = none ∧ wbit (rd base.chip XBR_PCIE_STAT) 31 = false ∧ bitsAt base.chip.pcie.pend.toNat 0 1 = 0)
    ∧ ((let s := dev (fun c => wr c XBR_PCIE_STAT 0x80000000); s.held = none ∧ wbit (rd s.chip XBR_PCIE_STAT) 31 = true)
    ∧ (let s := dev (fun c => { c with pcie := { c.pcie with pend := 1, enable := true, funcMask := false, busMaster := true, table := mapWrite (fun i => if i % 4 = 3 then 1 else 0) [] 3 0 } })
      bitsAt s.chip.pcie.pend.toNat 0 1 = 1 ∧ msixReady s.chip 0 = true)) := by
  refine ⟨?_, ?_, ?_, ?_, ?_, ?_, ?_, ?_, ?_, ?_, ?_⟩ <;> decide +kernel

theorem test_wit_smbus_target_serves :
        (base.held = none ∧ ([0, 0, 0, 0, 1] : List Byte).length = 5 ∧ ([0, 0, 0, 0] : List Byte).length = 4)
    ∧ (base.held = none ∧ (let s := dev (fun c => setB { c with att := { c.att with alertLow := true } } SBM_CTL_sb_alert_en true); sbAlertLow s.chip = true)
    ∧ sbAlertLow base.chip = false)
    ∧ (base.held = none ∧ ([] : List Byte).length ≠ 5 ∧ ([0, 0, 0, 0] : List Byte).length = 4)
    ∧ (({ base with held := some .cold } : State).held = some .cold) := by
  refine ⟨?_, ?_, ?_, ?_⟩ <;> decide +kernel

theorem test_wit_power_domains_switch :
        (MayChange base (PDM_DOM 5) ∧ base.chip.pdm.waits = [])
    ∧ ((let s := dev (fun c => setFld { c with pdm := { c.pdm with waits := [(42, 0x40000000, 0), (53, 0x80000000, 0)] } } (PDM_DOM_state 42) 0)
      s.held = none ∧ s.chip.pdm.waits.find? (fun y => y.1 == 42 && due s.chip y.2.2) = some (42, 0x40000000, 0)
      ∧ wbits 0x40000000 30 2 = 1 ∧ fld s.chip (PDM_DOM_state 42) = 0 ∧ fld s.chip (PDM_DOM_state 52) = 1
      ∧ s.chip.pdm.waits.find? (fun y => y.1 == 53 && due s.chip y.2.2) = some (53, 0x80000000, 0)
      ∧ fld s.chip (PDM_DOM_state 53) = 1 ∧ offReason s.chip 53 0 = 0)
    ∧ (let s := dev (fun c => setFld { c with pdm := { c.pdm with waits := [(43, 0x40000000, 0), (55, 0x80000000, 0), (2, 0x80000000, 0)] } } (PDM_DOM_state 52) 0)
      let t := setFld s.chip (PDM_DOM_state 2) 2
      fld s.chip (PDM_DOM_state 43) ≠ 2 ∧ fld s.chip (PDM_DOM_state 52) ≠ 1 ∧ offReason s.chip 55 0 ≠ 0 ∧ fld s.chip (PDM_DOM_state 55) ≠ 2
      ∧ t.pdm.waits.find? (fun y => y.1 == 2 && due t y.2.2) = some (2, 0x80000000, 0) ∧ fld t (PDM_DOM_state 2) = 2))
    ∧ (let s := dev (fun c => setFld { c with pdm := { c.pdm with waits := [(42, 0x40000000, 0), (53, 0x80000000, 0)] } } (PDM_DOM_state 53) 0)
      s.held = none ∧ s.chip.pdm.waits.find? (fun y => y.1 == 42 && due s.chip y.2.2) = some (42, 0x40000000, 0)
      ∧ fld s.chip (PDM_DOM_state 42) = 1 ∧ fld s.chip (PDM_DOM_state 52) = 1
      ∧ s.chip.pdm.waits.find? (fun y => y.1 == 53 && due s.chip y.2.2) = some (53, 0x80000000, 0)
      ∧ fld s.chip (PDM_DOM_state 53) = 0 ∧ offReason s.chip 53 0 = 0)
    ∧ (base.held = none ∧ base.chip.pdm.waits = [] ∧ base.chip.pdm.switching = [])
    ∧ (let s := dev (fun c => { c with tmr := { c.tmr with period := 128 }, pdm := { c.pdm with switching := [(5, true, 0), (6, false, 0)] } })
      s.held = none ∧ (6, false, 0) ∈ s.chip.pdm.switching ∧ (5, true, 0) ∈ s.chip.pdm.switching ∧ pReached (period s.chip) (0 + 128) = true) := by
  refine ⟨?_, ?_, ?_, ?_, ?_⟩ <;> decide +kernel

theorem test_wit_assembly_sequencer_acts :
        (MayChange base PDM_ASM_CTL ∧ base.chip.pdm.seq = none
    ∧ (let s := dev (fun c => { c with pdm := { c.pdm with seq := some ⟨true, 0, [], 0, []⟩ } }); MayChange s PDM_ASM_CTL ∧ s.chip.pdm.seq ≠ none))
    ∧ (let q : SeqRun := ⟨true, 0, [], 0, []⟩
      let s := dev (fun c => { c with pdm := { c.pdm with seq := some q } })
      let t := dev (fun c => setB { c with tmr := { c.tmr with ticks := 10000000 }, pdm := { c.pdm with seq := some q } } (PDM_RAIL_CFG_valid 3) true)
      s.held = none ∧ s.chip.pdm.seq = some q ∧ groupRails s.chip 0 = [] ∧ s.chip.pdm.bus = []
      ∧ t.chip.pdm.seq = some q ∧ (groupRails t.chip 0).find? (fun r => !q.seen.contains r) = some 3 ∧ 10000000 ≤ t.chip.tmr.ticks - q.last)
    ∧ (base.held = none ∧ groupLeft base.chip = none
    ∧ (let q : SeqRun := ⟨true, 0, [], 0, []⟩
      let s := dev (fun c => setB { c with pdm := { c.pdm with seq := some q } } (PDM_RAIL_CFG_valid 3) true)
      let t := dev (fun c => { c with pdm := { c.pdm with seq := some q } })
      groupLeft s.chip = some (q, [3]) ∧ s.chip.tmr.ticks - q.last < 10000000 ∧ groupLeft t.chip = some (q, [])))
    ∧ (base.held = none ∧ base.chip.pdm.downAt = none ∧ base.chip.pdm.hotRun ≠ 4
    ∧ acting (dev (fun c => setB c ATT_CTL_grave true)).chip = false)
    ∧ (let s := fun (up : Bool) => dev (fun c => { c with pdm := { c.pdm with downAt := some 0, seq := some ⟨up, 0, [], 0, []⟩ } })
      (s true).held = none ∧ (s true).chip.pdm.downAt = some 0 ∧ due (s true).chip 0 = true ∧ acting (s true).chip = true
      ∧ (s false).chip.pdm.seq = some ⟨false, 0, [], 0, []⟩)
    ∧ (let s := dev (fun c => { c with pdm := { c.pdm with downAt := some 0 } })
      s.held = none ∧ s.chip.pdm.downAt = some 0 ∧ due s.chip 0 = true ∧ s.chip.pdm.seq = none ∧ acting s.chip = true)
    ∧ (base.held = none ∧ acting base.chip = true ∧ (dev (fun c => { c with pdm := { c.pdm with hotRun := 4 } })).chip.pdm.hotRun = 4) := by
  refine ⟨?_, ?_, ?_, ?_, ?_, ?_, ?_⟩ <;> decide +kernel

theorem test_wit_pmbus_transactions_act :
        (MayWrite base PDM_PMB_XFER ∧ acting base.chip = true ∧ wbit (rd base.chip PDM_PMB_STAT) 31 = false)
    ∧ ((let s := dev (fun c => wr c PDM_PMB_STAT 0x80000000); MayWrite s PDM_PMB_XFER ∧ wbit (rd s.chip PDM_PMB_STAT) 31 = true)
    ∧ (let s := dev (fun c => setB c ATT_CTL_grave true)
      MayWrite s PDM_PMB_XFER ∧ wbit (rd s.chip PDM_PMB_STAT) 31 = false ∧ acting s.chip = false))
    ∧ (base.held = none ∧ mayPoll base.chip = false ∧ base.chip.pdm.bus = []
    ∧ (let s := dev (fun c => setB (setFld c PDM_ASM_STAT_asm_state 2) (PDM_RAIL_CFG_valid 3) true)
      mayPoll s.chip = true ∧ pollRail s.chip = some 3 ∧ mapGet s.chip.pdm.mode 3 = none))
    ∧ (let t : PmbTx := ⟨none, 0x30000000, none, 0⟩
      let s := dev (fun c => { c with pdm := { c.pdm with bus := [t] } })
      s.held = none ∧ s.chip.pdm.bus = [t] ∧ s.chip.pdm.seq = none ∧ bitsAt t.cmd 28 3 = 3 ∧ bitsAt 0x40000000 28 3 = 4 ∧ bitsAt 0x10000000 28 3 = 1
      ∧ bitsAt 0x20000000 28 3 = 2)
    ∧ (let f := fun (a : List Nat) => dev (fun c => setB (setFld { c with pdm := { c.pdm with mode := [(3, 0)], alert := a } } PDM_ASM_STAT_asm_state 2) (PDM_RAIL_CFG_valid 3) true)
      (f []).held = none ∧ mayPoll (f []).chip = true ∧ pollRail (f []).chip = some 3 ∧ mapGet (f []).chip.pdm.mode 3 ≠ none
      ∧ mayPoll (f [3]).chip = true ∧ pollRail (f [3]).chip = some 3) := by
  refine ⟨?_, ?_, ?_, ?_, ?_⟩ <;> decide +kernel

theorem test_wit_converter_runs_sequences :
        (let s := dev (fun c => setFld c (AUX_SEQ_CTL_trig 2) 1)
      let stored := showAux (wr base.chip (AUX_SEQ_CTL 2) (seqCtlStored (0 ||| 0x80000000)))
      MayWrite base (AUX_SEQ_CTL 2) ∧ fldB stored AUX_CTL_adc_en = true ∧ fldB s.chip AUX_CTL_adc_en = true ∧ fld s.chip (AUX_SEQ_CTL_trig 2) = 1
      ∧ (period s.chip).toNat % max 4 (fld s.chip (AUX_SEQ_CTL_interval 2)) = 0)
    ∧ (let s := dev (fun c => setB c AUX_CTL_adc_en false)
      let stored := showAux (wr s.chip (AUX_SEQ_CTL 2) (seqCtlStored (0 ||| 0x80000000)))
      MayWrite s (AUX_SEQ_CTL 2) ∧ fldB stored AUX_CTL_adc_en = false ∧ s.held = none ∧ MayWrite s AUX_URG
        ∧ fldB s.chip AUX_CTL_adc_en = false)
    ∧ (base.held = none ∧ base.chip.aux.conv = none ∧ base.chip.aux.lastEnd = none ∧ fldB base.chip AUX_STAT_trimming = false
    ∧ base.chip.tmr.ticks - base.chip.aux.trimEnd < fld base.chip AUX_CTL_trim_interval * 1000000000)
    ∧ (MayWrite base AUX_URG ∧ fldB base.chip AUX_CTL_adc_en = true ∧ fldB base.chip AUX_STAT_urg_busy = false
    ∧ fldB (dev (fun c => setB c AUX_STAT_urg_busy true)).chip AUX_STAT_urg_busy = true)
    ∧ (let f := fun k => dev (fun c => { c with aux := { c.aux with conv := some (k, 5) } })
      (f .urgent).held = none ∧ (f .urgent).chip.aux.conv = some (.urgent, 5) ∧ (f .trim).chip.aux.conv = some (.trim, 5)
      ∧ (f (.seq 0 1)).chip.aux.conv = some (.seq 0 1, 5)
      ∧ (dev (fun c => { c with aux := { c.aux with conv := some (.trim, 46), ovrLast := true } })).chip.aux.ovrLast = true)
    ∧ (let s := dev (fun c => { c with tmr := { c.tmr with ticks := 10000 }, aux := { c.aux with lastEnd := some 0 } })
      s.held = none ∧ s.chip.aux.conv = none ∧ s.chip.aux.lastEnd = some 0 ∧ 10000 ≤ s.chip.tmr.ticks - 0)
    ∧ (MayWrite base AUX_RESQ ∧ base.chip.aux.queue = [] ∧ (dev (fun c => { c with aux := { c.aux with queue := [7] } })).chip.aux.queue = 7 :: [])
    ∧ (let s := dev (fun c => { c with tmr := { c.tmr with ticks := 60000000000 } })
      MayWrite s AUX_CTL ∧ s.held = none ∧ fld s.chip AUX_CTL_trim_interval ≠ 0 ∧ fldB s.chip AUX_STAT_trimming = false
      ∧ fld s.chip AUX_CTL_trim_interval * 1000000000 ≤ s.chip.tmr.ticks - s.chip.aux.trimEnd)
    ∧ (let s := dev (fun c => setB { c with aux := { c.aux with trimN := 256 } } AUX_STAT_trimming true)
      s.held = none ∧ fldB s.chip AUX_STAT_trimming = true ∧ s.chip.aux.conv = none ∧ 256 ≤ s.chip.aux.trimN ∧ 64 ≤ s.chip.aux.trimN) := by
  refine ⟨?_, ?_, ?_, ?_, ?_, ?_, ?_, ?_, ?_⟩ <;> decide +kernel

theorem test_wit_dac_and_tec_act :
        (MayChange base (AUX_DAC_CODE 3) ∧ MayChange base (AUX_DAC_CFG 3) ∧ wbits 2 0 3 ≠ 6 ∧ wbits 6 0 3 = 6)
    ∧ (base.held = none ∧ (dacCh base.chip 3).st ≠ 2)
    ∧ (let s := dev (fun c => modDac c 3 (fun d => { d with st := 2 }))
      s.held = none ∧ s.chip.aux.dac.length = 16 ∧ (dacCh s.chip 3).st = 2)
    ∧ (let s := dev (fun c => setFld c GLB_BOOT_STAT_state 1)
      s.held = none ∧ acting s.chip = true ∧ fld s.chip GLB_BOOT_STAT_state = 1 ∧ MayWrite s AUX_TEC_EVT ∧ acting base.chip = true
      ∧ fld base.chip GLB_BOOT_STAT_state ≠ 1) := by
  refine ⟨?_, ?_, ?_, ?_⟩ <;> decide +kernel

theorem test_wit_tap_instructions_and_debug_master :
        (fldB base.chip TMX_STAT_test_en = false ∧ fldB (dev (fun c => setB c TMX_STAT_test_en true)).chip TMX_STAT_test_en = true)
    ∧ ((let s := dev (fun c => setB c TMX_CTL_debug_en true)
      s.held = none ∧ jtagOn base.chip = false ∧ jtagOn s.chip = true ∧ (0x1000000000 : BitVec 40).toNat / 2 ^ 36 = 1 ∧ isTwin s.chip = false
      ∧ matrixTarget s.chip 13 (3 * 2 ^ 36) = none ∧ matrixTarget s.chip 13 (2 * 2 ^ 36) = some 10 ∧ matrixTarget s.chip 13 (2 * 2 ^ 36 + 0x8000000) = some 11)
    ∧ (let s := dev (fun c => setB (setB c TMX_CTL_debug_en true) TWN_CTL_twin_en true)
      isTwin s.chip = true ∧ isChange s.chip TMR_CTL = true ∧ (BitVec.ofNat 40 (2 ^ 36 + TMR_CTL)).toNat / 2 ^ 36 = 1)) := by
  refine ⟨?_, ?_⟩ <;> decide +kernel

theorem test_wit_register_space_accesses :
        (base.held = none ∧ (5 : BitVec 26).toNat % 4 ≠ 0)
    ∧ (base.held = none ∧ (8 : BitVec 26).toNat % 4 = 0 ∧ (3 : BitVec 4) ≠ 15)
    ∧ (base.held = none ∧ (8 : BitVec 26).toNat % 4 = 0 ∧ regMaster 1 = true ∧ busTarget 8 = 4 ∧ reachable base.chip 8 = true)
    ∧ (base.held = none ∧ bootHalted base.chip = false ∧ domainOn base.chip 53 = true)
    ∧ (base.held = none ∧ bootHalted base.chip = false ∧ regMaster 1 = true ∧ regMaster 7 = true) := by
  refine ⟨?_, ?_, ?_, ?_, ?_⟩ <;> decide +kernel

theorem test_wit_adjustment_is_slewed_or_split :
        (base.held = none ∧ base.chip.tmr.adj = none)
    ∧ (let a : Adj := ⟨BitVec.ofInt 64 (-3000170), false, false, 0⟩
      let s := dev (fun c => { c with tmr := { c.tmr with adj := some a } })
      s.held = none ∧ s.chip.tmr.adj = some a ∧ due s.chip a.e = true) := by
  refine ⟨?_, ?_⟩ <;> decide +kernel

theorem test_wit_periods_begin_on_network_time_and_slew :
        (base.held = none ∧ base.chip.twn.paired = false
    ∧ followsGrid base.chip = false ∧ fldB base.chip TMR_CTL_clk_mode = false ∧ base.chip.tmr.slew = 0 ∧ 0 < base.chip.tmr.inc
    ∧ base.chip.tmr.bndNs.toNat ≤ base.chip.tmr.timeNs.toNat ∧ base.chip.tmr.timeNs.toNat * 2 ^ 32 + base.chip.tmr.timeFrac.toNat + (210 - base.chip.tmr.tick) * base.chip.tmr.inc < (base.chip.tmr.bndNs.toNat + 250) * 2 ^ 32)
    ∧ (let s := dev (fun c => { c with tmr := { c.tmr with tick := 210 } }); s.held = none ∧ 210 ≤ s.chip.tmr.tick)
    ∧ (let s := dev (fun c => setFld { c with tmr := { c.tmr with slew := 80 } } TMR_CTL_slew_rate 4)
      s.held = none ∧ fldB s.chip TMR_CTL_clk_mode = false ∧ s.chip.tmr.tick < 30 ∧ 30 ≤ s.chip.tmr.tick + 60
      ∧ 0 < fld s.chip TMR_CTL_slew_rate ∧ s.chip.tmr.slew ≠ 0 ∧ base.chip.tmr.slew = 0) := by
  refine ⟨?_, ?_, ?_⟩ <;> decide +kernel

theorem test_wit_step_takes_the_front_command :
        (State.reset.pending = []) := by
  decide +kernel

theorem test_wit_every_command_completes :
        (({ State.reset with pending := [.idcodeIr] } : State).pending = .idcodeIr :: []) := by
  decide +kernel

theorem test_wit_held_device_stays_in_reset :
    let s : State := { pending := [.idcodeIr], held := some .cold, chip := coldState Chip.reset }
    HeldInv s ∧ s.held = some .cold ∧ ∃ t, step s = .next t := by
  refine ⟨⟨fun _ _ _ => rfl, fun _ => ⟨fun _ _ => rfl, rfl, rfl, rfl⟩, rfl⟩, rfl, _, rfl⟩

theorem test_wit_held_reset_takes_no_command :
        (({ State.reset with held := some .pin } : State).held.isSome = true ∧ actsInReset (.tecStep) = false)
    ∧ (({ State.reset with held := some .cold } : State).held = some .cold)
    ∧ (({ State.reset with held := some .pin } : State).held = some .pin ∧ ([0, 0, 0, 0] : List Byte).length = 4
    ∧ ([0, 0, 0, 0, 1] : List Byte).length = 5 ∧ bitsAt (leAt ([0, 0, 0, 0, 1] : List Byte) 4 1) 0 1 = 1) := by
  refine ⟨?_, ?_, ?_⟩ <;> decide +kernel

theorem test_wit_cold_reset_erases_the_past :
        (ColdAlike base (dev (fun c => ddrWrite (wr c TMR_CTL 0) 5 [7])) ∧ base ≠ dev (fun c => ddrWrite (wr c TMR_CTL 0) 5 [7])) := by
  decide +kernel

theorem test_wit_memory_operations_keep_the_canonical_form :
        (mapWf resetReg (wr Chip.reset TMR_CTL 5).regs = true ∧ mapWf (fun _ => 0) (ddrWrite Chip.reset 4 [1, 0, 2]).ddr = true
    ∧ mapWf (fun _ => 0xFF) (norWrite Chip.reset 4 [1]).glb.nor = true ∧ mapWf (fun _ => 0xFF) (mramWrite Chip.reset 4 [1]).glb.mram = true)
    ∧ (mapWf (fun _ => 0) (ddrWrite Chip.reset 4 [1, 0, 2]).ddr = true) := by
  refine ⟨?_, ?_⟩ <;> decide +kernel

theorem test_wit_memory_writes_touch_only_their_bytes :
        (wBus.held = none ∧ mapGet wBus.chip.xbr.busy 0 = some ⟨0, 0, 32, none⟩
    ∧ (let s := dev (fun c => { wr (wr c (DDR_PART_SIZE 0) 1) (DDR_PART_WR 0) 0xFFFF with xbr := { c.xbr with busy := [(0, ⟨0, 0, 2, some [1, 2]⟩)] } })
      mapGet s.chip.xbr.busy 0 = some ⟨0, 0, 2, some [1, 2]⟩ ∧ ddrMay s.chip 0 true 0 2 = true))
    ∧ (let s := dev (fun c => { c with glb := { c.glb with nvl := some (0x20000000, 0) } })
      s.held = none ∧ s.chip.glb.nvl = some (0x20000000, 0) ∧ wbits 0x20000000 28 4 = 2 ∧ wbits 0x30000000 28 4 = 3) := by
  refine ⟨?_, ?_⟩ <;> decide +kernel

theorem test_wit_families_keep_other_registers_and_memory :
        (isTimeCmd .slewCorrection = true ∧ Instr.slewCorrection ≠ .adjustmentEffect)
    ∧ (∀ n : Fin 4, (txPort base.chip n).gatePend = none)
    ∧ (isAssemblyCmd .pmbAlert = true)
    ∧ (isAnalogCmd .tecStep = true) := by
  refine ⟨?_, ?_, ?_, ?_⟩ <;> decide +kernel

theorem test_wit_unreachable_registers_keep_their_values :
        (let s := dev (fun c => setFld c GLB_BOOT_STAT_state 2)
      s.held = none ∧ bootHalted s.chip = true ∧ (0x1400000 : BitVec 26).toNat % 4 = 0 ∧ 0x100000 ≤ (0x1400000 : BitVec 26).toNat
      ∧ (0x1400000 : BitVec 26).toNat / 0x100000 ≠ 2)
    ∧ (let s := dev (fun c => setFld c (PDM_DOM_state 53) 0)
      s.held = none ∧ bootHalted s.chip = false ∧ busTarget 0x1400000 = 7 ∧ domainOf 0x1400000 = some 53 ∧ domainOn s.chip 53 = false
      ∧ s.chip.twn.applying = false) := by
  refine ⟨?_, ?_⟩ <;> decide +kernel

theorem test_wit_matrix_arbitration :
        (let q : MatrixReq := ⟨1, 0, 32, none⟩
      base.held = none ∧ reqLegal q = true ∧ matrixTarget base.chip 1 0 = some 0 ∧ base.chip.xbr.busy = [] ∧ mapGet base.chip.xbr.busy 0 = none
      ∧ mapGet wBus.chip.xbr.busy 0 ≠ none ∧ matrixTarget wBus.chip 1 0 = some 0 ∧ (∀ e ∈ wBus.chip.xbr.busy, e.2.master ≠ 1)) := by
  decide +kernel

theorem test_wit_adjustments_refused :
        (MayChange base TMR_ADJ_CTL_go.addr ∧ wbit 8 3 = true ∧ wbit 1 0 = true ∧ fldB base.chip TMR_CTL_tod_src = false
    ∧ (let s := dev (fun c => setB c TMR_STAT_adj_busy true); MayChange s TMR_ADJ_CTL_go.addr ∧ fldB s.chip TMR_STAT_adj_busy = true)) := by
  decide +kernel

def wNoLoan : State := dev (fun c => setB (setB c TWN_CTL_twin_en true) TWN_STAT_acting false)
theorem test_wit_no_loan_reaches : NoLoan wNoLoan ∧ ∀ a, reachable wNoLoan.chip a = true := by
  have hb : bootHalted wNoLoan.chip = false := by decide +kernel
  have hd : ∀ d < 56, domainOn wNoLoan.chip d = true := by decide +kernel
  refine ⟨by decide +kernel, fun a => ?_⟩
  unfold reachable
  rw [hb]
  simp only [Bool.not_false, Bool.true_or, Bool.true_and]
  split
  · rfl
  · rename_i d h
    refine hd d ?_
    unfold domainOf at h
    simp only [Bool.or_eq_true, Bool.and_eq_true, decide_eq_true_eq] at h
    repeat' split at h
    all_goals first | (injection h with h; omega) | cases h

theorem test_wit_writes_without_the_loan_are_refused :
        (NoLoan wNoLoan ∧ (∀ d : Fin 56, domainOn wNoLoan.chip d = true) ∧ bootHalted wNoLoan.chip = false)
    ∧ (NoLoan wNoLoan ∧ (∀ d : Fin 56, domainOn wNoLoan.chip d = true) ∧ bootHalted wNoLoan.chip = false)
    ∧ (NoLoan wNoLoan ∧ (slotOffset 0x10004).isSome = true)
    ∧ (NoLoan wNoLoan ∧ reachable wNoLoan.chip (BitVec.ofNat 26 NGL_CTL).toNat = true ∧ (BitVec.ofNat 26 NGL_CTL).toNat ∈ [TMR_CTL, TMR_SLEW_LIMIT, PDM_CTL, NGL_CTL, LDG_CTL, INV_CTL])
    ∧ (NoLoan wNoLoan ∧ reachable wNoLoan.chip TMR_TIME_LO = true ∧ reachable wNoLoan.chip GLB_WDT = true ∧ reachable wNoLoan.chip GLB_RESTART = true
    ∧ wNoLoan.chip.glb.restart = none) := by
  refine ⟨?_, ?_, ?_, ?_, ?_⟩ <;> decide +kernel

theorem test_wit_alert_line_and_its_answer :
        (base.held ≠ some .cold ∧ (let s := dev (fun c => setB { c with att := { c.att with alertLow := true } } SBM_CTL_sb_alert_en true); s.chip.att.alertLow = true ∧ fldB s.chip SBM_CTL_sb_alert_en = true)) := by
  decide +kernel


/-! ### A cache fill whose check words hold -/

def zstep : Nat → Nat → Nat
  | 0, x => x
  | n + 1, x => bif x == 0 then zstep n 0 else zstep n (crcByte x 0)

theorem zstep_eq (n x : Nat) : (List.replicate n (0 : Byte)).foldl crcByte x = zstep n x := by
  induction n generalizing x with
  | zero => rfl
  | succ n ih =>
    rw [List.replicate_succ, List.foldl_cons, ih]
    show _ = bif x == 0 then zstep n 0 else zstep n (crcByte x 0)
    by_cases h : x = 0
    · subst h; rfl
    · rw [beq_eq_false_iff_ne.mpr h]; rfl

theorem crc_zeros (n v : Nat) (h : zstep n 0xFFFFFFFF ^^^ 0xFFFFFFFF = v) : crc32c (List.replicate n 0) = v := by
  unfold crc32c; rw [zstep_eq, h]

theorem crc_zero_steps : zstep 18432 0xFFFFFFFF ^^^ 0xFFFFFFFF = 0xdd653a6 := by decide +kernel

theorem crc_zero_body : crc32c (List.replicate 18432 0) = 0xdd653a6 := crc_zeros 18432 0xdd653a6 crc_zero_steps

theorem take_readRun {α : Type} (d : Nat → α) (m : List (Nat × α)) (j : Nat) :
    ∀ k n, (mapReadRun d m k n).take j = mapReadRun d m k (min j n) := by
  induction j with
  | zero => intro k n; simp [mapReadRun]
  | succ j ih =>
    intro k n
    cases n with
    | zero => simp [mapReadRun]
    | succ n => simp [mapReadRun, ih, Nat.succ_min_succ]

theorem drop_readRun {α : Type} (d : Nat → α) (m : List (Nat × α)) (j : Nat) :
    ∀ k n, (mapReadRun d m k n).drop j = mapReadRun d m (k + j) (n - j) := by
  induction j with
  | zero => intro k n; simp
  | succ j ih =>
    intro k n
    cases n with
    | zero => simp [mapReadRun]
    | succ n => simp only [mapReadRun, List.drop_succ_cons, ih, Nat.add_sub_add_right, show k + 1 + j = k + (j + 1) by omega]

theorem readRun_beyond {α : Type} (d : Nat → α) (x : α) (hd : ∀ k, d k = x) (m : List (Nat × α)) (n : Nat) :
    ∀ k, (∀ e ∈ m, e.1 < k) → mapReadRun d m k n = List.replicate n x := by
  induction n with
  | zero => intro k _; rfl
  | succ n ih =>
    intro k h
    have hg : mapGet m k = none := by
      clear ih
      induction m with
      | nil => rfl
      | cons e t iht =>
        have h1 := h e (by simp)
        simp only [mapGet]
        rw [if_neg (by omega)]
        exact iht (fun e he => h e (by simp [he]))
    rw [mapReadRun, ih (k + 1) (fun e he => Nat.lt_succ_of_lt (h e he)), List.replicate_succ, mapRead, hg, hd]

def fillMem : List (Nat × Byte) :=
  [(20, 0xA6), (21, 0x53), (22, 0xD6), (23, 0x0D), (60, 0x3F), (61, 0x30), (62, 0x16), (63, 0xB0)]
def wFill : State := dev (fun c =>
  { (wr (wr c (DDR_PART_SIZE 0) 0x3800) (DDR_PART_RD 0) 0x40) with ddr := fillMem, ars := { c.ars with fill := some ⟨0, 0, false⟩ } })

theorem test_wit_fill_complete :
    wFill.held = none ∧ wFill.chip.ars.fill = some ⟨0, 0, false⟩
    ∧ hdrCrcOk (memBytes wFill.chip 6 (slotAddr wFill.chip (0 : BitVec 16).toNat) arrBytes) = true
    ∧ bodyCrcOk (memBytes wFill.chip 6 (slotAddr wFill.chip (0 : BitVec 16).toNat) arrBytes) = true := by
  have e : memBytes wFill.chip 6 (slotAddr wFill.chip (0 : BitVec 16).toNat) arrBytes = mapReadRun (fun _ => 0) fillMem 0 0x4C00 := by
    have hs : slotAddr wFill.chip (0 : BitVec 16).toNat = 0 := by decide +kernel
    have hm : ddrMay wFill.chip 6 false 0 arrBytes = true := by decide +kernel
    rw [hs, memBytes, if_pos hm]; rfl
  refine ⟨rfl, rfl, ?_, ?_⟩
  · rw [e, hdrCrcOk, leAt, bytesAt, drop_readRun, take_readRun, take_readRun]; decide +kernel
  · rw [e, bodyCrcOk, leAt, bytesAt, bytesAt, drop_readRun, drop_readRun, take_readRun, take_readRun]
    have hb : mapReadRun (fun _ => 0) fillMem (0 + 0x400) (min 18432 (0x4C00 - 0x400)) = List.replicate 18432 0 := by
      refine readRun_beyond _ 0 (fun _ => rfl) fillMem _ _ ?_
      decide +kernel
    rw [hb, crc_zero_body]; decide +kernel

end Sys2Proof.Tests
end

section
/-! The queue of waiting commands: a step takes its front, and every command completes and leaves the rest of it alone. -/

open Sys2Proof

namespace Sys2Proof.Machine

theorem step_of_pending_nil {s : State} (h : s.pending = []) : step s = .next s := by
  unfold step
  rw [h]

theorem step_of_pending_cons {s : State} {c : Instr} {l : List Instr} (h : s.pending = c :: l) :
    step s = exec c { s with pending := l } := by
  unfold step
  rw [h]

/-- The outcome is a next state with the queue of `s`. -/
def Completes (s : State) (o : Host.Outcome State Fault Refusal) : Prop := ∃ t : State, o = .next t ∧ t.pending = s.pending

theorem completes_run (s : State) (f : Chip → Chip) : Completes s (run s f) := ⟨_, rfl, rfl⟩

theorem completes_runTap (s : State) (f : Chip → Chip) : Completes s (runTap s f) := ⟨_, rfl, rfl⟩

theorem completes_runSmb (s : State) (f : Bool → Chip → Chip) : Completes s (runSmb s f) := by
  unfold runSmb
  split <;> exact ⟨_, rfl, rfl⟩

@[simp] theorem pinReset_pending (s : State) : (pinReset s).pending = s.pending := by
  unfold pinReset
  split <;> rfl

@[simp] theorem resetRelease_pending (s : State) (straps : Straps) (w : LoadWorld) :
    (resetRelease s straps w).pending = s.pending := by
  unfold resetRelease
  split <;> rfl

/-- Every command completes: the resets and their release, the SMBus target's and the TAP's commands by their own rule, all others by
the rule of `run`. -/
theorem completes_exec (c : Instr) (s : State) : Completes s (exec c s) := by
  cases c with
  | coldReset => exact ⟨_, rfl, rfl⟩
  | pinReset => exact ⟨_, rfl, pinReset_pending s⟩
  | perstReset => exact ⟨_, rfl, rfl⟩
  | resetRelease straps w => exact ⟨_, rfl, resetRelease_pending s straps w⟩
  | smbAddr | smbWrite | smbRead | smbStatus | smbIdent | smbusTimeout | alertResponse =>
    dsimp only [exec]
    exact completes_runSmb s _
  | idcodeIr | samplePreload | extestIr | clampIr | highzIr | extestPulse | extestTrain | debugIr | bypassIr =>
    dsimp only [exec]
    exact completes_runTap s _
  | _ =>
    dsimp only [exec]
    exact completes_run s _

/-- Settles O45, by the two cases of `step`; the table of commands gives no row bits, so the decoder's one case answers none. -/
theorem stepTakesTheFrontCommand : Obligations.StepTakesTheFrontCommand := by
  unfold Obligations.StepTakesTheFrontCommand
  exact ⟨fun _ _ _ => step_of_pending_cons rfl, fun _ => step_of_pending_nil, fun _ _ _ => ⟨rfl, rfl⟩⟩

/-- Settles O46, by cases on the command; a step is a command on the rest of the queue. -/
theorem everyCommandCompletes : Obligations.EveryCommandCompletes := by
  unfold Obligations.EveryCommandCompletes
  refine ⟨completes_exec, fun s c l h => ?_⟩
  rw [step_of_pending_cons h]
  exact completes_exec c { s with pending := l }

end Sys2Proof.Machine
end

section
/-! Values at reset (R15), and that every register reads its own. -/

open Sys2Proof

namespace Sys2Proof.Machine

@[simp] theorem rd_reset (a : Nat) : rd State.reset.chip a = resetReg a := rfl

/-- Every power domain is ON at reset (R591). -/
theorem domains_on_at_reset (d : Fin 56) : fld State.reset.chip (PDM_DOM_state d) = 1 := by decide +revert

/-- Every DAC channel is OFF and UNSET at reset (R598). -/
theorem dacs_off_at_reset (k : Fin 16) :
    fld State.reset.chip (AUX_DAC_CFG_range k) = 7 ∧ fld State.reset.chip (AUX_DAC_CFG_state k) = 0 := by decide +revert

/-- The lengths of the counting windows at reset (R491). -/
theorem windows_at_reset (i : Fin 4) : rn State.reset.chip (ATT_WIN_LEN i) = 4000 * 10 ^ i.val := by decide +revert

/-- The priorities of the matrix masters at reset, the same at every target (R527). -/
theorem priorities_at_reset (t : Fin 12) :
    (List.range 14).map (fun m => matrixPriority State.reset.chip m t) = [8, 6, 4, 12, 14, 13, 15, 10, 9, 5, 11, 11, 12, 2] := by
  decide +revert

/-- Settles O49: no register is listed at reset, so each reads its reset value; the table's rows give the named ones. -/
theorem resetGivesTheSpecsValues : Obligations.ResetGivesTheSpecsValues := by
  unfold Obligations.ResetGivesTheSpecsValues
  refine ⟨⟨rd_reset, rfl, rfl, rfl⟩, ?_, ?_, ?_, ?_, ?_, domains_on_at_reset, ?_, dacs_off_at_reset, windows_at_reset,
    priorities_at_reset⟩
  all_goals
    rw [rd_reset]
    decide

end Sys2Proof.Machine
end

section
/-! Canonical maps: a run read after it was written, and writes that change nothing. -/

open Sys2Proof

namespace Sys2Proof.Machine

section
variable {α : Type}

theorem mapReadRun_mapWriteRun_same [DecidableEq α] (d : Nat → α) (l : List α) (m : List (Nat × α)) (k : Nat) :
    mapReadRun d (mapWriteRun d m k l) k l.length = l := by
  induction l generalizing m k with
  | nil => rfl
  | cons v t ih =>
    have hv : mapRead d (mapWriteRun d (mapWrite d m k v) (k + 1) t) k = v := by
      rw [mapRead_mapWriteRun, if_neg (by omega), mapRead_mapWrite, if_pos rfl]
    simp only [List.length_cons, mapReadRun, mapWriteRun, hv, ih]

theorem mem_of_mapGet {m : List (Nat × α)} {k : Nat} {v : α} (h : mapGet m k = some v) : (k, v) ∈ m := by
  induction m with
  | nil => simp [mapGet] at h
  | cons e t ih =>
    obtain ⟨a, x⟩ := e
    by_cases ha : a = k
    · obtain rfl : x = v := by simpa [mapGet, ha] using h
      simp [ha]
    · rw [mapGet, if_neg ha] at h
      exact List.mem_cons_of_mem _ (ih h)

/-- A key below those listed is not listed. -/
theorem mapGet_below {lo : Nat} {m : List (Nat × α)} (h : keysRise lo m = true) {k : Nat} (hk : k < lo) : mapGet m k = none := by
  induction m generalizing lo with
  | nil => rfl
  | cons e t ih =>
    obtain ⟨a, x⟩ := e
    simp only [keysRise, Bool.and_eq_true, decide_eq_true_eq] at h
    rw [mapGet, if_neg (by omega), ih h.2 (by omega)]

theorem mapDel_of_mapGet_none {m : List (Nat × α)} {k : Nat} (h : mapGet m k = none) : mapDel m k = m := by
  induction m with
  | nil => rfl
  | cons e t ih =>
    obtain ⟨a, x⟩ := e
    by_cases ha : a = k
    · simp [mapGet, ha] at h
    · rw [mapGet, if_neg ha] at h
      rw [mapDel, if_neg (Ne.symm ha), ih h]

/-- Where the keys rise, listing again what is listed changes nothing. -/
theorem mapPut_of_mapGet {lo : Nat} {m : List (Nat × α)} (hm : keysRise lo m = true) {k : Nat} {v : α}
    (h : mapGet m k = some v) : mapPut m k v = m := by
  induction m generalizing lo with
  | nil => simp [mapGet] at h
  | cons e t ih =>
    obtain ⟨a, x⟩ := e
    simp only [keysRise, Bool.and_eq_true, decide_eq_true_eq] at hm
    by_cases ha : a = k
    · obtain rfl : x = v := by simpa [mapGet, ha] using h
      simp [mapPut, ha]
    · rw [mapGet, if_neg ha] at h
      have hk : a < k := by
        by_contra hlt
        rw [mapGet_below hm.2 (by omega)] at h
        cases h
      rw [mapPut, if_neg (by omega), if_neg (by omega), ih hm.2 h]

theorem mapWf_iff [DecidableEq α] {d : Nat → α} {m : List (Nat × α)} :
    mapWf d m = true ↔ keysRise 0 m = true ∧ ∀ e ∈ m, e.2 ≠ d e.1 := by
  simp [mapWf]

/-- Writing to a key what it reads as leaves a canonical map. -/
theorem mapWrite_mapRead [DecidableEq α] (d : Nat → α) {m : List (Nat × α)} (hm : mapWf d m = true) (k : Nat) :
    mapWrite d m k (mapRead d m k) = m := by
  obtain ⟨hrise, hne⟩ := mapWf_iff.1 hm
  unfold mapRead
  cases hg : mapGet m k with
  | none => rw [mapWrite, if_pos rfl, mapDel_of_mapGet_none hg]
  | some v => rw [mapWrite, if_neg (hne _ (mem_of_mapGet hg)), mapPut_of_mapGet hrise hg]

/-- Writing a run of keys what it reads as leaves a canonical map. -/
theorem mapWriteRun_mapReadRun [DecidableEq α] (d : Nat → α) {m : List (Nat × α)} (hm : mapWf d m = true) (k n : Nat) :
    mapWriteRun d m k (mapReadRun d m k n) = m := by
  induction n generalizing k with
  | zero => rfl
  | succ n ih => rw [mapReadRun, mapWriteRun, mapWrite_mapRead d hm, ih]

end

/-! ### The memories -/

section
variable (c : Chip) (a : Nat) (l : List Byte)

theorem ddrBytes_ddrWrite_same : ddrBytes (ddrWrite c a l) a l.length = l := mapReadRun_mapWriteRun_same _ l c.ddr a

theorem norBytes_norWrite_same : norBytes (norWrite c a l) a l.length = l := mapReadRun_mapWriteRun_same _ l c.glb.nor a

theorem ddrByte_ddrWrite_other {b : Nat} (h : b < a ∨ a + l.length ≤ b) : ddrByte (ddrWrite c a l) b = ddrByte c b := by
  rw [ddrByte_ddrWrite, if_neg (by omega)]

theorem norBytes_norWrite_other {b : Nat} (h : b < a ∨ a + l.length ≤ b) :
    norBytes (norWrite c a l) b 1 = norBytes c b 1 := by
  have hb : mapRead (fun _ => 0xFF) (norWrite c a l).glb.nor b = mapRead (fun _ => 0xFF) c.glb.nor b := by
    rw [norWrite, mapRead_mapWriteRun, if_neg (by omega)]
  simp only [norBytes, mapReadRun, hb]

theorem ddrWrite_ddrBytes (n : Nat) (h : mapWf (fun _ => 0) c.ddr = true) : (ddrWrite c a (ddrBytes c a n)).ddr = c.ddr :=
  mapWriteRun_mapReadRun _ h a n

end

/-- Settles O52: each memory is a map written by runs; the runs' laws are by induction on the bytes. -/
theorem memoryOperationsKeepTheCanonicalForm : Obligations.MemoryOperationsKeepTheCanonicalForm := by
  unfold Obligations.MemoryOperationsKeepTheCanonicalForm
  refine ⟨fun c a v l => ⟨?_, ?_, ?_, ?_⟩, fun c a l => ⟨?_, ?_, fun b hb => ⟨?_, ?_⟩⟩, fun c a n => ?_⟩
  · exact regsWf_wr c a v
  · exact ddrWf_ddrWrite c a l
  · exact norWf_norWrite c a l
  · exact mramWf_mramWrite c a l
  · exact ddrBytes_ddrWrite_same c a l
  · exact norBytes_norWrite_same c a l
  · exact ddrByte_ddrWrite_other c a l hb
  · exact norBytes_norWrite_other c a l hb
  · exact ddrWrite_ddrBytes c a n

end Sys2Proof.Machine
end

section
/-! Register space (R12–R14, R524, R530): accesses refused under R12, whole accesses, and registers that a write only stores. -/

open Sys2Proof

namespace Sys2Proof.Machine

/-! ### Errors of the matrix -/

/-- The matrix's error registers stand from XBR_STAT to XBR_ERR_CNT; the address lies before or after them. -/
abbrev OutsideErrors (b : Nat) : Prop := b < XBR_STAT ∨ XBR_ERR_CNT < b

theorem rd_wr_outsideErrors (c : Chip) {a b : Nat} (v : W) (hb : OutsideErrors b) (ha : ¬ OutsideErrors a) :
    rd (wr c a v) b = rd c b :=
  rd_wr_other c v (fun h => ha (h ▸ hb))

@[simp] theorem rd_raiseLimited (c : Chip) (k : Nat) (v : W) (a : Nat) : rd (raiseLimited c k v) a = rd c a := by
  unfold raiseLimited
  split <;> rfl

@[simp] theorem rd_errorEvent (c : Chip) (k m b a : Nat) : rd (errorEvent c k m b) a = rd c a := by
  unfold errorEvent
  repeat' split
  all_goals simp

/-- An error of the matrix leaves the registers outside its own. -/
theorem rd_matrixError_outside (c : Chip) (k m t : Nat) (w : Bool) (a n : Nat) {b : Nat} (hb : OutsideErrors b) :
    rd (matrixError c k m t w a n) b = rd c b := by
  have hw : ∀ (d : Chip) (r : Nat) (v : W),
      r ∈ [XBR_STAT, XBR_ERR_INFO, XBR_ERR_ADDR_LO, XBR_ERR_ADDR_HI, XBR_ERR_CNT] → rd (wr d r v) b = rd d b :=
    fun d r v hr => rd_wr_outsideErrors d v hb (by fin_cases hr <;> decide)
  unfold matrixError
  simp only [rd_errorEvent]
  split <;> split <;> simp [countUp, hw]

theorem rd_accessError_outside (c : Chip) (m : Nat) (w : Bool) (a : Nat) (decerr : Bool) {b : Nat} (hb : OutsideErrors b) :
    rd (accessError c m w a decerr) b = rd c b := by
  have hs : ¬ OutsideErrors XBR_STAT := by decide
  have hn : ¬ OutsideErrors XBR_ERR_CNT := by decide
  unfold accessError
  cases decerr <;> simp [countUp, rd_wr_outsideErrors, rd_matrixError_outside, hb, hs, hn]

@[simp] theorem accessError_ddr (c : Chip) (m : Nat) (w : Bool) (a : Nat) (decerr : Bool) :
    (accessError c m w a decerr).ddr = c.ddr := by
  cases decerr <;> simp [accessError]

/-- An access refused under R12 raises XBR_ACCESS last, with the master and the offset (R556). -/
theorem accessError_last_raised (c : Chip) (m : Nat) (w : Bool) {a : Nat} (ha : a < 2 ^ 26) (decerr : Bool) :
    ((accessError c m w a decerr).att.raised.getLast?).map (fun o => (o.src, o.data))
      = some (srcXBR_ACCESS, toW (m * 2 ^ 26 + a)) := by
  simp only [accessError, Nat.mod_eq_of_lt ha, raise_raised, List.getLast?_append, List.getLast?_singleton, Option.some_or,
    Option.map_some]

/-! ### What can be reached -/

theorem reachable_congr {c d : Chip} (h : d.regs = c.regs) (a : Nat) : reachable d a = reachable c a := by
  simp only [reachable, bootHalted, domainOn, fld, rd, h]

/-- Outside a boot halt a register in no power domain is reachable. -/
theorem reachable_of_domainOf_none {c : Chip} (h : bootHalted c = false) {a : Nat} (ha : domainOf a = none) :
    reachable c a = true := by
  simp [reachable, h, ha]

/-- Outside a boot halt a register is reachable where its power domain is ON (R559). -/
theorem reachable_of_domainOn {c : Chip} (h : bootHalted c = false) {a d : Nat} (ha : domainOf a = some d)
    (hd : domainOn c d = true) : reachable c a = true := by
  simp [reachable, h, ha, hd]

/-! ### The branches of an access by a master -/

section
variable (c : Chip) (m a : Nat) (be : BitVec 4) (v : W)

theorem masterWrite_misaligned (ha : a % 4 ≠ 0) : masterWrite c m a be v = respond (accessError c m true a true) 1 := by
  simp [masterWrite, ha]

theorem masterRead_misaligned (ha : a % 4 ≠ 0) : masterRead c m a = respondZero (accessError c m false a true) 1 := by
  simp [masterRead, ha]

theorem masterWrite_partial (ha : a % 4 = 0) (hbe : be ≠ 15) :
    masterWrite c m a be v = respond (accessError c m true a false) 0 := by
  rw [masterWrite, if_neg (by simp [ha]), if_pos (by simpa using hbe)]

/-- A whole write by a master whose writes are not late, of a reachable register outside the loader. -/
theorem masterWrite_whole (ha : a % 4 = 0) (hm : regMaster m = true) (h4 : m ≠ 4) (h13 : m ≠ 13)
    (h15 : busTarget a ≠ 15) (h9 : busTarget a ≠ 9) (hr : reachable c a = true) :
    masterWrite c m a 15 v = respond (withSource c (masterSource m) (fun c => writeReg c a v)) 0 := by
  simp [masterWrite, noTarget, ha, hm, h4, h13, h15, h9, hr]

theorem masterRead_whole (ha : a % 4 = 0) (hm : regMaster m = true) (h15 : busTarget a ≠ 15) (hr : reachable c a = true) :
    masterRead c m a = readBy c m a := by
  simp [masterRead, noTarget, ha, hm, h15, hr]

end

theorem exec_registerWrite_live {s : State} (hs : s.held = none) (m : Fin 14) (a : BitVec 26) (be : BitVec 4) (v : W) :
    exec (.registerWrite m a be v) s = .next { s with chip := masterWrite s.chip m a.toNat be v } := by
  rw [exec_registerWrite, execRegisterWrite, run_live s _ hs]

theorem exec_clearOnRead_live {s : State} (hs : s.held = none) (m : Fin 14) (a : BitVec 26) :
    exec (.clearOnRead m a) s = .next { s with chip := masterRead s.chip m a.toNat } := by
  rw [exec_clearOnRead, execClearOnRead, run_live s _ hs]

/-! ### Registers that a write only stores -/

/-- A register with row `r` that no rule gives more than its access codes (R14): a whole write of it is a local one and stores
the word as written. -/
structure StoredByCodes (a : Nat) (r : RegRow) : Prop where
  row : rowOf a = some r
  noLock : r.rwl = 0
  inSpace : a < 2 ^ 26
  aligned : a % 4 = 0
  served : busTarget a ≠ 15
  notLoader : busTarget a ≠ 9
  isLocal : changeReg a = false
  write : ∀ c v, writeReg c a v = plainWrite c a v
  effect : ∀ c v, applyEffect c a v = storeReg c a v
  asWritten : ∀ v, regStored a v = v

theorem storedByCodes_tempCtl : StoredByCodes PDM_TEMP_CTL ⟨0x10000c, 1, 0, 1, 0, 0xffff, 0, 0, 0, 0, 0, 0x3200⟩ :=
  ⟨by decide, rfl, by decide, by decide, by decide, by decide, by decide, fun _ _ => rfl, fun _ _ => rfl, fun _ => rfl⟩

theorem storedByCodes_auxStat : StoredByCodes AUX_STAT ⟨0x1400004, 1, 0, 1, 0, 0, 0xe08001ff, 0x1f400000, 0, 0, 0, 0⟩ :=
  ⟨by decide, rfl, by decide, by decide, by decide, by decide, by decide, fun _ _ => rfl, fun _ _ => rfl, fun _ => rfl⟩

theorem storedByCodes_tmxSel (i : Fin 8) : StoredByCodes (TMX_SEL i) ⟨0x1800010, 8, 4, 1, 0, 0xffff, 0, 0, 0, 0, 0, 0⟩ := by
  fin_cases i <;>
    exact ⟨by decide, rfl, by decide, by decide, by decide, by decide, by decide, fun _ _ => rfl, fun _ _ => rfl, fun _ => rfl⟩

/-- Such a register, where it is reachable, takes what its codes let it. -/
theorem writeReg_storedByCodes {a : Nat} {r : RegRow} (h : StoredByCodes a r) (c : Chip) (v : W) (hr : reachable c a = true) :
    writeReg c a v = wr c a (codeWord (rd c a) v r.rw r.w1c r.w1s) := by
  rw [h.write, plainWrite, h.isLocal, if_neg (by decide), hostWrite_reach c a _ hr, h.effect, storeReg, h.row]
  simp [h.noLock, h.asWritten]

/-- The source a write of one register acts for (R344) leaves no trace. -/
theorem withSource_wr {c : Chip} {n a : Nat} {f : Chip → Chip} {w : W}
    (h : ∀ d : Chip, d.regs = c.regs → f d = wr d a w) : withSource c n f = wr c a w := by
  simp only [withSource, h { c with twn := { c.twn with source := n } } rfl]
  rfl

/-- A whole write by PCIe of a register that a write only stores. -/
theorem exec_pcieWrite_storedByCodes {a : Nat} {r : RegRow} (h : StoredByCodes a r) {s : State} (hs : s.held = none) {m : Fin 14}
    (hm : m.val = 1) (v : W) (hr : reachable s.chip a = true) :
    exec (.registerWrite m (BitVec.ofNat 26 a) 15 v) s
      = .next { s with chip := respond (wr s.chip a (codeWord (rd s.chip a) v r.rw r.w1c r.w1s)) 0 } := by
  have hw : ∀ d : Chip, d.regs = s.chip.regs → writeReg d a v = wr d a (codeWord (rd s.chip a) v r.rw r.w1c r.w1s) := by
    intro d hd
    rw [writeReg_storedByCodes h d v (by rw [reachable_congr hd, hr]), rd, hd, rd]
  rw [exec_registerWrite_live hs, BitVec.toNat_ofNat, Nat.mod_eq_of_lt h.inSpace, hm,
    masterWrite_whole _ _ _ _ h.aligned rfl (by decide) (by decide) h.served h.notLoader hr, withSource_wr hw]

theorem and_allBits (w : W) : w &&& 0xFFFFFFFF#32 = w := BitVec.and_allOnes

/-- A register whose low half is RW and whose high half no write changes. -/
theorem codeWord_lowHalf (old v : W) : codeWord old v 0xffff 0 0 = (old &&& 0xFFFF0000) ||| (v &&& 0xFFFF) := by
  simp [codeWord, toW, and_allBits]

/-- A register that a write changes in its W1C bits only. -/
theorem codeWord_w1c (old v : W) (n : Nat) : codeWord old v 0 n 0 = old &&& ~~~(v &&& toW n) := by
  simp [codeWord, toW, and_allBits]

/-! ### The error count -/

theorem regView_errCnt (c : Chip) : regView c XBR_ERR_CNT = rd c XBR_ERR_CNT := by
  have h : regView c XBR_ERR_CNT = rd c XBR_ERR_CNT &&& toW 0xffffffff := rfl
  simpa [toW, and_allBits] using h

theorem clearingRead_errCnt (c : Chip) :
    clearingRead c XBR_ERR_CNT = wr (answer c (rd c XBR_ERR_CNT)) XBR_ERR_CNT 0 := by
  have h : clearingRead c XBR_ERR_CNT
    = wr (answer c (regView c XBR_ERR_CNT)) XBR_ERR_CNT (rd c XBR_ERR_CNT &&& ~~~(toW 0xffffffff)) := rfl
  rw [h, regView_errCnt]
  simp [toW]

theorem readBy_errCnt (c : Chip) (m : Nat) :
    readBy c m XBR_ERR_CNT =
      if m < 3 then wr (answer c (rd c XBR_ERR_CNT)) XBR_ERR_CNT 0 else answer c (rd c XBR_ERR_CNT) := by
  have h : readBy c m XBR_ERR_CNT
    = if clearingMaster m then clearingRead c XBR_ERR_CNT else answer c (regView c XBR_ERR_CNT) := rfl
  rw [h, clearingRead_errCnt, regView_errCnt]
  simp [clearingMaster]

/-- Settles O42: the branches of an access by a master in order, then the named registers by their access codes. -/
theorem registerSpaceAccesses : Obligations.RegisterSpaceAccesses := by
  unfold Obligations.RegisterSpaceAccesses
  refine ⟨?misaligned, ?byteEnables, ?whole, ?stored, ?cleared⟩
  case misaligned =>
    intro s m a be v hs ha
    refine ⟨respond (accessError s.chip m true a.toNat true) 1, respondZero (accessError s.chip m false a.toNat true) 1,
      ?_, rfl, ?_, rfl, rfl, fun b hb => ⟨?_, ?_⟩, ?_, ?_, ?_, ?_⟩
    · rw [exec_registerWrite_live hs, masterWrite_misaligned _ _ _ _ _ ha]
    · rw [exec_clearOnRead_live hs, masterRead_misaligned _ _ _ ha]
    · exact rd_accessError_outside s.chip m true _ true hb
    · exact rd_accessError_outside s.chip m false _ true hb
    · exact accessError_ddr s.chip m true _ true
    · exact accessError_ddr s.chip m false _ true
    · exact accessError_last_raised s.chip m true a.isLt true
    · exact accessError_last_raised s.chip m false a.isLt true
  case byteEnables =>
    intro s m a be v hs ha hbe
    refine ⟨respond (accessError s.chip m true a.toNat false) 0, ?_, rfl, fun b hb => ?_, ?_⟩
    · rw [exec_registerWrite_live hs, masterWrite_partial _ _ _ _ _ ha hbe]
    · exact rd_accessError_outside s.chip m true _ false hb
    · exact accessError_last_raised s.chip m true a.isLt false
  case whole =>
    intro s m a v hs ha hm h4 h13 h15 h9 hr
    rw [exec_registerWrite_live hs, masterWrite_whole _ _ _ _ ha hm h4 h13 h15 h9 hr]
    rfl
  case stored =>
    intro s m v hs hm hb
    refine ⟨?_, fun i => ?_, fun h53 => ?_⟩
    · have hr : reachable s.chip PDM_TEMP_CTL = true := reachable_of_domainOf_none hb (by decide)
      rw [exec_pcieWrite_storedByCodes storedByCodes_tempCtl hs hm v hr, codeWord_lowHalf]
      rfl
    · have hr : reachable s.chip (TMX_SEL i) = true := reachable_of_domainOf_none hb (by decide +revert)
      rw [exec_pcieWrite_storedByCodes (storedByCodes_tmxSel i) hs hm v hr, codeWord_lowHalf]
      rfl
    · have hr : reachable s.chip AUX_STAT = true := reachable_of_domainOn hb (by decide) h53
      rw [exec_pcieWrite_storedByCodes storedByCodes_auxStat hs hm v hr, codeWord_w1c]
      rfl
  case cleared =>
    intro s m hs hb hm
    have ha : (BitVec.ofNat 26 XBR_ERR_CNT).toNat = XBR_ERR_CNT := by decide
    have hr : reachable s.chip XBR_ERR_CNT = true := reachable_of_domainOf_none hb (by decide)
    rw [exec_clearOnRead_live hs, ha, masterRead_whole _ _ _ (by decide) hm (by decide) hr, readBy_errCnt]
    rfl

end Sys2Proof.Machine
end

section
/-! Writes of the time registers (R56, R57, R64, R68, R78): what a write stages, starts, arms or has refused on a single device. -/

open Sys2Proof

namespace Sys2Proof.Machine

/-! ### Writes of TMR_ADJ_CTL -/

/-- An adjustment is pending or a time-of-day set is armed (R68). -/
abbrev AdjPending (c : Chip) : Prop := fldB c TMR_STAT_adj_busy = true ∨ fldB c TMR_STAT_tod_armed = true

/-- On a single device no write comes from the journal (R344). -/
theorem fromJournal_single {c : Chip} (h : Single c) : fromJournal c = false := by
  obtain ⟨-, -, happlying, -⟩ := h
  simp [fromJournal, happlying]

section
variable {c : Chip} {v : W} (hr : reachable c TMR_ADJ_CTL_go.addr = true) (hs : Single c)
include hr hs

/-- A write is refused that sets both bits, either while one is pending, or arms without tod_src (R68). -/
theorem adjWrite_refused (hbits : wbit v 0 = true ∨ wbit v 3 = true)
    (hno : wbit v 0 = true ∧ wbit v 3 = true ∨ AdjPending c ∨ wbit v 3 = true ∧ fldB c TMR_CTL_tod_src = false) :
    adjWrite c v = adjReject c := by
  have hj := fromJournal_single hs
  obtain ⟨h1, h2, h3, h4⟩ := hs
  refine hostChangeIf_refused c _ v _ _ _ hr h1 h2 h3 h4 (if_pos ?_)
  rw [hj]
  rcases hno with ⟨hgo, harm⟩ | hbusy | ⟨harm, hsrc⟩
  · simp [hgo, harm]
  · rcases hbits with h | h <;> rcases hbusy with hb | hb <;> simp [h, hb]
  · simp [harm, hsrc]

/-- A go that nothing stands against starts the adjustment of the written value, which waits for P + 2 (R57, R64). -/
theorem adjWrite_go (hgo : wbit v 0 = true) (harm : wbit v 3 = false) (hfree : ¬ AdjPending c) :
    adjWrite c v = startAdj (setB c TMR_STAT_tod_armed false)
      ⟨BitVec.ofNat 64 ((written c TMR_ADJ_LO).toNat + 2 ^ 32 * (written c TMR_ADJ_HI).toNat), wbit v 2, wbit v 1, eSingle c⟩ := by
  obtain ⟨hbusy, harmed⟩ := not_or.mp hfree
  obtain ⟨h1, h2, h3, h4⟩ := hs
  unfold adjWrite
  rw [hostChangeIf_taken c _ v _ _ hr h1 h2 h3 h4 (by simp [hgo, harm, hbusy, harmed]), if_pos hgo]
  rfl

/-- A tod_arm that nothing stands against arms the time-of-day set (R78). -/
theorem adjWrite_arm (hgo : wbit v 0 = false) (harm : wbit v 3 = true) (hfree : ¬ AdjPending c)
    (hsrc : fldB c TMR_CTL_tod_src = true) : adjWrite c v = setB c TMR_STAT_tod_armed true := by
  obtain ⟨hbusy, harmed⟩ := not_or.mp hfree
  obtain ⟨h1, h2, h3, h4⟩ := hs
  unfold adjWrite
  rw [hostChangeIf_taken c _ v _ _ hr h1 h2 h3 h4 (by simp [hgo, harm, hbusy, harmed, hsrc])]
  simp [hgo, harm]

end

/-- ADJ_GO writes the word with go set. -/
theorem wbit_go (v : W) : wbit (v ||| 1) 0 = true ∧ ∀ i : Fin 3, wbit (v ||| 1) (i + 1) = wbit v (i + 1) := by
  refine ⟨?_, fun i => ?_⟩
  · rw [wbit_or, Bool.or_eq_true]
    exact .inr (by decide)
  · have h : wbit 1 (i + 1) = false := by decide +revert
    rw [wbit_or, h, Bool.or_false]

/-- TOD_ARM writes the word with tod_arm set. -/
theorem wbit_arm (v : W) : wbit (v ||| 8) 3 = true ∧ wbit (v ||| 8) 0 = wbit v 0 := by
  have h : wbit 8 3 = true ∧ wbit 8 0 = false := by decide
  rw [wbit_or, wbit_or, h.1, h.2, Bool.or_true, Bool.or_false]
  exact ⟨rfl, rfl⟩

theorem exec_adjGo_live {s : State} (hs : s.held = none) (v : W) :
    exec (.adjGo v) s = .next { s with chip := adjWrite s.chip (v ||| 1) } := by
  rw [exec_adjGo, execAdjGo, run_live s _ hs]

theorem exec_todArm_live {s : State} (hs : s.held = none) (v : W) :
    exec (.todArm v) s = .next { s with chip := adjWrite s.chip (v ||| 8) } := by
  rw [exec_todArm, execTodArm, run_live s _ hs]

/-- A refusal sets adj_reject and no other bit of TMR_STAT. -/
theorem fldB_adjReject_other (c : Chip) {f : Fld} (ha : f.addr = TMR_STAT) (hf : 6 ≤ f.lo ∨ f.lo + f.width ≤ 5) :
    fldB (adjReject c) f = fldB c f := by
  unfold adjReject
  rw [fldB_raise]
  exact fldB_setB_other (f := TMR_STAT_adj_reject) c true ha.symm (by decide) hf

/-- Settles O57, by the ways a write of TMR_ADJ_CTL is refused. -/
theorem adjustmentsRefused : Obligations.AdjustmentsRefused := by
  unfold Obligations.AdjustmentsRefused
  rintro s v ⟨hs, hr, hone⟩
  obtain ⟨hgo, hgoOther⟩ := wbit_go v
  obtain ⟨harm, harmGo⟩ := wbit_arm v
  have hgo3 : wbit (v ||| 1) 3 = wbit v 3 := hgoOther 2
  refine ⟨fun h => ?_, fun h => ?_, rfl, ?_, ?_, ?_, by decide⟩
  · rw [exec_adjGo_live hs, adjWrite_refused hr hone (.inl hgo)]
    · rfl
    · rcases h with hbusy | h3
      · exact .inr (.inl hbusy)
      · exact .inl ⟨hgo, hgo3.trans h3⟩
  · rw [exec_todArm_live hs, adjWrite_refused hr hone (.inr harm)]
    · rfl
    · rcases h with hbusy | h0 | hsrc
      · exact .inr (.inl hbusy)
      · exact .inl ⟨harmGo.trans h0, harm⟩
      · exact .inr (.inr ⟨harm, hsrc⟩)
  · rw [fldB_raise, fldB_setB_same s.chip _ true (by decide) rfl]
  · exact fldB_adjReject_other s.chip rfl (by decide)
  · exact fldB_adjReject_other s.chip rfl (by decide)

/-! ### The increment -/

theorem clampInc_eq (v : Nat) : clampInc v = max 0x0FFBE76C9 (min 0x100418937 v) := by
  unfold clampInc clampN
  split_ifs <;> omega

/-- Settles O1, by the writes of the increment's halves and of TMR_ADJ_CTL on a single device. -/
theorem timeRegisterWritesStageAndWait : Obligations.TimeRegisterWritesStageAndWait := by
  unfold Obligations.TimeRegisterWritesStageAndWait
  refine ⟨?stage, ?commit, ?go, ?arm⟩
  case stage =>
    rintro s v ⟨hs, hr, h1, h2, h3, h4⟩
    rw [exec_incStage, execIncStage, run_live s _ hs, incStage, hostChange_single s.chip _ v _ hr h1 h2 h3 h4]
  case commit =>
    rintro s v ⟨hs, hr, h1, h2, h3, h4⟩
    rw [exec_incCommit, execIncCommit, run_live s _ hs, incCommit, hostChange_single s.chip _ v _ hr h1 h2 h3 h4]
    simp only [clampInc_eq]
    rfl
  case go =>
    rintro s v ⟨hs, hr, hone⟩ hbusy harmed - h3
    obtain ⟨hgo, hother⟩ := wbit_go v
    have h1' : wbit (v ||| 1) 1 = wbit v 1 := hother 0
    have h2' : wbit (v ||| 1) 2 = wbit v 2 := hother 1
    have h3' : wbit (v ||| 1) 3 = wbit v 3 := hother 2
    rw [exec_adjGo_live hs, adjWrite_go hr hone hgo (h3'.trans h3) (by simp [hbusy, harmed]), h1', h2']
    rfl
  case arm =>
    rintro s v ⟨hs, hr, hone⟩ hbusy harmed hsrc h0 -
    obtain ⟨harm, hgo⟩ := wbit_arm v
    rw [exec_todArm_live hs, adjWrite_arm hr hone (hgo.trans h0) harm (by simp [hbusy, harmed]) hsrc]

end Sys2Proof.Machine
end

section
/-! What waits in the time block acts at its boundary; its reads and its pulses (R56, R60, R71, R77, R79, R86). -/

open Sys2Proof

namespace Sys2Proof.Machine

section
variable {c : Chip}

theorem incEffect_none (h : c.tmr.incPend = none) : incEffect c = c := by
  unfold incEffect
  rw [h]

theorem incEffect_due {v : Nat} {e : W} (h : c.tmr.incPend = some (v, e)) (he : due c e = true) :
    incEffect c = { c with tmr := { c.tmr with inc := v, incPend := none } } := by
  unfold incEffect
  rw [h]
  exact if_pos he

theorem incEffect_cxPend (c : Chip) : (incEffect c).tmr.cxPend = c.tmr.cxPend := by
  unfold incEffect
  split
  · split <;> rfl
  · rfl

theorem cxEffect_none (h : c.tmr.cxPend = none) : cxEffect c = c := by
  unfold cxEffect
  rw [h]

theorem cxEffect_due {v e : W} (h : c.tmr.cxPend = some (v, e)) (he : due c e = true) :
    let gain : Int := sext 64 (c.tmr.cxFree - c.tmr.cxRef).toNat * wInt c.tmr.cxRho / 2 ^ 40
    let d := wr64 c TMR_CX_OFS_LO TMR_CX_OFS_HI (rd64 c TMR_CX_OFS_LO TMR_CX_OFS_HI + BitVec.ofInt 64 gain)
    cxEffect c = { d with tmr := { d.tmr with cxRef := d.tmr.cxFree, cxRho := v, cxPend := none } } := by
  unfold cxEffect
  rw [h]
  exact if_pos he

theorem timeReadLatch_reach (hr : reachable c TMR_TIME_LO = true) :
    let d := wr c TMR_TIME_HI (toW ((netTime c).toNat / 2 ^ 32))
    let d := wr d TMR_TIME_FRAC (if fldB c TMR_CTL_clk_mode then 0 else c.tmr.timeFrac)
    timeReadLatch c = answer (wr64 (wr d TMR_TIME_P c.tmr.period) TMR_CX_FREE_LO TMR_CX_FREE_HI c.tmr.cxFree)
      (toW (netTime c).toNat) := by
  have hmode : fldB (wr c TMR_TIME_HI (toW ((netTime c).toNat / 2 ^ 32))) TMR_CTL_clk_mode = fldB c TMR_CTL_clk_mode :=
    fldB_wr_other _ _ (by decide)
  unfold timeReadLatch
  rw [hostRead_reach c _ _ hr]
  simp only [hmode, wr_tmr]

theorem txtsPop_cons {p : Nat} {x : TxStamp} {l : List TxStamp} (hr : reachable c (TMR_P_TXTS_META_valid p).addr = true)
    (h : nth [] c.tmr.txq p = x :: l) :
    txtsPop c p = answer (wr64 { c with tmr := { c.tmr with txq := setNth c.tmr.txq p l } } (TMR_P_TXTS_LO p) (TMR_P_TXTS_HI p)
      x.stamp.ns) (txtsWord x) := by
  unfold txtsPop
  rw [hostRead_reach c _ _ hr, h]

theorem todSet_unarmed (x : BitVec 64) (h : fldB c TMR_STAT_tod_armed = false) : todSet c x = c := by
  simp [todSet, h]

end

section
/-! The device `b` to which time has passed when an edge comes. -/

variable {c b : Chip} {tick : Nat} (hb : advanceTo c tick = b)
include hb

/-- An edge is accepted that is long enough and the first one; with no stamp unread and nothing armed its stamp is kept and
nothing else follows (R77). -/
theorem ppsInEdge_first {highNs : Nat} (hhigh : 100 ≤ highNs) (hen : fldB b TMR_CTL_pps_in_en = true)
    (hedge : b.tmr.ppsEdge = none) (hnew : fldB b TMR_STAT_pps_in_new = false) (harmed : fldB b TMR_STAT_tod_armed = false) :
    let stamp := netTime b - BitVec.ofInt 64 (wInt (rd b TMR_PPS_IN_COMP))
    let d : Chip := { b with tmr := { b.tmr with ppsStamp := stamp, ppsEdge := some b.tmr.ticks } }
    ppsInEdge c tick highNs = setB (wr d TMR_PPS_IN_LO (toW stamp.toNat)) TMR_STAT_pps_in_new true := by
  have hlong : ¬ highNs < 100 := by omega
  simp only [ppsInEdge, hb, hen, hedge, hnew, hlong, if_true, Bool.or_false, decide_false, Bool.false_eq_true, if_false]
  rw [todSet_unarmed]
  rw [fldB_setB_other (f := TMR_STAT_pps_in_new) (g := TMR_STAT_tod_armed) _ _ rfl (by decide) (by decide),
    fldB_wr_other _ _ (by decide)]
  exact harmed

theorem ppsOutRise_edge (hen : ppsOutEnabled b = true) (hlow : b.tmr.ppsOut = none)
    (hphase : ppsPhase b (netTime b) < (tdiff (netTime b) b.tmr.lastNs).toNat) :
    ppsOutRise c tick = { b with tmr := { b.tmr with ppsOut := some b.tmr.ticks } } := by
  unfold ppsOutRise
  rw [hb]
  exact if_pos (by simp [hen, hlow, hphase])

theorem ppsOutFall_passed {u : Nat} (hhigh : b.tmr.ppsOut = some u) (hw : ppsWidthTicks b ≤ b.tmr.ticks - u) :
    ppsOutFall c tick = { b with tmr := { b.tmr with ppsOut := none } } := by
  unfold ppsOutFall
  simp only [hb, hhigh]
  exact if_pos hw

end

/-- As ticks pass, network time of the tick before the last is kept (R79). -/
theorem runTicks_lastNs_succ (c : Chip) (n : Nat) : (runTicks c (n + 1)).tmr.lastNs = netTime (countTicks c n) := by
  simp only [runTicks, Nat.add_one_ne_zero, if_false, Nat.add_sub_cancel]

theorem exec_timeWriteEffect_live {s : State} (hs : s.held = none) :
    exec .timeWriteEffect s = .next { s with chip := cxEffect (incEffect s.chip) } := by
  rw [exec_timeWriteEffect, execTimeWriteEffect, run_live s _ hs]

/-- Settles O2: each effect, read and edge of the time block by its own lemma. -/
theorem waitingTimeWritesAndReadsTakeEffect : Obligations.WaitingTimeWritesAndReadsTakeEffect := by
  unfold Obligations.WaitingTimeWritesAndReadsTakeEffect
  refine ⟨?inc, ?rate, ?latch, ?ppsRead, ?pop, ?edge, ?rise, ?kept, ?fall⟩
  case inc =>
    intro s v e hs hinc he hcx
    rw [exec_timeWriteEffect_live hs, cxEffect_none ((incEffect_cxPend s.chip).trans hcx), incEffect_due hinc he]
  case rate =>
    intro s v e hs hinc hcx he
    rw [exec_timeWriteEffect_live hs, incEffect_none hinc, cxEffect_due hcx he]
  case latch =>
    rintro s ⟨hs, hr⟩
    rw [exec_timeReadLatch, execTimeReadLatch, run_live s _ hs, timeReadLatch_reach hr]
    rfl
  case ppsRead =>
    rintro s ⟨hs, hr⟩
    rw [exec_ppsInRead, execPpsInRead, run_live s _ hs, ppsInRead, hostRead_reach s.chip _ _ hr]
    rfl
  case pop =>
    rintro s p x l ⟨hs, hr⟩ hq
    rw [exec_txtsPop, execTxtsPop, run_live s _ hs, txtsPop_cons hr hq]
  case edge =>
    intro s tick highNs hs hhigh
    generalize hb : advanceTo s.chip tick = b
    intro c hen hedge hnew harmed
    rw [exec_ppsInEdge, execPpsInEdge, run_live s _ hs, ppsInEdge_first hb hhigh hen hedge hnew harmed]
  case rise =>
    intro s tick hs
    generalize hb : advanceTo s.chip tick = b
    intro c hen hlow hphase
    rw [exec_ppsOutRise, execPpsOutRise, run_live s _ hs, ppsOutRise_edge hb hen hlow hphase]
  case kept => exact runTicks_lastNs_succ
  case fall =>
    intro s tick u hs
    generalize hb : advanceTo s.chip tick = b
    intro c hhigh hw
    rw [exec_ppsOutFall, execPpsOutFall, run_live s _ hs, ppsOutFall_passed hb hhigh hw]

end Sys2Proof.Machine
end

section
/-! What a change of gate lists leaves of the time block (R443, R444): heads that are dropped complete their descriptors, which
writes LPDDR6, the transmit schedulers' registers and, where the write is denied, the matrix's error record. -/

open Sys2Proof

namespace Sys2Proof.Machine

/-- The registers below the egress side's but for PRG_STAT, and LDG_SEQ: none of them is one that a step writes in another block. -/
abbrev SparedByStep (a : Nat) : Prop := a < 0xf00000 ∧ a ≠ PRG_STAT ∨ a = LDG_SEQ

/-- The time block is as before, and so are the spared registers. -/
structure TimeKept (c d : Chip) : Prop where
  time : d.tmr = c.tmr
  read : ∀ a, SparedByStep a → rd d a = rd c a

section
variable {c d : Chip}

theorem TimeKept.trans {e : Chip} (h : TimeKept c d) (h' : TimeKept d e) : TimeKept c e :=
  ⟨h'.time.trans h.time, fun a ha => (h'.read a ha).trans (h.read a ha)⟩

theorem timeKept_of_regs (ht : d.tmr = c.tmr) (hr : d.regs = c.regs) : TimeKept c d :=
  ⟨ht, fun a _ => by simp only [rd, hr]⟩

theorem timeKept_refl (c : Chip) : TimeKept c c := timeKept_of_regs rfl rfl

theorem TimeKept.fld (h : TimeKept c d) {f : Fld} (hf : SparedByStep f.addr) : fld d f = fld c f := by
  rw [fld_eq, fld_eq, h.read _ hf]

theorem TimeKept.fldB (h : TimeKept c d) {f : Fld} (hf : SparedByStep f.addr) : fldB d f = fldB c f := by
  unfold Machine.fldB
  rw [h.fld hf]

end

variable (c : Chip)

theorem timeKept_wr {a : Nat} (v : W) (ha : ¬ SparedByStep a) : TimeKept c (wr c a v) :=
  ⟨rfl, fun _ hb => rd_wr_other c v (fun h => ha (h ▸ hb))⟩

theorem timeKept_setFld {f : Fld} (v : Nat) (hf : ¬ SparedByStep f.addr) : TimeKept c (setFld c f v) := timeKept_wr c _ hf

theorem timeKept_raise (k : Nat) (v : W) : TimeKept c (raise c k v) := timeKept_of_regs rfl rfl

theorem timeKept_raiseLimited (k : Nat) (v : W) : TimeKept c (raiseLimited c k v) := by
  unfold raiseLimited
  split <;> exact timeKept_of_regs rfl rfl

theorem timeKept_modTx (n : Nat) (f : TxPort → TxPort) : TimeKept c (modTx c n f) := timeKept_of_regs rfl rfl

theorem timeKept_modRing (n r : Nat) (f : DescRing → DescRing) : TimeKept c (modRing c n r f) := timeKept_of_regs rfl rfl

/-! ### Descriptors -/

@[simp] theorem errorEvent_tmr (k m b : Nat) : (errorEvent c k m b).tmr = c.tmr := by
  unfold errorEvent raiseLimited
  split_ifs <;> rfl

@[simp] theorem matrixError_tmr (k m t : Nat) (w : Bool) (a b : Nat) : (matrixError c k m t w a b).tmr = c.tmr := by
  unfold matrixError
  rw [errorEvent_tmr, apply_ite Chip.tmr, wr_tmr, wr_tmr, wr_tmr, ite_self, apply_ite Chip.tmr, countUp_tmr, wr_tmr, ite_self]

theorem outsideErrors_of_spared {a : Nat} (ha : SparedByStep a) : OutsideErrors a := by
  unfold SparedByStep LDG_SEQ at ha
  unfold OutsideErrors XBR_STAT
  omega

theorem timeKept_matrixError (k m t : Nat) (w : Bool) (a b : Nat) : TimeKept c (matrixError c k m t w a b) :=
  ⟨matrixError_tmr c k m t w a b, fun _ hx => rd_matrixError_outside c k m t w a b (outsideErrors_of_spared hx)⟩

theorem timeKept_memWrite (m a : Nat) (l : List Byte) : TimeKept c (memWrite c m a l) := by
  unfold memWrite ddrNote
  split_ifs
  · exact timeKept_of_regs rfl rfl
  · exact timeKept_matrixError c _ _ _ _ _ _

theorem timeKept_msixSend (v : Nat) : TimeKept c (msixSend c v) := by
  unfold msixSend msixEmit
  dsimp only
  split_ifs <;> exact timeKept_of_regs rfl rfl

/-- LDG_SEQ stands 8 past a multiple of 16, CONS of a ring 12: no port and ring, in the state or not, make them one. -/
theorem ringCons_notSpared (n r : Nat) : ¬ SparedByStep (TXS_PRING_CONS n r) := by
  unfold SparedByStep TXS_PRING_CONS LDG_SEQ
  omega

theorem timeKept_advanceCons (n r fuel : Nat) : TimeKept c (advanceCons c n r fuel) := by
  induction fuel generalizing c with
  | zero => exact timeKept_refl c
  | succ fuel ih =>
    unfold advanceCons
    dsimp only
    split
    · exact ((timeKept_modRing c n r _).trans (timeKept_wr _ _ (ringCons_notSpared n r))).trans (ih _)
    · exact timeKept_refl c

/-- A descriptor's status is written back and CONS advances (R437). -/
theorem timeKept_writeBack (n r a fuel : Nat) (l : List Byte) (f : DescRing → DescRing) :
    TimeKept c (advanceCons (modRing (memWrite c 11 a l) n r f) n r fuel) :=
  ((timeKept_memWrite c 11 a l).trans (timeKept_modRing _ n r f)).trans (timeKept_advanceCons _ n r fuel)

theorem timeKept_descComplete (n r i status : Nat) : TimeKept c (descComplete c n r i status) := by
  unfold descComplete
  dsimp only
  split
  · exact (timeKept_writeBack c n r _ _ _ _).trans ((timeKept_modRing _ n r _).trans (timeKept_msixSend _ _))
  · exact timeKept_writeBack c n r _ _ _ _

theorem timeKept_frameComplete (n : Nat) (f : TxFrame) (status : Nat) : TimeKept c (frameComplete c n f status) := by
  unfold frameComplete
  split
  · exact timeKept_descComplete c n _ _ status
  · exact timeKept_refl c

/-! ### Queues and gate lists -/

theorem timeKept_txDrop (n q : Nat) : TimeKept c (txDrop c n q) := by
  refine (timeKept_wr c _ ?_).trans (timeKept_setFld _ _ ?_)
  · unfold SparedByStep TXS_PQ_DROP LDG_SEQ
    omega
  · show ¬ SparedByStep (TXS_P_STAT n)
    unfold SparedByStep TXS_P_STAT LDG_SEQ
    omega

theorem timeKept_tagHead (n q : Nat) : TimeKept c (tagHead c n q) := by
  unfold tagHead
  split
  · exact timeKept_modTx c n _
  · split
    · exact timeKept_refl c
    · exact timeKept_modTx c n _

theorem timeKept_dropOversize (n q fuel : Nat) : TimeKept c (dropOversize c n q fuel) := by
  induction fuel generalizing c with
  | zero => exact timeKept_refl c
  | succ fuel ih =>
    unfold dropOversize
    split
    · split
      · exact ((((timeKept_modTx c n _).trans (timeKept_txDrop _ n q)).trans (timeKept_raiseLimited _ _ _)).trans
          (timeKept_frameComplete _ n _ 7)).trans ((timeKept_tagHead _ n q).trans (ih _))
      · exact timeKept_refl c
    · exact timeKept_refl c

theorem timeKept_foldl {α : Type} (f : Chip → α → Chip) (hf : ∀ c x, TimeKept c (f c x)) (l : List α) :
    TimeKept c (l.foldl f c) := by
  induction l generalizing c with
  | nil => exact timeKept_refl c
  | cons x l ih => exact (hf c x).trans (ih _)

theorem timeKept_gateShow (n : Nat) : TimeKept c (gateShow c n) := by
  have hn : ¬ SparedByStep (TXS_P_GCL_STAT n) := by
    unfold SparedByStep TXS_P_GCL_STAT LDG_SEQ
    omega
  unfold gateShow
  dsimp only
  split
  · split <;> exact timeKept_wr c _ hn
  · exact timeKept_wr c _ hn

theorem timeKept_gclTake (n : Nat) : TimeKept c (gclTake c n) := by
  have hctl : ¬ SparedByStep (TXS_P_GCL_CTL_pending n).addr := by
    show ¬ SparedByStep (TXS_P_GCL_CTL n)
    unfold SparedByStep TXS_P_GCL_CTL LDG_SEQ
    omega
  have hcycle : ¬ SparedByStep (TXS_P_GCL_CYCLE n) := by
    unfold SparedByStep TXS_P_GCL_CYCLE LDG_SEQ
    omega
  unfold gclTake
  split
  · split
    · exact (((timeKept_modTx c n _).trans (timeKept_setFld _ _ hctl)).trans (timeKept_wr _ _ hcycle)).trans
        ((timeKept_gateShow _ n).trans (timeKept_foldl _ _ (fun c q => timeKept_dropOversize c n q _) _))
    · exact timeKept_refl c
  · exact timeKept_refl c

theorem timeKept_gateStep : TimeKept c (gateStep c) :=
  timeKept_foldl c _ (fun c n => (timeKept_gclTake c n).trans (timeKept_gateShow _ n)) _

theorem timeKept_prg (p : Prg) : TimeKept c { c with prg := p } := timeKept_of_regs rfl rfl

/-- The programme engine is told of a step in PRG_STAT and its own block (R241). -/
theorem timeKept_programmeTimeStep (k : Int) : TimeKept c (programmeTimeStep c k) := by
  have hstat : ¬ SparedByStep PRG_STAT_time_step.addr := by decide
  have hraised : TimeKept c (raise (setB c PRG_STAT_time_step true) srcPRG_TIME_STEP 0) :=
    (timeKept_setFld c (f := PRG_STAT_time_step) _ hstat).trans (timeKept_raise _ _ _)
  unfold programmeTimeStep
  exact hraised.trans (timeKept_prg _ _)

/-- What follows the effect of an adjustment in other blocks leaves the time block and the spared registers as the effect left
them. -/
theorem timeKept_adjustmentStep : TimeKept (adjustmentEffect c) (adjustmentStep c) := by
  unfold adjustmentStep
  dsimp only
  split
  · exact timeKept_refl _
  · exact (timeKept_programmeTimeStep _ _).trans (timeKept_gateStep _)

end Sys2Proof.Machine
end

section
/-! The effect of an adjustment (R65–R67): what each of its parts writes, and the two ways it ends. -/

open Sys2Proof

namespace Sys2Proof.Machine

/-- The two's-complement reading of a word is its value as an integer. -/
theorem sext_toNat {n : Nat} (hn : 0 < n) (x : BitVec n) : sext n x.toNat = x.toInt := by
  obtain ⟨m, rfl⟩ : ∃ m, n = m + 1 := ⟨n - 1, by omega⟩
  have hpow : 2 ^ (m + 1) = 2 * 2 ^ m := Nat.pow_succ'
  have hlt := x.isLt
  rw [BitVec.toInt_eq_toNat_cond]
  simp only [sext, Nat.mod_eq_of_lt hlt, Nat.add_sub_cancel]
  split_ifs <;> omega

theorem tdiff_toInt (a b : BitVec 64) : tdiff a b = (a - b).toInt := sext_toNat (by decide) (a - b)

@[simp] theorem tdiff_self (a : BitVec 64) : tdiff a a = 0 := by
  rw [tdiff_toInt, BitVec.sub_self]
  rfl

/-- The words of a pair, joined. -/
theorem rd64_wr64 (c : Chip) {lo hi : Nat} (h : lo ≠ hi) (v : BitVec 64) : rd64 (wr64 c lo hi v) lo hi = v := by
  have hv := v.isLt
  unfold rd64 wr64 rn
  rw [rd_wr_same, rd_wr_other _ _ h.symm, rd_wr_same]
  apply BitVec.eq_of_toNat_eq
  simp only [toW, BitVec.toNat_ofNat]
  omega

/-- A 64-bit value is read from its two registers alone. -/
theorem rd64_congr {c d : Chip} {lo hi : Nat} (hlo : rd d lo = rd c lo) (hhi : rd d hi = rd c hi) : rd64 d lo hi = rd64 c lo hi := by
  simp only [rd64, rn, hlo, hhi]

variable (c : Chip)

/-- The device with another time block beside its registers. -/
def withTmr (t : Tmr) : Chip := { c with tmr := t }

@[simp] theorem withTmr_tmr (t : Tmr) : (withTmr c t).tmr = t := rfl
@[simp] theorem rd_withTmr (t : Tmr) (a : Nat) : rd (withTmr c t) a = rd c a := rfl
@[simp] theorem fld_withTmr (t : Tmr) (f : Fld) : fld (withTmr c t) f = fld c f := rfl

/-! ### Moving network time -/

section
variable (d : Int)

theorem moveTime_native (h : fldB c TMR_CTL_clk_mode = false) :
    moveTime c d = { c with tmr := { c.tmr with timeNs := c.tmr.timeNs + BitVec.ofInt 64 d } } := by
  simp [moveTime, h]

theorem moveTime_compat (h : fldB c TMR_CTL_clk_mode = true) :
    moveTime c d = wr64 c TMR_CX_OFS_LO TMR_CX_OFS_HI (rd64 c TMR_CX_OFS_LO TMR_CX_OFS_HI + BitVec.ofInt 64 d) := by
  simp [moveTime, h]

theorem rd_moveTime_other {a : Nat} (hlo : TMR_CX_OFS_LO ≠ a) (hhi : TMR_CX_OFS_HI ≠ a) : rd (moveTime c d) a = rd c a := by
  unfold moveTime
  split
  · exact (rd_wr_other _ _ hhi).trans (rd_wr_other _ _ hlo)
  · rfl

/-- The time block but for time_ns is as before. -/
theorem moveTime_tmr : (moveTime c d).tmr = { c.tmr with timeNs := (moveTime c d).tmr.timeNs } := by
  unfold moveTime
  split
  · rw [wr64_tmr]
  · rfl

end

/-! ### The step -/

theorem rd_ledgerStep (x y : BitVec 64) (a : Nat) : rd (ledgerStep c x y) a = if LDG_SEQ = a then rd c LDG_SEQ + 1 else rd c a := by
  unfold ledgerStep ledgerPut
  rw [rd_wr]
  rfl

section
variable (k : Int)

/-- Time has moved at a step (R65). -/
def stepMoved : Chip :=
  withTmr (moveTime c (250 * k))
    { (moveTime c (250 * k)).tmr with bndNs := c.tmr.bndNs + BitVec.ofInt 64 (250 * k) }

/-- step_cnt has advanced (R67). -/
def stepCounted : Chip :=
  setFld (stepMoved c k) TMR_STAT_step_cnt ((fld (stepMoved c k) TMR_STAT_step_cnt + 1) % 256)

/-- The step's record is written and its event raised (R67). -/
def stepRecorded : Chip :=
  raise (ledgerStep (stepCounted c k) c.tmr.bndNs (stepCounted c k).tmr.bndNs) srcTMR_STEP 0

theorem timeStep_eq : timeStep c k =
    withTmr (stepRecorded c k) { (stepRecorded c k).tmr with
      stepAt := some ((stepRecorded c k).tmr.period, c.tmr.bndNs), lastNs := netTime (stepRecorded c k) } := by
  unfold timeStep stepRecorded stepCounted stepMoved withTmr
  rfl

theorem stepRecorded_tmr : (stepRecorded c k).tmr
    = { (moveTime c (250 * k)).tmr with bndNs := c.tmr.bndNs + BitVec.ofInt 64 (250 * k) } := by
  unfold stepRecorded ledgerStep stepCounted stepMoved
  rw [raise_tmr, ledgerPut_tmr, setFld_tmr, withTmr_tmr]

/-- A step moves the boundary's time, and time_ns as `moveTime` does, and leaves what waits and the period number. -/
theorem timeStep_time :
    (timeStep c k).tmr.bndNs = c.tmr.bndNs + BitVec.ofInt 64 (250 * k)
      ∧ (timeStep c k).tmr.timeNs = (moveTime c (250 * k)).tmr.timeNs
      ∧ (timeStep c k).tmr.adj = c.tmr.adj ∧ (timeStep c k).tmr.period = c.tmr.period := by
  rw [timeStep_eq, withTmr_tmr, stepRecorded_tmr, moveTime_tmr]
  exact ⟨rfl, rfl, rfl, rfl⟩

theorem rd_stepCounted_other {a : Nat} (ha : TMR_STAT ≠ a) : rd (stepCounted c k) a = rd (moveTime c (250 * k)) a := by
  rw [stepCounted, rd_setFld_other _ (f := TMR_STAT_step_cnt) _ ha, stepMoved, rd_withTmr]

theorem rd_timeStep (a : Nat) :
    rd (timeStep c k) a = if LDG_SEQ = a then rd c LDG_SEQ + 1 else rd (stepCounted c k) a := by
  rw [timeStep_eq, rd_withTmr, stepRecorded, rd_raise, rd_ledgerStep, rd_stepCounted_other c k (by decide),
    rd_moveTime_other c _ (by decide) (by decide)]

theorem rd_timeStep_other {a : Nat} (hseq : LDG_SEQ ≠ a) (hstat : TMR_STAT ≠ a) :
    rd (timeStep c k) a = rd (moveTime c (250 * k)) a := by
  rw [rd_timeStep, if_neg hseq, rd_stepCounted_other c k hstat]

theorem fld_stepMoved {f : Fld} (ha : f.addr = TMR_STAT) : fld (stepMoved c k) f = fld c f := by
  rw [stepMoved, fld_withTmr, fld_eq, rd_moveTime_other c _ (by rw [ha]; decide) (by rw [ha]; decide), fld_eq]

/-- A step advances step_cnt (R67). -/
theorem fld_timeStep_stepCnt : fld (timeStep c k) TMR_STAT_step_cnt = (fld c TMR_STAT_step_cnt + 1) % 256 := by
  rw [fld_eq, rd_timeStep, if_neg (by decide), ← fld_eq, stepCounted, fld_setFld_same _ _ _ (by decide), fld_stepMoved c k rfl]
  exact Nat.mod_mod _ _

/-- The flags of TMR_STAT are as before a step. -/
theorem fld_timeStep_flag {f : Fld} (ha : f.addr = TMR_STAT) (hf : f.lo + f.width ≤ 24) : fld (timeStep c k) f = fld c f := by
  rw [fld_eq, rd_timeStep, ha, if_neg (by decide), ← ha, ← fld_eq, stepCounted,
    fld_setFld_other (f := TMR_STAT_step_cnt) _ _ ha.symm (by decide) (.inr hf), fld_stepMoved c k ha]

end

/-! ### The parts of the effect -/

/-- The adjustment no longer waits. -/
def adjTaken : Chip := setB (withTmr c { c.tmr with adj := none }) TMR_STAT_adj_busy false

/-- The outstanding slew is set and time becomes valid. -/
def adjSettled (x : Int) : Chip :=
  setB (setB (withTmr c { c.tmr with slew := x }) TMR_STAT_slewing (x != 0)) TMR_STAT_time_valid true

theorem adjTaken_tmr : (adjTaken c).tmr = { c.tmr with adj := none } := by
  unfold adjTaken
  rw [setB_tmr, withTmr_tmr]

theorem rd_adjTaken_other {a : Nat} (ha : TMR_STAT ≠ a) : rd (adjTaken c) a = rd c a := by
  rw [adjTaken, rd_setB_other _ (f := TMR_STAT_adj_busy) _ ha, rd_withTmr]

theorem fldB_adjTaken_busy : fldB (adjTaken c) TMR_STAT_adj_busy = false := fldB_setB_same _ _ _ (by decide) rfl

theorem fld_adjTaken_other {f : Fld} (ha : f.addr = TMR_STAT) (hf : 2 ≤ f.lo ∨ f.lo + f.width ≤ 1) :
    fld (adjTaken c) f = fld c f := by
  rw [adjTaken, setB, fld_setFld_other (f := TMR_STAT_adj_busy) _ _ ha.symm (by decide) hf, fld_withTmr]

section
variable (x : Int)

theorem adjSettled_tmr : (adjSettled c x).tmr = { c.tmr with slew := x } := by
  unfold adjSettled
  rw [setB_tmr, setB_tmr, withTmr_tmr]

theorem rd_adjSettled_other {a : Nat} (ha : TMR_STAT ≠ a) : rd (adjSettled c x) a = rd c a := by
  rw [adjSettled, rd_setB_other _ (f := TMR_STAT_time_valid) _ ha, rd_setB_other _ (f := TMR_STAT_slewing) _ ha, rd_withTmr]

theorem rd64_adjSettled_ofs : rd64 (adjSettled c x) TMR_CX_OFS_LO TMR_CX_OFS_HI = rd64 c TMR_CX_OFS_LO TMR_CX_OFS_HI :=
  rd64_congr (rd_adjSettled_other c x (by decide)) (rd_adjSettled_other c x (by decide))

theorem fldB_adjSettled_timeValid : fldB (adjSettled c x) TMR_STAT_time_valid = true := fldB_setB_same _ _ _ (by decide) rfl

theorem fldB_adjSettled_slewing : fldB (adjSettled c x) TMR_STAT_slewing = (x != 0) :=
  (fldB_setB_other (f := TMR_STAT_time_valid) (g := TMR_STAT_slewing) _ _ rfl (by decide) (by decide)).trans
    (fldB_setB_same _ _ _ (by decide) rfl)

theorem fld_adjSettled_other {f : Fld} (ha : f.addr = TMR_STAT) (hf : 3 ≤ f.lo ∨ f.lo = 1 ∧ f.width = 1) :
    fld (adjSettled c x) f = fld c f := by
  have hvalid : 1 ≤ f.lo ∨ f.lo + f.width ≤ 0 := by omega
  have hslewing : 3 ≤ f.lo ∨ f.lo + f.width ≤ 2 := by omega
  rw [adjSettled, setB, fld_setFld_other (f := TMR_STAT_time_valid) _ _ ha.symm (by decide) hvalid, setB,
    fld_setFld_other (f := TMR_STAT_slewing) _ _ ha.symm (by decide) hslewing, fld_withTmr]

end

/-! ### The effect -/

/-- D of R65: the correction of an adjustment and the slew still outstanding. -/
def adjCorrection (a : Adj) : Int := adjDelta c a + c.tmr.slew

/-- The correction is slewed whole (R65). -/
abbrev SlewedWhole (a : Adj) : Prop :=
  (adjCorrection c a).natAbs ≤ rn c TMR_SLEW_LIMIT ∧ a.forceStep = false ∧ fldB c TMR_STAT_time_valid = true

/-- The adjustment no longer waits, and network time has stepped by `k` periods unless `k` is 0 (R65). -/
def adjStepped (k : Int) : Chip := if k = 0 then adjTaken c else timeStep (adjTaken c) k

/-- What comes into force at E: all of the correction as slew, or a step of whole periods and the remainder as slew (R65). -/
def adjInForce (a : Adj) : Chip :=
  if SlewedWhole c a then adjSettled (adjTaken c) (adjCorrection c a)
  else adjSettled (adjStepped c (stepPeriods (adjCorrection c a)))
    (adjCorrection c a - 250 * stepPeriods (adjCorrection c a))

theorem adjustmentEffect_due {a : Adj} (ha : c.tmr.adj = some a) (he : due c a.e = true) :
    adjustmentEffect c = adjInForce c a := by
  have hlimit : rn (adjTaken c) TMR_SLEW_LIMIT = rn c TMR_SLEW_LIMIT := by
    unfold rn
    rw [rd_adjTaken_other c (by decide)]
  have hvalid : fldB (adjTaken c) TMR_STAT_time_valid = fldB c TMR_STAT_time_valid := by
    unfold fldB
    rw [fld_adjTaken_other c rfl (by decide)]
  have hcond : (decide ((adjCorrection c a).natAbs ≤ rn (adjTaken c) TMR_SLEW_LIMIT) && !a.forceStep
      && fldB (adjTaken c) TMR_STAT_time_valid) = true ↔ SlewedWhole c a := by
    simp only [hlimit, hvalid, Bool.and_eq_true, decide_eq_true_eq, Bool.not_eq_true', and_assoc]
  unfold adjustmentEffect adjInForce
  rw [ha]
  refine (if_pos he).trans ?_
  by_cases h : SlewedWhole c a
  · rw [if_pos h]
    exact congrArg (setB · TMR_STAT_time_valid true) (if_pos (hcond.mpr h))
  · rw [if_neg h]
    exact congrArg (setB · TMR_STAT_time_valid true) (if_neg (mt hcond.mp h))

theorem adjustmentEffect_notDue (h : ∀ a, c.tmr.adj = some a → due c a.e = false) : adjustmentEffect c = c := by
  unfold adjustmentEffect
  split
  · next a ha => simp [h a ha]
  · rfl

/-! ### The step of an adjustment -/

section
variable (k : Int)

theorem adjStepped_time :
    (adjStepped c k).tmr.bndNs = c.tmr.bndNs + BitVec.ofInt 64 (250 * k)
      ∧ (adjStepped c k).tmr.adj = none ∧ (adjStepped c k).tmr.period = c.tmr.period := by
  unfold adjStepped
  split
  · next h => simp [h, adjTaken_tmr]
  · obtain ⟨hbnd, -, hadj, hperiod⟩ := timeStep_time (adjTaken c) k
    rw [hbnd, hadj, hperiod, adjTaken_tmr]
    exact ⟨rfl, rfl, rfl⟩

theorem fldB_adjStepped_busy : fldB (adjStepped c k) TMR_STAT_adj_busy = false := by
  unfold adjStepped
  split
  · exact fldB_adjTaken_busy c
  · rw [← fldB_adjTaken_busy c]
    unfold fldB
    rw [fld_timeStep_flag _ k rfl (by decide)]

theorem fldB_adjTaken_clkMode : fldB (adjTaken c) TMR_CTL_clk_mode = fldB c TMR_CTL_clk_mode := by
  unfold fldB
  rw [fld_eq, rd_adjTaken_other c (by decide), fld_eq]

theorem rd64_adjTaken_ofs : rd64 (adjTaken c) TMR_CX_OFS_LO TMR_CX_OFS_HI = rd64 c TMR_CX_OFS_LO TMR_CX_OFS_HI :=
  rd64_congr (rd_adjTaken_other c (by decide)) (rd_adjTaken_other c (by decide))

theorem rd64_timeStep_ofs : rd64 (timeStep c k) TMR_CX_OFS_LO TMR_CX_OFS_HI = rd64 (moveTime c (250 * k)) TMR_CX_OFS_LO TMR_CX_OFS_HI :=
  rd64_congr (rd_timeStep_other c k (by decide) (by decide)) (rd_timeStep_other c k (by decide) (by decide))

/-- The native counter takes the step; O stays (R65). -/
theorem adjStepped_native (h : fldB c TMR_CTL_clk_mode = false) :
    (adjStepped c k).tmr.timeNs = c.tmr.timeNs + BitVec.ofInt 64 (250 * k)
      ∧ rd64 (adjStepped c k) TMR_CX_OFS_LO TMR_CX_OFS_HI = rd64 c TMR_CX_OFS_LO TMR_CX_OFS_HI := by
  have hmode := (fldB_adjTaken_clkMode c).trans h
  rw [← rd64_adjTaken_ofs c]
  unfold adjStepped
  split
  · next hk => simp [hk, adjTaken_tmr]
  · obtain ⟨-, htime, -, -⟩ := timeStep_time (adjTaken c) k
    rw [htime, rd64_timeStep_ofs, moveTime_native _ _ hmode, adjTaken_tmr]
    exact ⟨rfl, rfl⟩

/-- In the compatible mode O takes the step (R65, R71). -/
theorem adjStepped_compat (h : fldB c TMR_CTL_clk_mode = true) :
    (adjStepped c k).tmr.timeNs = c.tmr.timeNs
      ∧ rd64 (adjStepped c k) TMR_CX_OFS_LO TMR_CX_OFS_HI
        = rd64 c TMR_CX_OFS_LO TMR_CX_OFS_HI + BitVec.ofInt 64 (250 * k) := by
  have hmode := (fldB_adjTaken_clkMode c).trans h
  rw [← rd64_adjTaken_ofs c]
  unfold adjStepped
  split
  · next hk => simp [hk, adjTaken_tmr]
  · obtain ⟨-, htime, -, -⟩ := timeStep_time (adjTaken c) k
    rw [htime, rd64_timeStep_ofs, moveTime_compat _ _ hmode, rd64_wr64 _ (by decide), wr64_tmr, adjTaken_tmr]
    exact ⟨rfl, rfl⟩

theorem adjStepped_counts_zero (hk : k = 0) :
    fld (adjStepped c k) TMR_STAT_step_cnt = fld c TMR_STAT_step_cnt ∧ rd (adjStepped c k) LDG_SEQ = rd c LDG_SEQ := by
  unfold adjStepped
  rw [if_pos hk, fld_adjTaken_other c rfl (by decide), rd_adjTaken_other c (by decide)]
  exact ⟨rfl, rfl⟩

/-- A step is counted and recorded (R67). -/
theorem adjStepped_counts_step (hk : k ≠ 0) :
    fld (adjStepped c k) TMR_STAT_step_cnt = (fld c TMR_STAT_step_cnt + 1) % 256
      ∧ rd (adjStepped c k) LDG_SEQ = rd c LDG_SEQ + 1 := by
  unfold adjStepped
  rw [if_neg hk, fld_timeStep_stepCnt, rd_timeStep, if_pos rfl, fld_adjTaken_other c rfl (by decide),
    rd_adjTaken_other c (by decide)]
  exact ⟨rfl, rfl⟩

end

/-- Whichever way the effect ends: nothing waits, time is valid, slewing shows the outstanding slew (R58, R64, R66). -/
theorem adjInForce_common (a : Adj) :
    (adjInForce c a).tmr.adj = none ∧ fldB (adjInForce c a) TMR_STAT_adj_busy = false
      ∧ fldB (adjInForce c a) TMR_STAT_time_valid = true ∧ (adjInForce c a).tmr.period = c.tmr.period
      ∧ fldB (adjInForce c a) TMR_STAT_slewing = ((adjInForce c a).tmr.slew != 0) := by
  have hsettled : ∀ (b : Chip) (x : Int), b.tmr.adj = none → fldB b TMR_STAT_adj_busy = false → b.tmr.period = c.tmr.period →
      (adjSettled b x).tmr.adj = none ∧ fldB (adjSettled b x) TMR_STAT_adj_busy = false
        ∧ fldB (adjSettled b x) TMR_STAT_time_valid = true ∧ (adjSettled b x).tmr.period = c.tmr.period
        ∧ fldB (adjSettled b x) TMR_STAT_slewing = ((adjSettled b x).tmr.slew != 0) := by
    intro b x hadj hbusy hperiod
    rw [adjSettled_tmr, fldB_adjSettled_slewing, fldB_adjSettled_timeValid]
    refine ⟨hadj, ?_, rfl, hperiod, rfl⟩
    rw [← hbusy]
    unfold fldB
    rw [fld_adjSettled_other b x rfl (by decide)]
  unfold adjInForce
  split
  · exact hsettled _ _ (by rw [adjTaken_tmr]) (fldB_adjTaken_busy c) (by rw [adjTaken_tmr])
  · obtain ⟨-, hadj, hperiod⟩ := adjStepped_time c (stepPeriods (adjCorrection c a))
    exact hsettled _ _ hadj (fldB_adjStepped_busy c _) hperiod

/-- Slewed whole, the correction becomes the outstanding slew and nothing else of network time moves (R65). -/
theorem adjInForce_slewed {a : Adj} (h : SlewedWhole c a) :
    (adjInForce c a).tmr.slew = adjCorrection c a ∧ (adjInForce c a).tmr.timeNs = c.tmr.timeNs
      ∧ (adjInForce c a).tmr.bndNs = c.tmr.bndNs
      ∧ rd64 (adjInForce c a) TMR_CX_OFS_LO TMR_CX_OFS_HI = rd64 c TMR_CX_OFS_LO TMR_CX_OFS_HI
      ∧ fld (adjInForce c a) TMR_STAT_step_cnt = fld c TMR_STAT_step_cnt ∧ rd (adjInForce c a) LDG_SEQ = rd c LDG_SEQ := by
  rw [adjInForce, if_pos h, adjSettled_tmr, adjTaken_tmr, rd64_adjSettled_ofs, rd64_adjTaken_ofs,
    fld_adjSettled_other _ _ rfl (by decide), fld_adjTaken_other c rfl (by decide), rd_adjSettled_other _ _ (by decide),
    rd_adjTaken_other c (by decide)]
  exact ⟨rfl, rfl, rfl, rfl, rfl, rfl⟩

/-- Otherwise the whole periods of it are stepped and the remainder becomes the outstanding slew (R65). -/
theorem adjInForce_split {a : Adj} (h : ¬ SlewedWhole c a) :
    let k := stepPeriods (adjCorrection c a)
    (adjInForce c a).tmr.slew = adjCorrection c a - 250 * k
      ∧ (adjInForce c a).tmr.bndNs = c.tmr.bndNs + BitVec.ofInt 64 (250 * k)
      ∧ (adjInForce c a).tmr.timeNs = (adjStepped c k).tmr.timeNs
      ∧ rd64 (adjInForce c a) TMR_CX_OFS_LO TMR_CX_OFS_HI = rd64 (adjStepped c k) TMR_CX_OFS_LO TMR_CX_OFS_HI
      ∧ fld (adjInForce c a) TMR_STAT_step_cnt = fld (adjStepped c k) TMR_STAT_step_cnt
      ∧ rd (adjInForce c a) LDG_SEQ = rd (adjStepped c k) LDG_SEQ := by
  intro k
  obtain ⟨hbnd, -, -⟩ := adjStepped_time c k
  rw [adjInForce, if_neg h, adjSettled_tmr, rd64_adjSettled_ofs, fld_adjSettled_other _ _ rfl (by decide),
    rd_adjSettled_other _ _ (by decide)]
  exact ⟨rfl, hbnd, rfl, rfl, rfl, rfl⟩

theorem adjDelta_eq (a : Adj) : adjDelta c a = if a.absolute then tdiff a.value c.tmr.bndNs else a.value.toInt := by
  unfold adjDelta
  rw [sext_toNat (by decide)]

theorem exec_adjustmentEffect_live {s : State} (hs : s.held = none) :
    exec .adjustmentEffect s = .next { s with chip := adjustmentStep s.chip } := by
  rw [exec_adjustmentEffect, execAdjustmentEffect, run_live s _ hs]

/-- Where the effect changes nothing, nothing follows it. -/
theorem adjustmentStep_notDue (h : ∀ a, c.tmr.adj = some a → due c a.e = false) : adjustmentStep c = c := by
  unfold adjustmentStep
  rw [adjustmentEffect_notDue c h]
  exact if_pos (tdiff_self _)

/-- Settles O43: the effect is split by R65's condition; the programme engine and the gate lists, told of a step, leave the time
block and LDG_SEQ. -/
theorem adjustmentIsSlewedOrSplit : Obligations.AdjustmentIsSlewedOrSplit := by
  unfold Obligations.AdjustmentIsSlewedOrSplit
  refine ⟨fun s hs h => ?_, fun s a hs ha he => ?_⟩
  · rw [exec_adjustmentEffect_live hs, adjustmentStep_notDue s.chip h]
  generalize hc : s.chip = c at ha he ⊢
  intro t d k slewed ofs cnt
  have hd : adjCorrection c a = d := by rw [adjCorrection, adjDelta_eq]
  have hk : stepPeriods (adjCorrection c a) = k := by rw [hd]; rfl
  have hslewed : SlewedWhole c a ↔ slewed := by rw [SlewedWhole, hd]
  have hkept : TimeKept (adjInForce c a) (adjustmentStep c) := adjustmentEffect_due c ha he ▸ timeKept_adjustmentStep c
  have hofs : ofs (adjustmentStep c) = ofs (adjInForce c a) :=
    rd64_congr (hkept.read _ (by decide)) (hkept.read _ (by decide))
  have hcnt : cnt (adjustmentStep c) = cnt (adjInForce c a) := hkept.fld (by decide)
  refine ⟨adjustmentStep c, by rw [exec_adjustmentEffect_live hs, hc], ?_⟩
  rw [hkept.time, hkept.fldB (by decide), hkept.fldB (by decide), hkept.fldB (by decide), hofs, hcnt, hkept.read LDG_SEQ (.inr rfl)]
  obtain ⟨hadj, hbusy, hvalid, hperiod, hslewing⟩ := adjInForce_common c a
  refine ⟨hadj, hbusy, hvalid, hperiod, hslewing, fun h => hd ▸ adjInForce_slewed c (hslewed.mpr h), fun h => ?_⟩
  obtain ⟨hslew, hbnd, htime, ho, hn, hl⟩ := adjInForce_split c (mt hslewed.mp h)
  rw [hk] at hslew hbnd htime ho hn hl
  rw [hd] at hslew
  change ofs (adjInForce c a) = ofs (adjStepped c k) at ho
  change cnt (adjInForce c a) = cnt (adjStepped c k) at hn
  rw [htime, ho, hn, hl]
  have hrange : -125 ≤ d - 250 * k ∧ d - 250 * k ≤ 124 := by
    have : k = (d + 125) / 250 := rfl
    omega
  exact ⟨hslew, hrange.1, hrange.2, hbnd, adjStepped_native c k, adjStepped_compat c k, adjStepped_counts_zero c k,
    adjStepped_counts_step c k⟩

end Sys2Proof.Machine
end

section
/-! Time as it passes (R54, R59, R66): runs of ticks join, a slew tick takes one nanosecond, and with no slew outstanding a period
ends at the first tick at or past the next multiple of 250. -/

open Sys2Proof

namespace Sys2Proof.Machine

/-! ### Runs of ticks -/

/-- Time and fraction of the native counter in 2^-32 ns, `n` ticks on (R54). -/
def nativeAt (t : Tmr) (n : Nat) : Nat := t.timeNs.toNat * 2 ^ 32 + t.timeFrac.toNat + n * t.inc

/-- The time block `n` ticks on, its native counter at `x` (R54, R70). -/
def countedTmr (t : Tmr) (n x : Nat) : Tmr :=
  { t with timeNs := BitVec.ofNat 64 (x / 2 ^ 32), timeFrac := toW x, cxFree := t.cxFree + BitVec.ofNat 64 n, tick := t.tick + n,
           ticks := t.ticks + n }

theorem countTicks_eq (c : Chip) (n : Nat) : countTicks c n = withTmr c (countedTmr c.tmr n (nativeAt c.tmr n)) := rfl

theorem withTmr_withTmr (c : Chip) (t u : Tmr) : withTmr (withTmr c t) u = withTmr c u := rfl

theorem countedTmr_countedTmr (t : Tmr) (m n x y : Nat) : countedTmr (countedTmr t m x) n y = countedTmr t (m + n) y := by
  simp only [countedTmr, BitVec.ofNat_add, BitVec.add_assoc, Nat.add_assoc]

/-- The counter's words depend on its value modulo 2^96. -/
theorem countedTmr_congr (t : Tmr) (n : Nat) {x y : Nat} (h : x % 2 ^ 96 = y % 2 ^ 96) : countedTmr t n x = countedTmr t n y := by
  have hns : BitVec.ofNat 64 (x / 2 ^ 32) = BitVec.ofNat 64 (y / 2 ^ 32) := by
    apply BitVec.eq_of_toNat_eq
    simp only [BitVec.toNat_ofNat]
    omega
  have hfrac : toW x = toW y := by
    apply BitVec.eq_of_toNat_eq
    simp only [toW, BitVec.toNat_ofNat]
    omega
  simp only [countedTmr, hns, hfrac]

/-- The counter wraps at 2^64 ns, so counting on from where it stands is counting from the start. -/
theorem nativeAt_countedTmr (t : Tmr) (m n : Nat) :
    nativeAt (countedTmr t m (nativeAt t m)) n % 2 ^ 96 = nativeAt t (m + n) % 2 ^ 96 := by
  have hsum : nativeAt t (m + n) = nativeAt t m + n * t.inc := by
    unfold nativeAt
    ring
  have hns : ∀ x, (countedTmr t m x).timeNs.toNat = x / 2 ^ 32 % 2 ^ 64 := fun x => BitVec.toNat_ofNat (x / 2 ^ 32) 64
  have hfrac : ∀ x, (countedTmr t m x).timeFrac.toNat = x % 2 ^ 32 := fun x => BitVec.toNat_ofNat x 32
  have hinc : ∀ x, (countedTmr t m x).inc = t.inc := fun _ => rfl
  rw [hsum, nativeAt, hns, hfrac, hinc]
  omega

theorem countTicks_countTicks (c : Chip) (m n : Nat) : countTicks (countTicks c m) n = countTicks c (m + n) := by
  rw [countTicks_eq (countTicks c m) n, countTicks_eq c m, countTicks_eq c (m + n), withTmr_withTmr, withTmr_tmr,
    countedTmr_countedTmr, countedTmr_congr _ _ (nativeAt_countedTmr c.tmr m n)]

theorem countTicks_zero (c : Chip) : countTicks c 0 = c := by
  have hx : nativeAt c.tmr 0 = c.tmr.timeNs.toNat * 2 ^ 32 + c.tmr.timeFrac.toNat := by
    rw [nativeAt, Nat.zero_mul, Nat.add_zero]
  have hlt := c.tmr.timeFrac.isLt
  have hns : BitVec.ofNat 64 (nativeAt c.tmr 0 / 2 ^ 32) = c.tmr.timeNs := by
    apply BitVec.eq_of_toNat_eq
    rw [hx, BitVec.toNat_ofNat]
    omega
  have hfrac : toW (nativeAt c.tmr 0) = c.tmr.timeFrac := by
    apply BitVec.eq_of_toNat_eq
    rw [hx, toW, BitVec.toNat_ofNat]
    omega
  rw [countTicks_eq, countedTmr, hns, hfrac, Nat.add_zero, Nat.add_zero, BitVec.add_zero]
  rfl

/-- The network time of the tick before is kept (R79). -/
def keepLast (c : Chip) (x : BitVec 64) : Chip := withTmr c { c.tmr with lastNs := x }

theorem countTicks_keepLast (c : Chip) (x : BitVec 64) (n : Nat) : countTicks (keepLast c x) n = keepLast (countTicks c n) x := rfl

theorem netTime_keepLast (c : Chip) (x : BitVec 64) : netTime (keepLast c x) = netTime c := rfl

theorem keepLast_keepLast (c : Chip) (x y : BitVec 64) : keepLast (keepLast c x) y = keepLast c y := rfl

theorem runTicks_eq (c : Chip) (n : Nat) :
    runTicks c n = keepLast (countTicks c n) (if n = 0 then c.tmr.lastNs else netTime (countTicks c (n - 1))) := rfl

theorem runTicks_zero (c : Chip) : runTicks c 0 = c := by
  rw [runTicks_eq, countTicks_zero, if_pos rfl]
  rfl

/-- Runs of ticks join. -/
theorem runTicks_runTicks (c : Chip) (m n : Nat) : runTicks (runTicks c m) n = runTicks c (m + n) := by
  rcases Nat.eq_zero_or_pos n with rfl | hn
  · rw [runTicks_zero, Nat.add_zero]
  · have hn0 : n ≠ 0 := by omega
    have hmn : m + n ≠ 0 := by omega
    have hpred : m + n - 1 = m + (n - 1) := by omega
    rw [runTicks_eq (runTicks c m) n, runTicks_eq c (m + n), if_neg hn0, if_neg hmn, hpred, runTicks_eq c m, countTicks_keepLast,
      countTicks_keepLast, netTime_keepLast, keepLast_keepLast, countTicks_countTicks, countTicks_countTicks]

/-- The time block as a run of ticks leaves it, `x` and `y` the network times of the last tick and of the one before. -/
def ranTmr (t : Tmr) (n x : Nat) (y : BitVec 64) : Tmr := { countedTmr t n x with lastNs := y }

/-- A run of ticks changes the counters alone. -/
theorem ranTmr_kept (t : Tmr) (n x : Nat) (y : BitVec 64) :
    (ranTmr t n x y).tick = t.tick + n ∧ (ranTmr t n x y).slew = t.slew ∧ (ranTmr t n x y).bndNs = t.bndNs := ⟨rfl, rfl, rfl⟩

theorem runTicks_withTmr (c : Chip) (n : Nat) : runTicks c n = withTmr c (ranTmr c.tmr n (nativeAt c.tmr n)
    (if n = 0 then c.tmr.lastNs else netTime (countTicks c (n - 1)))) := by
  rw [runTicks_eq, keepLast, countTicks_eq c n, withTmr_withTmr, withTmr_tmr]
  rfl

theorem runTicks_kept (c : Chip) (n : Nat) :
    (runTicks c n).tmr.tick = c.tmr.tick + n ∧ (runTicks c n).tmr.slew = c.tmr.slew ∧ (runTicks c n).tmr.bndNs = c.tmr.bndNs := by
  rw [runTicks_withTmr, withTmr_tmr]
  exact ranTmr_kept _ _ _ _

theorem fld_runTicks (c : Chip) (n : Nat) (f : Fld) : fld (runTicks c n) f = fld c f := by
  rw [runTicks_withTmr, fld_withTmr]

/-! ### Slew ticks -/

theorem takeMark_skipped {c : Chip} {upto i : Nat} (h : slewIndex i ≤ c.tmr.tick ∨ upto < slewIndex i) : takeMark upto c i = c := by
  refine if_neg ?_
  simp only [Bool.and_eq_true, decide_eq_true_eq]
  omega

theorem takeMark_ahead {c : Chip} {upto i : Nat} (h : c.tmr.tick < slewIndex i) (hu : slewIndex i ≤ upto) :
    takeMark upto c i = slewMark (runTicks c (slewIndex i - c.tmr.tick)) i :=
  if_pos (by simp [h, hu])

/-- One nanosecond is taken, gained or lost with the sign of the slew (R66). -/
theorem slewMark_takes {c : Chip} {i : Nat} (hmode : fldB c TMR_CTL_clk_mode = false) (hi : i < fld c TMR_CTL_slew_rate)
    (hs : c.tmr.slew ≠ 0) :
    let d : Int := if 0 < c.tmr.slew then 1 else -1
    slewMark c i = setB (withTmr c { c.tmr with
      timeNs := c.tmr.timeNs + BitVec.ofInt 64 d, slew := c.tmr.slew - d, slewed := c.tmr.slewed + d })
      TMR_STAT_slewing (decide (c.tmr.slew - d ≠ 0)) := by
  intro d
  have hbne : decide (c.tmr.slew - d ≠ 0) = (c.tmr.slew - d != 0) := by
    by_cases h : c.tmr.slew - d = 0 <;> simp [h]
  rw [hbne]
  unfold slewMark
  rw [if_pos (by simp [hi, hs])]
  simp only [moveTime_native c _ hmode]
  rfl

theorem slewMark_idle {c : Chip} {i : Nat} (h : ¬ (i < fld c TMR_CTL_slew_rate ∧ c.tmr.slew ≠ 0)) : slewMark c i = c := by
  refine if_neg ?_
  simpa using h

/-! ### To a slew tick -/

theorem slewMark_tick {c : Chip} (i : Nat) (hmode : fldB c TMR_CTL_clk_mode = false) : (slewMark c i).tmr.tick = c.tmr.tick := by
  by_cases h : i < fld c TMR_CTL_slew_rate ∧ c.tmr.slew ≠ 0
  · rw [slewMark_takes hmode h.1 h.2, setB_tmr, withTmr_tmr]
  · rw [slewMark_idle h]

theorem fldB_runTicks (c : Chip) (n : Nat) (f : Fld) : fldB (runTicks c n) f = fldB c f := by
  unfold fldB
  rw [fld_runTicks]

theorem nextMark_eq (c : Chip) : nextMark c = [30, 90, 150, 210].find? (fun k => decide (c.tmr.tick < k)) := rfl

section
variable {c : Chip} {i : Nat} (hi : i < 4) (hahead : c.tmr.tick < slewIndex i) (hnear : slewIndex i ≤ c.tmr.tick + 60)
include hi hahead hnear

theorem nextMark_ahead : nextMark c = some (slewIndex i) := by
  unfold slewIndex at *
  rw [nextMark_eq]
  interval_cases i <;> simp <;> omega

/-- Of the slew ticks up to the next one, only that one lies ahead (R66). -/
theorem advanceTo_mark (hmode : fldB c TMR_CTL_clk_mode = false) :
    advanceTo c (slewIndex i) = slewMark (runTicks c (slewIndex i - c.tmr.tick)) i := by
  have hbefore : ∀ j, j < i → takeMark (slewIndex i) c j = c := fun j hj => takeMark_skipped (.inl (by
    unfold slewIndex at *
    omega))
  have hat : takeMark (slewIndex i) c i = slewMark (runTicks c (slewIndex i - c.tmr.tick)) i := takeMark_ahead hahead le_rfl
  have hafter : ∀ d j, i < j → takeMark (slewIndex i) d j = d := fun d j hj => takeMark_skipped (.inr (by
    unfold slewIndex
    omega))
  have hmarks : takeMark (slewIndex i) (takeMark (slewIndex i) (takeMark (slewIndex i) (takeMark (slewIndex i) c 0) 1) 2) 3
      = slewMark (runTicks c (slewIndex i - c.tmr.tick)) i := by
    interval_cases i <;> simp (disch := omega) only [hbefore, hat, hafter]
  obtain ⟨hran, -, -⟩ := runTicks_kept c (slewIndex i - c.tmr.tick)
  have htick : (slewMark (runTicks c (slewIndex i - c.tmr.tick)) i).tmr.tick = slewIndex i := by
    rw [slewMark_tick i ((fldB_runTicks c _ _).trans hmode), hran]
    omega
  unfold advanceTo
  rw [hmarks]
  simp only [htick, Nat.sub_self, Nat.zero_min, runTicks_zero]

end

theorem nextMark_none {c : Chip} (h : 210 ≤ c.tmr.tick) : nextMark c = none := by
  rw [nextMark_eq, List.find?_eq_none]
  have hpast : 30 ≤ c.tmr.tick ∧ 90 ≤ c.tmr.tick ∧ 150 ≤ c.tmr.tick ∧ 210 ≤ c.tmr.tick := by omega
  simpa using hpast

/-! ### To the boundary -/

/-- A boundary is at `b`: the in-period index and what the period has taken of the slew start again, P is one further (R21, R59). -/
def closePeriod (c : Chip) (b : BitVec 64) : Chip :=
  withTmr c { c.tmr with bndNs := b, tick := 0, slewed := 0, period := c.tmr.period + 1 }

theorem advanceBoundary_eq {c m : Chip} (hm : takeMark 210 (takeMark 210 (takeMark 210 (takeMark 210 c 0) 1) 2) 3 = m) :
    advanceBoundary c = closePeriod (runTicks m (ticksTo m (m.tmr.bndNs + 250))) (m.tmr.bndNs + 250) := by
  unfold advanceBoundary
  rw [hm]
  rfl

/-- With no slew outstanding a slew tick is a tick like any other. -/
theorem takeMark_slewless {c : Chip} (hs : c.tmr.slew = 0) {m : Nat} (hm : m ≤ 210 - c.tmr.tick) (i : Nat) :
    ∃ m', m' ≤ 210 - c.tmr.tick ∧ takeMark 210 (runTicks c m) i = runTicks c m' := by
  obtain ⟨htick, hslew, -⟩ := runTicks_kept c m
  by_cases h : (runTicks c m).tmr.tick < slewIndex i ∧ slewIndex i ≤ 210
  · refine ⟨m + (slewIndex i - (runTicks c m).tmr.tick), by omega, ?_⟩
    obtain ⟨-, hslew', -⟩ := runTicks_kept c (m + (slewIndex i - (runTicks c m).tmr.tick))
    rw [takeMark_ahead h.1 h.2, runTicks_runTicks, slewMark_idle (by simp [hslew', hs])]
  · exact ⟨m, hm, takeMark_skipped (by omega)⟩

theorem marks_slewless {c : Chip} (hs : c.tmr.slew = 0) :
    ∃ m, m ≤ 210 - c.tmr.tick ∧ takeMark 210 (takeMark 210 (takeMark 210 (takeMark 210 c 0) 1) 2) 3 = runTicks c m := by
  obtain ⟨m0, h0, e0⟩ := takeMark_slewless hs (Nat.zero_le _) 0
  obtain ⟨m1, h1, e1⟩ := takeMark_slewless hs h0 1
  obtain ⟨m2, h2, e2⟩ := takeMark_slewless hs h1 2
  obtain ⟨m3, h3, e3⟩ := takeMark_slewless hs h2 3
  rw [runTicks_zero] at e0
  exact ⟨m3, h3, by rw [e0, e1, e2, e3]⟩

theorem ceilDiv_le_iff {d : Nat} (hd : 0 < d) (a n : Nat) : ceilDiv a d ≤ n ↔ a ≤ d * n := ceilDiv_le_iff_le_mul hd

/-- Counting on from `m` ticks, the goal is first reached after the quotient rounded up (R59). -/
theorem first_reach {a inc goal m : Nat} (hinc : 0 < inc) (hm : a + m * inc < goal) :
    let n := m + ceilDiv (goal - (a + m * inc)) inc
    m < n ∧ goal ≤ a + n * inc ∧ ∀ j < n, a + j * inc < goal := by
  intro n
  have hle := ceilDiv_le_iff hinc (goal - (a + m * inc))
  have hreach := (hle _).mp le_rfl
  have hpos : 0 < ceilDiv (goal - (a + m * inc)) inc := by
    by_contra h
    have := (hle 0).mp (by omega)
    omega
  refine ⟨by omega, ?_, fun j hj => ?_⟩
  · have : n * inc = m * inc + inc * ceilDiv (goal - (a + m * inc)) inc := by ring
    omega
  · by_contra hge
    rcases Nat.lt_or_ge j m with hjm | hjm
    · have := Nat.mul_le_mul_right inc hjm.le
      omega
    · obtain ⟨q, rfl⟩ := Nat.exists_eq_add_of_le hjm
      have hmul : (m + q) * inc = m * inc + inc * q := by ring
      have := (hle q).mpr (by omega)
      omega

/-- Before the target the native counter reaches it after the distance by the increment, rounded up (R59). -/
theorem ticksTo_native {c : Chip} {target : BitVec 64} (hmode : fldB c TMR_CTL_clk_mode = false)
    (hbefore : c.tmr.timeNs.toNat < target.toNat) (hnear : target.toNat < 2 ^ 63) :
    ticksTo c target
      = ceilDiv (target.toNat * 2 ^ 32 - (c.tmr.timeNs.toNat * 2 ^ 32 + c.tmr.timeFrac.toNat)) c.tmr.inc := by
  have hpast : ¬ 0 ≤ tdiff c.tmr.timeNs target := by
    rw [tdiff_toInt, BitVec.toInt_eq_toNat_cond, BitVec.toNat_sub]
    split <;> omega
  have hdist : (target - c.tmr.timeNs).toNat = target.toNat - c.tmr.timeNs.toNat := by
    rw [BitVec.toNat_sub]
    omega
  unfold ticksTo
  rw [if_neg (by simp [hmode]), if_neg hpast, hdist, Nat.sub_mul, Nat.sub_sub]

/-- The native counter's words while it has not wrapped. -/
theorem native_of_runTicks (c : Chip) {m : Nat} (h : nativeAt c.tmr m < 2 ^ 96) :
    (runTicks c m).tmr.timeNs.toNat * 2 ^ 32 + (runTicks c m).tmr.timeFrac.toNat = nativeAt c.tmr m
      ∧ (runTicks c m).tmr.inc = c.tmr.inc := by
  have hns : ∀ x y, (ranTmr c.tmr m x y).timeNs.toNat = x / 2 ^ 32 % 2 ^ 64 := fun x _ => BitVec.toNat_ofNat (x / 2 ^ 32) 64
  have hfrac : ∀ x y, (ranTmr c.tmr m x y).timeFrac.toNat = x % 2 ^ 32 := fun x _ => BitVec.toNat_ofNat x 32
  have hinc : ∀ x y, (ranTmr c.tmr m x y).inc = c.tmr.inc := fun _ _ => rfl
  rw [runTicks_withTmr, withTmr_tmr, hns, hfrac, hinc]
  omega

/-- With no slew outstanding time runs to the first tick at or past the next multiple of 250 (R59). -/
theorem advanceBoundary_native {c : Chip} (hmode : fldB c TMR_CTL_clk_mode = false) (hs : c.tmr.slew = 0) (hinc : 0 < c.tmr.inc)
    (hbefore : nativeAt c.tmr (210 - c.tmr.tick) < (c.tmr.bndNs.toNat + 250) * 2 ^ 32) (hnear : c.tmr.bndNs.toNat + 250 < 2 ^ 63) :
    ∃ n, 0 < n ∧ (c.tmr.bndNs.toNat + 250) * 2 ^ 32 ≤ nativeAt c.tmr n
      ∧ (∀ j < n, nativeAt c.tmr j < (c.tmr.bndNs.toNat + 250) * 2 ^ 32)
      ∧ advanceBoundary c = closePeriod (runTicks c n) (BitVec.ofNat 64 (c.tmr.bndNs.toNat + 250)) := by
  obtain ⟨m, hm, hmarks⟩ := marks_slewless hs
  obtain ⟨-, -, hbnd⟩ := runTicks_kept c m
  have hle : nativeAt c.tmr m ≤ nativeAt c.tmr (210 - c.tmr.tick) := Nat.add_le_add_left (Nat.mul_le_mul_right _ hm) _
  obtain ⟨hnow, hinc'⟩ := native_of_runTicks c (m := m) (by omega)
  have htarget : (c.tmr.bndNs + 250).toNat = c.tmr.bndNs.toNat + 250 := by
    have h250 : (250 : BitVec 64).toNat = 250 := rfl
    rw [BitVec.toNat_add_of_lt (by omega), h250]
  have hgoal : BitVec.ofNat 64 (c.tmr.bndNs.toNat + 250) = c.tmr.bndNs + 250 := by
    rw [← htarget, BitVec.ofNat_toNat, BitVec.setWidth_eq]
  have hticks : ticksTo (runTicks c m) (c.tmr.bndNs + 250)
      = ceilDiv ((c.tmr.bndNs.toNat + 250) * 2 ^ 32 - nativeAt c.tmr m) c.tmr.inc := by
    rw [ticksTo_native ((fldB_runTicks c m _).trans hmode) (by omega) (by omega), hnow, hinc', htarget]
  obtain ⟨hlt, hreach, hfirst⟩ := first_reach hinc (hle.trans_lt hbefore)
  refine ⟨_, Nat.zero_lt_of_lt hlt, hreach, hfirst, ?_⟩
  rw [advanceBoundary_eq hmarks, hbnd, hticks, runTicks_runTicks, hgoal]
  rfl

/-- What the closed period leaves, field by field. -/
theorem closePeriod_ranTmr (c : Chip) (n x : Nat) (y b : BitVec 64) :
    closePeriod (withTmr c (ranTmr c.tmr n x y)) b = { c with tmr := { c.tmr with
      timeNs := BitVec.ofNat 64 (x / 2 ^ 32), timeFrac := BitVec.ofNat 32 x, cxFree := c.tmr.cxFree + BitVec.ofNat 64 n,
      lastNs := y, slewed := 0, ticks := c.tmr.ticks + n, bndNs := b, tick := 0, period := c.tmr.period + 1 } } := rfl

theorem netTime_native {c : Chip} (hmode : fldB c TMR_CTL_clk_mode = false) : netTime c = c.tmr.timeNs := by
  simp [netTime, hmode]

theorem fldB_countTicks (c : Chip) (n : Nat) (f : Fld) : fldB (countTicks c n) f = fldB c f := by
  unfold fldB
  rw [countTicks_eq, fld_withTmr]

theorem countTicks_timeNs (c : Chip) (n : Nat) : (countTicks c n).tmr.timeNs = BitVec.ofNat 64 (nativeAt c.tmr n / 2 ^ 32) := by
  rw [countTicks_eq, withTmr_tmr, countedTmr]

/-- On a device in no pair that follows no grid a boundary is its own (R59). -/
theorem toBoundary_single {c : Chip} (hp : c.twn.paired = false) (hf : followsGrid c = false) :
    toBoundary (twinBefore c) = advanceBoundary c := by
  simp [twinBefore, toBoundary, hp, hf]

theorem exec_periodBoundary_live {s : State} (hs : s.held = none) (temp : BitVec 16) :
    exec (.periodBoundary temp) s = .next { s with chip := periodBoundary s.chip temp } := by
  rw [exec_periodBoundary, execPeriodBoundary, run_live s _ hs]

theorem exec_slewCorrection_ahead {s : State} (hs : s.held = none) {k : Nat} (h : nextMark s.chip = some k) :
    exec .slewCorrection s = .next { s with chip := advanceTo s.chip k } := by
  rw [exec_slewCorrection, execSlewCorrection, run_live s _ hs, h]

theorem exec_slewCorrection_past {s : State} (hs : s.held = none) (h : nextMark s.chip = none) :
    exec .slewCorrection s = .next s := by
  rw [exec_slewCorrection, execSlewCorrection, run_live s _ hs, h]

/-- Settles O44: runs of ticks join, so the way to the boundary is one run, and of the slew ticks only the next lies ahead. -/
theorem periodsBeginOnNetworkTimeAndSlew : Obligations.PeriodsBeginOnNetworkTimeAndSlew := by
  unfold Obligations.PeriodsBeginOnNetworkTimeAndSlew
  refine ⟨?boundary, ?past, ?slew⟩
  case boundary =>
    intro s temp hs hp hf hmode hslew hinc t at_ goal _ hbefore hnear
    obtain ⟨n, hpos, hreach, hfirst, hb⟩ := advanceBoundary_native hmode hslew hinc hbefore hnear
    refine ⟨n, hreach, hfirst, ?_⟩
    have hlast : netTime (countTicks s.chip (n - 1)) = BitVec.ofNat 64 (nativeAt s.chip.tmr (n - 1) / 2 ^ 32) := by
      rw [netTime_native ((fldB_countTicks s.chip _ _).trans hmode), countTicks_timeNs]
    rw [runTicks_withTmr, if_neg (by omega), hlast, closePeriod_ranTmr] at hb
    rw [exec_periodBoundary_live hs, periodBoundary, boundaryLinks, toBoundary_single hp hf, hb]
    rfl
  case past =>
    intro s hs h
    exact exec_slewCorrection_past hs (nextMark_none h)
  case slew =>
    intro s i hs hmode hahead hnear
    have hexec := exec_slewCorrection_ahead hs (nextMark_ahead i.isLt hahead hnear)
    rw [advanceTo_mark i.isLt hahead hnear hmode] at hexec
    obtain ⟨-, hslew, -⟩ := runTicks_kept s.chip (slewIndex i - s.chip.tmr.tick)
    have hrmode := (fldB_runTicks s.chip (slewIndex i - s.chip.tmr.tick) TMR_CTL_clk_mode).trans hmode
    have hrate := fld_runTicks s.chip (slewIndex i - s.chip.tmr.tick) TMR_CTL_slew_rate
    unfold slewIndex at hexec hslew hrmode hrate
    generalize runTicks s.chip (30 + 60 * i.val - s.chip.tmr.tick) = r at hexec hslew hrmode hrate ⊢
    rw [← hslew, ← hrate]
    intro _ takes d moved
    refine ⟨fun h => ?_, fun h => ?_⟩
    · rw [hexec, slewMark_takes hrmode h.1 h.2]
      rfl
    · rw [hexec, slewMark_idle h]

end Sys2Proof.Machine
end

section
/-! The frame of the analog commands (R577, R595) fails where the state holds a conversion of a channel that the converter does not
have: no rule of the state keeps the channel below 64, and AUX_LAST of the channel then lies outside the block. -/

open Sys2Proof

namespace Sys2Proof.Machine

/-- A device that converts channel 2^22, whose AUX_LAST lies 2^24 bytes beyond that of channel 0. -/
def convertsNoChannel : State :=
  { State.reset with chip := { Chip.reset with aux := { Aux.reset with conv := some (.urgent, 2 ^ 22) } } }

theorem exec_adcConversionDone_live {s : State} (hs : s.held = none) (code : BitVec 16) (ovr : Bool) :
    exec (.adcConversionDone code ovr) s = .next { s with chip := conversionDone s.chip code ovr } := by
  rw [exec_adcConversionDone, execAdcConversionDone, run_live s _ hs]

/-- The register at the address such a conversion's result goes to is outside the blocks of an analog command. -/
theorem lastOfNoChannel_outside : AUX_LAST (2 ^ 22) / 0x100000 ∉ [1, 16, 20, 21] ∧ AUX_LAST (2 ^ 22) ∉ [CNS_TRACE] := by decide

/-- The result of code 1 stands there after the conversion, where 0 stood before. -/
theorem conversionDone_noChannel :
    rd convertsNoChannel.chip (AUX_LAST (2 ^ 22)) = 0
      ∧ rd (conversionDone convertsNoChannel.chip 1 false) (AUX_LAST (2 ^ 22)) = 0x20000001 := by
  decide +kernel

/-- Refutes O54: "every state" includes one that converts channel 2^22; ADC_CONVERSION_DONE there writes the result at 0x2400100, outside
the analog block. -/
theorem not_familiesKeepOtherRegistersAndMemory : ¬ Obligations.FamiliesKeepOtherRegistersAndMemory := by
  unfold Obligations.FamiliesKeepOtherRegistersAndMemory
  rintro ⟨-, -, -, hanalog⟩
  obtain ⟨hregs, -⟩ := hanalog (.adcConversionDone 1 false) convertsNoChannel _ rfl (exec_adcConversionDone_live rfl 1 false)
  obtain ⟨hblock, hextra⟩ := lastOfNoChannel_outside
  obtain ⟨hbefore, hafter⟩ := conversionDone_noChannel
  have hkept := hregs _ hblock hextra
  rw [hbefore, hafter] at hkept
  exact absurd hkept (by decide)

end Sys2Proof.Machine
end

section
/-! The neighbour ring (R107, R108): each gallery takes the codes its cells name into its own part of the ring. -/

open Sys2Proof

namespace Sys2Proof.Machine

/-- Gallery `g` takes the codes of the listed cells into its part of the ring but for the bad ones (R107, R108). -/
def takeCodes (g : Nat) (isBad : Nat → Bool) (code : Nat → Nat) (l : List Nat) (m : List (Nat × Nat)) : List (Nat × Nat) :=
  l.foldl (fun m i => if isBad i then m else mapWrite (fun _ => 0) m (g * 8192 + i) (code i)) m

/-- The parts of two galleries do not meet, since a cell's index is below 8,192. -/
theorem mapRead_takeCodes {g h j : Nat} {isBad : Nat → Bool} {code : Nat → Nat} {l : List Nat} {m : List (Nat × Nat)}
    (hl : ∀ i ∈ l, i < 8192) (hj : j < 8192) :
    mapRead (fun _ => 0) (takeCodes g isBad code l m) (h * 8192 + j) =
      if h = g ∧ j ∈ l ∧ isBad j = false then code j else mapRead (fun _ => 0) m (h * 8192 + j) := by
  unfold takeCodes
  induction l generalizing m with
  | nil => simp
  | cons i t ih =>
    have hi : i < 8192 := hl i List.mem_cons_self
    rw [List.foldl_cons, ih (fun k hk => hl k (List.mem_cons_of_mem _ hk))]
    by_cases hb : isBad i = true
    · have hmem : j ∈ i :: t ∧ isBad j = false ↔ j ∈ t ∧ isBad j = false := by
        refine and_congr_left fun h => ?_
        rw [List.mem_cons, or_iff_right]
        rintro rfl
        simp [hb] at h
      simp only [hb, if_true, hmem]
    · rw [if_neg hb, mapRead_mapWrite]
      by_cases hk : h = g ∧ j = i
      · obtain ⟨rfl, rfl⟩ := hk
        simp [hb]
      · have hkey : g * 8192 + i ≠ h * 8192 + j := by omega
        have hmem : h = g ∧ j ∈ i :: t ∧ isBad j = false ↔ h = g ∧ j ∈ t ∧ isBad j = false :=
          and_congr_right fun h => by rw [List.mem_cons, or_iff_right (not_and.mp hk h)]
        simp only [hkey, if_false, hmem]

/-- The code of cell `i` does not reach gallery `g` (R108). -/
def ringBad (bad : List (Fin 36 × BitVec 13)) (g i : Nat) : Bool := bad.any (fun e => e.1.val == g && e.2.toNat == i)

/-- What the codes of a period are taken from stands. -/
structure RingKept (c d : Chip) : Prop where
  cells : d.lpe.cells = c.lpe.cells
  computedP : d.lpe.computedP = c.lpe.computedP
  tmr : d.tmr = c.tmr
  twn : d.twn = c.twn
  topo : d.topo = c.topo

section
variable {c d : Chip} (h : RingKept c d)
include h

theorem RingKept.trans {e : Chip} (h' : RingKept d e) : RingKept c e :=
  ⟨h'.cells.trans h.cells, h'.computedP.trans h.computedP, h'.tmr.trans h.tmr, h'.twn.trans h.twn, h'.topo.trans h.topo⟩

theorem RingKept.neededBy (g : Nat) : neededBy d g = neededBy c g := by
  simp only [Machine.neededBy, galleryCells, mappedCells, h.topo]

theorem RingKept.codeInForce (i : Nat) : codeInForce d i = codeInForce c i := by
  simp only [Machine.codeInForce, inRepair, getCell, period, h.cells, h.computedP, h.tmr, h.twn] <;> rfl

end

variable (c : Chip) (bad : List (Fin 36 × BitVec 13))

theorem ringKept_ringGallery (g : Nat) : RingKept c (ringGallery c bad g) := by
  unfold ringGallery
  dsimp only
  split_ifs <;> exact ⟨rfl, rfl, rfl, rfl, rfl⟩

theorem ringGallery_ringNew (g : Nat) :
    (ringGallery c bad g).lpe.ringNew = takeCodes g (ringBad bad g) (codeInForce c) (neededBy c g) c.lpe.ringNew := by
  unfold ringGallery
  dsimp only
  split_ifs <;> rfl

theorem ringKept_ringGalleries (l : List Nat) : RingKept c (l.foldl (ringGallery · bad) c) := by
  induction l generalizing c with
  | nil => exact ⟨rfl, rfl, rfl, rfl, rfl⟩
  | cons g t ih => exact (ringKept_ringGallery c bad g).trans (ih _)

theorem lt_of_mem_neededBy {c : Chip} (hc : ∀ e ∈ mappedCells c, ∀ i ∈ e.2.nbs, i < 8192) {g i : Nat} (hi : i ∈ neededBy c g) :
    i < 8192 := by
  simp only [neededBy, List.mem_dedup, List.mem_flatMap, galleryCells, List.mem_filter] at hi
  obtain ⟨e, ⟨he, -⟩, hn⟩ := hi
  exact hc e he i hn

/-- The ring after a list of galleries has taken its codes. -/
theorem ringNew_ringGalleries (l : List Nat) {c : Chip} (hc : ∀ g i, i ∈ neededBy c g → i < 8192) {g i : Nat} (hi : i < 8192) :
    mapRead (fun _ => 0) (l.foldl (ringGallery · bad) c).lpe.ringNew (g * 8192 + i) =
      if g ∈ l ∧ i ∈ neededBy c g ∧ ringBad bad g i = false then codeInForce c i
      else mapRead (fun _ => 0) c.lpe.ringNew (g * 8192 + i) := by
  induction l generalizing c with
  | nil => simp
  | cons k t ih =>
    have hk := ringKept_ringGallery c bad k
    rw [List.foldl_cons, ih (fun g i h => hc g i (hk.neededBy g ▸ h)), hk.neededBy, hk.codeInForce, ringGallery_ringNew,
      mapRead_takeCodes (hc k) hi]
    by_cases hg : g = k
    · subst hg
      simp only [List.mem_cons_self, true_and]
      split_ifs with h1 h2 h2
      · rfl
      · exact absurd h1.2 h2
      · rfl
      · rfl
    · simp [hg]

theorem exec_neighbourRing_live {s : State} (hs : s.held = none) (bad : List (Fin 36 × BitVec 13)) :
    exec (.neighbourRing bad) s = .next { s with chip := neighbourRing s.chip bad } := by
  rw [exec_neighbourRing, execNeighbourRing, run_live s _ hs]

end Sys2Proof.Machine
end

section
/-! Settle reports of no changed cell, the law window, and the parameter banks on a single device (R112, R120, R129, R384). -/

open Sys2Proof

namespace Sys2Proof.Machine

/-- A gallery with no changed cell reports 0 of everything and closes its step (R129). -/
theorem settleReport_unchanged {c : Chip} {g : Nat} {b : W} (ho : mapGet c.lpe.open_ g = some b)
    (hc : changedCells c g b = []) (hp : pReached c.tmr.period (b + 9) = true) :
    let d := wr c (LPE_SETTLE_step_tag g).addr (toW (b.toNat % 2 ^ 16 * 2 ^ 16))
    settleReport c g = { d with lpe := { d.lpe with open_ := mapDel d.lpe.open_ g } } := by
  unfold settleReport
  simp only [ho, hc, period, hp, Bool.or_true, if_true, List.map_nil, List.filter_nil, List.length_nil, List.foldl_nil,
    Nat.lt_irrefl, if_false, Nat.min_zero, Nat.zero_mul, Nat.add_zero]

theorem lawWindowWrite_unlocked {c : Chip} {off : Nat} (v : W) (hr : reachable c (0xA40000 + off) = true) (hl : locked c = false) :
    lawWindowWrite c off v =
      { c with lpe := { c.lpe with law := mapWrite (fun _ => 0) c.lpe.law (off / 4) (lawStored (off / 4) v) } } := by
  rw [lawWindowWrite, hostWrite_reach c _ _ hr, hl]
  rfl

theorem lawWindowWrite_locked {c : Chip} {off : Nat} (v : W) (hr : reachable c (0xA40000 + off) = true) (hl : locked c = true) :
    lawWindowWrite c off v = c := by
  rw [lawWindowWrite, hostWrite_reach c _ _ hr, hl]
  rfl

theorem lawStored_reserved {i : Nat} (v : W) (h : lawMask i = 0) : lawStored i v = 0 := by
  rw [lawStored, h]
  exact BitVec.and_zero

theorem lawStored_toNat (i : Nat) (v : W) (n : Nat) (hn : n ≤ 32) (h : lawMask i = 2 ^ n - 1) :
    (lawStored i v).toNat = v.toNat % 2 ^ n := by
  have hlt : 2 ^ n - 1 < 2 ^ 32 := by
    have := Nat.pow_le_pow_right (n := 2) (by omega) hn
    omega
  rw [lawStored, h, BitVec.toNat_and, toW, BitVec.toNat_ofNat, Nat.mod_eq_of_lt hlt, Nat.and_two_pow_sub_one_eq_mod]

/-- Past the tables nothing is kept (R117). -/
theorem lawMask_pastTables {i : Nat} (h : 0x8400 ≤ i) : lawMask i = 0 := by
  simp [lawMask, show 0x8000 ≤ i by omega, show ¬ i < 0x8400 by omega]

/-- Past its header a class keeps nothing (R116). -/
theorem lawMask_pastHeader {i : Nat} (h : i < 0x8000) (ho : 291 ≤ i % 512) : lawMask i = 0 := by
  unfold lawMask
  dsimp only
  split_ifs <;> omega

/-- Past its exponents a slot keeps nothing (R115). -/
theorem lawMask_pastSlot {i : Nat} (h : i < 0x8000) (ho : i % 512 < 256) (hs : 60 ≤ i % 64) : lawMask i = 0 := by
  unfold lawMask
  dsimp only
  split_ifs <;> omega

/-- A coefficient has 18 bits (R114). -/
theorem lawMask_coefficient {i : Nat} (h : i < 0x8000) (ho : i % 512 < 256) (hs : i % 64 < 59) : lawMask i = 2 ^ 18 - 1 := by
  unfold lawMask
  dsimp only
  split_ifs <;> omega

/-! ### The parameter banks -/

theorem queueRecord_regs (c : Chip) (g n : Nat) : (queueRecord c g n).regs = c.regs := by
  unfold queueRecord
  split <;> rfl

theorem queueRecord_lpe (c : Chip) (g n : Nat) : (queueRecord c g n).lpe = c.lpe := by
  unfold queueRecord
  split <;> rfl

theorem autoChar_regs (c : Chip) (l : List Nat) : (autoChar c l).regs = c.regs := by
  unfold autoChar
  split
  · rfl
  · split <;> rfl

theorem autoChar_lpe (c : Chip) (l : List Nat) : (autoChar c l).lpe = c.lpe := by
  unfold autoChar
  split
  · rfl
  · split <;> rfl

theorem fldB_congr {c d : Chip} (h : d.regs = c.regs) (f : Fld) : fldB d f = fldB c f := by
  simp only [fldB, fld, rd, h]

/-! Replacing a block of any device leaves its other blocks: a proof that cites these compares no two whole devices. -/

theorem withCns_lpe (c : Chip) (x : Cns) : ({ c with cns := x } : Chip).lpe = c.lpe := rfl

theorem withCns_regs (c : Chip) (x : Cns) : ({ c with cns := x } : Chip).regs = c.regs := rfl

theorem withLpe_lpe (c : Chip) (x : Lpe) : ({ c with lpe := x } : Chip).lpe = x := rfl

theorem withLpe_regs (c : Chip) (x : Lpe) : ({ c with lpe := x } : Chip).regs = c.regs := rfl

/-- The galleries' block after the commit of gallery `g` in period `p`: the bank that was not active is, and the gallery's part of it is
copied into the other (R120, R384). -/
def banksCommitted (l : Lpe) (wasB : Bool) (g : Nat) (p : W) : Lpe :=
  { l with
    bankA := if !wasB then bankWith l.bankA l.bankB g else l.bankA
    bankB := if !wasB then l.bankB else bankWith l.bankB l.bankA g
    committed := mapPut l.committed g p
    commits := mapDel l.commits g }

theorem fldB_setFld_other (c : Chip) {f g : Fld} (v : Nat) (ha : f.addr = g.addr) (hw : f.lo + f.width ≤ 32)
    (hd : f.lo + f.width ≤ g.lo ∨ g.lo + g.width ≤ f.lo) : fldB (setFld c f v) g = fldB c g := by
  unfold fldB
  rw [fld_setFld_other c v ha hw hd]

/-- A commit switches the banks; what follows it concerns the Conservator alone. -/
theorem commitBank_eq (c : Chip) (g : Nat) : ∃ (d : Chip) (n : Nat) (x : Cns) (l : List Nat),
    commitBank c g = autoChar { queueRecord d g n with cns := x } l
    ∧ d.lpe = banksCommitted c.lpe (bankBActive c g) g c.tmr.period
    ∧ fldB d (LPE_LAW_STAT_active_bank g) = !fldB c (LPE_LAW_STAT_active_bank g) := by
  refine ⟨_, _, _, _, rfl, ?_, ?_⟩
  · rw [setFld_lpe, withLpe_lpe, setB_lpe, period_setB]
    rfl
  · rw [fldB_setFld_other (f := LPE_LAW_STAT_param_gen g) (g := LPE_LAW_STAT_active_bank g) _ _ rfl (Nat.le_refl 32)
      (.inr (Nat.le_refl 24)), fldB_congr (withLpe_regs _ _),
      fldB_setB_same c (LPE_LAW_STAT_active_bank g) _ (Nat.le_of_ble_eq_true rfl) rfl]
    rfl

theorem commitBank_lpe (c : Chip) (g : Nat) :
    (commitBank c g).lpe = banksCommitted c.lpe (bankBActive c g) g c.tmr.period := by
  obtain ⟨d, n, x, l, h, hl, -⟩ := commitBank_eq c g
  rw [h, autoChar_lpe, withCns_lpe, queueRecord_lpe, hl]

theorem commitBank_activeBank (c : Chip) (g : Nat) :
    fldB (commitBank c g) (LPE_LAW_STAT_active_bank g) = !fldB c (LPE_LAW_STAT_active_bank g) := by
  obtain ⟨d, n, x, l, h, -, hf⟩ := commitBank_eq c g
  rw [h, fldB_congr (autoChar_regs _ _), fldB_congr (withCns_regs _ _), fldB_congr (queueRecord_regs _ _ _), hf]
end Sys2Proof.Machine
end

section
/-! What the computation of a period leaves (R106, R110): the blocks it does not write, and the cells that are neither mapped nor
swept. -/

open Sys2Proof

namespace Sys2Proof.Machine

/-- Network time, the Docent, LPDDR6, the topology and the galleries' block stand. -/
structure LpeKept (c d : Chip) : Prop where
  tmr : d.tmr = c.tmr
  doc : d.doc = c.doc
  ddr : d.ddr = c.ddr
  topo : d.topo = c.topo
  lpe : d.lpe = c.lpe

/-- Network time, the Docent, LPDDR6, the topology and every cell outside `w` stand. -/
structure CellsKept (w : Nat → Prop) (c d : Chip) : Prop where
  tmr : d.tmr = c.tmr
  doc : d.doc = c.doc
  ddr : d.ddr = c.ddr
  topo : d.topo = c.topo
  cells : ∀ i, ¬ w i → getCell d i = getCell c i

theorem lpeKept_refl (c : Chip) : LpeKept c c := ⟨rfl, rfl, rfl, rfl, rfl⟩

theorem LpeKept.trans {c d e : Chip} (h : LpeKept c d) (h' : LpeKept d e) : LpeKept c e :=
  ⟨h'.tmr.trans h.tmr, h'.doc.trans h.doc, h'.ddr.trans h.ddr, h'.topo.trans h.topo, h'.lpe.trans h.lpe⟩

theorem lpeKept_foldl {α : Type} {f : Chip → α → Chip} (hf : ∀ c x, LpeKept c (f c x)) (l : List α) (c : Chip) :
    LpeKept c (l.foldl f c) := by
  induction l generalizing c with
  | nil => exact lpeKept_refl c
  | cons x t ih => exact (hf c x).trans (ih _)

/-! ### Registers and events -/

section
variable (c : Chip)

theorem lpeKept_wr (a : Nat) (v : W) : LpeKept c (wr c a v) := ⟨rfl, rfl, rfl, rfl, rfl⟩

theorem lpeKept_setFld (f : Fld) (v : Nat) : LpeKept c (setFld c f v) := lpeKept_wr c _ _

theorem lpeKept_setB (f : Fld) (b : Bool) : LpeKept c (setB c f b) := lpeKept_wr c _ _

theorem lpeKept_countUp (a n : Nat) : LpeKept c (countUp c a n) := lpeKept_wr c _ _

theorem lpeKept_raise (k : Nat) (v : W) : LpeKept c (raise c k v) := ⟨rfl, rfl, rfl, rfl, rfl⟩

theorem lpeKept_raiseLimited (k : Nat) (v : W) : LpeKept c (raiseLimited c k v) := by
  unfold raiseLimited
  split <;> exact ⟨rfl, rfl, rfl, rfl, rfl⟩

/-- A status bit is set and its occurrence raised. -/
theorem lpeKept_raise_setB (f : Fld) (k : Nat) (v : W) : LpeKept c (raise (setB c f true) k v) :=
  (lpeKept_setB c f true).trans (lpeKept_raise _ k v)

theorem lpeKept_raiseLimited_setB (f : Fld) (k : Nat) (v : W) : LpeKept c (raiseLimited (setB c f true) k v) :=
  (lpeKept_setB c f true).trans (lpeKept_raiseLimited _ k v)

theorem lpeKept_galleryEvent (g k : Nat) : LpeKept c (galleryEvent c g k) := by
  unfold galleryEvent
  split_ifs
  · exact lpeKept_raiseLimited_setB c _ _ _
  · exact lpeKept_raise c _ _
  · exact lpeKept_raise_setB c _ _ _
  · exact lpeKept_raiseLimited_setB c _ _ _
  · exact lpeKept_raise_setB c _ _ _
  · exact lpeKept_raise_setB c _ _ _
  · exact lpeKept_refl c

theorem lpeKept_galleryEvents (g : Nat) (l : List Nat) : LpeKept c (galleryEvents c g l) :=
  lpeKept_foldl (fun c k => lpeKept_galleryEvent c g k) l c

theorem lpeKept_lawSat (g n : Nat) : LpeKept c (lawSat c g n) := by
  unfold lawSat
  split
  · exact lpeKept_refl c
  · exact (lpeKept_countUp c _ _).trans (lpeKept_raiseLimited_setB _ _ _ _)

theorem lpeKept_targetRange (i : Nat) : LpeKept c (targetRange c i) := (lpeKept_wr c _ _).trans (lpeKept_raise_setB _ _ _ _)

theorem lpeKept_modeRegisters (i : Nat) (x y : Cell) (coasts : Bool) : LpeKept c (modeRegisters c i x y coasts) := by
  have hhold (p : Bool) (v : W) (a : Nat) (f : Fld) : LpeKept c (if p then setB (wr c a v) f true else c) := by
    split
    · exact (lpeKept_wr c a v).trans (lpeKept_setB _ _ _)
    · exact lpeKept_refl c
  unfold modeRegisters
  dsimp only
  split
  · exact (hhold _ _ _ _).trans (lpeKept_countUp _ _ _)
  · exact hhold _ _ _ _

theorem lpeKept_showStuck (i was now : Nat) : LpeKept c (showStuck c i was now) := (lpeKept_wr c _ _).trans (lpeKept_setFld _ _ _)

theorem lpeKept_modeReport (g : Nat) : LpeKept c (modeReport c g) := by
  unfold modeReport
  exact ((lpeKept_wr c _ _).trans (lpeKept_wr _ _ _)).trans
    ((lpeKept_foldl (fun c _ => lpeKept_wr c _ _) _ _).trans (lpeKept_foldl (fun c _ => lpeKept_wr c _ _) _ _))

theorem lpeKept_keepHistory : LpeKept c (keepHistory c) := by
  unfold keepHistory
  split
  · exact ⟨rfl, rfl, rfl, rfl, rfl⟩
  · exact lpeKept_refl c

/-! ### The request list -/

theorem lpeKept_cns (x : Cns) : LpeKept c { c with cns := x } := ⟨rfl, rfl, rfl, rfl, rfl⟩

theorem lpeKept_showReqs : LpeKept c (showReqs c) := by
  unfold showReqs
  refine (lpeKept_foldl (fun c i => ?_) _ c).trans ((lpeKept_setFld _ _ _).trans (lpeKept_setFld _ _ _))
  split <;> exact (lpeKept_wr c _ _).trans (lpeKept_wr _ _ _)

theorem lpeKept_putReq (i : Nat) (r : Option CharReq) : LpeKept c (putReq c i r) :=
  (lpeKept_cns c _).trans (lpeKept_showReqs _)

theorem lpeKept_endReq (i : Nat) (r : CharReq) (status reason : Nat) : LpeKept c (endReq c i r status reason) := by
  have h := (lpeKept_putReq c i (some { r with status := status, reason := reason, ended := some (period c) })).trans
    (lpeKept_setB _ CNS_STAT_char_done true)
  unfold endReq
  dsimp only
  split
  · exact h.trans (lpeKept_raise _ _ _)
  · exact h

theorem lpeKept_charSample (i : Nat) (r : CharReq) : LpeKept c (charSample c i r) := by
  unfold charSample
  dsimp only
  split
  · split
    · exact lpeKept_cns c _
    · exact lpeKept_refl c
  · exact lpeKept_refl c

/-- A sweep ends or takes a sample of its cell (R392). -/
theorem lpeKept_charFollow (i : Nat) : LpeKept c (charFollow c i) := by
  unfold charFollow
  split
  · exact lpeKept_refl c
  · split
    · exact lpeKept_refl c
    · split
      · exact lpeKept_endReq c _ _ _ _
      · split
        · exact lpeKept_endReq c _ _ _ _
        · exact lpeKept_charSample c _ _

end

end Sys2Proof.Machine
end

section
/-! The cells that a computation writes (R106, R129, R392). -/

open Sys2Proof

namespace Sys2Proof.Machine

section
variable {w : Nat → Prop} {c d : Chip}

theorem LpeKept.cellsKept (h : LpeKept c d) : CellsKept w c d :=
  ⟨h.tmr, h.doc, h.ddr, h.topo, fun i _ => by rw [getCell, getCell, h.lpe]⟩

theorem cellsKept_refl (c : Chip) : CellsKept w c c := (lpeKept_refl c).cellsKept

theorem CellsKept.trans {e : Chip} (h : CellsKept w c d) (h' : CellsKept w d e) : CellsKept w c e :=
  ⟨h'.tmr.trans h.tmr, h'.doc.trans h.doc, h'.ddr.trans h.ddr, h'.topo.trans h.topo,
    fun i hi => (h'.cells i hi).trans (h.cells i hi)⟩

theorem cellsKept_lpe {x : Lpe} (h : x.cells = c.lpe.cells) : CellsKept w c { c with lpe := x } :=
  ⟨rfl, rfl, rfl, rfl, fun i _ => by simp only [getCell, h]⟩

theorem cellsKept_putCell {i : Nat} (hi : w i) (x : Cell) : CellsKept w c (putCell c i x) :=
  ⟨rfl, rfl, rfl, rfl, fun j hj => by
    have hij : i ≠ j := fun h => hj (h ▸ hi)
    simp only [getCell, putCell, mapRead_mapWrite, hij, if_false]⟩

theorem cellsKept_modCell {i : Nat} (hi : w i) (f : Cell → Cell) : CellsKept w c (modCell c i f) := cellsKept_putCell hi _

/-- Steps that each keep to the cells of `w`, on a device with the topology of the first, keep to them together. -/
theorem cellsKept_foldl {α : Type} {f : Chip → α → Chip} {l : List α}
    (hf : ∀ d, d.topo = c.topo → ∀ x ∈ l, CellsKept w d (f d x)) : CellsKept w c (l.foldl f c) := by
  induction l generalizing c with
  | nil => exact cellsKept_refl c
  | cons x t ih =>
    have hx := hf c rfl x List.mem_cons_self
    exact hx.trans (ih fun d hd y hy => hf d (hd.trans hx.topo) y (List.mem_cons_of_mem _ hy))

theorem cellsKept_ite {p : Prop} [Decidable p] {e : Chip} (h : CellsKept w c d) (h' : CellsKept w c e) :
    CellsKept w c (if p then d else e) := by
  split
  · exact h
  · exact h'

/-! ### One cell -/

theorem cellsKept_markCell {i : Nat} (hi : w i) (mark : Nat) : CellsKept w c (markCell c i mark) :=
  (cellsKept_modCell hi _).trans ((lpeKept_showStuck _ _ _ _).trans
    ((lpeKept_setB _ _ _).trans (lpeKept_raise_setB _ _ _ _))).cellsKept

theorem cellsKept_scoreFail {i : Nat} (hi : w i) (state : Nat) : CellsKept w c (scoreFail c i state) := by
  unfold scoreFail
  dsimp only
  split
  · exact (cellsKept_modCell hi _).trans (cellsKept_markCell hi _)
  · exact cellsKept_modCell hi _

theorem cellsKept_scoreCell {e : Nat × StepScore} (he : w e.1) : CellsKept w c (scoreCell c e) := by
  unfold scoreCell
  extract_lets i s state late told finished tell
  have hlate : CellsKept w c told := cellsKept_ite (cellsKept_modCell he _) (cellsKept_refl c)
  refine cellsKept_ite ?_ (hlate.trans (cellsKept_modCell he _))
  have hfinished : CellsKept w c finished := hlate.trans (cellsKept_modCell he _)
  exact cellsKept_ite (hfinished.trans (cellsKept_scoreFail he _)) hfinished

/-- The computation of a cell writes that cell; its events and reports are in registers (R106, R135). -/
theorem cellsKept_galleryCell {i : Nat} (hi : w i) (mc : MapCell) : CellsKept w c (galleryCell c i mc) := by
  unfold galleryCell
  extract_lets g n x0 k
  split
  split
  extract_lets x2 started retrimmed x3 fresh x3 again
  have hretrimmed : CellsKept w c retrimmed := cellsKept_ite (lpeKept_setFld c _ _).cellsKept (cellsKept_refl c)
  split
  extract_lets pass nu scored
  split
  extract_lets steady x6 put entered told counted ranged l ended
  have hput : CellsKept w c put := hretrimmed.trans (cellsKept_putCell hi _)
  have hcounted : LpeKept put counted :=
    (lpeKept_modeRegisters put i x0 x6 _).trans ((lpeKept_galleryEvents entered g _).trans (lpeKept_lawSat told g _))
  have hranged : CellsKept w counted ranged := cellsKept_ite (lpeKept_targetRange counted i).cellsKept (cellsKept_refl counted)
  have hended : CellsKept w ranged ended := cellsKept_ite (cellsKept_refl ranged) (cellsKept_lpe rfl)
  have hall := hput.trans (hcounted.cellsKept.trans (hranged.trans hended))
  exact cellsKept_ite (hall.trans (cellsKept_scoreFail hi _)) hall

/-! ### The steps of a period -/

/-- The cells that a gallery reports on are mapped. -/
theorem mapped_of_changedCells {g : Nat} {b : W} {e : Nat × StepScore} (he : e ∈ changedCells c g b) :
    e.1 ∈ (mappedCells c).map Prod.fst := by
  simp only [changedCells, galleryCells, List.mem_filterMap, List.mem_filter, Option.map_eq_some_iff] at he
  obtain ⟨a, ⟨ha, -⟩, s, -, rfl⟩ := he
  exact List.mem_map_of_mem ha

theorem cellsKept_settleReport (hw : ∀ i ∈ (mappedCells c).map Prod.fst, w i) (g : Nat) : CellsKept w c (settleReport c g) := by
  unfold settleReport
  split
  · exact cellsKept_refl c
  · next b _ =>
    extract_lets l done late untested worst reported scored l0 closed
    have hl : ∀ e ∈ l, w e.1 := by
      intro e he
      obtain ⟨a, ha, rfl⟩ := List.mem_map.mp he
      have := hw _ (mapped_of_changedCells ha)
      split <;> exact this
    have hclosed : CellsKept w c closed := (lpeKept_wr c _ _).cellsKept.trans
      ((cellsKept_foldl fun d _ e he => cellsKept_scoreCell (hl e he)).trans (cellsKept_lpe rfl))
    exact cellsKept_ite (cellsKept_ite (hclosed.trans (lpeKept_raise closed _ _).cellsKept) hclosed) (cellsKept_refl c)

theorem mappedCells_congr (h : d.topo = c.topo) : mappedCells d = mappedCells c := by
  unfold mappedCells
  rw [h]

theorem cellsKept_openSteps (hw : ∀ i ∈ (mappedCells c).map Prod.fst, w i) : CellsKept w c (openSteps c) := by
  unfold openSteps
  split
  · exact cellsKept_refl c
  · have hreports : CellsKept w c ((usedGalleries c).foldl settleReport c) :=
      cellsKept_foldl fun d hd g _ => cellsKept_settleReport (mappedCells_congr hd ▸ hw) g
    exact hreports.trans (cellsKept_lpe rfl)

theorem openSteps_newStep (c : Chip) : (openSteps c).lpe.newStep = none := by
  unfold openSteps
  split
  · assumption
  · rfl

/-- A computation writes mapped cells (R110). -/
theorem cellsKept_galleryCompute (hw : ∀ i ∈ (mappedCells c).map Prod.fst, w i) : CellsKept w c (galleryCompute c) := by
  unfold galleryCompute
  extract_lets computed reported opened l
  have hcomputed : CellsKept w c computed :=
    cellsKept_foldl fun d _ e he => cellsKept_ite (cellsKept_galleryCell (hw _ (List.mem_map_of_mem he)) e.2) (cellsKept_refl d)
  have hreported : CellsKept w computed reported := (lpeKept_foldl lpeKept_modeReport _ computed).cellsKept
  have hsofar := hcomputed.trans hreported
  have hopened : CellsKept w reported opened := cellsKept_openSteps (mappedCells_congr hsofar.topo ▸ hw)
  exact hsofar.trans (hopened.trans (cellsKept_lpe rfl))

theorem cellsKept_charCodes {r : CharReq} (hr : w r.cell) : CellsKept w c (charCodes c r) := by
  unfold charCodes
  extract_lets d t
  exact cellsKept_ite (cellsKept_ite (cellsKept_modCell hr _) (cellsKept_refl c)) (cellsKept_refl c)

theorem cellsKept_allCharCodes (hw : ∀ r, some r ∈ c.cns.reqs → w r.cell) : CellsKept w c (allCharCodes c) := by
  unfold allCharCodes
  refine cellsKept_foldl fun d _ r hr => ?_
  split
  · exact cellsKept_charCodes (hw _ hr)
  · exact cellsKept_refl d

theorem lpeKept_charFollows (c : Chip) : LpeKept c ((List.range 16).foldl charFollow c) := lpeKept_foldl lpeKept_charFollow _ c

theorem cellsKept_charAfter (c : Chip) : CellsKept w c (charAfter c) := by
  unfold charAfter
  extract_lets followed l
  have hfollowed : CellsKept w c followed := (lpeKept_charFollows c).cellsKept
  clear_value followed
  exact hfollowed.trans (cellsKept_lpe rfl)

theorem charAfter_lpe (c : Chip) : (charAfter c).lpe = { c.lpe with charOut := [] } := by
  unfold charAfter
  dsimp only
  rw [(lpeKept_charFollows c).lpe]

end

/-! ### The computation of a period -/

/-- The galleries compute once in a period, while the device runs the fabric (R110). -/
abbrev Computes (c : Chip) : Prop := computesCells c = true ∧ bootHalted c = false ∧ c.lpe.computedP ≠ c.tmr.period

theorem compute_of_computes {c : Chip} (h : Computes c) : compute c = charAfter (galleryCompute (keepHistory (allCharCodes c))) := by
  obtain ⟨hfabric, hboot, honce⟩ := h
  simp [compute, hfabric, hboot, period, honce]

theorem compute_of_not_computes {c : Chip} (h : ¬ Computes c) : compute c = c := by
  unfold compute
  rw [if_neg]
  simpa [period] using h

/-- The cells a computation may write: mapped ones, and those of listed sweeps (R392). -/
def ComputedOrSwept (c : Chip) (i : Nat) : Prop :=
  i ∈ (mappedCells c).map Prod.fst ∨ ∃ r : CharReq, some r ∈ c.cns.reqs ∧ r.cell = i

theorem cellsKept_swept (c : Chip) : CellsKept (ComputedOrSwept c) c (keepHistory (allCharCodes c)) :=
  (cellsKept_allCharCodes fun r hr => .inr ⟨r, hr, rfl⟩).trans (lpeKept_keepHistory _).cellsKept

theorem cellsKept_computed (c : Chip) :
    CellsKept (ComputedOrSwept c) c (galleryCompute (keepHistory (allCharCodes c))) := by
  have hswept := cellsKept_swept c
  refine hswept.trans (cellsKept_galleryCompute fun i hi => .inl ?_)
  rwa [mappedCells_congr hswept.topo] at hi

theorem cellsKept_compute {c : Chip} (h : Computes c) : CellsKept (ComputedOrSwept c) c (compute c) := by
  rw [compute_of_computes h]
  exact (cellsKept_computed c).trans (cellsKept_charAfter _)

/-- The period is marked computed, and the step, the epoch and the sweeps' ends told of in it are spent (R110, R129, R147, R392). -/
theorem galleryCompute_lpe (c : Chip) : (galleryCompute c).lpe.computedP = (galleryCompute c).tmr.period
    ∧ (galleryCompute c).lpe.epochNow = none ∧ (galleryCompute c).lpe.newStep = none := by
  unfold galleryCompute
  extract_lets computed reported opened l
  exact ⟨rfl, rfl, openSteps_newStep reported⟩

theorem compute_lpe {c : Chip} (h : Computes c) : (compute c).lpe.computedP = c.tmr.period ∧ (compute c).lpe.epochNow = none
    ∧ (compute c).lpe.newStep = none ∧ (compute c).lpe.charOut = [] := by
  obtain ⟨hcomputed, hepoch, hstep⟩ := galleryCompute_lpe (keepHistory (allCharCodes c))
  rw [(cellsKept_computed c).tmr] at hcomputed
  rw [compute_of_computes h, charAfter_lpe]
  exact ⟨hcomputed, hepoch, hstep, rfl⟩

theorem exec_galleryCompute_live {s : State} (hs : s.held = none) :
    exec .galleryCompute s = .next { s with chip := compute s.chip } := by
  rw [exec_galleryCompute, execGalleryCompute, run_live s _ hs]

end Sys2Proof.Machine
end

section
/-! What a gallery does in a period and at the boundaries it acts at (R107–R113, R120, R129, R384). -/

open Sys2Proof

namespace Sys2Proof.Machine

theorem exec_settleReport_live {s : State} (hs : s.held = none) (g : Fin 36) :
    exec (.settleReport g) s = .next { s with chip := settleReport s.chip g } := by
  rw [exec_settleReport, execSettleReport, run_live s _ hs]

theorem exec_lawWindowWrite_live {s : State} (hs : s.held = none) (off : BitVec 18) (v : W) :
    exec (.lawWindowWrite off v) s = .next { s with chip := lawWindowWrite s.chip off.toNat v } := by
  rw [exec_lawWindowWrite, execLawWindowWrite, run_live s _ hs]

theorem exec_bankCommit_live {s : State} (hs : s.held = none) (g : Fin 36) :
    exec (.bankCommit g) s = .next { s with chip := bankCommit s.chip g } := by
  rw [exec_bankCommit, execBankCommit, run_live s _ hs]

theorem exec_stagingBankWrite_live {s : State} (hs : s.held = none) (g : Fin 36) (w : BitVec 11) (v : W) :
    exec (.stagingBankWrite g w v) s = .next { s with chip := stagingWrite s.chip g w.toNat v } := by
  rw [exec_stagingBankWrite, execStagingBankWrite, run_live s _ hs]

theorem bankCommit_due {c : Chip} {g : Nat} {e : W} (h : mapGet c.lpe.commits g = some e) (he : due c e = true) :
    bankCommit c g = commitBank c g := by
  unfold bankCommit
  rw [h]
  exact if_pos he

/-- While the Conservator owns the banks a host write is ignored (R384). -/
theorem stagingWrite_notHost {c : Chip} {g w : Nat} {v : W} (hr : reachable c (stagingReg g w) = true) (hs : Single c)
    (hb : fldB c CNS_CTL_host_bank = false) : stagingWrite c g w v = cnsReject c := by
  have hj := fromJournal_single hs
  obtain ⟨h1, h2, h3, h4⟩ := hs
  exact hostChangeIf_refused c _ v _ _ _ hr h1 h2 h3 h4 (by simp [hj, hb])

/-- While the host owns them its write reaches the staging bank but for the period of a commit (R384). -/
theorem stagingWrite_host {c : Chip} {g w : Nat} {v : W} (hr : reachable c (stagingReg g w) = true) (hs : Single c)
    (hb : fldB c CNS_CTL_host_bank = true) :
    stagingWrite c g w v = if committing c g then cnsReject c else stagingPut c (2048 * g + w) v := by
  obtain ⟨h1, h2, h3, h4⟩ := hs
  unfold stagingWrite
  rw [hostChangeIf_taken c _ v _ _ hr h1 h2 h3 h4 (by simp [hb])]
  simp [h2, stagingStore, hb]

/-- Settles O5: a computation keeps to the mapped and the swept cells; a gallery's part of the ring is its own; a commit is its switch of
banks; the rest by the cases of each write. -/
theorem galleryPeriodWork : Obligations.GalleryPeriodWork := by
  unfold Obligations.GalleryPeriodWork
  refine ⟨?compute, ?computeKeeps, ?ring, ?settle, ?law, ?lawBits, ?commit, ?staging⟩
  case compute =>
    intro s hs a b d
    refine ⟨fun hfabric hboot honce => ?_, fun h => ?_⟩
    · rw [exec_galleryCompute_live hs, compute_of_computes ⟨hfabric, hboot, honce⟩]
      rfl
    · rw [exec_galleryCompute_live hs, compute_of_not_computes]
      rintro ⟨hfabric, hboot, honce⟩
      simp [hfabric, hboot, honce] at h
  case computeKeeps =>
    intro s hs hfabric hboot honce
    have hc : Computes s.chip := ⟨hfabric, hboot, honce⟩
    have hkept := cellsKept_compute hc
    obtain ⟨hcomputed, hepoch, hstep, hout⟩ := compute_lpe hc
    refine ⟨compute s.chip, exec_galleryCompute_live hs, hcomputed, hepoch, hstep, hout, hkept.tmr, hkept.doc, hkept.ddr,
      fun i hm hr => hkept.cells i ?_⟩
    rintro (h | ⟨r, h, hi⟩)
    · exact hm h
    · exact hr r h hi
  case ring =>
    intro s bad hs hn
    have hkept := ringKept_ringGalleries s.chip bad (usedGalleries s.chip)
    refine ⟨_, exec_neighbourRing_live hs bad, hkept.cells, fun g hg i hi => ?_⟩
    rw [neighbourRing, ringNew_ringGalleries bad _ (fun _ _ => lt_of_mem_neededBy hn) (lt_of_mem_neededBy hn hi)]
    simp only [hg, hi, true_and, ← Bool.not_eq_true, ite_not]
    rfl
  case settle =>
    intro s g b hs ho hc hp
    rw [exec_settleReport_live hs, settleReport_unchanged ho hc hp]
  case law =>
    rintro s off v ⟨hs, hr⟩
    refine ⟨fun hl => ?_, fun hl => ?_⟩
    · rw [exec_lawWindowWrite_live hs, lawWindowWrite_unlocked v hr (by simp [locked, hl])]
    · rw [exec_lawWindowWrite_live hs, lawWindowWrite_locked v hr (by simp [locked, hl])]
  case lawBits =>
    intro i v
    exact ⟨fun h => lawStored_reserved v (lawMask_pastTables h), fun h ho => lawStored_reserved v (lawMask_pastHeader h ho),
      fun h ho h60 => lawStored_reserved v (lawMask_pastSlot h ho h60),
      fun h ho h59 => lawStored_toNat i v 18 (by omega) (lawMask_coefficient h ho h59)⟩
  case commit =>
    intro s g e hs hw he
    have hlpe := commitBank_lpe s.chip g
    refine ⟨commitBank s.chip g, ?_, commitBank_activeBank s.chip g, ?_, ?_, fun hA => ?_, fun hB => ?_⟩
    · rw [exec_bankCommit_live hs, bankCommit_due hw he]
    · rw [hlpe, banksCommitted, mapGet_mapDel, if_pos rfl]
    · rw [hlpe, banksCommitted, mapGet_mapPut, if_pos rfl]
    · rw [hlpe, bankBActive, hA]
      exact ⟨rfl, rfl⟩
    · rw [hlpe, bankBActive, hB]
      exact ⟨rfl, rfl⟩
  case staging =>
    rintro s g w v ⟨hs, hr, hone⟩
    refine ⟨fun hb hc => ?_, fun hb hc => ?_, fun hb => ?_⟩
    · rw [exec_stagingBankWrite_live hs, stagingWrite_host hr hone hb, hc]
      rfl
    · rw [exec_stagingBankWrite_live hs, stagingWrite_host hr hone hb, hc]
      rfl
    · rw [exec_stagingBankWrite_live hs, stagingWrite_notHost hr hone hb]
      rfl

end Sys2Proof.Machine
end

section
/-! Cell commands (R145, R146, R160): judged at the write, kept for P + 2 on a single device, and given to their cells at E. -/

open Sys2Proof

namespace Sys2Proof.Machine

/-- A command word reads back the code put into it. -/
theorem wbits_code (w : W) {lo : Nat} (h : lo + 4 ≤ 32) (k : Fin 5) : wbits (putField w lo 4 k) lo 4 = k := by
  rw [wbits_putField_same w lo 4 k h]
  omega

/-! ### The write -/

section
variable {c : Chip} {g : Nat} {w : W} (hr : reachable c (LPE_CELL_CMD_cmd g).addr = true) (hs : Single c)
include hr hs

/-- A word that a reason of R145 refuses says so and changes nothing else. -/
theorem cellCmdWrite_refused {r : Nat} (hw : cmdReason c g w = some r) : cellCmdWrite c g w = cellReject c g r := by
  obtain ⟨h1, h2, h3, h4⟩ := hs
  exact hostChangeIf_refused c _ w _ _ _ hr h1 h2 h3 h4 (by rw [hw]; rfl)

/-- A NOP that no reason refuses does nothing (R160). -/
theorem cellCmdWrite_nop (hw : cmdReason c g w = none) (hcode : wbits w 24 4 = 0) : cellCmdWrite c g w = c := by
  obtain ⟨h1, h2, h3, h4⟩ := hs
  unfold cellCmdWrite
  rw [hostChangeIf_taken c _ w _ _ hr h1 h2 h3 h4 (by rw [hw]; rfl), if_pos hcode]

end

/-- Any other word that no reason refuses waits for P + 2 (R145). -/
theorem cellCmdWrite_taken {s : State} {g : Nat} {w : W} (hr : reachable s.chip (LPE_CELL_CMD_cmd g).addr = true)
    (hs : Single s.chip) (hw : cmdReason s.chip g w = none) (hcode : wbits w 24 4 ≠ 0) :
    { s with chip := cellCmdWrite s.chip g w } = cellCmdTaken s g w := by
  obtain ⟨h1, h2, h3, h4⟩ := hs
  unfold cellCmdWrite
  rw [hostChangeIf_taken s.chip _ w _ _ hr h1 h2 h3 h4 (by rw [hw]; rfl), if_neg hcode]
  rfl

/-- The command that writes a gallery's command word with code `k` (R160). -/
def cellCmdOf (g : Fin 36) (w : W) : Fin 5 → Instr
  | 0 => .cellCmdNop g w
  | 1 => .enable g w
  | 2 => .disable g w
  | 3 => .hold g w
  | 4 => .resume g w

section
variable {s : State} {g : Fin 36} {w : W} {k : Fin 5}

theorem exec_cellCmdOf_live (hs : s.held = none) :
    exec (cellCmdOf g w k) s = .next { s with chip := cellCmdWrite s.chip g (putField w 24 4 k) } := by
  have hrun : exec (cellCmdOf g w k) s = run s (cellCmdWrite · g (putField w 24 4 k)) := by fin_cases k <;> rfl
  rw [hrun, run_live s _ hs]

variable (hm : MayChange s (LPE_CELL_CMD_cmd g).addr)
include hm

theorem exec_cellCmdOf_refused {r : Nat} (hw : cmdReason s.chip g (putField w 24 4 k) = some r) :
    exec (cellCmdOf g w k) s = .next { s with chip := cellReject s.chip g r } := by
  obtain ⟨hs, hr, hone⟩ := hm
  rw [exec_cellCmdOf_live hs, cellCmdWrite_refused hr hone hw]

theorem exec_cellCmdOf_nop (hw : cmdReason s.chip g (putField w 24 4 0) = none) : exec (cellCmdOf g w 0) s = .next s := by
  obtain ⟨hs, hr, hone⟩ := hm
  have hkeeps : cellCmdWrite s.chip g (putField w 24 4 (0 : Fin 5)) = s.chip := cellCmdWrite_nop hr hone hw (wbits_code w (by decide) 0)
  rw [exec_cellCmdOf_live hs, hkeeps]

theorem exec_cellCmdOf_taken (hk : k ≠ 0) (hw : cmdReason s.chip g (putField w 24 4 k) = none) :
    exec (cellCmdOf g w k) s = .next (cellCmdTaken s g (putField w 24 4 k)) := by
  obtain ⟨hs, hr, hone⟩ := hm
  have hcode : wbits (putField w 24 4 k) 24 4 ≠ 0 := by
    rw [wbits_code w (by decide)]
    exact Fin.val_ne_zero_iff.mpr hk
  rw [exec_cellCmdOf_live hs, cellCmdWrite_taken hr hone hw hcode]

end

/-! ### The reasons -/

/-- The codes of R160 are 0 to 4, and an ENABLE names state 0 or 1. -/
theorem cmdBad_iff (w : W) : cmdBad w = true ↔ 4 < wbits w 24 4 ∨ wbits w 24 4 = 1 ∧ 1 < wbits w 16 2 := by
  simp [cmdBad]

section
variable {c : Chip} {g : Nat} {w : W}

theorem cmdReason_bad (h : cmdBad w = true) : cmdReason c g w = some 1 := if_pos h

/-- With ALL set only a waiting command refuses a listed word at its write (R145). -/
theorem cmdReason_all (h : cmdBad w = false) (hall : wbit w 8 = true) :
    cmdReason c g w = if (mapGet c.lpe.cmds g).isSome then some 4 else none := by
  simp [cmdReason, h, hall]

/-- A listed word for one cell is refused for the cell's own reason first (R145). -/
theorem cmdReason_cell {r : Nat} (h : cmdBad w = false) (hone : wbit w 8 = false)
    (hcell : cellReason c (cmdCell g w) (wbits w 24 4) = some r) : cmdReason c g w = some r := by
  simp [cmdReason, h, hone, hcell]

/-- A listed word for a cell that allows it is taken where no command waits. -/
theorem cmdReason_none (h : cmdBad w = false) (hone : wbit w 8 = false)
    (hcell : cellReason c (cmdCell g w) (wbits w 24 4) = none) (hfree : mapGet c.lpe.cmds g = none) : cmdReason c g w = none := by
  simp [cmdReason, h, hone, hcell, hfree]

theorem cellReason_notLive {i : Nat} (k : Nat) (h : cellLive c i = false) : cellReason c i k = some 2 := by
  simp [cellReason, h]

/-- No reason refuses a DISABLE of a live cell (R145). -/
theorem cellReason_disable {i : Nat} (h : cellLive c i = true) : cellReason c i 2 = none := by
  simp [cellReason, h]

end

/-! ### The effect -/

theorem exec_cellCmdEffect_live {s : State} (hs : s.held = none) (g : Fin 36) :
    exec (.cellCmdEffect g) s = .next { s with chip := cellCmdEffect s.chip g } := by
  rw [exec_cellCmdEffect, execCellCmdEffect, run_live s _ hs]

/-- The gallery's command waits no longer. -/
def cellCmdTakenOut (c : Chip) (g : Nat) : Chip :=
  setB { c with lpe := { c.lpe with cmds := mapDel c.lpe.cmds g } } (LPE_CMD_STAT_busy g) false

section
variable {c : Chip} {g : Nat} {w e : W} (hw : mapGet c.lpe.cmds g = some ⟨w, e⟩) (he : due c e = true)
include hw he

/-- At its E a command for one cell is judged again and given to the cell (R145). -/
theorem cellCmdEffect_cell (hone : wbit w 8 = false)
    (hcell : cellReason (cellCmdTakenOut c g) (cmdCell g w) (wbits w 24 4) = none) :
    cellCmdEffect c g = giveCmd (cellCmdTakenOut c g) w (cmdCell g w) := by
  unfold cellCmdTakenOut at hcell
  simp only [cellCmdEffect, hw, he, hone, hcell, if_true]
  rfl

/-- At its E a command with ALL set is given to each cell of the gallery that no reason refuses (R145). -/
theorem cellCmdEffect_all (hall : wbit w 8 = true) :
    cellCmdEffect c g = (galleryCells (cellCmdTakenOut c g) g).foldl
      (fun c x => if (cellReason c x.1 (wbits w 24 4)).isNone then giveCmd c w x.1 else c) (cellCmdTakenOut c g) := by
  simp only [cellCmdEffect, hw, he, hall, if_true]
  rfl

end

/-- Settles O3, by what a write of the command word does on a single device, the order of the reasons, and the two ways a command
acts at its E. -/
theorem cellCommandsWaitForTheirPeriod : Obligations.CellCommandsWaitForTheirPeriod := by
  unfold Obligations.CellCommandsWaitForTheirPeriod
  have taken (k : Fin 5) (hk : k ≠ 0) (s : State) (g : Fin 36) (w : W) (hm : MayChange s (LPE_CELL_CMD_cmd g).addr) :=
    exec_cellCmdOf_taken (w := w) hm hk
  refine ⟨fun _ _ _ => exec_cellCmdOf_nop, ?refused, ?reasons, taken 1 (by decide), taken 2 (by decide), taken 3 (by decide),
    taken 4 (by decide), ?cell, ?all⟩
  case refused =>
    intro s g w hm
    have refused (k : Fin 5) (r : Nat) := exec_cellCmdOf_refused (w := w) (k := k) (r := r) hm
    exact ⟨refused 0, refused 1, refused 2, refused 3, refused 4⟩
  case reasons =>
    intro c g w
    have listed (h4 : wbits w 24 4 ≤ 4) (h1 : wbits w 24 4 = 1 → wbits w 16 2 ≤ 1) : cmdBad w = false := by
      rw [← Bool.not_eq_true, cmdBad_iff]
      omega
    refine ⟨fun h => cmdReason_bad ((cmdBad_iff w).mpr h), fun h4 h1 => cmdReason_all (listed h4 h1),
      fun h4 h1 hone hl => cmdReason_cell (listed h4 h1) hone (cellReason_notLive _ hl), fun h2 hone hl hfree => ?_⟩
    exact cmdReason_none (listed (by omega) (by omega)) hone (h2 ▸ cellReason_disable hl) hfree
  case cell =>
    intro s g w e hs hw he hone c d hcell
    rw [exec_cellCmdEffect_live hs, cellCmdEffect_cell hw he hone hcell]
    rfl
  case all =>
    intro s g w e hs hw he hall
    rw [exec_cellCmdEffect_live hs, cellCmdEffect_all hw he hall]
    rfl

end Sys2Proof.Machine
end

section
/-! Inventory commands and trims (R149, R154, R158, R159): judged at the write, kept for P + 2 on a single device, and their effect. -/

open Sys2Proof

namespace Sys2Proof.Machine

/-! ### The write -/

/-- The word is refused at its write: another waits, or its value is one that R158 refuses. -/
abbrev InvRefused (c : Chip) (w : W) : Prop := (c.lpe.invCmd.isSome || invBad c w) = true

section
variable {c : Chip} {w : W} (hr : reachable c INV_CMD = true) (hs : Single c)
include hr hs

theorem invWrite_refused (hw : InvRefused c w) : invWrite c w = invReject c := by
  obtain ⟨h1, h2, h3, h4⟩ := hs
  exact hostChangeIf_refused c _ w _ _ _ hr h1 h2 h3 h4 (if_pos hw)

/-- A NOP that is not refused does nothing (R158). -/
theorem invWrite_nop (hw : ¬ InvRefused c w) (hcode : wbits w 28 4 = 0) : invWrite c w = c := by
  obtain ⟨h1, h2, h3, h4⟩ := hs
  unfold invWrite
  rw [hostChangeIf_taken c _ w _ _ hr h1 h2 h3 h4 (if_neg hw), if_pos hcode]

end

/-- Any other word that is not refused waits for P + 2 (R158). -/
theorem invWrite_taken {s : State} {w : W} (hr : reachable s.chip INV_CMD = true) (hs : Single s.chip)
    (hw : ¬ InvRefused s.chip w) (hcode : wbits w 28 4 ≠ 0) : { s with chip := invWrite s.chip w } = invTaken s w := by
  obtain ⟨h1, h2, h3, h4⟩ := hs
  unfold invWrite
  rw [hostChangeIf_taken s.chip _ w _ _ hr h1 h2 h3 h4 (if_neg hw), if_neg hcode]
  rfl

/-- The command that writes INV_CMD with code `k` (R158). -/
def invCmdOf (w : W) : Fin 5 → Instr
  | 0 => .invNop w
  | 1 => .markStuck w
  | 2 => .clearStuck w
  | 3 => .clearHist w
  | 4 => .clearSw w

section
variable {s : State} {w : W} {k : Fin 5}

theorem exec_invCmdOf_live (hs : s.held = none) :
    exec (invCmdOf w k) s = .next { s with chip := invWrite s.chip (putField w 28 4 k) } := by
  have hrun : exec (invCmdOf w k) s = run s (invWrite · (putField w 28 4 k)) := by fin_cases k <;> rfl
  rw [hrun, run_live s _ hs]

/-- A word with a listed code is refused while another waits, for an unmapped cell, and as MARK_STUCK with mark 0 (R158). -/
theorem invRefused_iff (c : Chip) (w : W) (k : Fin 5) : InvRefused c (putField w 28 4 k) ↔
    (c.lpe.invCmd ≠ none ∨ mapCellOf c (invCell (putField w 28 4 k)) = none) ∨ k = 1 ∧ wbits (putField w 28 4 k) 26 2 = 0 := by
  have hlisted : ¬ 4 < k.val := by omega
  have hmark : k.val = 1 ↔ k = 1 := (Fin.ext_iff (b := 1)).symm
  simp only [InvRefused, invBad, wbits_code w (show 28 + 4 ≤ 32 by decide), hlisted, hmark, Bool.or_eq_true, Bool.and_eq_true, beq_iff_eq,
    Option.isSome_iff_ne_none, Option.isNone_iff_eq_none, decide_false, Bool.false_or]
  tauto

variable (hm : MayChange s INV_CMD)
include hm

theorem exec_invCmdOf_refused (hw : InvRefused s.chip (putField w 28 4 k)) :
    exec (invCmdOf w k) s = .next { s with chip := invReject s.chip } := by
  obtain ⟨hs, hr, hone⟩ := hm
  rw [exec_invCmdOf_live hs, invWrite_refused hr hone hw]

theorem exec_invCmdOf_nop (hw : ¬ InvRefused s.chip (putField w 28 4 0)) : exec (invCmdOf w 0) s = .next s := by
  obtain ⟨hs, hr, hone⟩ := hm
  have hkeeps : invWrite s.chip (putField w 28 4 (0 : Fin 5)) = s.chip := invWrite_nop hr hone hw (wbits_code w (by decide) 0)
  rw [exec_invCmdOf_live hs, hkeeps]

theorem exec_invCmdOf_taken (hk : k ≠ 0) (hw : ¬ InvRefused s.chip (putField w 28 4 k)) :
    exec (invCmdOf w k) s = .next (invTaken s (putField w 28 4 k)) := by
  obtain ⟨hs, hr, hone⟩ := hm
  have hcode : wbits (putField w 28 4 k) 28 4 ≠ 0 := by
    rw [wbits_code w (by decide)]
    exact Fin.val_ne_zero_iff.mpr hk
  rw [exec_invCmdOf_live hs, invWrite_taken hr hone hw hcode]

end

/-- A word for a mapped cell is not refused while no command waits, but for a MARK_STUCK with mark 0. -/
theorem not_invRefused {c : Chip} {w : W} {k : Fin 5} (hfree : c.lpe.invCmd = none)
    (hmap : (mapCellOf c (invCell (putField w 28 4 k))).isSome = true) (hmark : k = 1 → wbits (putField w 28 4 k) 26 2 ≠ 0) :
    ¬ InvRefused c (putField w 28 4 k) := by
  rw [invRefused_iff]
  rintro ((h | h) | ⟨h1, h⟩)
  · exact h hfree
  · simp [h] at hmap
  · exact hmark h1 h

/-! ### The effect, and trims -/

theorem exec_invCmdEffect_live {s : State} (hs : s.held = none) :
    exec .invCmdEffect s = .next { s with chip := invEffect s.chip } := by
  rw [exec_invCmdEffect, execInvCmdEffect, run_live s _ hs]

theorem exec_trimWrite_live {s : State} (hs : s.held = none) (g : Fin 36) (j : Fin 128) (v : W) :
    exec (.trimWrite g j v) s = .next { s with chip := trimWrite s.chip g j v } := by
  rw [exec_trimWrite, execTrimWrite, run_live s _ hs]

/-- What the word of an inventory command does to its cell (R154, R158). -/
def invAct (c : Chip) (w : W) : Chip :=
  if wbits w 28 4 = 1 then markStuck c (invCell w) (wbits w 26 2)
  else if wbits w 28 4 = 2 then clearStuck c (invCell w)
  else if wbits w 28 4 = 3 then clearHist c (invCell w)
  else clearSw c (invCell w)

/-- At its E the waiting command leaves INV_CMD and acts (R158). -/
theorem invEffect_due {c : Chip} {w e : W} (hw : c.lpe.invCmd = some (w, e)) (he : due c e = true) :
    invEffect c = invAct (setB { c with lpe := { c.lpe with invCmd := none } } INV_STAT_cmd_busy false) w := by
  simp only [invEffect, hw, he, if_true]
  rfl

/-- A trim waits for P + 2 on a single device (R149). -/
theorem trimWrite_taken {c : Chip} {g j : Nat} (v : W) (hr : reachable c (LPE_TRIM_trim_tgt g j).addr = true) (hs : Single c) :
    trimWrite c g j v = defer c (eSingle c) (LPE_TRIM_trim_tgt g j).addr v := by
  obtain ⟨h1, h2, h3, h4⟩ := hs
  exact hostChange_single c _ v _ hr h1 h2 h3 h4

/-- Settles O4, by what a write of INV_CMD does on a single device, the three ways it is refused, and the command's act at its E. -/
theorem inventoryCommandsWaitAndAct : Obligations.InventoryCommandsWaitAndAct := by
  unfold Obligations.InventoryCommandsWaitAndAct
  have taken (k : Fin 5) (hk : k ≠ 0) (hk1 : k ≠ 1) (s : State) (w : W) (hm : MayChange s INV_CMD)
      (hfree : s.chip.lpe.invCmd = none) (hmap : (mapCellOf s.chip (invCell (putField w 28 4 k))).isSome = true) :=
    exec_invCmdOf_taken hm hk (not_invRefused hfree hmap (absurd · hk1))
  refine ⟨?nop, ?refused, ?mark, taken 2 (by decide) (by decide), taken 3 (by decide) (by decide),
    taken 4 (by decide) (by decide), ?effect, ?trim⟩
  case nop =>
    intro s w hm hfree hmap
    exact exec_invCmdOf_nop hm (not_invRefused (k := 0) hfree hmap (absurd · (by decide)))
  case refused =>
    intro s w hm v bad t
    have refused (k : Fin 5) (h : bad k ∨ k = 1 ∧ wbits (v k) 26 2 = 0) : exec (invCmdOf w k) s = .next t :=
      exec_invCmdOf_refused hm ((invRefused_iff s.chip w k).mpr h)
    exact ⟨fun h => refused 0 (.inl h), fun h => refused 1 (h.imp_right (⟨rfl, ·⟩)), fun h => refused 2 (.inl h),
      fun h => refused 3 (.inl h), fun h => refused 4 (.inl h)⟩
  case mark =>
    intro s w hm hfree v hmap hmark
    exact exec_invCmdOf_taken (k := 1) hm (by decide) (not_invRefused hfree hmap fun _ => hmark)
  case effect =>
    intro s w e hs hw he
    rw [exec_invCmdEffect_live hs, invEffect_due hw he]
    rfl
  case trim =>
    rintro s g j v ⟨hs, hr, hone⟩
    rw [exec_trimWrite_live hs, trimWrite_taken v hr hone]

end Sys2Proof.Machine
end

section
/-! Rows of the Docent (R170–R173, R176): a row of its table acts on the routine that runs. -/

open Sys2Proof

namespace Sys2Proof.Machine

theorem withCur_runs {s : State} {r : Routine} (h : Runs s r) (f : Routine → Chip) : withCur s.chip f = f r := by
  obtain ⟨-, hgoing, hcur⟩ := h
  simp [withCur, hgoing, hcur]

/-- A command on a device whose Docent runs a routine. -/
theorem run_runs {s : State} {r : Routine} (h : Runs s r) (f : Chip → Chip) : run s f = .next { s with chip := f s.chip } := by
  obtain ⟨hs, -⟩ := h
  exact run_live s f hs

/-- A word's op row issues it with what the operation makes of device and routine. -/
theorem opRow_atOp {s : State} {r : Routine} {op : Nat} (h : AtOp s r op) (f : Chip → Routine → Chip × Routine) :
    opRow s.chip op f = issued (f s.chip r).1 (f s.chip r).2 := by
  obtain ⟨hruns, hphase, hop⟩ := h
  simp [opRow, withCur_runs hruns, hphase, hop]

/-- The command of an op row, with what its operation makes of device and routine. -/
theorem exec_opRow (f : Chip → Routine → Chip × Routine) {i : Instr} {op : Nat} {s : State}
    (hi : exec i s = run s (opRow · op f)) {r : Routine} (h : AtOp s r op) {c : Chip} {q : Routine} (hf : f s.chip r = (c, q)) :
    exec i s = .next { s with chip := issued c q } := by
  obtain ⟨hruns, -⟩ := id h
  rw [hi, run_runs hruns, opRow_atOp h, hf]

theorem seqRow_atSeq {s : State} {r : Routine} {n : Nat} (h : AtSeq s r n) : seqRow s.chip n = nextAddress s.chip r := by
  obtain ⟨hruns, hphase, hseq⟩ := h
  simp [seqRow, withCur_runs hruns, hphase, hseq]

/-- The command of a row of the next-address control, with where a word of its seq goes on. -/
theorem exec_seqRow {i : Instr} {n : Nat} {s : State} (hi : exec i s = run s (seqRow · n)) {r : Routine} (h : AtSeq s r n) {c : Chip}
    (hn : mwSeq r.word = n → nextAddress s.chip r = c) : exec i s = .next { s with chip := c } := by
  obtain ⟨hruns, -, hseq⟩ := id h
  rw [hi, run_runs hruns, seqRow_atSeq h, hn hseq]

end Sys2Proof.Machine
end

section
/-! The ALU (R171, R176). -/

open Sys2Proof

namespace Sys2Proof.Machine

theorem aluRow_atOp {s : State} {r : Routine} {sub : Nat} (h : AtOp s r 1) (hsub : mwSub r.word = sub) :
    aluRow s.chip sub = issued s.chip (opAlu s.chip r).2 := by
  obtain ⟨hruns, -⟩ := id h
  simp only [aluRow, withCur_runs hruns, hsub, beq_self_eq_true, if_true, opRow_atOp h]
  rfl

/-- Every sub but compare writes dst. -/
theorem opAlu_writes {r : Routine} (c : Chip) (hsub : mwSub r.word ≠ 8) :
    (opAlu c r).2 = aluDone r (aluResult (mwSub r.word) (aluA r) (aluOperand r)) := by
  simp only [opAlu, if_neg hsub, wInt_toInt]
  rfl

theorem opAlu_compare {r : Routine} (c : Chip) (hsub : mwSub r.word = 8) :
    (opAlu c r).2 = { r with lt := decide ((aluA r - aluOperand r).toInt < 0), eq := aluA r - aluOperand r == 0 } := by
  simp only [opAlu, wInt_toInt, hsub]
  rfl

/-- A row of the ALU whose sub is not compare: the result goes to dst and into the flags. -/
theorem exec_aluRow_writes {i : Instr} {sub : Nat} (op : W → W → W) (hi : ∀ s, exec i s = run s (aluRow · sub)) (h8 : sub ≠ 8)
    (hop : ∀ a b, aluResult sub a b = op a b) (s : State) (r : Routine) (h : AtOp s r 1) (hsub : mwSub r.word = sub) :
    exec i s = .next { s with chip := issued s.chip (aluDone r (op (aluA r) (aluOperand r))) } := by
  obtain ⟨hruns, -⟩ := id h
  rw [hi, run_runs hruns, aluRow_atOp h hsub, opAlu_writes _ (hsub ▸ h8), hsub, hop]

/-- Settles O6: every row but compare by the row's rule with its result, compare by its own. -/
theorem aluWordsComputeAndSetFlags : Obligations.AluWordsComputeAndSetFlags := by
  unfold Obligations.AluWordsComputeAndSetFlags
  refine ⟨exec_aluRow_writes (· + ·) (fun _ => rfl) (by decide) (fun _ _ => rfl),
    exec_aluRow_writes (· - ·) (fun _ => rfl) (by decide) (fun _ _ => rfl),
    exec_aluRow_writes (· &&& ·) (fun _ => rfl) (by decide) (fun _ _ => rfl),
    exec_aluRow_writes (· ||| ·) (fun _ => rfl) (by decide) (fun _ _ => rfl),
    exec_aluRow_writes (· ^^^ ·) (fun _ => rfl) (by decide) (fun _ _ => rfl),
    exec_aluRow_writes (fun a b => a <<< b.toNat) (fun _ => rfl) (by decide) (fun _ _ => rfl),
    exec_aluRow_writes (fun a b => a >>> b.toNat) (fun _ => rfl) (by decide) (fun _ _ => rfl),
    exec_aluRow_writes (fun _ b => b) (fun _ => rfl) (by decide) (fun _ _ => rfl), fun s r h hsub => ?compare⟩
  case compare =>
    obtain ⟨hruns, -⟩ := id h
    rw [exec_aluCompare, execAluCompare, run_runs hruns, aluRow_atOp h hsub, opAlu_compare _ hsub]

end Sys2Proof.Machine
end

section
/-! The operations of a microword other than the ALU's (R164–R167, R176, R177, R183). -/

open Sys2Proof

namespace Sys2Proof.Machine

section
variable {c : Chip} {r : Routine}

theorem opLookup_resident {e : Nat} (h : residentEntry c (BitVec.ofNat 16 (wbits (aluA r) 0 16)) = some e) :
    opLookup c r = (c, setReg { r with resident := true, pins := e :: r.pins } (mwDst r.word) (toW e)) := by
  unfold opLookup
  rw [show reg r (mwSa r.word) = aluA r from rfl, h]

theorem opLookup_absent (h : residentEntry c (BitVec.ofNat 16 (wbits (aluA r) 0 16)) = none) :
    opLookup c r = (freeNext c, setReg { r with resident := false } (mwDst r.word) (toW (freeValue c))) := by
  unfold opLookup
  rw [show reg r (mwSa r.word) = aluA r from rfl, h]

theorem opLoadt_good (he : (aluA r).toNat ≤ 63) (hst : (entryOf c (aluA r).toNat).st = 2)
    (hh : hdrCrcOk (entryOf c (aluA r).toNat).content = true) (hb : bodyCrcOk (entryOf c (aluA r).toNat).content = true) :
    opLoadt c r = (fillPend c (entryOf c (aluA r).toNat), { r with loadOk := true }) := by
  unfold aluA at he hst hh hb
  simp [opLoadt, aluA, Nat.not_lt.mpr he, hst, hh, hb]

theorem opLoadt_notResident (h : 63 < (aluA r).toNat ∨ (entryOf c (aluA r).toNat).st ≠ 2) :
    opLoadt c r = (copyistUnfit c 4 0, { r with loadOk := false }) := by
  unfold aluA at h
  rcases h with h | h <;> simp [opLoadt, h]

theorem opLoadt_badCheck (he : (aluA r).toNat ≤ 63) (hst : (entryOf c (aluA r).toNat).st = 2)
    (h : hdrCrcOk (entryOf c (aluA r).toNat).content = false ∨ bodyCrcOk (entryOf c (aluA r).toNat).content = false) :
    opLoadt c r = (emptyPend c, { r with loadOk := false }) := by
  unfold aluA at he hst h
  rcases h with h | h <;> simp [opLoadt, Nat.not_lt.mpr he, hst, h]

/-- A swap to a boundary ahead, with none scheduled, is scheduled (R176). -/
theorem schedule_swap {t : W} (ht : 1 ≤ pdiff t c.tmr.period) (hs : c.doc.sched = none) :
    schedule c r false t =
      ({ c with doc := { c.doc with sched := some ⟨false, t, r.cmd.serial⟩, stepB := some (t + 1) } },
        { r with swapOk := true, swap := if r.swap = 2 then r.swap else 1, stepB := some (t + 1) }) := by
  simp [schedule, period, ht, hs]

/-- So is a revert. -/
theorem schedule_revert {t : W} (ht : 1 ≤ pdiff t c.tmr.period) (hs : c.doc.sched = none) :
    schedule c r true t =
      ({ c with doc := { c.doc with sched := some ⟨true, t, r.cmd.serial⟩, stepB := some (t + 1) } },
        { r with swapOk := true, swap := r.swap, stepB := some (t + 1) }) := by
  simp [schedule, period, ht, hs]

theorem schedule_refused {t : W} (revert : Bool) (h : pdiff t c.tmr.period < 1 ∨ c.doc.sched ≠ none) :
    schedule c r revert t = (c, { r with swapOk := false }) := by
  rcases h with h | h
  · simp [schedule, period, Int.not_le.mpr h]
  · simp [schedule, h]

theorem shapeSet_listed {cls : Nat} (h : cls < 64) (m : Nat) (v : W) :
    shapeSet c cls m v =
      { c with doc := { c.doc with shapes := c.doc.shapes ++ [(cls * 32 + m, shapeStored v, c.tmr.period)] } } := if_pos h

theorem shapeSet_unlisted {cls : Nat} (h : 64 ≤ cls) (m : Nat) (v : W) : shapeSet c cls m v = c := if_neg (Nat.not_lt.mpr h)

theorem opCollect_step {b : W} (h : c.doc.stepB = some b) :
    opCollect c r = (collect c b (wbit (aluA r) 0) (wbit (reg r (mwSb r.word)) 0), r) := by
  simp only [opCollect, h]
  rfl

theorem opCollect_noStep (h : c.doc.stepB = none) : opCollect c r = (c, r) := by
  simp only [opCollect, h]

/-- The one record of a command that was neither interrupted nor moved, and has not failed (R183). -/
theorem complete_first {st : Nat} (abortRes : Nat) (hq : r.cmd.source < 4) (hw : r.written = false) (hp : r.partial_ = false)
    (hst : st ≠ 6) :
    complete c r st abortRes false = (docDeliver c (recordOf c r st abortRes false), { r with written := true }) := by
  simp [complete, hw, hp, hst, Nat.not_le.mpr hq]

theorem opDone_queued (hq : r.cmd.source < 4) (hw : r.written = false) :
    opDone c r = complete c r (mwImm r.word % 16) 0 (wbit (aluA r) 0) := by
  unfold opDone
  split
  · next h5 _ => omega
  · simp [hq, hw, aluA]

/-! ### RDB and WRB (R177) -/

theorem opRdb_good (hb : rdbBlock (microAddress r) = true) (hd : (masterRead c 4 (microAddress r)).readResp = 0) :
    opRdb false c r = ({ masterRead c 4 (microAddress r) with readData := c.readData, readResp := c.readResp },
      { r with readValue := (masterRead c 4 (microAddress r)).readData }) := by
  simp [opRdb, hb, hd]

theorem opRdb_outside (hb : rdbBlock (microAddress r) = false) : opRdb false c r = (c, { r with badAccess := true }) := by
  simp [opRdb, hb]

theorem opWrb_outside (hb : wrbBlock (microAddress r) = false) : opWrb false c r = (c, { r with badAccess := true }) := by
  simp [opWrb, hb]

/-- The blocks that WRB reaches lie on peripheral buses (R524). -/
theorem busTarget_wrbBlock {a : Nat} (h : wrbBlock a = true) : busTarget a = 5 ∨ busTarget a = 6 := by
  simp only [wrbBlock, Bool.or_eq_true, Bool.and_eq_true, beq_iff_eq, decide_eq_true_eq] at h
  simp only [busTarget, Bool.or_eq_true, Bool.and_eq_true, decide_eq_true_eq]
  split_ifs <;> omega

theorem masterWrite_docent {a : Nat} (v : W) (hb : wrbBlock a = true) (ha : a % 4 = 0) (hr : reachable c a = true) :
    masterWrite c 4 a 15 v = respond (lateWrite c 4 (regAddress a) v) 0 := by
  have hm : regMaster 4 = true := by decide
  rcases busTarget_wrbBlock hb with h | h <;> simp [masterWrite, noTarget, ha, hr, hm, h]

theorem opWrb_good (hb : wrbBlock (microAddress r) = true) (ha : microAddress r % 4 = 0) (hr : reachable c (microAddress r) = true) :
    opWrb false c r = (lateWrite c 4 (regAddress (microAddress r)) (reg r (mwSb r.word)), r) := by
  simp only [opWrb, hb, masterWrite_docent _ hb ha hr]
  rfl

end

/-! ### SETT (R176) -/

theorem settRow_listed {s : State} {r : Routine} (h : AtOp s r 0x0D) (hc : (aluA r).toNat ≤ 4607) :
    settRow s.chip = issued (setPend s.chip (aluA r).toNat (reg r (mwSb r.word))) r := by
  obtain ⟨hruns, hphase, hop⟩ := h
  unfold aluA at hc
  simp [settRow, withCur_runs hruns, hphase, hop, Nat.not_lt.mpr hc, aluA]

theorem settRow_unlisted {s : State} {r : Routine} (h : AtOp s r 0x0D) (hc : 4607 < (aluA r).toNat) :
    settRow s.chip = faultRoutine s.chip r := by
  obtain ⟨hruns, hphase, hop⟩ := h
  unfold aluA at hc
  simp [settRow, withCur_runs hruns, hphase, hop, hc]

theorem exec_sett_atOp {s : State} {r : Routine} {op : Nat} (h : AtOp s r op) :
    exec .sett s = .next { s with chip := settRow s.chip } := by
  obtain ⟨hruns, -⟩ := h
  rw [exec_sett, execSett, run_runs hruns]

/-- Settles O7: every word but SETT's by the rule of an op row, with the lemma that says what its operation makes of device and
routine. -/
theorem docentOperationsAct : Obligations.DocentOperationsAct := by
  unfold Obligations.DocentOperationsAct
  refine ⟨fun s r h => exec_opRow (fun c r => (c, r)) rfl h rfl, fun s r h => exec_opRow opLds rfl h rfl,
    fun s r h => exec_opRow opSts rfl h rfl, fun s r h hb hd => exec_opRow (opRdb false) rfl h (opRdb_good hb hd),
    fun s r h => exec_opRow opGetp rfl h rfl, fun s r e h he => exec_opRow opLookup rfl h (opLookup_resident he),
    fun s r h he hst hh hb => exec_opRow opLoadt rfl h (opLoadt_good he hst hh hb),
    fun s r h ht hs => exec_opRow opSwapat rfl h (schedule_swap ht hs),
    fun s r h ht hs => exec_opRow opRevert rfl h (schedule_revert ht hs), fun s r h => exec_opRow opCopyp rfl h rfl, ?sett,
    fun s r h hc => exec_opRow opShape rfl h (by rw [opShape, ← aluA, shapeSet_listed hc]),
    fun s r h => exec_opRow opShrst rfl h rfl, fun s r b h hb => exec_opRow opCollect rfl h (opCollect_step hb),
    fun s r h => exec_opRow opEpoch rfl h rfl, fun s r h => exec_opRow opEvt rfl h rfl, ?done,
    fun s r h => exec_opRow opVitrig rfl h rfl, fun s r h => exec_opRow opCharq rfl h rfl,
    fun s r h hb ha hr => exec_opRow (opWrb false) rfl h (opWrb_good hb ha hr),
    fun s r => ⟨fun h he => exec_opRow opLookup rfl h (opLookup_absent he),
      fun h he => exec_opRow opLoadt rfl h (opLoadt_notResident he),
      fun h he hst hbad => exec_opRow opLoadt rfl h (opLoadt_badCheck he hst hbad),
      fun h hno => exec_opRow opSwapat rfl h (schedule_refused false hno),
      fun h hno => exec_opRow opRevert rfl h (schedule_refused true hno), ?settFault,
      fun h hc => exec_opRow opShape rfl h (by rw [opShape, ← aluA, shapeSet_unlisted hc]),
      fun h hb => exec_opRow opCollect rfl h (opCollect_noStep hb),
      fun h hb => exec_opRow (opRdb false) rfl h (opRdb_outside hb), fun h hb => exec_opRow (opWrb false) rfl h (opWrb_outside hb)⟩⟩
  case sett =>
    intro s r h hc
    rw [exec_sett_atOp h, settRow_listed h hc]
  case done =>
    intro s r h hq hw hp hm hst
    have hdone := complete_first (c := s.chip) 0 hq hw hp hst
    rw [← hm, ← opDone_queued hq hw, hm] at hdone
    exact exec_opRow opDone rfl h hdone
  case settFault =>
    intro h hc
    rw [exec_sett_atOp h, settRow_unlisted h hc]

end Sys2Proof.Machine
end

section
/-! Fetching, ending and sequencing of microwords, and dispatch (R170, R172–R174, R179, R187, R199). -/

open Sys2Proof

namespace Sys2Proof.Machine

/-! ### Fetching (R170, R172) -/

section
variable {s : State} {r : Routine} (hr : Runs s r) (hf : r.phase = .fetch)
include hr hf

theorem microFetch_good {w : Nat} (hw : eccCheck (microAt s.chip (r.pc % 8192)) = some (w, false)) (hi : mwIntr w = false) :
    microFetch s.chip = takeWord s.chip r w := by
  simp [microFetch, withCur_runs hr, hf, hw, hi]

theorem microFetch_fatal (hw : eccCheck (microAt s.chip (r.pc % 8192)) = none) : microFetch s.chip = docFatal s.chip := by
  simp [microFetch, withCur_runs hr, hf, hw]

end

section
variable (c : Chip) (r : Routine) {w : Nat}

theorem takeWord_listed (ho : opListed (mwOp w) = true) (ha : mwOp w = 1 → mwSub w ≤ 8) :
    takeWord c r w = setCur c (some { r with word := w, phase := .issue }) := by
  unfold takeWord
  rw [if_neg]
  simpa [ho] using ha

theorem takeWord_unlisted (ho : opListed (mwOp w) = false) :
    takeWord c r w = faultRoutine c { r with word := w, phase := .issue } := by
  unfold takeWord
  rw [if_pos]
  simp [ho]

end

/-! ### The ends of a long operation and of a wait (R172) -/

section
variable {s : State} {r : Routine} (hr : Runs s r)
include hr

/-- The routine as its long operation has ended: LOADT's pin, RDB's dst. -/
theorem longEnd_good (hl : r.phase = .long) (hb : r.badAccess = false) :
    longEnd s.chip =
      let r1 := if mwOp r.word = 9 then { r with pins := [] } else r
      let r2 := if mwOp r.word = 4 then setReg r1 (mwDst r.word) r.readValue else r1
      setCur s.chip (some { r2 with phase := if mwCyc r.word = 0 then .wait else .next, waitP := s.chip.tmr.period }) := by
  have hword (q : Routine) (v : W) : (setReg q (mwDst q.word) v).word = q.word := rfl
  simp only [longEnd, withCur_runs hr, hl, hb, bne_self_eq_false, if_false, Bool.false_eq_true, period]
  by_cases h9 : mwOp r.word = 9
  · simp [h9]
  · by_cases h4 : mwOp r.word = 4 <;> simp [h9, h4, setReg]

theorem longEnd_bad (hl : r.phase = .long) (hb : r.badAccess = true) :
    longEnd s.chip = faultRoutine s.chip { r with badAccess := false } := by
  simp [longEnd, withCur_runs hr, hl, hb]

theorem waitEnd_later (hw : r.phase = .wait) (hp : s.chip.tmr.period ≠ r.waitP) :
    waitEnd s.chip = setCur s.chip (some { r with phase := .next }) := by
  simp [waitEnd, withCur_runs hr, hw, period, hp]

theorem runLimitExpiry_past (hp : fld s.chip DOC_CTL_run_limit < r.periods) :
    runLimitExpiry s.chip = faultRoutine (setB s.chip DOC_STAT_run_over true) r := by
  simp [runLimitExpiry, withCur_runs hr, hp]

end

/-! ### Next addresses (R173) -/

section
variable (c : Chip) {r : Routine}

theorem nextAddress_next (h : mwSeq r.word = 0) : nextAddress c r = goTo c r (r.pc + 1) := by
  simp [nextAddress, h]

theorem nextAddress_jump (h : mwSeq r.word = 1) : nextAddress c r = goTo c r (mwAddr r.word) := by
  simp [nextAddress, h]

theorem nextAddress_call (h : mwSeq r.word = 2) (hd : r.stack.length < 8) :
    nextAddress c r = goTo c { r with stack := (r.pc + 1) % 8192 :: r.stack } (mwAddr r.word) := by
  simp [nextAddress, h, Nat.not_le.mpr hd]

theorem nextAddress_call_full (h : mwSeq r.word = 2) (hd : 8 ≤ r.stack.length) : nextAddress c r = faultRoutine c r := by
  simp [nextAddress, h, hd]

theorem nextAddress_ret (h : mwSeq r.word = 3) {t : Nat} {rest : List Nat} (ht : r.stack = t :: rest) :
    nextAddress c r = goTo c { r with stack := rest } t := by
  simp [nextAddress, h, ht]

theorem nextAddress_ret_empty (h : mwSeq r.word = 3) (ht : r.stack = []) : nextAddress c r = faultRoutine c r := by
  simp [nextAddress, h, ht]

theorem nextAddress_brt (h : mwSeq r.word = 4) :
    nextAddress c r = goTo c r (if condTrue c r (mwCond r.word) then mwAddr r.word else r.pc + 1) := by
  simp [nextAddress, h]

theorem nextAddress_brf (h : mwSeq r.word = 5) :
    nextAddress c r = goTo c r (if condTrue c r (mwCond r.word) then r.pc + 1 else mwAddr r.word) := by
  simp [nextAddress, h]

theorem nextAddress_halt (h : mwSeq r.word = 7) : nextAddress c r = endRoutine c r 1 0 (bMoved r) := by
  simp [nextAddress, h, halt]

end

/-! ### Dispatch (R179, R187) -/

section
variable {s : State} (hgoing : docStopped s.chip = false) (hnone : s.chip.doc.cur = none)
include hgoing hnone

theorem dispatchRow_idle : dispatchRow s.chip = dispatchNext s.chip := by
  simp [dispatchRow, hgoing, hnone]

theorem idlePass_noUrgent (hu : nextUrgent s.chip = none) : idlePass s.chip = dispatchNext s.chip := by
  simp [idlePass, hgoing, hnone, hu]

end

/-- The head of the queues has a valid entry: its routine starts at the entry's address (R175, R179). -/
theorem dispatchNext_valid {c d : Chip} {x : DocCmd} (hh : c.doc.csHold = false) (hp : popCommand c = some (x, d))
    (hop : 16 ≤ wbits x.w0 24 8) (hv : entryValid d (wbits x.w0 24 8) = true) :
    dispatchNext c = setCur d (some (freshRoutine d (wbits x.w0 24 8) x)) := by
  simp [dispatchNext, hh, hp, hv, Nat.not_lt.mpr hop]

/-- Settles O8: each fetch, end and next address by the lemma of its case, dispatch by the head of the queues. -/
theorem microwordsAreFetchedAndSequenced : Obligations.MicrowordsAreFetchedAndSequenced := by
  unfold Obligations.MicrowordsAreFetchedAndSequenced
  refine ⟨?fetch, ?longEnd, ?waitEnd, fun s r h => exec_seqRow rfl h (nextAddress_next _),
    fun s r h => exec_seqRow rfl h (nextAddress_jump _), fun s r h hd => exec_seqRow rfl h (nextAddress_call _ · hd),
    fun s r t rest h ht => exec_seqRow rfl h (nextAddress_ret _ · ht),
    fun s r => ⟨fun h hd => exec_seqRow rfl h (nextAddress_call_full _ · hd),
      fun h ht => exec_seqRow rfl h (nextAddress_ret_empty _ · ht), ?badAccess, ?fatal, ?unlisted⟩,
    fun s r h => exec_seqRow rfl h (nextAddress_brt _), fun s r h => exec_seqRow rfl h (nextAddress_brf _),
    fun s r h => exec_seqRow rfl h (nextAddress_halt _), ?dispatch, ?resetEntry, ?runLimit⟩
  case fetch =>
    intro s r w hr hf hw hi ho ha
    rw [exec_microwordFetch, execMicrowordFetch, run_runs hr, microFetch_good hr hf hw hi, takeWord_listed _ _ ho ha]
  case longEnd =>
    intro s r hr hl hb
    rw [exec_longOpEnd, execLongOpEnd, run_runs hr, longEnd_good hr hl hb]
  case waitEnd =>
    intro s r hr hw hp
    rw [exec_periodWaitEnd, execPeriodWaitEnd, run_runs hr, waitEnd_later hr hw hp]
  case badAccess =>
    intro hr hl hb
    rw [exec_longOpEnd, execLongOpEnd, run_runs hr, longEnd_bad hr hl hb]
  case fatal =>
    intro hr hf hw
    rw [exec_microwordFetch, execMicrowordFetch, run_runs hr, microFetch_fatal hr hf hw]
  case unlisted =>
    intro w hr hf hw hi ho
    rw [exec_microwordFetch, execMicrowordFetch, run_runs hr, microFetch_good hr hf hw hi, takeWord_unlisted _ _ ho]
  case dispatch =>
    intro s d c hs hgoing hnone hh hp hop hv
    refine ⟨?_, fun hu => ?_⟩
    · rw [exec_dispatchCmd, execDispatchCmd, run_live s _ hs, dispatchRow_idle hgoing hnone, dispatchNext_valid hh hp hop hv]
    · rw [exec_idleLoop, execIdleLoop, run_live s _ hs, idlePass_noUrgent hgoing hnone hu, dispatchNext_valid hh hp hop hv]
  case resetEntry =>
    intro s hs hgoing he
    rw [exec_resetEntry, execResetEntry, run_live s _ hs]
    simp [resetEntry, he, hgoing]
  case runLimit =>
    intro s r hr hp
    rw [exec_runLimitExpiry, execRunLimitExpiry, run_runs hr, runLimitExpiry_past hr hp]

end Sys2Proof.Machine
end

section
/-! Fabric-wide mode changes (R147, R193–R198, R207). -/

open Sys2Proof

namespace Sys2Proof.Machine

theorem fld_congr {c d : Chip} (h : d.regs = c.regs) (f : Fld) : fld d f = fld c f := by
  unfold fld rd
  rw [h]

/-- A flag that reads 0 is clear. -/
theorem fldB_of_fld_zero {c : Chip} {f : Fld} (h : fld c f = 0) : fldB c f = false := by
  unfold fldB
  rw [h]
  rfl

section
variable {c : Chip} {mode lead : Nat} {q : W}

theorem epochLead_eq (l : Nat) : epochLead l = max 8 (min 255 l) := by
  unfold epochLead clampN
  split_ifs <;> omega

/-- An accepted request prepares the next generation's byte for Q and C (R194, R195). -/
theorem epochRequest_accepted (h : epochReason c mode = 0) :
    epochRequest c mode lead q =
      modEpoch (setFld (setB c DOC_EPOCH_STAT_preparing true) DOC_EPOCH_STAT_pending
        ((fld c DOC_EPOCH_STAT_epoch / 4 + 1) % 64 * 4 + mode)) (fun e => { e with
          q := q, c := q + toW (max 8 (min 255 lead)), started := false, parts := [], acks := [], gone := [], peerAcks := [],
          decided := none }) := by
  simp only [epochRequest, h, if_true, epochLead_eq]

/-- A refused request shows result 3 and its reason (R194, R207). -/
theorem epochRequest_refused (h : epochReason c mode ≠ 0) :
    epochRequest c mode lead q =
      raise (setFld (setFld c DOC_EPOCH_STAT_result 3) DOC_EPOCH_STAT_reason (epochReason c mode)) srcDOC_CMD_REJECT 0 := by
  simp only [epochRequest, h, if_false]

end

section
variable {c : Chip} {v : W} (hr : reachable c DOC_EPOCH_REQ = true) (hs : Single c)
include hr hs

theorem epochWrite_accepted (h : epochReason c (wbits v 0 2) = 0) :
    epochWrite c v = epochRequest c (wbits v 0 2) (wbits v 8 8) (eSingle c) := by
  obtain ⟨h1, h2, h3, h4⟩ := hs
  exact hostChangeIf_taken c _ v _ _ hr h1 h2 h3 h4 (if_pos h)

theorem epochWrite_refused (h : epochReason c (wbits v 0 2) ≠ 0) :
    epochWrite c v = setB (epochRequest c (wbits v 0 2) (wbits v 8 8) (period c)) DOC_STAT_cmd_reject true := by
  obtain ⟨h1, h2, h3, h4⟩ := hs
  exact hostChangeIf_refused c _ v _ _ _ hr h1 h2 h3 h4 (if_neg h)

end

theorem exec_docEpochReq_live {s : State} (hs : s.held = none) (v : W) :
    exec (.docEpochReq v) s = .next { s with chip := epochWrite s.chip v } := by
  rw [exec_docEpochReq, execDocEpochReq, run_live s _ hs]

/-! ### The decision of C − 1 (R195) -/

/-- DOC_EPOCH_STAT and DOC_EPOCH_MISS show a withdrawal with the data `d` (R195, R207). -/
def showWithdrawn (c : Chip) (d : W) : Chip :=
  wr (setFld (setB (setFld c DOC_EPOCH_STAT_result 2) DOC_EPOCH_STAT_preparing false) DOC_EPOCH_STAT_missing (wbits d 24 8))
    DOC_EPOCH_MISS (toW (2 ^ 31 + wbits d 8 1 * 2 ^ 30 + wbits d 0 8))

/-- The device after the change that prepares is withdrawn with the data `d` (R195). -/
def epochWithdrawn (c : Chip) (d : W) : Chip :=
  ledgerDetail (raise (showWithdrawn (modEpoch c (fun e => { e with started := false, withdrawn := some e.c })) d)
    srcEPOCH_WITHDRAW d) srcEPOCH_WITHDRAW (beBytes 4 d.toNat)

section
variable {c : Chip} (hbusy : epochBusy c = true) (hstarted : c.doc.epoch.started = true)
  (hopen : c.doc.epoch.decided = none) (hdue : due c (c.doc.epoch.c - 1) = true)
include hbusy hstarted hopen hdue

theorem epochDecide_committed (hm : epochMissing c = []) :
    epochDecide c = modEpoch c (fun e => { e with decided := some true }) := by
  simp only [epochDecide, hbusy, hstarted, hopen, hdue, hm, Option.isNone_none, List.isEmpty_nil, Bool.and_self, if_true]

theorem epochDecide_withdrawn (hm : epochMissing c ≠ []) :
    epochDecide c = epochWithdrawn c (withdrawData (epochMissing c)) := by
  simp only [epochDecide, hbusy, hstarted, hopen, hdue, List.isEmpty_eq_false_iff.mpr hm, Option.isNone_none, Bool.and_self,
    if_true, Bool.false_eq_true, if_false]
  rfl

end

section
variable (c : Chip)

/-- A DETAIL record changes no register but LDG_SEQ. -/
theorem fld_ledgerDetail (n : Nat) (l : List Byte) {f : Fld} (hf : LDG_SEQ ≠ f.addr) : fld (ledgerDetail c n l) f = fld c f :=
  fld_wr_other _ _ hf

theorem fld_modEpoch (g : Epoch → Epoch) (f : Fld) : fld (modEpoch c g) f = fld c f := rfl

theorem modEpoch_lpe (g : Epoch → Epoch) : (modEpoch c g).lpe = c.lpe := rfl

theorem fld_epochWithdrawn (d : W) {f : Fld} (hf : LDG_SEQ ≠ f.addr) :
    fld (epochWithdrawn c d) f = fld (showWithdrawn (modEpoch c (fun e => { e with started := false, withdrawn := some e.c })) d) f := by
  unfold epochWithdrawn
  rw [fld_ledgerDetail _ _ _ hf, fld_raise]

theorem epochWithdrawn_lpe (d : W) : (epochWithdrawn c d).lpe = c.lpe := by
  rw [epochWithdrawn, ledgerDetail, ledgerPut_lpe, raise_lpe, showWithdrawn, wr_lpe, setFld_lpe, setB_lpe, setFld_lpe, modEpoch_lpe]

/-- EPOCH_WITHDRAW is raised with the data. -/
theorem epochWithdrawn_raised (d : W) :
    (epochWithdrawn c d).att.raised.any (fun o => o.src == srcEPOCH_WITHDRAW && o.data == d) = true := by
  simp [epochWithdrawn, ledgerDetail]

theorem fld_showWithdrawn_preparing (d : W) : fld (showWithdrawn c d) DOC_EPOCH_STAT_preparing = 0 := by
  unfold showWithdrawn
  rw [fld_wr_other _ _ (by decide), fld_setFld_other _ _ (by rfl) (by decide) (by decide), setB,
    fld_setFld_same _ _ _ (by decide)]
  rfl

theorem fld_showWithdrawn_result (d : W) : fld (showWithdrawn c d) DOC_EPOCH_STAT_result = 2 := by
  unfold showWithdrawn
  rw [fld_wr_other _ _ (by decide), fld_setFld_other _ _ (by rfl) (by decide) (by decide), setB,
    fld_setFld_other _ _ (by rfl) (by decide) (by decide), fld_setFld_same _ _ _ (by decide)]
  rfl

theorem fld_showWithdrawn_epoch (d : W) : fld (showWithdrawn c d) DOC_EPOCH_STAT_epoch = fld c DOC_EPOCH_STAT_epoch := by
  unfold showWithdrawn
  rw [fld_wr_other _ _ (by decide), fld_setFld_other _ _ (by rfl) (by decide) (by decide), setB,
    fld_setFld_other _ _ (by rfl) (by decide) (by decide), fld_setFld_other _ _ (by rfl) (by decide) (by decide)]

/-! ### The commit of C (R147, R193, R195) -/

/-- DOC_EPOCH_STAT shows that the pending byte is in force. -/
def showCommitted (c : Chip) : Chip :=
  setFld (setFld (setB c DOC_EPOCH_STAT_preparing false) DOC_EPOCH_STAT_epoch (fld c DOC_EPOCH_STAT_pending))
    DOC_EPOCH_STAT_result 1

theorem fld_showCommitted_preparing : fld (showCommitted c) DOC_EPOCH_STAT_preparing = 0 := by
  unfold showCommitted
  rw [fld_setFld_other _ _ (by rfl) (by decide) (by decide), fld_setFld_other _ _ (by rfl) (by decide) (by decide), setB,
    fld_setFld_same _ _ _ (by decide)]
  rfl

theorem fld_showCommitted_epoch : fld (showCommitted c) DOC_EPOCH_STAT_epoch = fld c DOC_EPOCH_STAT_pending := by
  unfold showCommitted
  rw [fld_setFld_other _ _ (by rfl) (by decide) (by decide), fld_setFld_same _ _ _ (by decide)]
  exact Nat.mod_eq_of_lt (bitsAt_lt _ _ _)

theorem fld_showCommitted_result : fld (showCommitted c) DOC_EPOCH_STAT_result = 1 := by
  unfold showCommitted
  rw [fld_setFld_same _ _ _ (by decide)]
  rfl

theorem showCommitted_others : (showCommitted c).lpe = c.lpe ∧ (showCommitted c).tmr = c.tmr ∧ (showCommitted c).ngl = c.ngl := by
  unfold showCommitted
  exact ⟨by rw [setFld_lpe, setFld_lpe, setB_lpe], by rw [setFld_tmr, setFld_tmr, setB_tmr], by rw [setFld_ngl, setFld_ngl, setB_ngl]⟩

/-- At C the epoch unit takes note of the byte in force before, the next computation of the mode of the new one. -/
def commitByte (old byte : Nat) : Chip :=
  let d := modEpoch c (fun e => { e with started := false, decided := none, last := some (e.c, old), behind := [] })
  { d with lpe := { d.lpe with epochNow := some (byte % 4) } }

theorem commitByte_regs (old byte : Nat) : (commitByte c old byte).regs = c.regs := rfl

theorem commitByte_lpe (old byte : Nat) : (commitByte c old byte).lpe = { c.lpe with epochNow := some (byte % 4) } := rfl

theorem commitByte_others (old byte : Nat) : (commitByte c old byte).doc.epoch.decided = none
    ∧ (commitByte c old byte).tmr = c.tmr ∧ (commitByte c old byte).ngl = c.ngl := ⟨rfl, rfl, rfl⟩

/-- The device after the commit. -/
def epochCommitted (c : Chip) : Chip :=
  commitByte (showCommitted c) (fld c DOC_EPOCH_STAT_epoch) (fld c DOC_EPOCH_STAT_pending)

theorem fld_epochCommitted (f : Fld) : fld (epochCommitted c) f = fld (showCommitted c) f :=
  fld_congr (commitByte_regs _ _ _) f

variable {c}

theorem epochCommit_due (hbusy : epochBusy c = true) (hdec : c.doc.epoch.decided = some true)
    (hdue : due c c.doc.epoch.c = true) : epochCommit c = epochCommitted c := by
  simp only [epochCommit, hbusy, hdec, hdue, Bool.and_self, decide_true, if_true]
  rfl

end

theorem epochStray_behind {c : Chip} {t : Nat} {b : W} {old : Nat} (hlast : c.doc.epoch.last = some (b, old))
    (ht : t ∈ c.doc.epoch.behind) (hdue : due c (b + 64) = true) (hserv : linkState c t = 6) (hheld : linkHeld c = false) :
    epochStray c t = failLink (raise (modEpoch c (fun e => { e with behind := e.behind.erase t })) srcEPOCH_STRAY 0) t 7 := by
  simp only [epochStray, stepFrom, hlast, List.contains_iff_mem.mpr ht, hdue, hserv, hheld, Bool.and_self, Bool.not_false,
    decide_true, if_true]

/-- Settles O11: the request by its two answers, the decision and the commit by what they show in DOC_EPOCH_STAT. -/
theorem modeChangesPrepareAndCommit : Obligations.ModeChangesPrepareAndCommit := by
  unfold Obligations.ModeChangesPrepareAndCommit
  refine ⟨?accepted, ?refused, ?prepare, ?decided, ?withdrawn, ?commit, ?stray⟩
  case accepted =>
    rintro s v ⟨hs, hr, hone⟩ hreason
    rw [exec_docEpochReq_live hs, epochWrite_accepted hr hone hreason, epochRequest_accepted hreason]
    rfl
  case refused =>
    rintro s v ⟨hs, hr, hone⟩ hreason
    rw [exec_docEpochReq_live hs, epochWrite_refused hr hone hreason, epochRequest_refused hreason]
  case prepare =>
    intro s hs hbusy hstarted hdue
    rw [exec_epochPrepare, execEpochPrepare, run_live s _ hs]
    simp [epochPrepare, modEpoch, hbusy, hstarted, hdue]
  case decided =>
    intro s hs hbusy hstarted hopen hdue hm
    rw [exec_epochDecide, execEpochDecide, run_live s _ hs, epochDecide_committed hbusy hstarted hopen hdue hm]
    rfl
  case withdrawn =>
    intro s hs hbusy hstarted hopen hdue hm
    refine ⟨epochWithdrawn s.chip (withdrawData (epochMissing s.chip)), ?_, ?_, ?_, ?_, epochWithdrawn_lpe _ _,
      epochWithdrawn_raised _ _⟩
    · rw [exec_epochDecide, execEpochDecide, run_live s _ hs, epochDecide_withdrawn hbusy hstarted hopen hdue hm]
    · exact fldB_of_fld_zero ((fld_epochWithdrawn _ _ (by decide)).trans (fld_showWithdrawn_preparing _ _))
    · exact (fld_epochWithdrawn _ _ (by decide)).trans (fld_showWithdrawn_result _ _)
    · exact (fld_epochWithdrawn _ _ (by decide)).trans (fld_showWithdrawn_epoch _ _)
  case commit =>
    intro s hs hbusy hdec hdue
    obtain ⟨hlpe, htmr, hngl⟩ := showCommitted_others s.chip
    obtain ⟨hdecided, htmr', hngl'⟩ :=
      commitByte_others (showCommitted s.chip) (fld s.chip DOC_EPOCH_STAT_epoch) (fld s.chip DOC_EPOCH_STAT_pending)
    refine ⟨epochCommitted s.chip, ?_, ?_, ?_, ?_, ?_, hdecided, htmr'.trans htmr, hngl'.trans hngl⟩
    · rw [exec_epochCommit, execEpochCommit, run_live s _ hs, epochCommit_due hbusy hdec hdue]
    · exact fldB_of_fld_zero ((fld_epochCommitted _ _).trans (fld_showCommitted_preparing _))
    · exact (fld_epochCommitted _ _).trans (fld_showCommitted_epoch _)
    · exact (fld_epochCommitted _ _).trans (fld_showCommitted_result _)
    · rw [epochCommitted, commitByte_lpe, hlpe]
  case stray =>
    intro s t b old hs hlast ht hdue hserv hheld
    rw [exec_epochStray, execEpochStray, run_live s _ hs, epochStray_behind hlast ht hdue hserv hheld]
    rfl

end Sys2Proof.Machine
end

section
/-! The Docent's host interface on a single device (R164, R165, R179, R186, R189, R191, R192, R199, R204). -/

open Sys2Proof

namespace Sys2Proof.Machine

/-! ### Commands, urgent requests and aborts -/

section
variable {c : Chip} (v : W) (hs : Single c)
include hs

theorem docCmdWrite_taken (hr : reachable c (DOC_CMD 3) = true) (hen : fldB c DOC_CTL_host_en = true) (hq : hostQueued c < 8) :
    docCmdWrite c v =
      { wr c (DOC_CMD 3) v with doc := { (wr c (DOC_CMD 3) v).doc with
        serial := c.doc.serial + 1
        incoming := c.doc.incoming
          ++ [(⟨written c (DOC_CMD 0), written c (DOC_CMD 1), written c (DOC_CMD 2), v, 0, c.doc.serial⟩, eSingle c)] } } := by
  obtain ⟨h1, h2, h3, h4⟩ := hs
  unfold docCmdWrite
  rw [hostChangeIf_taken c _ v _ _ hr h1 h2 h3 h4 (by simp [hen, hq])]
  rfl

theorem docCmdWrite_refused (hr : reachable c (DOC_CMD 3) = true) (hno : fldB c DOC_CTL_host_en = false ∨ 8 ≤ hostQueued c) :
    docCmdWrite c v = docReject (wr c (DOC_CMD 3) v) := by
  obtain ⟨h1, h2, h3, h4⟩ := hs
  refine hostChangeIf_refused c _ v _ _ _ hr h1 h2 h3 h4 (if_pos ?_)
  rcases hno with h | h <;> simp [h]

theorem docUrgWrite_valid (hr : reachable c DOC_URG = true) (hv : urgentValid c (wbits v 0 8) = true) :
    docUrgWrite c v = urgentWait c (wbits v 0 8) (eSingle c) := by
  obtain ⟨h1, h2, h3, h4⟩ := hs
  simp only [docUrgWrite, hr, hv, Bool.not_true, Bool.and_false, Bool.false_and, Bool.false_eq_true, if_false]
  rw [hostWrite_reach c _ _ hr, stateChangeAs_single c _ _ _ h1 h2 h3 h4]
  rfl

theorem docUrgWrite_invalid (hr : reachable c DOC_URG = true) (hv : urgentValid c (wbits v 0 8) = false) :
    docUrgWrite c v = docReject c := by
  obtain ⟨h1, -⟩ := hs
  simp [docUrgWrite, hr, hv, holdsLoan, h1]

theorem docAbortWrite_second (hr : reachable c DOC_ABORT = true) (ha : c.doc.abort ≠ none) : docAbortWrite c v = docReject c := by
  obtain ⟨h1, h2, h3, h4⟩ := hs
  exact hostChangeIf_refused c _ v _ _ _ hr h1 h2 h3 h4 (if_pos (Option.isSome_iff_ne_none.mpr ha))

/-- DOC_CUST_CTL has no effective period of its own. -/
theorem custWrite_taken (hr : reachable c DOC_CUST_CTL = true) : custWrite c v = custStore c v := by
  obtain ⟨h1, h2, h3, h4⟩ := hs
  exact hostChangeNow_single c _ v _ hr h1 h2 h3 h4

theorem csWrite_taken {off : Nat} (hr : reachable c (0x2000000 + off) = true) : csWrite c off v = csStore c off v := by
  obtain ⟨h1, h2, h3, h4⟩ := hs
  exact hostChangeNow_single c _ v _ hr h1 h2 h3 h4

end

section
variable {c : Chip}

theorem enqueueCmd_host {x : DocCmd} (hsrc : x.source = 0) (hop : wbits x.w0 24 8 < 0xC0) :
    enqueueCmd c x = showDoc { c with doc := { c.doc with hostQ := c.doc.hostQ ++ [x] } } := by
  simp [enqueueCmd, isCustomer, hsrc, Nat.not_le.mpr hop]

theorem docCmdEnqueue_one {x : DocCmd} {e : W} (h : c.doc.incoming = [(x, e)]) (he : due c e = true) :
    docCmdEnqueue c = enqueueCmd { c with doc := { c.doc with incoming := [] } } x := by
  simp [docCmdEnqueue, h, he]

theorem urgPending_one {op : Nat} {e : W} (h : c.doc.urgWait = [(op, e)]) (he : due c e = true) :
    urgPending c = { c with doc := { c.doc with urgWait := [], urgPend := c.doc.urgPend ++ [(op, c.tmr.period)] } } := by
  simp [urgPending, period, h, he]

theorem docUrgLate_one {op : Nat} {p : W} (h : c.doc.urgPend = [(op, p)]) (hlate : 16 < pdiff c.tmr.period p)
    (hnew : (op, p) ∉ c.doc.urgTold) :
    docUrgLate c = raise { c with doc := { c.doc with urgTold := c.doc.urgTold ++ [(op, p)] } } srcDOC_URG_LATE 0 := by
  simp [docUrgLate, period, h, hlate, hnew]

/-- With no routine running, an abort by tag resolves to the first queued command of its tag (R191). -/
theorem abortResolve_queued {a : DocAbort} {x : DocCmd} (ha : c.doc.abort = some a) (hdue : due c a.e = true)
    (htag : wbit a.word 31 = false) (hcur : c.doc.cur = none) (hsaved : c.doc.saved = none)
    (hx : (queuedCommands c).find? (hasTag a.word) = some x) :
    abortResolve c = abortQueued (setB { c with doc := { c.doc with abort := none } } DOC_STAT_abort_busy false) x := by
  have hq : queuedCommands (setB { c with doc := { c.doc with abort := none } } DOC_STAT_abort_busy false) = queuedCommands c := by
    rw [queuedCommands, setB_doc]
    rfl
  have hrun : runningCommand (setB { c with doc := { c.doc with abort := none } } DOC_STAT_abort_busy false) = none := by
    rw [runningCommand, setB_doc]
    simp only [hcur, hsaved]
  simp only [abortResolve, ha, hdue, htag, hq, hrun, hx, if_true, Bool.false_eq_true, if_false]

/-! ### Swaps (R164, R165) -/

theorem targetSwap_due {b : W} {n : Nat} (h : c.doc.sched = some ⟨false, b, n⟩) (hdue : due c b = true)
    (hp : c.lpe.pendEmpty = false) :
    targetSwap c = markSwapped (swapTargets { c with doc := { c.doc with sched := none } }) n := by
  simp [targetSwap, h, hdue, hp]

theorem targetRevert_due {b : W} {n : Nat} (h : c.doc.sched = some ⟨true, b, n⟩) (hdue : due c b = true) :
    targetRevert c = revertTargets { c with doc := { c.doc with sched := none } } := by
  simp [targetRevert, h, hdue]

theorem swapTargets_lpe : (swapTargets c).lpe = { c.lpe with
    entry := c.lpe.force, entryId := c.lpe.forceId, force := c.lpe.pend, forceId := c.lpe.pendId, pend := [], pendId := 0xFFFF,
    pendEmpty := true, newStep := some (c.tmr.period + 1) } := rfl

theorem revertTargets_lpe : (revertTargets c).lpe = { c.lpe with
    force := c.lpe.entry, forceId := c.lpe.entryId, pend := [], pendId := 0xFFFF, pendEmpty := true,
    newStep := some (c.tmr.period + 1) } := rfl

theorem markSwapped_lpe (n : Nat) : (markSwapped c n).lpe = c.lpe := rfl

theorem markSwapped_sched (n : Nat) : (markSwapped c n).doc.sched = c.doc.sched := rfl

/-! ### Customer recipes (R199, R200) -/

theorem custStore_load {v : W} (hl : wbit v 0 = true) (hno : wbit v 1 = false ∨ fldB c DOC_CUST_CTL_load = false) :
    custStore c v = { c with doc := { c.doc with custWait := c.doc.custWait || !fldB c DOC_CUST_CTL_load } } := by
  unfold custStore
  rw [if_neg, if_pos hl]
  rcases hno with h | h <;> simp [h]

theorem custStore_commit {v : W} (hv : wbit v 1 = true) (hl : fldB c DOC_CUST_CTL_load = true) :
    custStore c v = setFld c DOC_CUST_STAT_result 3 := by
  simp [custStore, hv, hl]

theorem custStore_withdraw {v : W} (hv : wbit v 0 = false) (hl : fldB c DOC_CUST_CTL_load = false) :
    custStore c v = setB { c with doc := { c.doc with custWait := false } } DOC_CUST_CTL_load false := by
  simp [custStore, hv, hl]

/-- CUST_COMMIT writes the word with commit set. -/
theorem wbit_commit (v : W) : wbit (v ||| 2) 1 = true ∧ wbit (v ||| 2) 0 = wbit v 0 := by
  have h : wbit 2 1 = true ∧ wbit 2 0 = false := by decide
  rw [wbit_or, wbit_or, h.1, h.2, Bool.or_true, Bool.or_false]
  exact ⟨rfl, rfl⟩

theorem queues_nil (h : queuedCommands c = []) :
    c.doc.prgQ = [] ∧ c.doc.curQ = [] ∧ c.doc.hostQ = [] ∧ c.doc.cnsQ = [] := by
  simpa [queuedCommands, and_assoc] using h

theorem custOpen_empty (hw : c.doc.custWait = true) (hr : customerRuns c = false) (hq : queuedCommands c = []) :
    custOpen c = showDoc (setB { c with doc := { c.doc with custWait := false, prgQ := [], curQ := [], hostQ := [], cnsQ := [] } }
      DOC_CUST_CTL_load true) := by
  obtain ⟨hprg, hcur, hhost, hcns⟩ := queues_nil hq
  simp [custOpen, hw, hr, hq, hprg, hcur, hhost, hcns]

theorem csStore_customer {off : Nat} (v : W) (hoff : off < 0x20000) (hreg : 0x18000 ≤ off) (hl : fldB c DOC_CUST_CTL_load = true) :
    csStore c off v = csPut c (off / 4) v := by
  have h1 : off / 16 < 0x2000 := by omega
  have h2 : 0x1800 ≤ off / 16 := by omega
  simp [csStore, h1, h2, hl]

theorem docDonePop_cons {x : DoneRec} {l : List DoneRec} (hr : reachable c DOC_DONE0 = true) (h : c.doc.done = x :: l) :
    docDonePop c = answer (wr (showDone { c with doc := { c.doc with done := l } }) DOC_DONE1
      (toW (b2n x.bMoved * 2 ^ 31 + b2n x.partial_ * 2 ^ 30 + x.roll * 2 ^ 28 + x.abortRes * 2 ^ 26 + x.stepTag))) x.word := by
  unfold docDonePop
  rw [hostRead_reach c _ _ hr]
  simp only [h]

end

/-- Settles O10: each request on a single device by what its write, its E or its read does. -/
theorem docentRequestsWaitAndAct : Obligations.DocentRequestsWaitAndAct := by
  unfold Obligations.DocentRequestsWaitAndAct
  refine ⟨?cmdWrite, ?enqueue, ?urgent, fun s v => ⟨?urgentInvalid, ?abortSecond⟩, ?pending, ?late, ?abort, ?resolve, ?swap, ?revert,
    ?load, ?commit, ?openRegion, ?storeWrite, ?checkDone, ?donePop⟩
  case cmdWrite =>
    rintro s v ⟨hs, hr, hone⟩
    refine ⟨fun hen hq => ?_, fun hno => ?_⟩
    · rw [exec_docCmdWrite, execDocCmdWrite, run_live s _ hs, docCmdWrite_taken v hone hr hen hq]
    · rw [exec_docCmdWrite, execDocCmdWrite, run_live s _ hs, docCmdWrite_refused v hone hr hno]
      rfl
  case enqueue =>
    intro s x e hs h he hsrc hop
    rw [exec_docCmdEnqueue, execDocCmdEnqueue, run_live s _ hs, docCmdEnqueue_one h he, enqueueCmd_host hsrc hop]
  case urgent =>
    rintro s v ⟨hs, hr, hone⟩ hv
    rw [exec_docUrgWrite, execDocUrgWrite, run_live s _ hs, docUrgWrite_valid v hone hr hv]
  case urgentInvalid =>
    rintro ⟨hs, hr, hone⟩ hv
    rw [exec_docUrgWrite, execDocUrgWrite, run_live s _ hs, docUrgWrite_invalid v hone hr hv]
    rfl
  case abortSecond =>
    rintro ⟨hs, hr, hone⟩ ha
    rw [exec_docAbort, execDocAbort, run_live s _ hs, docAbortWrite_second v hone hr ha]
    rfl
  case pending =>
    intro s op e hs h he
    rw [exec_urgPending, execUrgPending, run_live s _ hs, urgPending_one h he]
  case late =>
    intro s op p hs h hlate hnew
    rw [exec_docUrgLate, execDocUrgLate, run_live s _ hs, docUrgLate_one h hlate hnew]
  case abort =>
    rintro s v ⟨hs, hr, h1, h2, h3, h4⟩ ha
    rw [exec_docAbort, execDocAbort, run_live s _ hs, docAbortWrite, hostChangeIf_taken s.chip _ v _ _ hr h1 h2 h3 h4 (by simp [ha])]
    rfl
  case resolve =>
    intro s a x hs ha hdue htag hcur hsaved hx
    rw [exec_abortResolve, execAbortResolve, run_live s _ hs, abortResolve_queued ha hdue htag hcur hsaved hx]
  case swap =>
    intro s b n hs h hdue hp
    refine ⟨_, by rw [exec_targetSwap, execTargetSwap, run_live s _ hs, targetSwap_due h hdue hp], ?_⟩
    rw [markSwapped_sched, markSwapped_lpe, swapTargets_lpe]
    exact ⟨rfl, rfl, rfl, rfl, rfl, rfl, rfl, rfl⟩
  case revert =>
    intro s b n hs h hdue
    refine ⟨_, by rw [exec_targetRevert, execTargetRevert, run_live s _ hs, targetRevert_due h hdue], ?_⟩
    rw [revertTargets_lpe]
    exact ⟨rfl, rfl, rfl, rfl, rfl, rfl, rfl⟩
  case load =>
    rintro s v ⟨hs, hr, hone⟩ hno
    obtain ⟨h0, hother⟩ := wbit_go v
    have h1 : wbit (v ||| 1) 1 = wbit v 1 := hother 0
    rw [exec_custLoad, execCustLoad, run_live s _ hs, custWrite_taken _ hone hr, custStore_load h0 (h1 ▸ hno)]
  case commit =>
    rintro s v ⟨hs, hr, hone⟩
    obtain ⟨h1, h0⟩ := wbit_commit v
    refine ⟨fun hl => ?_, fun hl hv => ?_⟩
    · rw [exec_custCommit, execCustCommit, run_live s _ hs, custWrite_taken _ hone hr, custStore_commit h1 hl]
    · rw [exec_custCommit, execCustCommit, run_live s _ hs, custWrite_taken _ hone hr, custStore_withdraw (h0.trans hv) hl]
  case openRegion =>
    intro s hs hw hr hq
    rw [exec_custRegionOpen, execCustRegionOpen, run_live s _ hs, custOpen_empty hw hr hq]
  case storeWrite =>
    rintro s off v ⟨hs, hr, hone⟩ hl hreg
    rw [exec_controlStoreWrite, execControlStoreWrite, run_live s _ hs, csWrite_taken v hone hr,
      csStore_customer v off.isLt hreg hl]
  case checkDone =>
    intro s hs h
    rw [exec_custCheckDone, execCustCheckDone, run_live s _ hs, custDone, if_pos h]
    rcases custCheck s.chip with _ | ⟨k, a⟩ <;> rfl
  case donePop =>
    rintro s x l ⟨hs, hr⟩ h
    rw [exec_docDonePop, execDocDonePop, run_live s _ hs, docDonePop_cons hr h]
    rfl

end Sys2Proof.Machine
end

section
/-! The vendor routines (R184, R185): the statement of APPLY's run leaves the flag of a failed access free. -/

open Sys2Proof

namespace Sys2Proof.Machine

/-- APPLY of the arrangement 0 with asap, dispatched at 0x100, with the flag of a failed access set though it has made none. -/
def flaggedApply : Routine :=
  { freshRoutine Chip.reset 0x10 ⟨0x10000000, 0x10000, 0, 0, 0, 0⟩ with badAccess := true }

/-- The device right after reset but that routine runs and cache entry 0 is RESIDENT; the check words of its empty content
hold. -/
def runsFlaggedApply : State :=
  { State.reset with chip := { Chip.reset with
      doc := { Doc.reset with cur := some flaggedApply }
      ars := { Ars.reset with cache := [(0, ⟨2, false, 0, []⟩)] } } }

theorem runs_flaggedApply : Runs runsFlaggedApply flaggedApply := by decide

theorem epochHold_flagged : epochHold runsFlaggedApply.chip = false := by decide

/-- LOADT's end reads the flag as a failed access (R177): the routine ends with FAULT, before its SWAPAT. -/
theorem applyRoutine_flagged : (applyRoutine runsFlaggedApply.chip).doc.cur = none := rfl

/-- Refutes O9: `flaggedApply` meets every hypothesis of the clause of APPLY, but ends with FAULT at its LOADT, so it does not
wait at 0x10C. -/
theorem not_vendorRoutinesAct : ¬ Obligations.VendorRoutinesAct := by
  unfold Obligations.VendorRoutinesAct
  rintro ⟨-, -, -, -, -, -, -, -, -, happly⟩
  obtain ⟨d, q, hexec, -, -, -, -, -, hcur, -⟩ := happly runsFlaggedApply flaggedApply 0 runs_flaggedApply rfl (by decide) rfl
    (by decide) rfl rfl epochHold_flagged rfl (by decide) rfl rfl (by decide) (by decide) rfl (by decide) (by decide)
  rw [exec_apply, execApply, run_live runsFlaggedApply _ rfl] at hexec
  injection hexec with hstate
  injection hstate with _ _ hchip
  rw [← hchip, applyRoutine_flagged] at hcur
  cases hcur

end Sys2Proof.Machine
end

section
/-! The arrangement store and the pager (R217–R228, R248): commands wait for P + 2 on a single device, act at E, and the pager fills,
copies and tells what is late. -/

open Sys2Proof

namespace Sys2Proof.Machine

/-! ### The write of a command (R218, R248) -/

theorem arsCode_withArsCode (w : W) {k : Nat} (h : k < 16) : arsCode (withArsCode w k) = k := by
  rw [arsCode, withArsCode, wbits_putField_same w 28 4 k (by decide)]
  exact Nat.mod_eq_of_lt h

section
variable {c : Chip} (w : W) (hr : reachable c ARS_CMD = true) (hs : Single c)
include hr hs

theorem arsWrite_taken (hbusy : fldB c ARS_STAT_busy = false) (hlo : 1 ≤ arsCode w) (hhi : arsCode w ≤ 3) :
    arsWrite c w = setB { c with ars := { c.ars with cmd := some (w, eSingle c) } } ARS_STAT_busy true := by
  obtain ⟨h1, h2, h3, h4⟩ := hs
  have hjudge : (!fldB c ARS_STAT_busy && decide (1 ≤ arsCode w) && decide (arsCode w ≤ 3)) = true := by simp [hbusy, hlo, hhi]
  simp only [arsWrite, hjudge, h2, Bool.and_false, Bool.false_and, Bool.false_eq_true, if_false]
  rw [hostChangeIf_taken c _ w _ _ hr h1 h2 h3 h4 rfl]
  rfl

theorem arsWrite_busy (hbusy : fldB c ARS_STAT_busy = true) : arsWrite c w = arsReject c := by
  obtain ⟨h1, h2, h3, h4⟩ := hs
  simp only [arsWrite, hbusy, Bool.not_true, Bool.false_and, Bool.false_eq_true, if_false]
  exact hostChangeIf_refused c _ w _ _ _ hr h1 h2 h3 h4 rfl

end

/-! ### The command at its E (R218, R219, R228) -/

section
variable {c : Chip} {w : W}

/-- At its E the waiting command is taken, and acts by its code. -/
theorem arsEffect_due {e : W} (h : c.ars.cmd = some (w, e)) (he : due c e = true) :
    let d : Chip := { c with ars := { c.ars with cmd := none } }
    arsEffect c = if arsCode w = 1 then accedeEffect d w else if arsCode w = 2 then deleteCheck d w else fetchEffect d w := by
  simp only [arsEffect, h, he, if_true]

theorem accedeEffect_accepted
    (h : accedeCheck { c with ars := { c.ars with arrIn := none } } (arsId w) (wbit w 27) (accedeContent c w) = none) :
    accedeEffect c w = setFld (setStore { c with ars := { c.ars with
      arrIn := none, accede := some (BitVec.ofNat 16 (arsId w), accedeContent c w) } } (arsId w) 3) ARS_STAT_id (arsId w) := by
  simp only [accedeEffect, h]

theorem accedeEffect_refused {k : Nat}
    (h : accedeCheck { c with ars := { c.ars with arrIn := none } } (arsId w) (wbit w 27) (accedeContent c w) = some k) :
    accedeEffect c w = raise (arsEnd { c with ars := { c.ars with arrIn := none } } (arsId w) k) srcARS_ACC_REFUSED 0 := by
  simp only [accedeEffect, h]

theorem deleteCheck_inUse (h : inUse c (BitVec.ofNat 16 (arsId w)) = true) : deleteCheck c w = arsEnd c (arsId w) 11 := by
  simp [deleteCheck, h]

section
variable (hfree : inUse c (BitVec.ofNat 16 (arsId w)) = false)
include hfree

theorem deleteCheck_reserved (h : idReserved c (arsId w) = true) : deleteCheck c w = arsEnd c (arsId w) 12 := by
  simp [deleteCheck, hfree, h]

variable (hown : idReserved c (arsId w) = false)
include hown

theorem deleteCheck_absent (h1 : storeState c (arsId w) ≠ 1) (h2 : storeState c (arsId w) ≠ 2) :
    deleteCheck c w = arsEnd c (arsId w) 13 := by
  simp [deleteCheck, hfree, hown, h1, h2]

theorem deleteCheck_stored (h : storeState c (arsId w) = 1) :
    deleteCheck c w
      = setFld { c with ars := { c.ars with delete := some (BitVec.ofNat 16 (arsId w)) } } ARS_STAT_id (arsId w) := by
  simp [deleteCheck, hfree, hown, h]

end

theorem fetchEffect_absent (h : storeState c (arsId w) ≠ 1) : fetchEffect c w = arsEnd c (arsId w) 13 := by
  simp [fetchEffect, h]

theorem fetchEffect_stored (h : storeState c (arsId w) = 1) :
    let next := period c + toW (fld c ARS_CTL_lookahead)
    fetchEffect c w = arsEnd { c with ars := { c.ars with
      fetch := c.ars.fetch ++ [(BitVec.ofNat 16 (arsId w), next)]
      due := c.ars.due ++ [⟨next, BitVec.ofNat 16 (arsId w), true⟩] } } (arsId w) 1 := by
  simp [fetchEffect, h]

end

/-! ### Accessions, fills and copies (R218, R222, R224, R226) -/

section
variable {c : Chip}

theorem accessionStored_accede {id : BitVec 16} {l : List Byte} (h : c.ars.accede = some (id, l)) :
    accessionStored c = arsEnd (setStore (memWrite { c with ars := { c.ars with accede := none } } 6 (slotAddr c id.toNat) l)
      id.toNat 1) id.toNat 1 := by
  simp only [accessionStored, h]
  rfl

theorem fillStart_free {id : BitVec 16} {e : Nat} (h : c.ars.fill = none) (hid : fillChoice c = some id)
    (he : fillVictim c = some e) (hst : (entryOf c e).st = 0) : fillStart c = startFill c e id false := by
  simp [fillStart, h, hid, he, hst]

theorem entryOf_congr {d : Chip} (h : d.ars.cache = c.ars.cache) (e : Nat) : entryOf d e = entryOf c e := by
  rw [entryOf, entryOf, h]

theorem entryOf_setEntry (e : Nat) (x : CacheEntry) : entryOf (setEntry c e x) e = x := by
  simp [entryOf, setEntry, showCounts, mapRead_mapWrite]

/-- The fill `f` has ended: its read of memory is noted, and none runs. -/
def fillEnded (c : Chip) (f : Fill) : Chip :=
  let d := ddrNote c 6 false (slotAddr c f.id.toNat) arrBytes
  { d with ars := { d.ars with fill := none } }

/-- What a fill without good check words leaves before the attempt is made again or given up (R222). -/
def fillFailed (c : Chip) (f : Fill) : Chip :=
  countUp (setB (raise (setEntry (fillEnded c f) f.entry CacheEntry.empty) srcARS_FILL_ERR 0) ARS_STAT_fill_err true)
    ARS_FILL_ERR_CNT 1

theorem fillFailed_fillErr (f : Fill) : fldB (fillFailed c f) ARS_STAT_fill_err = true := by
  rw [fillFailed, countUp, fldB_wr_other _ _ (by decide), fldB_setB_same _ _ _ (by decide) rfl]

theorem fillFailed_entry (f : Fill) : entryOf (fillFailed c f) f.entry = CacheEntry.empty := by
  have hcache : (fillFailed c f).ars.cache = (setEntry (fillEnded c f) f.entry CacheEntry.empty).ars.cache := by
    rw [fillFailed, countUp_ars, setB_ars, raise_ars]
  rw [entryOf_congr hcache, entryOf_setEntry]

section
variable {f : Fill} (h : c.ars.fill = some f)
include h

theorem fillComplete_good (hh : hdrCrcOk (memBytes c 6 (slotAddr c f.id.toNat) arrBytes) = true)
    (hb : bodyCrcOk (memBytes c 6 (slotAddr c f.id.toNat) arrBytes) = true) :
    fillComplete c false
      = announceDue (setEntry (fillEnded c f) f.entry ⟨2, false, f.id, memBytes c 6 (slotAddr c f.id.toNat) arrBytes⟩) := by
  simp only [fillComplete, h, hh, hb, Bool.not_false, Bool.and_self, if_true]
  rfl

theorem fillComplete_bad {bad : Bool} (hbad : (bad || !(hdrCrcOk (memBytes c 6 (slotAddr c f.id.toNat) arrBytes)
    && bodyCrcOk (memBytes c 6 (slotAddr c f.id.toNat) arrBytes))) = true) :
    fillComplete c bad
      = if f.retry then setStore (fillFailed c f) f.id.toNat 2 else startFill (fillFailed c f) f.entry f.id true := by
  have hno : (!bad && hdrCrcOk (memBytes c 6 (slotAddr c f.id.toNat) arrBytes)
      && bodyCrcOk (memBytes c 6 (slotAddr c f.id.toNat) arrBytes)) = false := by
    rw [← Bool.not_eq_true', Bool.and_assoc, Bool.not_and, Bool.not_not]
    exact hbad
  simp only [fillComplete, h, hno, Bool.false_eq_true, if_false]
  rfl

end

theorem storeCopyDone_dirty {e : Nat} (hst : (entryOf c e).st = 2) (hd : (entryOf c e).dirty = true) :
    storeCopyDone c e = setEntry (memWrite c 6 (slotAddr c (entryOf c e).id.toNat) (entryOf c e).content) e
      { entryOf c e with dirty := false } := by
  simp [storeCopyDone, hst, hd]

end

/-! ### Late pages (R227) -/

/-- What PAGE_LATE makes of one step whose boundary lies the pager's lead ahead. -/
def tellLate (c : Chip) (e : Nat × StepRef) : Chip :=
  if (residentEntry c e.2.p.id).isSome || c.ars.lateTold.contains (e.2.b, e.2.p.id) then c
  else
    let c := { c with ars := { c.ars with lateTold := c.ars.lateTold ++ [(e.2.b, e.2.p.id)] } }
    countUp (raise (setB c ARS_STAT_page_late true) srcARS_PAGE_LATE 0) ARS_PAGE_LATE_CNT 1

theorem pageLate_eq (c : Chip) : pageLate c =
    ((allSteps c (pagerLead c)).filter (fun e => e.2.dist == (pagerLead c : Int) && e.2.p.id != 0xFFFF)).foldl tellLate c := rfl

/-- PAGE_LATE leaves the cache, the store and the programmes, and takes back nothing it has told. -/
structure LateKept (c d : Chip) : Prop where
  cache : d.ars.cache = c.ars.cache
  store : d.ars.store = c.ars.store
  prg : d.prg = c.prg
  told : c.ars.lateTold <+: d.ars.lateTold
  late : fldB c ARS_STAT_page_late = true → fldB d ARS_STAT_page_late = true

theorem LateKept.trans {c d e : Chip} (h : LateKept c d) (h' : LateKept d e) : LateKept c e :=
  ⟨h'.cache.trans h.cache, h'.store.trans h.store, h'.prg.trans h.prg, h.told.trans h'.told, h'.late ∘ h.late⟩

theorem lateKept_refl (c : Chip) : LateKept c c := ⟨rfl, rfl, rfl, List.prefix_rfl, id⟩

section
variable {c : Chip} {e x : Nat × StepRef}

/-- A step already resident or told of is passed over; another is told of, and page_late is set. -/
theorem tellLate_cases : tellLate c e = c
    ∨ fldB (tellLate c e) ARS_STAT_page_late = true ∧ (tellLate c e).ars
        = { c.ars with lateTold := c.ars.lateTold ++ [(e.2.b, e.2.p.id)] } := by
  unfold tellLate
  split
  · exact .inl rfl
  · refine .inr ⟨?_, rfl⟩
    rw [countUp, fldB_wr_other _ _ (by decide), fldB_raise, fldB_setB_same _ _ _ (by decide) rfl]

theorem tellLate_prg : (tellLate c e).prg = c.prg := by
  unfold tellLate
  split
  · rfl
  · rw [countUp_prg, raise_prg, setB_prg]

theorem lateKept_tellLate : LateKept c (tellLate c e) := by
  rcases tellLate_cases (c := c) (e := e) with h | ⟨hlate, hars⟩
  · rw [h]
    exact lateKept_refl c
  · refine ⟨?_, ?_, tellLate_prg, ?_, fun _ => hlate⟩ <;> rw [hars]
    exact List.prefix_append _ _

theorem lateKept_tellAll (c : Chip) (l : List (Nat × StepRef)) : LateKept c (l.foldl tellLate c) := by
  induction l generalizing c with
  | nil => exact lateKept_refl c
  | cons y l ih => exact lateKept_tellLate.trans (ih _)

/-- Whoever is told of as late shows in page_late. -/
def ToldShows (c : Chip) (x : Nat × StepRef) : Prop :=
  (x.2.b, x.2.p.id) ∈ c.ars.lateTold → fldB c ARS_STAT_page_late = true

theorem toldShows_tellLate (h : ToldShows c x) : ToldShows (tellLate c e) x := by
  rcases tellLate_cases (c := c) (e := e) with heq | ⟨hlate, -⟩
  · rwa [heq]
  · exact fun _ => hlate

theorem residentEntry_congr {c d : Chip} (h : d.ars.cache = c.ars.cache) (id : BitVec 16) :
    residentEntry d id = residentEntry c id := by
  simp only [residentEntry, h]

theorem mem_lateTold_tellLate (hno : residentEntry c x.2.p.id = none) : (x.2.b, x.2.p.id) ∈ (tellLate c x).ars.lateTold := by
  by_cases htold : (x.2.b, x.2.p.id) ∈ c.ars.lateTold
  · exact lateKept_tellLate.told.subset htold
  · simp [tellLate, hno, htold]

/-- Every listed step that is not resident is told of in the end, and page_late is set. -/
theorem tellAll_tells (l : List (Nat × StepRef)) (c : Chip) (hx : x ∈ l) (hno : residentEntry c x.2.p.id = none)
    (hshow : ToldShows c x) : (x.2.b, x.2.p.id) ∈ (l.foldl tellLate c).ars.lateTold
      ∧ fldB (l.foldl tellLate c) ARS_STAT_page_late = true := by
  induction l generalizing c with
  | nil => cases hx
  | cons y l ih =>
    rcases List.mem_cons.mp hx with rfl | hl
    · have htold := mem_lateTold_tellLate hno
      have hkept := lateKept_tellAll (tellLate c x) l
      exact ⟨hkept.told.subset htold, hkept.late (toldShows_tellLate hshow htold)⟩
    · exact ih _ hl ((residentEntry_congr lateKept_tellLate.cache _).trans hno) (toldShows_tellLate hshow)

end

/-- Settles O12: each command of the store on a single device by what its write, its E or its end does; PAGE_LATE by induction on the
steps it goes through. -/
theorem arrangementsAreStoredAndPaged : Obligations.ArrangementsAreStoredAndPaged := by
  unfold Obligations.ArrangementsAreStoredAndPaged
  refine ⟨?taken, ?busy, ?effect, ?stored, ?fill, ?good, ?bad, ?copy, ?late⟩
  case taken =>
    rintro s w ⟨hs, hr, hone⟩ hbusy
    have taken (k : Nat) (h1 : 1 ≤ k) (h3 : k ≤ 3) : run s (arsWrite · (withArsCode w k)) = .next { s with
        chip := setB { s.chip with ars := { s.chip.ars with cmd := some (putField w 28 4 k, eSingle s.chip) } } ARS_STAT_busy true } := by
      have hcode := arsCode_withArsCode w (k := k) (by omega)
      rw [run_live s _ hs, arsWrite_taken (withArsCode w k) hr hone hbusy (h1.trans hcode.ge) (hcode.le.trans h3)]
      rfl
    exact ⟨taken 1 (by decide) (by decide), taken 2 (by decide) (by decide), taken 3 (by decide) (by decide)⟩
  case busy =>
    rintro s w ⟨hs, hr, hone⟩ hbusy
    have refused (k : Nat) : run s (arsWrite · (withArsCode w k)) = .next { s with chip := arsReject s.chip } := by
      rw [run_live s _ hs, arsWrite_busy (withArsCode w k) hr hone hbusy]
    exact ⟨refused 1, refused 2, refused 3⟩
  case effect =>
    intro s w e hs hw he
    have heff : exec .arsCmdEffect s = .next { s with chip := arsEffect s.chip } := by
      rw [exec_arsCmdEffect, execArsCmdEffect, run_live s _ hs]
    have accede (h : wbits w 28 4 = 1) := (arsEffect_due hw he).trans (if_pos h)
    have other (h : wbits w 28 4 ≠ 1) := (arsEffect_due hw he).trans (if_neg h)
    have delete (h : wbits w 28 4 = 2) := (other (by omega)).trans (if_pos h)
    have fetch (h : wbits w 28 4 = 3) := (other (by omega)).trans (if_neg (by rw [arsCode]; omega))
    rw [heff]
    refine ⟨fun h hc => ?_, fun h hu hres hst => ?_, fun h hst => ?_, fun k h hc => ?_, fun h hu => ?_, fun h hu hres => ?_,
      fun h hu hres h1 h2 => ?_, fun h hst => ?_⟩
    · rw [accede h, accedeEffect_accepted hc]
      rfl
    · rw [delete h, deleteCheck_stored hu hres hst]
      rfl
    · rw [fetch h, fetchEffect_stored hst]
      rfl
    · rw [accede h, accedeEffect_refused hc]
      rfl
    · rw [delete h, deleteCheck_inUse hu]
      rfl
    · rw [delete h, deleteCheck_reserved hu hres]
      rfl
    · rw [delete h, deleteCheck_absent hu hres h1 h2]
      rfl
    · rw [fetch h, fetchEffect_absent hst]
      rfl
  case stored =>
    intro s id l hs h
    rw [exec_accessionStored, execAccessionStored, run_live s _ hs, accessionStored_accede h]
    rfl
  case fill =>
    intro s id e hs hnone hid he hst
    rw [exec_fillStart, execFillStart, run_live s _ hs, fillStart_free hnone hid he hst]
    rfl
  case good =>
    intro s f hs hf
    dsimp only
    intro hh hb
    rw [exec_fillComplete, execFillComplete, run_live s _ hs, fillComplete_good hf hh hb]
    rfl
  case bad =>
    intro s f bad hs hf l hbad
    refine ⟨fillFailed s.chip f, _, ?_, rfl, fillFailed_fillErr f, fillFailed_entry f⟩
    rw [exec_fillComplete, execFillComplete, run_live s _ hs, fillComplete_bad hf hbad]
  case copy =>
    intro s e hs hst hd
    rw [exec_storeCopyDone, execStoreCopyDone, run_live s _ hs, storeCopyDone_dirty hst hd]
  case late =>
    intro s x hs hx hdist hid hno hnew
    have hsel : x ∈ (allSteps s.chip (pagerLead s.chip)).filter
        (fun e => e.2.dist == (pagerLead s.chip : Int) && e.2.p.id != 0xFFFF) := by
      rw [List.mem_filter, Bool.and_eq_true, beq_iff_eq, bne_iff_ne]
      exact ⟨hx, hdist, hid⟩
    obtain ⟨htold, hlate⟩ := tellAll_tells _ s.chip hsel hno (fun h => absurd h hnew)
    obtain ⟨hcache, hstore, hprg, -, -⟩ := lateKept_tellAll s.chip
      ((allSteps s.chip (pagerLead s.chip)).filter (fun e => e.2.dist == (pagerLead s.chip : Int) && e.2.p.id != 0xFFFF))
    refine ⟨_, by rw [exec_pageLate, execPageLate, run_live s _ hs, pageLate_eq], hlate, htold, hcache, hstore, hprg⟩

end Sys2Proof.Machine
end

section
/-! What an announcement leaves (R244, R447): forming and queueing its frames is the egress side's work, down to the descriptors of
heads that are dropped, so the Docent, the store and the engine's pins are as before, and so are the opcodes of every programme slot. -/

open Sys2Proof

namespace Sys2Proof.Machine

/-- The place of PRG_Sn_OPC in the 64 bytes of a slot's registers. No register that an announcement writes stands at this place of its
64 bytes, so the opcodes of a slot are apart from them all, whatever number the state gives the slot. -/
abbrev AtOpcodes (a : Nat) : Prop := a % 0x40 = 0x10

theorem atOpcodes_opc (s : Nat) : AtOpcodes (PRG_S_OPC s) := by
  unfold AtOpcodes PRG_S_OPC
  omega

/-- The Docent, the store and the engine's pins are as before, and so is every register in the place of the opcodes. -/
structure EngineKept (c d : Chip) : Prop where
  doc : d.doc = c.doc
  ars : d.ars = c.ars
  pins : d.prg.pins = c.prg.pins
  read : ∀ a, AtOpcodes a → rd d a = rd c a

section
variable {c d : Chip}

theorem EngineKept.trans {e : Chip} (h : EngineKept c d) (h' : EngineKept d e) : EngineKept c e :=
  ⟨h'.doc.trans h.doc, h'.ars.trans h.ars, h'.pins.trans h.pins, fun a ha => (h'.read a ha).trans (h.read a ha)⟩

theorem engineKept_ite {e : Chip} {p : Prop} [Decidable p] (h : EngineKept c d) (h' : EngineKept c e) :
    EngineKept c (if p then d else e) := by
  split
  · exact h
  · exact h'

theorem EngineKept.andThen {e : Chip} {p : Prop} [Decidable p] (h : EngineKept c d) (h' : EngineKept d e) :
    EngineKept c (if p then e else d) :=
  engineKept_ite (h.trans h') h

theorem EngineKept.orElse {e : Chip} {p : Prop} [Decidable p] (h : EngineKept c d) (h' : EngineKept d e) :
    EngineKept c (if p then d else e) :=
  engineKept_ite h (h.trans h')

end

variable (c : Chip)

theorem engineKept_refl : EngineKept c c := ⟨rfl, rfl, rfl, fun _ _ => rfl⟩

theorem engineKept_wr {a : Nat} (v : W) (ha : ¬ AtOpcodes a) : EngineKept c (wr c a v) :=
  ⟨rfl, rfl, rfl, fun _ hb => rd_wr_other c v (fun h => ha (h ▸ hb))⟩

theorem engineKept_raise (k : Nat) (v : W) : EngineKept c (raise c k v) := ⟨rfl, rfl, rfl, fun _ _ => rfl⟩

theorem engineKept_raiseLimited (k : Nat) (v : W) : EngineKept c (raiseLimited c k v) := by
  unfold raiseLimited
  split
  · exact engineKept_refl c
  · exact ⟨rfl, rfl, rfl, fun _ _ => rfl⟩

theorem engineKept_modTx (n : Nat) (f : TxPort → TxPort) : EngineKept c (modTx c n f) := ⟨rfl, rfl, rfl, fun _ _ => rfl⟩

/-! ### Descriptors of heads that are dropped (R437) -/

theorem engineKept_errorEvent (k m b : Nat) : EngineKept c (errorEvent c k m b) := by
  unfold errorEvent
  split_ifs
  · exact engineKept_raiseLimited c _ _
  · exact engineKept_raiseLimited c _ _
  · exact engineKept_raise c _ _
  · exact engineKept_raise c _ _
  · exact engineKept_raise c _ _
  · exact engineKept_refl c

theorem engineKept_matrixError (k m t : Nat) (w : Bool) (a b : Nat) : EngineKept c (matrixError c k m t w a b) := by
  unfold matrixError
  dsimp only
  refine .trans (.andThen (.orElse (engineKept_wr c (a := XBR_STAT) _ (by decide)) ?count) ?record) (engineKept_errorEvent _ k m b)
  case count => exact engineKept_wr _ (a := XBR_ERR_CNT) _ (by decide)
  case record =>
    exact ((engineKept_wr _ (a := XBR_ERR_INFO) _ (by decide)).trans (engineKept_wr _ (a := XBR_ERR_ADDR_LO) _ (by decide))).trans
      (engineKept_wr _ (a := XBR_ERR_ADDR_HI) _ (by decide))

theorem engineKept_memWrite (m a : Nat) (l : List Byte) : EngineKept c (memWrite c m a l) := by
  unfold memWrite ddrNote
  split_ifs
  · exact ⟨rfl, rfl, rfl, fun _ _ => rfl⟩
  · exact engineKept_matrixError c _ _ _ _ _ _

theorem engineKept_msixSend (v : Nat) : EngineKept c (msixSend c v) := by
  unfold msixSend msixEmit
  dsimp only
  split_ifs <;> exact ⟨rfl, rfl, rfl, fun _ _ => rfl⟩

theorem engineKept_advanceCons (n r fuel : Nat) : EngineKept c (advanceCons c n r fuel) := by
  have hcons : ¬ AtOpcodes (TXS_PRING_CONS n r) := by
    unfold AtOpcodes TXS_PRING_CONS
    omega
  induction fuel generalizing c with
  | zero => exact engineKept_refl c
  | succ fuel ih =>
    unfold advanceCons
    exact engineKept_ite (((engineKept_modTx c n _).trans (engineKept_wr _ _ hcons)).trans (ih _)) (engineKept_refl c)

theorem engineKept_descComplete (n r i status : Nat) : EngineKept c (descComplete c n r i status) := by
  unfold descComplete
  dsimp only
  refine .andThen ?back ((engineKept_modTx _ n _).trans (engineKept_msixSend _ _))
  exact ((engineKept_memWrite c 11 _ _).trans (engineKept_modTx _ n _)).trans (engineKept_advanceCons _ n r _)

theorem engineKept_frameComplete (n : Nat) (f : TxFrame) (status : Nat) : EngineKept c (frameComplete c n f status) := by
  unfold frameComplete
  split
  · exact engineKept_descComplete c n _ _ status
  · exact engineKept_refl c

/-! ### Queues -/

theorem engineKept_txStatBit {f : Fld} (hf : ¬ AtOpcodes f.addr) (q : Nat) : EngineKept c (txStatBit c f q) := engineKept_wr c _ hf

theorem stat_notAtOpcodes (n : Nat) : ¬ AtOpcodes (TXS_P_STAT n) := by
  unfold AtOpcodes TXS_P_STAT
  omega

theorem engineKept_txDrop (n q : Nat) : EngineKept c (txDrop c n q) := by
  have hdrop : ¬ AtOpcodes (TXS_PQ_DROP n q) := by
    unfold AtOpcodes TXS_PQ_DROP
    omega
  exact (engineKept_wr c _ hdrop).trans (engineKept_txStatBit _ (stat_notAtOpcodes n) q)

theorem engineKept_tagHead (n q : Nat) : EngineKept c (tagHead c n q) := by
  unfold tagHead
  split
  · exact engineKept_modTx c n _
  · exact engineKept_ite (engineKept_refl c) (engineKept_modTx c n _)

theorem engineKept_dropOversize (n q fuel : Nat) : EngineKept c (dropOversize c n q fuel) := by
  induction fuel generalizing c with
  | zero => exact engineKept_refl c
  | succ fuel ih =>
    unfold dropOversize
    split
    · refine engineKept_ite ?_ (engineKept_refl c)
      exact ((((engineKept_modTx c n _).trans (engineKept_txDrop _ n q)).trans (engineKept_raiseLimited _ _ _)).trans
        (engineKept_frameComplete _ n _ 7)).trans ((engineKept_tagHead _ n q).trans (ih _))
    · exact engineKept_refl c

theorem engineKept_txEnqueue (n q : Nat) (f : TxFrame) : EngineKept c (txEnqueue c n q f) := by
  have hmax : ¬ AtOpcodes (TXS_PQ_MAX_DEPTH n q) := by
    unfold AtOpcodes TXS_PQ_MAX_DEPTH
    omega
  unfold txEnqueue
  dsimp only
  refine .andThen (.trans (.andThen (engineKept_modTx c n _) ?head) (engineKept_wr _ _ hmax)) ?mark
  case head => exact (engineKept_tagHead _ n q).trans (engineKept_dropOversize _ n q _)
  case mark => exact (engineKept_txStatBit _ (stat_notAtOpcodes n) q).trans (engineKept_raiseLimited _ _ _)

/-! ### Announcements (R244, R447) -/

theorem engineKept_foldl {α : Type} (f : Chip → α → Chip) (hf : ∀ c x, EngineKept c (f c x)) (l : List α) :
    EngineKept c (l.foldl f c) := by
  induction l generalizing c with
  | nil => exact engineKept_refl c
  | cons x l ih => exact (hf c x).trans (ih _)

theorem engineKept_queueFormed {n k count : Nat} {summary : Bool} {seq : W} {payload : List Byte} {d : Chip}
    (h : queueFormed c n k summary count seq payload = some d) : EngineKept c d := by
  unfold queueFormed at h
  dsimp only at h
  split at h
  · cases h
    exact engineKept_txEnqueue c n _ _
  · cases h

theorem engineKept_announce (payload : List Byte) : EngineKept c (announce c payload) := by
  unfold announce
  refine engineKept_ite (.trans (d := kindNext c 1) ⟨rfl, rfl, rfl, fun _ _ => rfl⟩ ?_) (engineKept_refl c)
  refine engineKept_foldl _ _ (fun c n => engineKept_ite ?_ (engineKept_txDrop c n 6)) _
  split
  · next h => exact engineKept_queueFormed c h
  · exact (engineKept_txDrop c n 6).trans (engineKept_raise _ _ _)

theorem engineKept_sendAnn (typ flags arr slot step guard cycle : Nat) (b : W) (content : Option (List Byte)) :
    EngineKept c (sendAnn c typ flags arr slot step guard cycle b content) := by
  unfold sendAnn
  exact engineKept_ite (engineKept_announce c _) (engineKept_refl c)

end Sys2Proof.Machine
end

section
/-! Programme commands, step memory, and the boundaries of a programme (R229–R237, R241, R244, R252). -/

open Sys2Proof

namespace Sys2Proof.Machine

/-! ### Commands (R252) -/

theorem prgCode_withPrgCode (w : W) {k : Nat} (h : k < 16) : wbits (withPrgCode w k) 28 4 = k := by
  rw [withPrgCode, wbits_putField_same w 28 4 k (by decide)]
  exact Nat.mod_eq_of_lt h

section
variable {c : Chip} {w : W} (hr : reachable c PRG_CMD = true) (hs : Single c) (hlo : 1 ≤ wbits w 28 4) (hhi : wbits w 28 4 ≤ 6)
include hr hs hlo hhi

theorem prgWrite_taken (hbusy : fldB c PRG_STAT_busy = false) :
    prgWrite c w = defer (setB c PRG_STAT_busy true) (eSingle c) PRG_CMD w := by
  obtain ⟨h1, h2, h3, h4⟩ := hs
  have hlisted : ¬ (wbits w 28 4 = 0 ∨ 6 < wbits w 28 4) := by omega
  rw [prgWrite, hostChangeIf_taken c _ w _ _ hr h1 h2 h3 h4 (by simp [hlisted, hbusy])]
  simp only [h3, Bool.false_eq_true, if_false]
  rfl

theorem prgWrite_busy (hbusy : fldB c PRG_STAT_busy = true) : prgWrite c w = prgRefuse c 3 := by
  obtain ⟨h1, h2, h3, h4⟩ := hs
  have hlisted : ¬ (wbits w 28 4 = 0 ∨ 6 < wbits w 28 4) := by omega
  exact hostChangeIf_refused c _ w _ _ _ hr h1 h2 h3 h4 (by simp [hlisted, hbusy])

end

/-! ### Step memory (R229, R230) -/

section
variable {c : Chip} {off : Nat} (v : W) (hlo : 0x10000 ≤ off) (hhi : off < 0x30000)
include hlo hhi

theorem slotOffset_stepMemory : slotOffset off = some ((off - 0x10000) / 0x8000) := by
  simp [slotOffset, hlo, hhi]

/-- Step memory has no effective period of its own. -/
theorem slotWrite_stepMemory (hr : reachable c (0x400000 + off) = true) (hs : Single c) : slotWrite c off v = slotStore c off v := by
  obtain ⟨h1, h2, h3, h4⟩ := hs
  rw [slotWrite, slotOffset_stepMemory hlo hhi, Option.isSome_some, if_pos rfl]
  exact hostChangeNow_single c _ v _ hr h1 h2 h3 h4

theorem slotStore_loading (hst : slotState c ((off - 0x10000) / 0x8000) = 1) :
    slotStore c off v
      = { c with prg := { c.prg with mem := mapWrite (fun _ => 0) c.prg.mem ((off - 0x10000) / 4) v } } := by
  have hmem : ¬ off < 0x10000 := by omega
  simp only [slotStore, slotOffset_stepMemory hlo hhi, hst, hmem, bne_self_eq_false, Bool.false_eq_true, if_false]

theorem slotStore_notLoading (hst : slotState c ((off - 0x10000) / 0x8000) ≠ 1) :
    slotStore c off v = raise c srcPRG_REJECT 0 := by
  simp [slotStore, slotOffset_stepMemory hlo hhi, hst]

end

/-! ### Boundaries (R229, R231, R236, R237, R241) -/

section
variable {c : Chip} {r : PrgRun} (hrun : c.prg.run = some r)
include hrun

theorem programmeOrigin_armed {o : W} (hst : slotState c r.slot = 3) (ho : r.origin = some o) (hdue : due c o = true)
    (hre : c.prg.rejoin = none) : programmeOrigin c = setSlot c r.slot 4 := by
  simp [programmeOrigin, hrun, hst, ho, hdue, hre]

theorem stageSwap_due {q : PrgRun} {cyc : Bool} {x : W} (hstaged : c.prg.staged = some (q, cyc)) (hq : q.origin = some x)
    (hdue : due c x = true) (hre : c.prg.rejoin = none) :
    stageSwap c = showPosition (announceStart (setRun (setStaged
      (advanceRun (setSlot (setSlot c r.slot 2) q.slot 4) q.slot) none) (some q)) q) := by
  simp only [stageSwap, hstaged, hq, hdue, hre, hrun, Option.isNone_none, Bool.and_self, if_true]

theorem programmeStop_due {x : W} (hstop : r.stop = some x) (hdue : due c x = true) :
    programmeStop c = setRun (setSlot c r.slot 2) none := by
  simp [programmeStop, endStopped, hrun, hstop, hdue]

theorem programmeEnd_due {o : W} (ho : r.origin = some o) (hcyc : slotCyclic c r.slot = false)
    (hdue : due c (o + toW (slotSpan c r.slot)) = true) (hst : slotState c r.slot = 4) (hstaged : c.prg.staged = none)
    (hre : c.prg.rejoin = none) : programmeEnd c = setRun (setSlot c r.slot 6) none := by
  simp [programmeEnd, finishRun, hrun, ho, hcyc, hdue, hst, hstaged, hre]

theorem timeStepRejoin_running {x : W} (hre : c.prg.rejoin = some x) (hnew : c.tmr.period ≠ x) (hdue : due c x = true)
    (hst : slotState c r.slot ≠ 3) :
    timeStepRejoin c = fixStaged (rejoinRun { c with prg := { c.prg with rejoin := none } } x r) := by
  simp only [timeStepRejoin, hre, period, hnew, hdue, hrun, decide_false, Bool.not_true, Bool.or_self, Bool.false_eq_true, if_false]
  exact congrArg fixStaged (if_neg hst)

end

/-- A step that the Docent completed as COMPLETE ends its pin, and nothing else (R238). -/
theorem stepCompletion_complete {c : Chip} {tag : Nat} {l : List (Nat × Nat)} (h : c.prg.done = (tag, 1) :: l) :
    stepCompletion c = { c with prg := { c.prg with done := l, pins := c.prg.pins.eraseP (fun p => p.1 == tag) } } := by
  simp [stepCompletion, h]

section
variable {c : Chip} {sl : Nat} {x : StepRef}

theorem announceDue_one {l : List Byte} (hen : wbit (rd c PRG_CTL) 16 = true) (hdue : dueSteps c (annLead c) = [(sl, x)])
    (hquiet : x.p.quiet = false) (hid : x.p.id ≠ 0xFFFF) (hnew : isSent c sl x = false)
    (hl : residentContent c x.p.id = some l) :
    announceDue c = sendAnn (noteSent c sl x.cycle x.index) 1 (annLate c x.b) x.p.id.toNat sl x.index (stepGuard c sl x.p) x.cycle
      x.b (some l) := by
  have hsend : (x.p.quiet || decide (x.p.id = 0xFFFF) || isSent c sl x) = false := by
    simp only [hquiet, hid, hnew, decide_false, Bool.or_self]
  rw [announceDue, if_pos hen, hdue, List.foldl_cons, List.foldl_nil, announceStep]
  simp only [hsend, hl, Bool.false_eq_true, if_false]

/-- The outcome of a step's residency test is listed, and the keeper of a pair journals it for D (R240). -/
theorem tellResidency_keeper (s : Nat) (d : W) (h : holdsLoan c = true) :
    let ok := (residentEntry c x.p.id).isSome
    let c' : Chip := { c with prg := { c.prg with
      residTold := c.prg.residTold ++ [(s, x.index, x.cycle)], resid := c.prg.resid ++ [(s, x.index, x.cycle, ok)] } }
    tellResidency c s x d = (withSource c' 6 (fun c => journalAppend c d (.resid s x.index x.cycle ok)), ok) :=
  congrArg (·, _) (if_pos h)

/-- A step whose outcome ends its test, since it is resident or its slot does not skip, is all the keeper tells of (R239, R240). -/
theorem keeperResidency_one (hpair : c.twn.paired = true) (hloan : holdsLoan c = true) (hdue : dueSteps c 24 = [(sl, x)])
    (hid : x.p.id ≠ 0xFFFF) (hnew : (sl, x.index, x.cycle) ∉ c.prg.residTold)
    (hend : (residentEntry c x.p.id).isSome ∨ wbit (rd c PRG_MISS) sl = false) :
    keeperResidency c = (tellResidency c sl x (x.b - 8)).1 := by
  have hahead : testsAhead c = true := by simp [testsAhead, hpair, hloan]
  have hfresh : (c.prg.residTold.contains (sl, x.index, x.cycle) || decide (x.p.id = 0xFFFF)) = false := by
    simp only [List.contains_eq_mem, hnew, hid, decide_false, Bool.or_self]
  have hends : ((tellResidency c sl x (x.b - 8)).2 || !wbit (rd c PRG_MISS) sl) = true := by
    rw [Bool.or_eq_true, Bool.not_eq_true']
    exact hend
  rw [keeperResidency, hahead, hdue, List.foldl_cons, List.foldl_nil]
  simp only [hfresh, hends, Bool.not_true, Bool.false_eq_true, if_false, if_true]

end

end Sys2Proof.Machine
end

section
/-! The residency test (R238, R239): whatever the tests of a boundary do, they only add to the engine's queue and to the pins. -/

open Sys2Proof

namespace Sys2Proof.Machine

/-! ### What a test leaves of the Docent and the store -/

section
variable (c : Chip)

theorem engineKept_spendResidency (s : Nat) (x : StepRef) : EngineKept c (spendResidency c s x) := ⟨rfl, rfl, rfl, fun _ _ => rfl⟩

theorem engineKept_putRun (staged : Bool) (r : PrgRun) : EngineKept c (putRun c staged r) := by
  cases staged <;> exact ⟨rfl, rfl, rfl, fun _ _ => rfl⟩

theorem engineKept_countMiss : EngineKept c (countMiss c) :=
  ((engineKept_wr c (a := PRG_STAT) _ (by decide)).trans (engineKept_raise _ _ _)).trans
    (engineKept_wr _ (a := PRG_MISS_CNT) _ (by decide))

theorem engineKept_shadowTake (id : BitVec 16) (l : List Byte) : EngineKept c (shadowTake c id l) := by
  unfold shadowTake
  split <;> exact ⟨rfl, rfl, rfl, fun _ _ => rfl⟩

theorem engineKept_skipSteps (r : PrgRun) (lim : Option W) (b : W) (n : Nat) : EngineKept c (skipSteps c r lim b n).1 := by
  induction n generalizing c r with
  | zero => exact engineKept_refl c
  | succ n ih =>
    unfold skipSteps
    split
    · exact engineKept_refl c
    · dsimp only
      split_ifs
      · exact engineKept_spendResidency c _ _
      · exact engineKept_spendResidency c _ _
      · exact ((engineKept_spendResidency c _ _).trans (engineKept_countMiss _)).trans (ih _ _)

end

theorem EngineKept.stepOpcode {c d : Chip} (h : EngineKept c d) (s : Nat) (p : PrgStep) : stepOpcode d s p = stepOpcode c s p := by
  simp only [Machine.stepOpcode, rn, h.read _ (atOpcodes_opc s)]

/-! ### The engine's queue and the pins -/

/-- The engine's queue and the pins have been added to. -/
structure StepsQueued (c d : Chip) : Prop where
  queue : c.doc.prgQ <+: d.doc.prgQ
  pins : c.prg.pins <+: d.prg.pins

section
variable {c d : Chip}

theorem StepsQueued.trans {e : Chip} (h : StepsQueued c d) (h' : StepsQueued d e) : StepsQueued c e :=
  ⟨h.queue.trans h'.queue, h.pins.trans h'.pins⟩

theorem EngineKept.stepsQueued (h : EngineKept c d) : StepsQueued c d :=
  ⟨h.doc ▸ List.prefix_rfl, h.pins ▸ List.prefix_rfl⟩

theorem stepsQueued_refl (c : Chip) : StepsQueued c c := (engineKept_refl c).stepsQueued

end

/-- The command that the engine queues for a step to be executed at boundary `b` (R238). -/
def stepCmd (c : Chip) (s : Nat) (x : StepRef) (b : W) : DocCmd :=
  ⟨toW (stepOpcode c s x.p * 2 ^ 24 + (s * 2 ^ 14 + x.index)), toW x.p.id.toNat, b, 0, 1, c.doc.serial⟩

theorem EngineKept.stepCmd {c d : Chip} (h : EngineKept c d) (s : Nat) (x : StepRef) (b : W) :
    stepCmd d s x b = stepCmd c s x b := by
  rw [Machine.stepCmd, Machine.stepCmd, h.stepOpcode, h.doc]

theorem EngineKept.residentEntry {c d : Chip} (h : EngineKept c d) (id : BitVec 16) : residentEntry d id = residentEntry c id :=
  residentEntry_congr (congrArg Ars.cache h.ars) id

section
variable (c : Chip) (s : Nat) (x : StepRef) (b : W)

/-- The command of a resident step enters the engine's queue, if it has room, and its entry is pinned (R223, R238). -/
theorem queueStep_resident {e : Nat} (hq : c.doc.prgQ.length < 4) (he : residentEntry c x.p.id = some e) :
    (queueStep c s x b).doc.prgQ = c.doc.prgQ ++ [stepCmd c s x b]
      ∧ (queueStep c s x b).prg.pins = c.prg.pins ++ [(s * 2 ^ 14 + x.index, e)] := by
  have hkept := engineKept_shadowTake c x.p.id (entryOf c e).content
  rw [← hkept.doc] at hq
  rw [← hkept.stepCmd, ← hkept.doc, ← hkept.pins]
  simp only [queueStep, residentContent, he]
  rw [← hkept.residentEntry] at he
  generalize shadowTake c x.p.id (entryOf c e).content = d at *
  have he' (n : Nat) : Machine.residentEntry { d with doc := { d.doc with serial := n } } x.p.id = some e := he
  simp only [hq, if_true, newDocCmd, he', and_true]
  rfl

theorem queueStep_notResident (hq : c.doc.prgQ.length < 4) (he : residentEntry c x.p.id = none) :
    (queueStep c s x b).doc.prgQ = c.doc.prgQ ++ [stepCmd c s x b] ∧ (queueStep c s x b).prg.pins = c.prg.pins := by
  have he' (n : Nat) : residentEntry { c with doc := { c.doc with serial := n } } x.p.id = none := he
  simp only [queueStep, residentContent, he, hq, if_true, newDocCmd, he', and_true]
  rfl

theorem engineKept_stepFault : EngineKept c (raise (setB c PRG_STAT_step_fault true) srcPRG_STEP_FAULT 0) :=
  (engineKept_wr c (a := PRG_STAT) _ (by decide)).trans (engineKept_raise _ _ _)

/-- A full queue makes the step a fault (R238). -/
theorem queueStep_full (hq : ¬ c.doc.prgQ.length < 4) : EngineKept c (queueStep c s x b) := by
  rcases he : residentEntry c x.p.id with _ | e
  · simp only [queueStep, residentContent, he, hq, if_false]
    exact engineKept_stepFault c
  · have hkept := engineKept_shadowTake c x.p.id (entryOf c e).content
    rw [← hkept.doc] at hq
    simp only [queueStep, residentContent, he, hq, if_false]
    exact hkept.trans (engineKept_stepFault _)

theorem stepsQueued_queueStep : StepsQueued c (queueStep c s x b) := by
  by_cases hq : c.doc.prgQ.length < 4
  · rcases he : residentEntry c x.p.id with _ | e
    · obtain ⟨hqueue, hpins⟩ := queueStep_notResident c s x b hq he
      exact ⟨hqueue ▸ List.prefix_append _ _, hpins ▸ List.prefix_rfl⟩
    · obtain ⟨hqueue, hpins⟩ := queueStep_resident c s x b hq he
      exact ⟨hqueue ▸ List.prefix_append _ _, hpins ▸ List.prefix_append _ _⟩
  · exact (queueStep_full c s x b hq).stepsQueued

end

/-! ### The tests of a boundary -/

section
variable (c : Chip) (staged : Bool) (r : PrgRun) (lim : Option W) (x : StepRef)

/-- A resident step is announced where it is due, and its command is queued (R238, R244). -/
theorem testStep_resident (hid : x.p.id ≠ 0xFFFF) (hres : stepResident c r.slot x = true) :
    ∃ d : Chip, EngineKept c d ∧ testStep c staged r lim x = queueStep d r.slot x x.b := by
  simp only [testStep, hid, hres, if_true, if_false]
  refine ⟨_, ?_, rfl⟩
  exact ((engineKept_spendResidency c r.slot x).trans (engineKept_putRun _ _ _)).orElse (engineKept_sendAnn _ _ _ _ _ _ _ _ _ _)

theorem stepsQueued_testStep : StepsQueued c (testStep c staged r lim x) := by
  by_cases hid : x.p.id = 0xFFFF
  · simp only [testStep, hid, if_true]
    exact ((engineKept_spendResidency c r.slot x).trans (engineKept_putRun _ _ _)).stepsQueued
  cases hres : stepResident c r.slot x
  case true =>
    obtain ⟨d, hkept, heq⟩ := testStep_resident c staged r lim x hid hres
    rw [heq]
    exact hkept.stepsQueued.trans (stepsQueued_queueStep d _ _ _)
  case false =>
    simp only [testStep, hid, hres, Bool.false_eq_true, if_false]
    have hmiss := (engineKept_spendResidency c r.slot x).trans (engineKept_countMiss _)
    split
    · have hskip (y : PrgRun) :=
        (hmiss.trans (engineKept_skipSteps _ (passStep c r x) lim x.b 3)).trans (engineKept_putRun _ staged y)
      split
      · exact ((hskip _).orElse (engineKept_sendAnn _ _ _ _ _ _ _ _ _ _)).stepsQueued.trans (stepsQueued_queueStep _ _ _ _)
      · exact ((hskip _).orElse (engineKept_sendAnn _ _ _ _ _ _ _ _ _ _)).stepsQueued
    · exact ((hmiss.trans (engineKept_putRun _ _ _)).orElse (engineKept_sendAnn _ _ _ _ _ _ _ _ _ _)).stepsQueued

theorem stepsQueued_testRun (n : Nat) : StepsQueued c (testRun staged n c) := by
  induction n generalizing c with
  | zero => exact stepsQueued_refl c
  | succ n ih =>
    unfold testRun
    dsimp only
    split
    · exact stepsQueued_refl c
    · split
      · exact stepsQueued_refl c
      · exact (stepsQueued_testStep c _ _ _ _).trans (ih _)

end

theorem testRun_due {c : Chip} {r : PrgRun} {x : StepRef} (n : Nat) (hrun : c.prg.run = some r)
    (hx : (upcoming c r (runLimit c r) 8).head? = some x) :
    testRun false (n + 1) c = testRun false n (testStep c false r (runLimit c r) x) := by
  simp only [testRun, Bool.false_eq_true, if_false, hrun, hx]

/-- The first step due of the active programme, where it is resident: its command is the first that a boundary's tests queue, and its
entry stays pinned (R238). -/
theorem residencyTest_resident {c : Chip} {r : PrgRun} {x : StepRef} {e : Nat} (hre : c.prg.rejoin ≠ some c.tmr.period)
    (hrun : c.prg.run = some r) (hx : (upcoming c r (runLimit c r) 8).head? = some x) (hid : x.p.id ≠ 0xFFFF)
    (hres : stepResident c r.slot x = true) (hq : c.doc.prgQ.length < 4) (he : residentEntry c x.p.id = some e) :
    ∃ l, (residencyTest c).doc.prgQ = c.doc.prgQ ++ stepCmd c r.slot x x.b :: l
      ∧ (r.slot * 2 ^ 14 + x.index, e) ∈ (residencyTest c).prg.pins := by
  obtain ⟨d, hkept, htest⟩ := testStep_resident c false r (runLimit c r) x hid hres
  obtain ⟨hqueue, hpins⟩ := queueStep_resident d r.slot x x.b (hkept.doc ▸ hq) ((hkept.residentEntry _).trans he)
  have hall : residencyTest c = testRun true 4 (testRun false 3 (queueStep d r.slot x x.b)) := by
    rw [residencyTest, period, if_neg hre, testRun_due 3 hrun hx, htest]
  have hmore := (stepsQueued_testRun (queueStep d r.slot x x.b) false 3).trans (stepsQueued_testRun _ true 4)
  rw [← hall] at hmore
  obtain ⟨⟨l, hl⟩, hkeeps⟩ := hmore
  refine ⟨l, ?_, hkeeps.subset ?_⟩
  · rw [← hl, hqueue, hkept.doc, hkept.stepCmd, List.append_assoc, List.singleton_append]
  · rw [hpins]
    exact List.mem_append_right _ (List.mem_singleton.mpr rfl)

/-- Settles O13: each command of the engine by what its write or its boundary does; RESIDENCY_TEST by what a boundary's tests add to the
queue and to the pins. -/
theorem programmesRunTheirSteps : Obligations.ProgrammesRunTheirSteps := by
  unfold Obligations.ProgrammesRunTheirSteps
  refine ⟨?taken, ?busy, ?store, ?reject, ?origin, ?swap, ?stop, ?ends, ?residency, ?keeper, ?completion, ?rejoin, ?announce⟩
  case taken =>
    rintro s w ⟨hs, hr, hone⟩ hbusy
    have taken (k : Nat) (h1 : 1 ≤ k) (h6 : k ≤ 6) : run s (prgWrite · (withPrgCode w k))
        = .next { s with chip := defer (setB s.chip PRG_STAT_busy true) (eSingle s.chip) PRG_CMD (putField w 28 4 k) } := by
      have hcode := prgCode_withPrgCode w (k := k) (by omega)
      rw [run_live s _ hs, prgWrite_taken hr hone (h1.trans hcode.ge) (hcode.le.trans h6) hbusy]
      rfl
    exact ⟨taken 1 (by decide) (by decide), taken 2 (by decide) (by decide), taken 3 (by decide) (by decide),
      taken 4 (by decide) (by decide), taken 5 (by decide) (by decide), taken 6 (by decide) (by decide)⟩
  case busy =>
    rintro s w ⟨hs, hr, hone⟩ hbusy
    have refused (k : Nat) (h1 : 1 ≤ k) (h6 : k ≤ 6) :
        run s (prgWrite · (withPrgCode w k)) = .next { s with chip := prgRefuse s.chip 3 } := by
      have hcode := prgCode_withPrgCode w (k := k) (by omega)
      rw [run_live s _ hs, prgWrite_busy hr hone (h1.trans hcode.ge) (hcode.le.trans h6) hbusy]
    exact ⟨refused 1 (by decide) (by decide), refused 2 (by decide) (by decide), refused 3 (by decide) (by decide),
      refused 4 (by decide) (by decide), refused 5 (by decide) (by decide), refused 6 (by decide) (by decide)⟩
  case store =>
    rintro s off v ⟨hs, hr, hone⟩ hlo hhi hst
    rw [exec_stepMemoryWrite, execStepMemoryWrite, run_live s _ hs, slotWrite_stepMemory v hlo hhi hr hone,
      slotStore_loading v hlo hhi hst]
  case reject =>
    rintro s off v ⟨hs, hr, hone⟩ hlo hhi hst
    rw [exec_stepMemoryWrite, execStepMemoryWrite, run_live s _ hs, slotWrite_stepMemory v hlo hhi hr hone,
      slotStore_notLoading v hlo hhi hst]
  case origin =>
    intro s r o hs hrun hst ho hdue hre
    rw [exec_programmeOrigin, execProgrammeOrigin, run_live s _ hs, programmeOrigin_armed hrun hst ho hdue hre]
  case swap =>
    intro s q r cyc x hs hstaged hq hdue hre hrun
    rw [exec_stageSwap, execStageSwap, run_live s _ hs, stageSwap_due hrun hstaged hq hdue hre]
  case stop =>
    intro s r x hs hrun hstop hdue
    rw [exec_programmeStop, execProgrammeStop, run_live s _ hs, programmeStop_due hrun hstop hdue]
  case ends =>
    intro s r o hs hrun ho hcyc hdue hst hstaged hre
    rw [exec_programmeEnd, execProgrammeEnd, run_live s _ hs, programmeEnd_due hrun ho hcyc hdue hst hstaged hre]
  case residency =>
    intro s r x e hs hre hrun hx hid hres hq he
    obtain ⟨l, hqueue, hpin⟩ := residencyTest_resident hre hrun hx hid hres hq he
    exact ⟨residencyTest s.chip, l, by rw [exec_residencyTest, execResidencyTest, run_live s _ hs], hqueue, hpin⟩
  case keeper =>
    intro s sl x hs hpair hloan hdue hid hnew hend
    rw [exec_keeperResidencyTest, execKeeperResidencyTest, run_live s _ hs, keeperResidency_one hpair hloan hdue hid hnew hend,
      tellResidency_keeper sl (x.b - 8) hloan]
  case completion =>
    intro s tag l hs h
    rw [exec_stepCompletion, execStepCompletion, run_live s _ hs, stepCompletion_complete h]
  case rejoin =>
    intro s x r hs hre hnew hdue hrun hst
    rw [exec_timeStepRejoin, execTimeStepRejoin, run_live s _ hs, timeStepRejoin_running hrun hre hnew hdue hst]
  case announce =>
    intro s sl x l hs hen hdue hquiet hid hnew hl
    rw [exec_announcement, execAnnouncement, run_live s _ hs, announceDue_one hen hdue hquiet hid hnew hl]

end Sys2Proof.Machine
end

section
/-! Writes of CUR_CTL (R257, R258, R290): the mode is judged at the write, and what is not refused waits for P + 2 on a single
device. -/

open Sys2Proof

namespace Sys2Proof.Machine

theorem exec_curModeWrite_live {s : State} (hs : s.held = none) (v : W) :
    exec (.curModeWrite v) s = .next { s with chip := curCtlWrite s.chip v } := by
  rw [exec_curModeWrite, execCurModeWrite, run_live s _ hs]

theorem wbits_keepSlots_mode (c : Chip) (v : W) : wbits (keepSlots c v) 0 2 = wbits v 0 2 := by
  rw [keepSlots, wbits_putField_below _ 12 2 _ 0 2 (by decide) (by decide), wbits_putField_below _ 8 2 _ 0 2 (by decide) (by decide)]

/-- On a device that applies no journalled record, the mode in force and the mode that waits decide alone whether a write asks for
another mode. -/
theorem sameMode_congr {c d : Chip} (hc : c.twn.applying = false) (hd : d.twn.applying = false) (hcur : d.cur = c.cur)
    (hmode : curMode d = curMode c) (m : Nat) : sameMode d m = sameMode c m := by
  simp only [sameMode, hc, hd, hcur, hmode, Bool.false_and, Bool.or_false]

/-- What the host asks of CUR_CTL: while the mode in force is AUTO the slots keep their value (R290). -/
def ctlAsked (c : Chip) (v : W) : W := if curMode c = 2 then keepSlots c v else v

theorem wbits_ctlAsked_mode (c : Chip) (v : W) : wbits (ctlAsked c v) 0 2 = wbits v 0 2 := by
  unfold ctlAsked
  split
  · exact wbits_keepSlots_mode c v
  · rfl

/-- A write that would change a slot while the mode in force is AUTO is refused as far as the slots go (R290). -/
def ctlTold (c : Chip) (v : W) : Chip := if curMode c == 2 && keepSlots c v != v then curReject c else c

theorem ctlTold_eq (c : Chip) (v : W) : ctlTold c v = if curMode c = 2 ∧ keepSlots c v ≠ v then curReject c else c :=
  if_congr (by simp only [Bool.and_eq_true, beq_iff_eq, bne_iff_ne]) rfl rfl

/-- The mode that is asked for is refused for reason `r` (R258). -/
def modeRefused (c : Chip) (r : Nat) : Chip :=
  raise (setFld (setB c CUR_STAT_mode_reject true) CUR_STAT_mode_reason r) srcCUR_CMD_REJECT 0

/-- The reason for which a write's mode is refused; 0 if it asks for no other mode or for none is there (R258). -/
def ctlReason (c : Chip) (v : W) : Nat := if sameMode c (wbits v 0 2) then 0 else modeReason c (wbits v 0 2)

/-- The value that is taken: a refused mode leaves the mode that stands in CUR_CTL (R258). -/
def ctlTaken (c : Chip) (v : W) : W :=
  if ctlReason c v = 0 then ctlAsked c v else putField (ctlAsked c v) 0 2 (fld c CUR_CTL_mode)

/-- The device once the write is judged. -/
def ctlJudged (c : Chip) (v : W) : Chip := if ctlReason c v = 0 then ctlTold c v else modeRefused (ctlTold c v) (ctlReason c v)

/-- CUR_CTL shows the mode `m`; an accepted mode other than the one in force waits for `e` (R258). -/
def modeShown (c : Chip) (r m : Nat) (e : W) : Chip :=
  if r != 0 || sameMode c m then setFld c CUR_CTL_mode m
  else setFld { c with cur := { c.cur with modeWait := some (m, e) } } CUR_CTL_mode m

theorem curMode_curReject (c : Chip) : curMode (curReject c) = curMode c := by
  rw [curMode, curReject, fld_raise, setB,
    fld_setFld_other c (f := CUR_STAT_cmd_reject) (g := CUR_STAT_mode) _ rfl (by decide) (by decide), curMode]

theorem ctlTold_kept (c : Chip) (v : W) :
    (ctlTold c v).twn = c.twn ∧ (ctlTold c v).cur = c.cur ∧ curMode (ctlTold c v) = curMode c := by
  unfold ctlTold
  split
  · exact ⟨by rw [curReject, raise_twn, setB_twn], by rw [curReject, raise_cur, setB_cur], curMode_curReject c⟩
  · exact ⟨rfl, rfl, rfl⟩

theorem ctlJudged_twn (c : Chip) (v : W) : (ctlJudged c v).twn = c.twn := by
  unfold ctlJudged
  split
  · exact (ctlTold_kept c v).1
  · rw [modeRefused, raise_twn, setFld_twn, setB_twn, (ctlTold_kept c v).1]

section
variable {c : Chip} {v : W} (hr : reachable c CUR_CTL = true) (hs : Single c)
include hs

/-- Refusing a slot and deferring the write do not decide whether it asks for another mode. -/
theorem sameMode_deferred (e w : W) (m : Nat) : sameMode (defer (ctlTold c v) e CUR_CTL w) m = sameMode c m := by
  obtain ⟨-, -, happ, -⟩ := hs
  obtain ⟨htwn, hcur, hmode⟩ := ctlTold_kept c v
  exact sameMode_congr happ ((congrArg Twn.applying htwn).trans happ) hcur hmode m

include hr

theorem curCtlWrite_single : curCtlWrite c v
    = modeShown (defer (ctlJudged c v) (eSingle c) CUR_CTL (ctlTaken c v)) (ctlReason c v) (wbits (ctlTaken c v) 0 2) (eSingle c) := by
  obtain ⟨h1, h2, h3, h4⟩ := hs
  have happ : (ctlJudged c v).twn.applying = false := (congrArg Twn.applying (ctlJudged_twn c v)).trans h3
  rw [curCtlWrite, hostWrite_reach c _ _ hr, stateChange, stateChangeAs_single c _ _ _ h1 h2 h3 h4]
  change modeShown (if (ctlJudged c v).twn.applying then curCtlEffect (ctlJudged c v) (ctlTaken c v)
    else defer (ctlJudged c v) (eSingle c) CUR_CTL (ctlTaken c v)) _ _ _ = _
  rw [happ]
  rfl

theorem curCtlWrite_sameMode (h : sameMode c (wbits v 0 2) = true) :
    curCtlWrite c v
      = setFld (defer (ctlTold c v) (eSingle c) CUR_CTL (ctlAsked c v)) CUR_CTL_mode (wbits (ctlAsked c v) 0 2) := by
  have hreason : ctlReason c v = 0 := if_pos h
  rw [curCtlWrite_single hr hs, ctlTaken, ctlJudged, hreason, if_pos rfl, if_pos rfl, modeShown, sameMode_deferred hs,
    wbits_ctlAsked_mode, h]
  rfl

theorem curCtlWrite_newMode (h : sameMode c (wbits v 0 2) = false) (h0 : modeReason c (wbits v 0 2) = 0) :
    let d := defer (ctlTold c v) (eSingle c) CUR_CTL (ctlAsked c v)
    let m := wbits (ctlAsked c v) 0 2
    curCtlWrite c v = setFld { d with cur := { d.cur with modeWait := some (m, eSingle c) } } CUR_CTL_mode m := by
  have hreason : ctlReason c v = 0 := by rw [ctlReason, h, h0]; rfl
  rw [curCtlWrite_single hr hs, ctlTaken, ctlJudged, hreason, if_pos rfl, if_pos rfl, modeShown, sameMode_deferred hs,
    wbits_ctlAsked_mode, h]
  rfl

theorem curCtlWrite_refusedMode (h : sameMode c (wbits v 0 2) = false) (h0 : modeReason c (wbits v 0 2) ≠ 0) :
    let w := putField (ctlAsked c v) 0 2 (fld c CUR_CTL_mode)
    curCtlWrite c v
      = setFld (defer (modeRefused (ctlTold c v) (modeReason c (wbits v 0 2))) (eSingle c) CUR_CTL w) CUR_CTL_mode (wbits w 0 2) := by
  have hreason : ctlReason c v = modeReason c (wbits v 0 2) := by rw [ctlReason, h]; rfl
  have hrefused : (modeReason c (wbits v 0 2) != 0) = true := bne_iff_ne.mpr h0
  rw [curCtlWrite_single hr hs, ctlTaken, ctlJudged, hreason, if_neg h0, if_neg h0, modeShown, hrefused]
  rfl

end

end Sys2Proof.Machine
end

section
/-! The Curator's modes at their E, its demand, its epoch boundaries, its queue and its records (R257, R259–R264, R270, R285, R293). -/

open Sys2Proof

namespace Sys2Proof.Machine

section
variable {c : Chip}

/-! ### Modes (R257, R258, R263) -/

theorem curModeEffect_due {m : Nat} {e : W} (h : c.cur.modeWait = some (m, e)) (he : due c e = true) :
    let gone := c.cur.queue.filter (fun x => modeForbids (wbits x.w0 24 8) m)
    let u := c.cur
    let d : Chip := { c with cur := { u with
      modeWait := none, queue := u.queue.filter (fun x => !modeForbids (wbits x.w0 24 8) m),
      next := if m = 0 then none else if curMode c = 0 then some e else u.next,
      todo := if m = 2 then u.todo else none, script := if m = 2 then u.script else [], watch := none, lost := [],
      autoFirst := if m = 2 ∧ curMode c ≠ 2 then true else u.autoFirst,
      autoRef := if m = 2 ∧ curMode c ≠ 2 then none else u.autoRef } }
    curModeEffect c = showCur (gone.foldl (fun c x => curEnd c x 9) (setFld d CUR_STAT_mode m)) := by
  have hentry : (decide (m = 2) && curMode c != 2) = true ↔ m = 2 ∧ curMode c ≠ 2 := by
    rw [Bool.and_eq_true, decide_eq_true_iff, bne_iff_ne]
  simp only [curModeEffect, h, he, hentry, Bool.not_true, Bool.false_eq_true, if_false]

/-! ### Demand (R259–R261, R264) -/

/-- The Curator takes reports from its ingress queue (R259, R260). -/
def TakesReports (c : Chip) : Prop :=
  wbit (rd c CUR_RX_CTL) 31 = true ∧ curMode c ≠ 0 ∧ acting c = true ∧ queueOwner c (wbits (rd c CUR_RX_CTL) 0 4) = 1

/-- What becomes of the report `l`, whose frame has left the queue (R260, R261). -/
def reportJudged (c : Chip) (l : List Byte) : Chip :=
  let n := reportCount l
  let from_ := beAt l 4 4
  if !reportOk l then rxDrop c (if 1 ≤ n && n ≤ 180 && 4 ≤ l.length then n else 1) from_
  else if 2048 < c.cur.reports.length + n then rxDrop c n from_
  else
    let good := (reportEntries l n).filter (entryOk c)
    let shift := bitsAt (beAt l 1 1) 0 4
    let d := if good.length < n then rxDrop c (n - good.length) from_ else c
    countUp { d with cur := { d.cur with
      reports := d.cur.reports ++ good.map (fun e => (512 * e.1 + e.2.1, e.2.2 / 2 ^ shift)) } } CUR_RX_CNT good.length

theorem demandReport_head {f : QEntry} {rest : List QEntry} (h : TakesReports c)
    (hq : queue c (wbits (rd c CUR_RX_CTL) 0 4) = f :: rest) :
    demandReport c = reportJudged (setQueue c (wbits (rd c CUR_RX_CTL) 0 4) rest) (reportPayload f) := by
  obtain ⟨hopen, hmode, hact, howner⟩ := h
  have htakes : (!wbit (rd c CUR_RX_CTL) 31 || decide (curMode c = 0) || !acting c
      || queueOwner c (wbits (rd c CUR_RX_CTL) 0 4) != 1) = false := by simp [hopen, hmode, hact, howner]
  rw [demandReport]
  simp only [htakes, hq, Bool.false_eq_true, if_false]
  rfl

theorem reportJudged_malformed {l : List Byte} (h : reportOk l = false) :
    reportJudged c l
      = rxDrop c (if 1 ≤ reportCount l ∧ reportCount l ≤ 180 ∧ 4 ≤ l.length then reportCount l else 1) (beAt l 4 4) := by
  simp [reportJudged, h, and_assoc]

theorem reportJudged_noRoom {l : List Byte} (h : reportOk l = true) (hroom : 2048 < c.cur.reports.length + reportCount l) :
    reportJudged c l = rxDrop c (reportCount l) (beAt l 4 4) := by
  simp [reportJudged, h, hroom]

theorem reportJudged_taken {l : List Byte} (h : reportOk l = true) (hroom : c.cur.reports.length + reportCount l ≤ 2048) :
    let n := reportCount l
    let good := (reportEntries l n).filter (entryOk c)
    let d := if good.length < n then rxDrop c (n - good.length) (beAt l 4 4) else c
    reportJudged c l = countUp { d with cur := { d.cur with
      reports := d.cur.reports ++ good.map (fun e => (512 * e.1 + e.2.1, e.2.2 / 2 ^ bitsAt (beAt l 1 1) 0 4)) } }
        CUR_RX_CNT good.length := by
  have hgood : ¬ (!reportOk l) = true := by rw [h]; decide
  exact (if_neg hgood).trans (if_neg (Nat.not_lt.mpr hroom))

theorem carrySweep_none (h : c.cur.sweep = none) : carrySweep c = c := by
  rw [carrySweep, h]

theorem carrySweep_some {d : Nat} (h : c.cur.sweep = some d) :
    let carry := c.cur.frozen.map (fun e => (e.1, if d = 0 then 0 else e.2.toNat - e.2.toNat / 2 ^ d))
    carrySweep c = { c with cur := { c.cur with
      sweep := none, fill := carry.foldl (fun m e => fillAdd m e.1 e.2) c.cur.fill } } := by
  simp only [carrySweep, h]

/-! ### Epoch boundaries (R263, R264, R270) -/

/-- An epoch whose work has not ended by its boundary is given up (R270). -/
def lateDropped (c : Chip) : Chip :=
  if (c.cur.todo.isSome || !c.cur.script.isEmpty) && acting c then
    raise (setB { c with cur := { c.cur with todo := none, script := [] } } CUR_STAT_epoch_late true) srcCUR_EPOCH_LATE 0
  else c

/-- At the boundary `x` FROZEN takes FILL, and nothing after a cold entry (R263, R264). -/
def bankTurned (c : Chip) (x : W) : Chip :=
  let cold := c.cur.cold || !acting c
  let u := c.cur
  { c with cur := { u with
    frozen := if cold then [] else u.fill, fill := [], reports := if acting c then u.reports else [],
    sweep := if cold then none else some (fld c CUR_MATCH_CTL_decay), next := some (x + rd c CUR_EPOCH_LEN),
    cold := !acting c } }

/-- CUR_EPOCH_CNT counts the boundary (R264). -/
def epochCounted (c : Chip) : Chip := wr c CUR_EPOCH_CNT (rd c CUR_EPOCH_CNT + 1)

theorem curMode_epochCounted (c : Chip) : curMode (epochCounted c) = curMode c := fld_wr_other c _ (by decide)

theorem curatorEpoch_due {x : W} (h : c.cur.next = some x) (he : due c x = true) :
    let d := epochCounted (bankTurned (lateDropped (carrySweep c)) x)
    curatorEpoch c = showCur (if curMode d = 2 && acting d then epochBegin d else d) := by
  simp only [curatorEpoch, h, he, Bool.not_true, Bool.false_eq_true, if_false]
  rfl

theorem lateDropped_onTime (htodo : c.cur.todo = none) (hscript : c.cur.script = []) : lateDropped c = c := by
  simp [lateDropped, htodo, hscript]

theorem bankTurned_acting {x : W} (hact : acting c = true) : bankTurned c x = { c with cur := { c.cur with
    frozen := if c.cur.cold then [] else c.cur.fill, fill := [],
    sweep := if c.cur.cold then none else some (fld c CUR_MATCH_CTL_decay), next := some (x + rd c CUR_EPOCH_LEN),
    cold := false } } := by
  simp only [bankTurned, hact, Bool.not_true, Bool.or_false, if_true]

/-- Out of AUTO a boundary only turns the banks over. -/
theorem curatorEpoch_notAuto {x : W} (h : c.cur.next = some x) (he : due c x = true) (hsweep : c.cur.sweep = none)
    (htodo : c.cur.todo = none) (hscript : c.cur.script = []) (hmode : curMode c ≠ 2) :
    curatorEpoch c = showCur (epochCounted (bankTurned c x)) := by
  have hauto : (decide (curMode (epochCounted (bankTurned c x)) = 2) && acting (epochCounted (bankTurned c x))) = false := by
    rw [curMode_epochCounted, decide_eq_false (show curMode (bankTurned c x) ≠ 2 from hmode), Bool.false_and]
  rw [curatorEpoch_due h he, carrySweep_none hsweep, lateDropped_onTime htodo hscript, hauto]
  rfl

/-! ### Commands and records (R285, R293) -/

theorem curCmdWrite_room {v : W} (hr : reachable c (CUR_CMD 3) = true) (hs : Single c)
    (hroom : c.cur.queue.length + c.cur.incoming.length < 16) :
    let d := wr c (CUR_CMD 3) v
    curCmdWrite c v = { d with cur := { d.cur with
      incoming := d.cur.incoming ++ [(⟨written c (CUR_CMD 0), written c (CUR_CMD 1), written c (CUR_CMD 2), v⟩, eSingle c)] } } := by
  obtain ⟨h1, h2, h3, h4⟩ := hs
  exact hostChangeIf_taken c _ v _ _ hr h1 h2 h3 h4 (if_neg (Nat.not_le.mpr hroom))

theorem curCmdWrite_full {v : W} (hr : reachable c (CUR_CMD 3) = true) (hs : Single c)
    (hfull : 16 ≤ c.cur.queue.length + c.cur.incoming.length) : curCmdWrite c v = curReject (wr c (CUR_CMD 3) v) := by
  obtain ⟨h1, h2, h3, h4⟩ := hs
  exact hostChangeIf_refused c _ v _ _ _ hr h1 h2 h3 h4 (if_pos hfull)

theorem curDonePop_cons {x : CurDone} {rest : List CurDone} (hr : reachable c CUR_DONE0 = true) (h : c.cur.done = x :: rest) :
    let d : Chip := { c with cur := { c.cur with done := rest } }
    curDonePop c = answer (showCur (wr d CUR_DONE1 x.detail)) x.word := by
  rw [curDonePop, hostRead_reach c _ _ hr, h]

theorem curDonePop_nil (hr : reachable c CUR_DONE0 = true) (h : c.cur.done = []) : curDonePop c = answer c 0 := by
  rw [curDonePop, hostRead_reach c _ _ hr, h]

end

/-! ### The commands -/

section
variable {s : State} (hs : s.held = none)
include hs

theorem exec_curModeEffect_live : exec .curModeEffect s = .next { s with chip := curModeEffect s.chip } := by
  rw [exec_curModeEffect, execCurModeEffect, run_live s _ hs]

theorem exec_demandReport_live : exec .demandReport s = .next { s with chip := demandReport s.chip } := by
  rw [exec_demandReport, execDemandReport, run_live s _ hs]

theorem exec_curatorEpoch_live : exec .curatorEpoch s = .next { s with chip := curatorEpoch s.chip } := by
  rw [exec_curatorEpoch, execCuratorEpoch, run_live s _ hs]

theorem exec_carrySweepEnd_live : exec .carrySweepEnd s = .next { s with chip := carrySweep s.chip } := by
  rw [exec_carrySweepEnd, execCarrySweepEnd, run_live s _ hs]

theorem exec_curCmdEnqueue_live (v : W) : exec (.curCmdEnqueue v) s = .next { s with chip := curCmdWrite s.chip v } := by
  rw [exec_curCmdEnqueue, execCurCmdEnqueue, run_live s _ hs]

theorem exec_curDonePop_live : exec .curDonePop s = .next { s with chip := curDonePop s.chip } := by
  rw [exec_curDonePop, execCurDonePop, run_live s _ hs]

end

/-- Settles O14: each write, effect, boundary and read of the Curator by the lemma of its case. -/
theorem curatorKeepsModesDemandAndEpochs : Obligations.CuratorKeepsModesDemandAndEpochs := by
  unfold Obligations.CuratorKeepsModesDemandAndEpochs
  refine ⟨?write, ?effect, ?report, ?epoch, ?sweep, ?enqueue, ?pop, ?empty⟩
  case write =>
    rintro s v ⟨hs, hr, hone⟩
    rw [exec_curModeWrite_live hs]
    refine ⟨fun h => ?_, fun h h0 => ?_, fun h h0 => ?_⟩
    · rw [curCtlWrite_sameMode hr hone h, ctlTold_eq]
      rfl
    · rw [curCtlWrite_newMode hr hone h h0, ctlTold_eq]
      rfl
    · rw [curCtlWrite_refusedMode hr hone h h0, ctlTold_eq]
      rfl
  case effect =>
    intro s m e hs h he
    rw [exec_curModeEffect_live hs, curModeEffect_due h he]
  case report =>
    rintro s q f rest hs rfl hopen hmode hact howner hq
    rw [exec_demandReport_live hs, demandReport_head ⟨hopen, hmode, hact, howner⟩ hq]
    refine ⟨fun h hroom => ?_, fun h hroom => ?_, fun h => ?_⟩
    · rw [reportJudged_taken h hroom]
    · rw [reportJudged_noRoom h hroom]
    · rw [reportJudged_malformed h]
  case epoch =>
    intro s x hs h he hsweep htodo hscript hmode hact
    refine ⟨_, ?_, rfl⟩
    rw [exec_curatorEpoch_live hs, curatorEpoch_notAuto h he hsweep htodo hscript (by rw [hmode]; decide),
      bankTurned_acting hact]
    rfl
  case sweep =>
    intro s d hs h
    rw [exec_carrySweepEnd_live hs, carrySweep_some h]
  case enqueue =>
    rintro s v ⟨hs, hr, hone⟩
    rw [exec_curCmdEnqueue_live hs]
    refine ⟨fun hroom => ?_, fun hfull => ?_⟩
    · rw [curCmdWrite_room hr hone hroom]
    · rw [curCmdWrite_full hr hone hfull]
  case pop =>
    rintro s x rest ⟨hs, hr⟩ h
    rw [exec_curDonePop_live hs, curDonePop_cons hr h]
  case empty =>
    rintro s ⟨hs, hr⟩ h
    rw [exec_curDonePop_live hs, curDonePop_nil hr h]

end Sys2Proof.Machine
end

section
/-! The head of the Curator's queue (R285, R287): it runs, or completes with the status that refuses it. -/

open Sys2Proof

namespace Sys2Proof.Machine

/-! ### What a completion leaves -/

theorem showCur_cur (c : Chip) : (showCur c).cur = c.cur := by
  rw [showCur, wr_cur, setFld_cur, setFld_cur, setB_cur]

theorem curComplete_queue (c : Chip) (d : CurDone) : (curComplete c d).cur.queue = c.cur.queue := by
  unfold curComplete
  split
  · rw [showCur_cur]
  · rw [showCur_cur, setB_cur]

theorem curEnd_queue (c : Chip) (x : CurCmd) (st : Nat) : (curEnd c x st).cur.queue = c.cur.queue := curComplete_queue c _

/-! ### The queue -/

section
variable {c : Chip} {x : CurCmd} {rest : List CurCmd}

theorem curFlush_empty (n : Nat) (h : c.cur.queue = []) : curFlush n c = c := by
  cases n with
  | zero => rfl
  | succ n => simp only [curFlush, h, ite_self]

/-- A head that is refused completes in its turn (R287). -/
theorem curFlush_refused {st : Nat} (n : Nat) (hgo : (c.cur.job.isSome || safe c) = false) (hq : c.cur.queue = x :: rest)
    (hst : curRefusal c x = some st) :
    curFlush (n + 1) c = curFlush n (curEnd { c with cur := { c.cur with queue := rest } } x st) := by
  simp only [curFlush, hgo, hq, hst, Bool.false_eq_true, if_false]

theorem curTake_noneIncoming (h : c.cur.incoming = []) : curTake c = curFlush 16 (showCur c) := by
  have hsame : ({ c.cur with incoming := [] } : Cur) = c.cur := by rw [← h]
  simp only [curTake, h, List.filter_nil, List.map_nil, List.append_nil, hsame]

/-- The only command of the queue is refused: the queue is empty once it has completed. -/
theorem curTake_refusedLast {st : Nat} (hq : c.cur.queue = [x]) (hin : c.cur.incoming = [])
    (hgo : ((showCur c).cur.job.isSome || safe (showCur c)) = false) (hst : curRefusal (showCur c) x = some st) :
    curTake c = curEnd { showCur c with cur := { (showCur c).cur with queue := [] } } x st := by
  have hq' : (showCur c).cur.queue = [x] := by rw [showCur_cur, hq]
  rw [curTake_noneIncoming hin, curFlush_refused 15 hgo hq' hst, curFlush_empty 15 (curEnd_queue _ x st)]

/-- The device once the head has left the queue to run, and `rest` waits. -/
def curTaken (c : Chip) (rest : List CurCmd) : Chip := { curTake c with cur := { (curTake c).cur with queue := rest } }

variable {k : Nat} {f : Chip → CurCmd → Chip}

theorem curRun_empty (h : (curTake c).cur.queue = []) : curRun c k f = curTake c := by
  simp only [curRun, h, ite_self]

theorem curRun_head (hgo : ((curTake c).cur.job.isSome || safe (curTake c)) = false)
    (hq : (curTake c).cur.queue = x :: rest) (hcode : wbits x.w0 24 8 = k) :
    curRun c k f = showCur (f (curTaken c rest) x) := by
  simp only [curRun, hgo, hq, hcode, Bool.false_eq_true, if_false, if_true]
  rfl

/-- A command at the head of the queue runs, and leaves the device `d` that its meaning makes of the one it was taken from. -/
theorem exec_curRun_head {i : Instr} {s : State} {d : Chip} (hi : ∀ s, exec i s = run s (curRun · k f)) (h : CurHead s x rest k)
    (hf : f (curTaken s.chip rest) x = d) : exec i s = .next { s with chip := showCur d } := by
  obtain ⟨hs, hgo, hq, hcode, -⟩ := h
  rw [hi, run_live s _ hs, curRun_head hgo hq hcode, hf]

/-- The only command of the queue completes with the status that refuses it, whichever command comes. -/
theorem exec_curRun_refused {i : Instr} {s : State} {st : Nat} (hi : ∀ s, exec i s = run s (curRun · k f))
    (hs : s.held = none) (hq : s.chip.cur.queue = [x]) (hin : s.chip.cur.incoming = [])
    (hgo : ((showCur s.chip).cur.job.isSome || safe (showCur s.chip)) = false) (hst : curRefusal (showCur s.chip) x = some st) :
    exec i s = .next { s with
      chip := curEnd { showCur s.chip with cur := { (showCur s.chip).cur with queue := [] } } x st } := by
  have htake := curTake_refusedLast hq hin hgo hst
  have hempty : (curTake s.chip).cur.queue = [] := by rw [htake, curEnd_queue]
  rw [hi, run_live s _ hs, curRun_empty hempty, htake]

end

end Sys2Proof.Machine
end

section
/-! The Curator's commands (R284–R287, R293): what each does once it is taken, and how an APPLY goes on. -/

open Sys2Proof

namespace Sys2Proof.Machine

section
variable {c : Chip} {x : CurCmd}

/-! ### CONNECT, DISCONNECT, CLEAR -/

theorem curConnect_badPort (h : entryOk c (wbits x.w1 0 10, wbits x.w1 16 10, 0) = false) : curConnect c x = curEnd c x 5 := by
  simp only [curConnect, h, Bool.not_false, if_true]

theorem curConnect_occupied (h : entryOk c (wbits x.w1 0 10, wbits x.w1 16 10, 0) = true) (hforce : wbit x.w1 31 = false)
    (hocc : ((mapGet c.cur.work (wbits x.w1 0 10)).isSome || (userOf c (wbits x.w1 16 10)).isSome) = true) :
    curConnect c x = curEnd c x 4 := by
  simp only [curConnect, h, hforce, hocc, Bool.not_true, Bool.not_false, Bool.and_self, Bool.false_eq_true, if_false, if_true]

/-- The pair that uses the output `q` is cleared. -/
def freeOutput (c : Chip) (q : Nat) : Chip :=
  match userOf c q with
  | some u => dropPair c u
  | none => c

theorem curConnect_pairs (h : entryOk c (wbits x.w1 0 10, wbits x.w1 16 10, 0) = true)
    (hfree : wbit x.w1 31 = true ∨ (mapGet c.cur.work (wbits x.w1 0 10) = none ∧ userOf c (wbits x.w1 16 10) = none)) :
    let p := wbits x.w1 0 10
    let q := wbits x.w1 16 10
    let d := freeOutput (dropPair c p) q
    curConnect c x = curEnd { d with cur := { d.cur with
      work := mapPut d.cur.work p q, persist := if wbit x.w1 30 then d.cur.persist ++ [p] else d.cur.persist } } x 1 := by
  have hocc : (!wbit x.w1 31 && ((mapGet c.cur.work (wbits x.w1 0 10)).isSome || (userOf c (wbits x.w1 16 10)).isSome)) = false := by
    rcases hfree with hforce | ⟨hp, hq⟩
    · rw [hforce]; rfl
    · rw [hp, hq]; exact Bool.and_false _
  simp only [curConnect, h, hocc, Bool.not_true, Bool.false_eq_true, if_false]
  rfl

theorem curDisconnect_badPort (h : entryOk c (wbits x.w1 0 10, wbits x.w1 0 10, 0) = false) : curDisconnect c x = curEnd c x 5 := by
  simp only [curDisconnect, h, Bool.not_false, if_true]

theorem curDisconnect_drops (h : entryOk c (wbits x.w1 0 10, wbits x.w1 0 10, 0) = true) :
    let p := wbits x.w1 0 10
    curDisconnect c x = curEnd (if wbit x.w1 31 then freeOutput c p else dropPair c p) x 1 := by
  simp only [curDisconnect, h, freeOutput, Bool.not_true, Bool.false_eq_true, if_false]
  split
  · cases userOf c (wbits x.w1 0 10) <;> rfl
  · rfl

theorem curClear_eq (c : Chip) (x : CurCmd) :
    curClear c x = curEnd { c with cur := { c.cur with work := [], persist := [] } } x 1 := rfl

/-! ### LOAD_PERM, LOAD_ARR -/

theorem curLoadPerm_valid {t : Topo} (ht : c.topo = some t)
    (h : permValid t (permEntries (permBuffer c (wbits x.w1 0 2))) = true) :
    curLoadPerm c x = curEnd (setWork c (permEntries (permBuffer c (wbits x.w1 0 2)))) x 1 := by
  simp only [curLoadPerm, ht, h, if_true]

theorem curLoadPerm_invalid (h : ∀ y, c.topo = some y → permValid y (permEntries (permBuffer c (wbits x.w1 0 2))) = false) :
    curLoadPerm c x = curEnd c x 6 := by
  unfold curLoadPerm
  cases ht : c.topo with
  | none => rfl
  | some t => simp only [h t ht, Bool.false_eq_true, if_false]

theorem arrId_toNat (w : W) : (BitVec.ofNat 16 (wbits w 0 16)).toNat = wbits w 0 16 := by
  rw [BitVec.toNat_ofNat]
  exact Nat.mod_eq_of_lt (bitsAt_lt _ _ _)

theorem curLoadArr_absent (h : storeState c (wbits x.w1 0 16) ≠ 1) : curLoadArr c x = curEnd c x 10 := by
  simp only [curLoadArr, arrId_toNat, bne_iff_ne.mpr h, if_true]

section
variable (hstored : storeState c (wbits x.w1 0 16) = 1)
include hstored

theorem curLoadArr_loads {t : Topo} (ht : c.topo = some t)
    (hperm : bitsAt (arrFlags (arrContent c (BitVec.ofNat 16 (wbits x.w1 0 16)))) 0 1 = 1)
    (htopo : leAt (arrContent c (BitVec.ofNat 16 (wbits x.w1 0 16))) 8 4 = t.topologyId.toNat) :
    let l := arrContent c (BitVec.ofNat 16 (wbits x.w1 0 16))
    let d := setWork c (permEntries (arrPerm l))
    curLoadArr c x = curEnd { d with cur := { d.cur with ref := some l } } x 1 := by
  simp only [curLoadArr, arrId_toNat, hstored, ht, hperm, htopo, bne_self_eq_false, Bool.or_self, Bool.false_eq_true, if_false]

theorem curLoadArr_unfit (h : ∀ y, c.topo = some y →
      bitsAt (arrFlags (arrContent c (BitVec.ofNat 16 (wbits x.w1 0 16)))) 0 1 ≠ 1
        ∨ leAt (arrContent c (BitVec.ofNat 16 (wbits x.w1 0 16))) 8 4 ≠ y.topologyId.toNat) : curLoadArr c x = curEnd c x 7 := by
  simp only [curLoadArr, arrId_toNat, hstored, bne_self_eq_false, Bool.false_eq_true, if_false]
  cases ht : c.topo with
  | none => rfl
  | some t =>
    have hunfit : (bitsAt (arrFlags (arrContent c (BitVec.ofNat 16 (wbits x.w1 0 16)))) 0 1 != 1
        || leAt (arrContent c (BitVec.ofNat 16 (wbits x.w1 0 16))) 8 4 != t.topologyId.toNat) = true := by
      rw [Bool.or_eq_true, bne_iff_ne, bne_iff_ne]
      exact h t ht
    simp only [hunfit, if_true]

end

/-! ### APPLY (R279, R281–R287) -/

theorem curApply_runs (hpair : c.twn.paired = false) (hact : acting c = true) (hroom : changeWaits c (20 + arrBytes) = false) :
    curApply c = curRun c 6 applyRun := by
  simp only [curApply, hpair, hact, hroom, Bool.and_false, Bool.not_true, Bool.or_self, Bool.false_eq_true, if_false]

theorem applyRun_badId (ht : c.topo.isSome = true) (h : badId c x = true) : applyRun c x = curEnd c x 7 := by
  obtain ⟨t, ht⟩ := Option.isSome_iff_exists.mp ht
  simp only [applyRun, ht, h, if_true]

/-- An APPLY that names no ID, whose route serves what drop_ok demands, with a free ID and a compilation that checks. -/
theorem applyRun_writes {t : Topo} {id : Nat} {l : List Byte} (ht : c.topo = some t) (hname : wbits x.w1 0 16 = 0xFFFF) :
    let drop := fldB c CUR_CTL_drop_ok
    let ref := refOf c c.cur.ref
    let r := routePerm c t (workPerm c) ref drop
    let k := compileChecked (idPast r.2 id) t id r.1 ref
    let job : CurJob := ⟨wbits x.w0 0 16, wbit x.w1 16, wbit x.w1 17, x.w2, r.1.status drop, r.1.dropped, r.1.broken,
      BitVec.ofNat 16 id, l, 0⟩
    r.1.status drop ≠ 3 → idChoice r.2 = some id → k.1 = some l →
    applyRun c x = curWriteStart { k.2 with cur := { k.2.cur with job := some job } } (BitVec.ofNat 16 id) l none := by
  intro drop ref r k job hstatus hid hk
  have hbad : badId c x = false := by simp [badId, hname]
  have hcompiled : compileChecked (idPast r.2 id) t id r.1 ref = (some l, k.2) := Prod.ext hk rfl
  simp only [applyRun, ht, hbad, hname, Bool.false_eq_true, if_false, if_true]
  simp only [drop, ref, r] at hstatus hid hcompiled
  simp only [hstatus, hid, hcompiled, if_false]
  rfl

/-! ### The write of an arrangement (R284, R286) -/

/-- The written content of an arrangement: in its entry of the cache, or in its slot of the store. -/
def contentPlaced (c : Chip) (w : CurWrite) : Chip :=
  match if w.e.isSome then curVictim c w.id w.next else w.entry with
  | some k => setEntry c k ⟨2, true, w.id, w.content⟩
  | none => memWrite c 5 (slotAddr c w.id.toNat) w.content

theorem cacheWriteEnd_due {w : CurWrite} {rest : List CurWrite} (h : c.cur.writes = w :: rest)
    (hdue : ∀ e, w.e = some e → due c e = true) :
    let d := contentPlaced { c with cur := { c.cur with writes := rest } } w
    cacheWriteEnd c = showCur (epochLoad (applyWritten (setStore d w.id.toNat 1) w.id)) := by
  have hends : (match w.e with | some e => due c e | none => true) = true := by
    split
    next e he => exact hdue e he
    next => rfl
  simp only [cacheWriteEnd, h]
  exact if_pos hends

section
variable {j : CurJob} (hj : c.cur.job = some j)
include hj

theorem applyWritten_go (h0 : j.stage = 0) (hgo : j.go = true) :
    applyWritten c j.id = { c with cur := { c.cur with job := some { j with stage := 1 } } } := by
  simp only [applyWritten, hj, h0, hgo, decide_true, Bool.and_self, if_true]

theorem applyWritten_ends (h0 : j.stage = 0) (hgo : j.go = false) :
    applyWritten c j.id = curComplete { c with cur := { c.cur with ref := some j.content, job := none } }
      ⟨6, j.status, j.tag, j.id.toNat, 0, j.dropped, j.broken⟩ := by
  simp only [applyWritten, hj, h0, hgo, decide_true, Bool.and_self, if_true, Bool.false_eq_true, if_false]
  rfl

/-! ### APPLY with go (R179, R286) -/

theorem curDocPlace_room (h1 : j.stage = 1) (hpair : c.twn.paired = false)
    (hroom : c.doc.curQ.length + (c.doc.incoming.filter (fun e => e.1.source == 2)).length < 4) (hwait : changeWaits c 36 = false) :
    let d : Chip := { c with cur := { c.cur with job := some { j with stage := 2 } } }
    let r := newDocCmd d (toW (0x10 * 2 ^ 24 + j.tag)) (toW (b2n j.asap * 2 ^ 16 + j.id.toNat)) j.b 0 2
    curDocPlace c = enqueueCmd r.2 r.1 := by
  have hplace : (j.stage != 1 || decide (4 ≤ c.doc.curQ.length + (c.doc.incoming.filter (fun e => e.1.source == 2)).length)
      || changeWaits c 36) = false := by
    rw [h1, decide_eq_false (Nat.not_le.mpr hroom), hwait]
    rfl
  simp only [curDocPlace, hj, hplace, hpair, Bool.false_eq_true, if_false]

section
variable {r : DoneRec} {rest : List DoneRec} (hr : c.doc.curDone = r :: rest) (h2 : j.stage = 2)
include hr h2

theorem curDocRecord_complete (hst : r.status = 1) :
    let d : Chip := { c with doc := { c.doc with curDone := rest } }
    curDocRecord c = showCur (curComplete { d with cur := { d.cur with ref := some j.content, job := none } }
      ⟨6, j.status, j.tag, j.id.toNat, r.status, j.dropped, j.broken⟩) := by
  simp only [curDocRecord, hr, hj, h2, hst, bne_self_eq_false, Bool.false_eq_true, if_false, if_true]
  rfl

theorem curDocRecord_failed (hst : r.status ≠ 1) :
    let d : Chip := { c with doc := { c.doc with curDone := rest } }
    curDocRecord c = showCur (curComplete { d with cur := { d.cur with job := none } }
      ⟨6, 11, j.tag, j.id.toNat, r.status, j.dropped, j.broken⟩) := by
  simp only [curDocRecord, hr, hj, h2, hst, bne_self_eq_false, Bool.false_eq_true, if_false]
  rfl

end

end

end

/-! ### The commands -/

section
variable {s : State} (hs : s.held = none)
include hs

theorem exec_cacheWriteEnd_live : exec .cacheWriteEnd s = .next { s with chip := cacheWriteEnd s.chip } := by
  rw [exec_cacheWriteEnd, execCacheWriteEnd, run_live s _ hs]

theorem exec_curDocQueuePlace_live : exec .curDocQueuePlace s = .next { s with chip := curDocPlace s.chip } := by
  rw [exec_curDocQueuePlace, execCurDocQueuePlace, run_live s _ hs]

theorem exec_curDocRecord_live : exec .curDocRecord s = .next { s with chip := curDocRecord s.chip } := by
  rw [exec_curDocRecord, execCurDocRecord, run_live s _ hs]

end

/-- An APPLY at the head of the queue runs on a single device that acts (R286, R345, R348). -/
theorem exec_curApply_head {s : State} {x : CurCmd} {rest : List CurCmd} {d : Chip} (h : CurHead s x rest 6)
    (hact : acting s.chip = true) (hpair : s.chip.twn.paired = false) (hroom : changeWaits s.chip (20 + arrBytes) = false)
    (hd : applyRun (curTaken s.chip rest) x = d) : exec .curApply s = .next { s with chip := showCur d } := by
  obtain ⟨hs, hgo, hq, hcode, -⟩ := h
  rw [exec_curApply, execCurApply, run_live s _ hs, curApply_runs hpair hact hroom, curRun_head hgo hq hcode, hd]

/-- Settles O15: a command at the head of the queue by what it does once taken, a refused one by the flush of the queue, and the
ways an APPLY goes on each by its own lemma. -/
theorem curatorCommandsAct : Obligations.CuratorCommandsAct := by
  unfold Obligations.CuratorCommandsAct
  refine ⟨?connect, ?disconnect, ?clear, ?loadPerm, ?loadArr, ?apply, ?refused, ?checked, ?written, ?applied, ?place, ?record⟩
  case connect =>
    intro s x rest h c p q hport hfree
    exact exec_curRun_head exec_connect h (curConnect_pairs hport hfree)
  case disconnect =>
    intro s x rest h c p hport
    exact exec_curRun_head exec_disconnect h (curDisconnect_drops hport)
  case clear =>
    intro s x rest h
    exact exec_curRun_head exec_curClear h (curClear_eq _ x)
  case loadPerm =>
    intro s x rest t h c l ht hvalid
    exact exec_curRun_head exec_loadPerm h (curLoadPerm_valid ht hvalid)
  case loadArr =>
    intro s x rest t h c l d ht hstored hperm htopo
    exact exec_curRun_head exec_loadArr h (curLoadArr_loads hstored ht hperm htopo)
  case apply =>
    intro s x rest t id l h hact hpair _ hroom c drop ref r k ht hname hstatus hid hk
    exact exec_curApply_head h hact hpair hroom (applyRun_writes ht hname hstatus hid hk)
  case refused =>
    intro s x st hs hq hin c hgo hst
    exact ⟨exec_curRun_refused exec_connect hs hq hin hgo hst, exec_curRun_refused exec_disconnect hs hq hin hgo hst,
      exec_curRun_refused exec_curClear hs hq hin hgo hst, exec_curRun_refused exec_loadPerm hs hq hin hgo hst,
      exec_curRun_refused exec_loadArr hs hq hin hgo hst⟩
  case checked =>
    intro s x rest k h c t p q id
    refine ⟨?badPort, ?occupied, ?noPort, ?invalid, ?absent, ?unfit, ?badId⟩
    case badPort =>
      rintro rfl hport
      exact exec_curRun_head exec_connect h (curConnect_badPort hport)
    case occupied =>
      rintro rfl hport hforce hocc
      exact exec_curRun_head exec_connect h (curConnect_occupied hport hforce hocc)
    case noPort =>
      rintro rfl hport
      exact exec_curRun_head exec_disconnect h (curDisconnect_badPort hport)
    case invalid =>
      rintro rfl hinvalid
      exact exec_curRun_head exec_loadPerm h (curLoadPerm_invalid hinvalid)
    case absent =>
      rintro rfl habsent
      exact exec_curRun_head exec_loadArr h (curLoadArr_absent habsent)
    case unfit =>
      rintro rfl hstored hunfit
      exact exec_curRun_head exec_loadArr h (curLoadArr_unfit hstored hunfit)
    case badId =>
      rintro rfl hact hpair hroom ht hbad
      exact exec_curApply_head h hact hpair hroom (applyRun_badId ht hbad)
  case written =>
    intro s w rest hs h hdue _
    rw [exec_cacheWriteEnd_live hs, cacheWriteEnd_due h hdue]
    rfl
  case applied =>
    rintro s c j - hj h0
    exact ⟨applyWritten_go hj h0, applyWritten_ends hj h0⟩
  case place =>
    intro s j hs hj h1 hpair hroom hwait
    rw [exec_curDocQueuePlace_live hs, curDocPlace_room hj h1 hpair hroom hwait]
  case record =>
    intro s r rest j hs hr hj h2
    rw [exec_curDocRecord_live hs]
    refine ⟨fun hst => ?_, fun hst => ?_⟩
    · rw [curDocRecord_complete hj hr h2 hst]
    · rw [curDocRecord_failed hj hr h2 hst]

end Sys2Proof.Machine
end

section
/-! Tile links (R314, R322–R324, R328): a link after it is passed through a function, what a request leaves in it, and a link as it
enters a state. -/

open Sys2Proof

namespace Sys2Proof.Machine

/-- A command that takes the device to `d`, where no reset holds it. -/
theorem run_to {s : State} {f : Chip → Chip} {d : Chip} (hs : s.held = none) (hf : f s.chip = d) :
    run s f = .next { s with chip := d } := by
  rw [run_live s f hs, hf]

/-! ### One link -/

theorem linkOf_congr {c d : Chip} (h : d.ngl = c.ngl) (t : Nat) : linkOf d t = linkOf c t := by
  rw [linkOf, linkOf, h]

@[simp] theorem linkOf_modLink_same (c : Chip) (t : Nat) (f : Link → Link) : linkOf (modLink c t f) t = f (linkOf c t) := by
  rw [linkOf, modLink, mapRead_mapWrite, if_pos rfl]

theorem linkState_congr {c d : Chip} (h : d.regs = c.regs) (t : Nat) : linkState d t = linkState c t := fld_congr h _

theorem linkState_wr (c : Chip) {a t : Nat} (v : W) (h : a ≠ NGL_L_STAT t) : linkState (wr c a v) t = linkState c t :=
  fld_wr_other c v h

theorem linkState_setFld_state (c : Chip) (t : Nat) {n : Nat} (hn : n ≤ 9) :
    linkState (setFld c (NGL_L_STAT_state t) n) t = n := by
  rw [linkState, fld_setFld_same c (NGL_L_STAT_state t) n (show 28 + 4 ≤ 32 by decide)]
  exact Nat.mod_eq_of_lt (show n < 16 by omega)

/-- Outside the safe state no link is held in DOWN (R482). -/
theorem linkHeld_of_safe {c : Chip} (h : safe c = false) : linkHeld c = false := by
  simp [linkHeld, h]

/-! ### Requests and replies (R314, R315) -/

/-- A request leaves in its link at most the service frames that go down. -/
theorem linkOf_sendRequest (c : Chip) (t op count : Nat) (addr : W) (words : List W) :
    ∃ out wait, linkOf (sendRequest c t op count addr words).1 t = { linkOf c t with svcOut := out, svcWait := wait } := by
  simp only [sendRequest, sendSvc, linkOf_modLink_same, linkOf_congr (freeNext_ngl c)]
  split <;> exact ⟨_, _, rfl⟩

/-- Where no service frame is sent in the period, a request's own is (R315). -/
theorem svcOut_sendRequest {c : Chip} {t : Nat} (op count : Nat) (addr : W) (words : List W) (h : (linkOf c t).svcOut = none) :
    (linkOf (sendRequest c t op count addr words).1 t).svcOut
      = some (svcFrame op (sendRequest c t op count addr words).2 count addr words) := by
  simp only [sendRequest, sendSvc, linkOf_modLink_same, linkOf_congr (freeNext_ngl c), h, Option.isNone_none, if_true]

/-- A reply without errors, of its op and with the id awaited, is taken once its link's errors are counted (R314). -/
theorem svcIn_taken {c : Chip} {t op : Nat} {frame : List Byte} {n : BitVec 8} {k : Chip → Chip} (hok : svcFrameOk frame = true)
    (hop : beAt frame 1 1 = op) (hid : beAt frame 2 1 = n.toNat) :
    svcIn c t op 0 frame (some n) k = k (countUp c (NGL_L_SYNC_ERR t) 0) := by
  simp [svcIn, hok, hop, hid]

/-- What entry to a state sends: nothing, or one request whose reply the link awaits. -/
theorem stepRequest_cases (c : Chip) (t st : Nat) :
    stepRequest c t st = c ∨ ∃ op addr words,
      stepRequest c t st = modLink (sendRequest c t op 1 addr words).1 t
        (fun l => { l with req := some (sendRequest c t op 1 addr words).2 }) := by
  by_cases h3 : st = 3
  · subst h3; exact .inr ⟨2, Config.tileAddr 0, [], rfl⟩
  by_cases h4 : st = 4
  · subst h4; exact .inr ⟨1, Config.tileAddr 1, _, rfl⟩
  by_cases h5 : st = 5
  · subst h5; exact .inr ⟨1, Config.tileAddr 2, _, rfl⟩
  by_cases h8 : st = 8
  · subst h8; exact .inr ⟨1, Config.tileAddr 3, _, rfl⟩
  exact .inl (by simp [stepRequest, h3, h4, h5, h8])

/-! ### A link enters a state (R322–R324, R328) -/

/-- A link that begins in period `p`: its runs and counts are at 0 (R322, R324). -/
structure LinkBegins (p : W) (l : Link) : Prop where
  since : l.since = p
  count : l.count = 0
  echoRun : l.echoRun = 0
  rttRun : l.rttRun = 0
  loss : l.loss = 0
  heldRun : l.heldRun = 0

/-- Entry to a state sends nothing that stops the link from beginning. -/
theorem linkBegins_stepRequest {c : Chip} {t : Nat} {p : W} (st : Nat) (h : LinkBegins p (linkOf c t)) :
    LinkBegins p (linkOf (stepRequest c t st) t) := by
  obtain hkept | ⟨op, addr, words, hsent⟩ := stepRequest_cases c t st
  · rwa [hkept]
  · obtain ⟨out, wait, hlink⟩ := linkOf_sendRequest c t op 1 addr words
    rw [hsent, linkOf_modLink_same, hlink]
    exact ⟨h.since, h.count, h.echoRun, h.rttRun, h.loss, h.heldRun⟩

theorem stepRequest_regs (c : Chip) (t st : Nat) : (stepRequest c t st).regs = c.regs := by
  obtain hkept | ⟨_, _, _, hsent⟩ := stepRequest_cases c t st
  · rw [hkept]
  · rw [hsent]; rfl

@[simp] theorem epochLeave_tmr (c : Chip) (t : Nat) : (epochLeave c t).tmr = c.tmr := by
  unfold epochLeave
  split <;> rfl

@[simp] theorem leaveService_tmr (c : Chip) (t n : Nat) : (leaveService c t n).tmr = c.tmr := by
  rw [leaveService, epochLeave_tmr, linkDegraded, raise_tmr, countUp_tmr, setB_tmr]

theorem startGrid_regs (c : Chip) (t st : Nat) : (startGrid c t st).regs = c.regs := by
  unfold startGrid
  split <;> rfl

theorem startGrid_tmr (c : Chip) (t st : Nat) : (startGrid c t st).tmr = c.tmr := by
  unfold startGrid
  split <;> rfl

theorem showLink_tmr (c : Chip) (t was now : Nat) : (showLink c t was now).tmr = c.tmr := by
  unfold showLink
  rw [wr_tmr, wr_tmr, wr_tmr]

theorem linkNote_regs (c : Chip) (t code detail : Nat) : (linkNote c t code detail).regs = c.regs := rfl

theorem linkNote_ngl (c : Chip) (t code detail : Nat) : (linkNote c t code detail).ngl = c.ngl := rfl

/-- NGL_STAT and NGL_INSVC stand above the registers of the 144 links, so that their change leaves every link's state. -/
theorem linkState_showLink (c : Chip) (t : Fin 144) (was now : Nat) : linkState (showLink c t was now) t = linkState c t := by
  have hstat : NGL_STAT ≠ NGL_L_STAT t := by unfold NGL_STAT NGL_L_STAT; omega
  have hinsvc : NGL_INSVC (t / 32) ≠ NGL_L_STAT t := by unfold NGL_INSVC NGL_L_STAT; omega
  unfold showLink
  rw [linkState_wr _ _ hinsvc, linkState_wr _ _ hstat, linkState_wr _ _ hstat]

/-- The device once the link has left its state for `st`. -/
def stateLeft (c : Chip) (t st : Nat) : Chip :=
  if linkState c t = 6 && st != 6 then leaveService c t (if st = 9 then fld c (NGL_L_STAT_fail_code t) else 0) else c

/-- The device once its registers show the link in `st`. -/
def stateShown (c : Chip) (t st : Nat) : Chip :=
  startGrid (showLink (setFld (stateLeft c t st) (NGL_L_STAT_state t) st) t (linkState c t) st) t st

/-- A link as it begins state `st` in period `p`. -/
def linkBegun (p : W) (st : Nat) (l : Link) : Link :=
  { l with
    since := p, count := 0, echoRun := 0, rttRun := 0, loss := 0, heldRun := 0,
    retryAt := if st = 9 then some (p + 40000) else none,
    sendFrom := if st = 5 then some (p + 1) else if st = 6 || st = 7 then l.sendFrom else none,
    svcOut := if st = 0 || st = 9 then none else l.svcOut, svcWait := if st = 0 || st = 9 then [] else l.svcWait,
    req := none }

/-- The device once the link has begun `st` and sent what entry to it sends. -/
def stateBegun (c : Chip) (t st : Nat) : Chip :=
  stepRequest (modLink (stateShown c t st) t (linkBegun (period (stateShown c t st)) st)) t st

/-- A link takes a state; an entry to service raises its event besides. -/
theorem setLink_eq (c : Chip) (t st : Nat) :
    setLink c t st = if st = 6 && linkState c t != 6 then linkNote (stateBegun c t st) t 2 0 else stateBegun c t st := rfl

theorem stateLeft_tmr (c : Chip) (t st : Nat) : (stateLeft c t st).tmr = c.tmr := by
  unfold stateLeft
  split
  · rw [leaveService_tmr]
  · rfl

theorem stateShown_tmr (c : Chip) (t st : Nat) : (stateShown c t st).tmr = c.tmr := by
  rw [stateShown, startGrid_tmr, showLink_tmr, setFld_tmr, stateLeft_tmr]

theorem linkBegins_linkBegun (p : W) (st : Nat) (l : Link) : LinkBegins p (linkBegun p st l) := ⟨rfl, rfl, rfl, rfl, rfl, rfl⟩

/-- A link put into a state reads it (R328). -/
theorem linkState_setLink (c : Chip) (t : Fin 144) {n : Nat} (hn : n ≤ 9) : linkState (setLink c t n) t = n := by
  have hshown : linkState (stateShown c t n) t = n := by
    rw [stateShown, linkState_congr (startGrid_regs _ _ _), linkState_showLink, linkState_setFld_state _ _ hn]
  have hbegun : linkState (stateBegun c t n) t = n := (linkState_congr (stepRequest_regs _ _ _) t).trans hshown
  rw [setLink_eq]
  split
  · rw [linkState_congr (linkNote_regs _ _ _ _), hbegun]
  · exact hbegun

/-- A link put into a state begins in the present period. -/
theorem linkBegins_setLink (c : Chip) (t n : Nat) : LinkBegins (period c) (linkOf (setLink c t n) t) := by
  have hp : period (stateShown c t n) = period c := congrArg Tmr.period (stateShown_tmr c t n)
  have hbegun : LinkBegins (period c) (linkOf (stateBegun c t n) t) := by
    refine linkBegins_stepRequest n ?_
    rw [linkOf_modLink_same, hp]
    exact linkBegins_linkBegun _ _ _
  rw [setLink_eq]
  split
  · rwa [linkOf_congr (linkNote_ngl _ _ _ _)]
  · exact hbegun

end Sys2Proof.Machine
end

section
/-! Frames, echoes and the service mailbox of the tile links (R301–R315, R332, R333). -/

open Sys2Proof

namespace Sys2Proof.Machine

/-! ### Frames (R302, R303, R309, R312) -/

section
variable {c : Chip} {t : Nat}

/-- Outside the safe state the FRAME of the next boundary goes down once the link's FRAMEs have begun. -/
theorem downlinkFrame_sends {p : W} (hsafe : safe c = false) (hsends : linkSends c t = true) (hfrom : (linkOf c t).sendFrom = some p)
    (hdue : due c p = true) (hruns : runsFabric c = true) (hown : inRepair c t = false) :
    downlinkFrame c t = modLink c t (fun l => { l with frame := some (BitVec.ofNat 16 (period c + 1).toNat,
      frameBytes c (BitVec.ofNat 16 (period c + 1).toNat) (frameEpoch c).1 (frameEpoch c).2 (tileDrives c t)) }) := by
  simp [downlinkFrame, hsends, hfrom, hdue, linkHeld_of_safe hsafe, hruns, hown, hsafe]

end

/-- An accepted FRAME: its samples, telemetry and status are taken, and 64 in a row bring a link in RESYNC back to service. -/
def frameAccepted (c : Chip) (t : Nat) (l : List Byte) : Chip :=
  let d := takeStatus (takeTelemetry (takeSamples c t l) t (beAt l 132 8)) t (beAt l 0 4)
  let e := modLink d t (fun l => { l with got := true, loss := 0, count := l.count + 1 })
  if linkState e t = 7 ∧ 64 ≤ (linkOf e t).count then setLink e t 6 else e

/-- The judgement of a FRAME that comes in time on a link that receives (R312). -/
def frameJudged (c : Chip) (t : Nat) (tag : BitVec 16) (resv : BitVec 40) (l : List Byte) (errs : Nat) : Chip :=
  if errs ≠ 0 ∨ resv ≠ 0 ∨ l.length ≠ 144 then uplinkBad c t false
  else if frameCrcOk tag l = false then uplinkBad c t true
  else if tag ≠ BitVec.ofNat 16 (period c).toNat then uplinkBad c t false
  else frameAccepted c t l

section
variable {c : Chip} {t errs : Nat} {tag : BitVec 16} {resv : BitVec 40} {l : List Byte}

/-- A link that receives FRAMEs and has accepted none in the present period judges the one that comes in time. -/
theorem uplinkFrame_judged {other : Nat} (hsends : linkSends (countUp c (NGL_L_SYNC_ERR t) (errs + other)) t = true)
    (hup : linkHeld (countUp c (NGL_L_SYNC_ERR t) (errs + other)) = false)
    (hfirst : (linkOf (countUp c (NGL_L_SYNC_ERR t) (errs + other)) t).got = false) :
    uplinkFrame c t tag resv l errs other true = frameJudged (countUp c (NGL_L_SYNC_ERR t) (errs + other)) t tag resv l errs := by
  simp only [uplinkFrame, hsends, hup, hfirst, Bool.not_true, Bool.or_self, Bool.false_eq_true, if_false, frameJudged,
    frameAccepted, Bool.or_eq_true, bne_iff_ne, or_assoc, Bool.not_eq_true', Bool.and_eq_true, decide_eq_true_eq]

theorem frameJudged_spoiled (hbad : errs ≠ 0 ∨ resv ≠ 0 ∨ l.length ≠ 144) :
    frameJudged c t tag resv l errs = uplinkBad c t false := if_pos hbad

/-- A FRAME that is whole and without errors is judged by its CRC first, then by its tag. -/
theorem frameJudged_whole (hlen : l.length = 144) :
    frameJudged c t tag 0 l 0 = if frameCrcOk tag l = false then uplinkBad c t true
      else if tag ≠ BitVec.ofNat 16 (period c).toNat then uplinkBad c t false else frameAccepted c t l :=
  if_neg (by simp [hlen])

theorem frameJudged_badCrc (hlen : l.length = 144) (hcrc : frameCrcOk tag l = false) :
    frameJudged c t tag 0 l 0 = uplinkBad c t true := by
  rw [frameJudged_whole hlen, if_pos hcrc]

theorem frameJudged_otherTag (hlen : l.length = 144) (hcrc : frameCrcOk tag l = true)
    (htag : tag ≠ BitVec.ofNat 16 (period c).toNat) : frameJudged c t tag 0 l 0 = uplinkBad c t false := by
  rw [frameJudged_whole hlen, if_neg (by simp [hcrc]), if_pos htag]

theorem frameJudged_accepted (hlen : l.length = 144) (hcrc : frameCrcOk tag l = true)
    (htag : tag = BitVec.ofNat 16 (period c).toNat) : frameJudged c t tag 0 l 0 = frameAccepted c t l := by
  rw [frameJudged_whole hlen, if_neg (by simp [hcrc]), if_neg (not_not.mpr htag)]

end

/-! ### Echoes (R301, R322, R324) -/

/-- The device once the round trip of `r` bit times is shown, and the greatest yet. -/
def rttShown (c : Chip) (t r : Nat) : Chip :=
  setFld (setFld c (NGL_L_RTT_rtt t) r) (NGL_L_RTT_rtt_max t) (max r (fld (setFld c (NGL_L_RTT_rtt t) r) (NGL_L_RTT_rtt_max t)))

/-- A link that hears an ECHO with a round trip of `r` bit times, and counts it as within the limit of 44 ns or above it. -/
def echoCounted (r : Nat) (l : Link) : Link :=
  { l with echoed := true, echoRun := if r ≤ 352 then l.echoRun + 1 else 0, rttRun := if r ≤ 352 then 0 else l.rttRun + 1 }

theorem echoCounted_within {r : Nat} (h : r ≤ 352) :
    echoCounted r = fun l => { l with echoed := true, echoRun := l.echoRun + 1, rttRun := 0 } := by
  funext l
  rw [echoCounted, if_pos h, if_pos h]

theorem echoCounted_above {r : Nat} (h : 352 < r) :
    echoCounted r = fun l => { l with echoed := true, echoRun := 0, rttRun := l.rttRun + 1 } := by
  funext l
  rw [echoCounted, if_neg (Nat.not_le.mpr h), if_neg (Nat.not_le.mpr h)]

section
variable {c : Chip} {t errs : Nat} {tag : BitVec 16} {offset : BitVec 8} {arrival : BitVec 16}

/-- An ECHO of the present tag on a link from ALIGN to RESYNC shows its round trip and counts it. -/
theorem echo_measured (hup : linkHeld (countUp c (NGL_L_SYNC_ERR t) errs) = false)
    (hlo : 2 ≤ linkState (countUp c (NGL_L_SYNC_ERR t) errs) t) (hhi : linkState (countUp c (NGL_L_SYNC_ERR t) errs) t ≤ 7)
    (htag : tag = BitVec.ofNat 16 (period c).toNat) :
    echo c t tag offset arrival errs
      = modLink (rttShown (countUp c (NGL_L_SYNC_ERR t) errs) t (arrival - offset.setWidth 16).toNat) t
          (echoCounted (arrival - offset.setWidth 16).toNat) := by
  have hheard : (linkState (countUp c (NGL_L_SYNC_ERR t) errs) t = 0 || linkState (countUp c (NGL_L_SYNC_ERR t) errs) t = 1
      || linkState (countUp c (NGL_L_SYNC_ERR t) errs) t = 8 || linkState (countUp c (NGL_L_SYNC_ERR t) errs) t = 9
      || linkHeld (countUp c (NGL_L_SYNC_ERR t) errs)) = false := by
    simp [hup]
    omega
  have hpresent : (tag != BitVec.ofNat 16 (period (countUp c (NGL_L_SYNC_ERR t) errs)).toNat) = false := bne_eq_false_iff_eq.mpr htag
  have hmax (d : Chip) (r : Nat) : fld (setFld d (NGL_L_RTT_rtt t) r) (NGL_L_RTT_rtt_max t) = fld d (NGL_L_RTT_rtt_max t) :=
    fld_setFld_other d r rfl (show 0 + 16 ≤ 32 by decide) (.inl (show 0 + 16 ≤ 16 by decide))
  simp only [echo, hheard, hpresent, rttShown, hmax, Bool.false_eq_true, if_false]
  rfl

end

/-! ### The mailbox (R314, R315, R332, R333) -/

theorem wbits_withSvcOp {v : W} {k : Nat} (hk : k < 16) : wbits (withSvcOp v k) 28 4 = k := by
  rw [withSvcOp, wbits_putField_above _ 8 1 1 28 4 (by decide) (by decide), wbits_putField_same _ 28 4 k (by decide)]
  exact Nat.mod_eq_of_lt hk

theorem wbit_withSvcOp (v : W) (k : Nat) : wbit (withSvcOp v k) 8 = true := by
  have hgo : wbits (withSvcOp v k) 8 1 = 1 := wbits_putField_same _ 8 1 1 (by decide)
  exact beq_iff_eq.mpr hgo

/-- The device once the mailbox's request has gone down and its transaction runs (R332). -/
def svcBegun (c : Chip) (w : W) (read : Bool) (op : Nat) (words : List W) : Chip :=
  let x := sendRequest c (wbits w 0 8) op (wbits w 24 3) (rd c NGL_SVC_ADDR) words
  { x.1 with ngl := { x.1.ngl with svc := some ⟨wbits w 0 8, read, wbits w 24 3, period x.1, x.2⟩ } }

/-- The mailbox shows a transaction that runs. -/
def svcBusy (c : Chip) : Chip := setB (setFld c NGL_SVC_STAT_status 0) NGL_SVC_STAT_busy true

/-- What a word with go set and op 1 or 2 does to the mailbox, in the order of the reasons against it (R332). -/
def svcJudged (c : Chip) (w : W) : Chip :=
  if c.ngl.svc.isSome then setFld c NGL_SVC_STAT_status 6
  else if wbits w 24 3 = 0 ∨ 144 ≤ wbits w 0 8 then svcEnd c 7
  else if holdsLoan c = false then svcEnd c 5
  else if linkState c (wbits w 0 8) ≠ 6 then svcEnd c 4
  else svcBegun (svcBusy c) w (wbits w 28 4 == 2) (wbits w 28 4)
    (if wbits w 28 4 = 1 then (List.range (wbits w 24 3)).map (fun i => rd (svcBusy c) (NGL_SVC_DATA i)) else [])

theorem svcWrite_judged {c : Chip} {w : W} (hr : reachable c NGL_SVC_CMD = true) (hgo : wbit w 8 = true)
    (hop : wbits w 28 4 = 1 ∨ wbits w 28 4 = 2) : svcWrite c w = svcJudged c w := by
  have hlisted : (wbits w 28 4 != 1 && wbits w 28 4 != 2) = false := by
    rcases hop with h | h <;> simp [h]
  rw [svcWrite, hostWrite_reach c _ _ hr]
  simp only [hgo, hlisted, Bool.not_true, Bool.false_eq_true, if_false, Bool.or_eq_true, Bool.false_or, decide_eq_true_eq,
    Bool.not_eq_true', bne_iff_ne, svcJudged]
  rfl

section
variable {s : State} {v w : W} {d : Chip} (hm : MayWrite s NGL_SVC_CMD) (hd : svcJudged s.chip w = d)
include hm hd

theorem exec_svcWrite_judged (hw : w = withSvcOp v 1) : exec (.svcWrite v) s = .next { s with chip := d } := by
  subst hw
  obtain ⟨hs, hr⟩ := hm
  rw [exec_svcWrite]
  exact run_to hs ((svcWrite_judged hr (wbit_withSvcOp v 1) (.inl (wbits_withSvcOp (by decide)))).trans hd)

theorem exec_svcRead_judged (hw : w = withSvcOp v 2) : exec (.svcRead v) s = .next { s with chip := d } := by
  subst hw
  obtain ⟨hs, hr⟩ := hm
  rw [exec_svcRead]
  exact run_to hs ((svcWrite_judged hr (wbit_withSvcOp v 2) (.inr (wbits_withSvcOp (by decide)))).trans hd)

end

section
variable {c : Chip} {w : W}

theorem svcJudged_busy (h : c.ngl.svc.isSome = true) : svcJudged c w = setFld c NGL_SVC_STAT_status 6 := if_pos h

variable (hfree : c.ngl.svc = none)
include hfree

theorem svcJudged_invalid (h : wbits w 24 3 = 0 ∨ 144 ≤ wbits w 0 8) : svcJudged c w = svcEnd c 7 := by
  rw [svcJudged, if_neg (by simp [hfree]), if_pos h]

variable (hcount : wbits w 24 3 ≠ 0) (htile : wbits w 0 8 < 144)
include hcount htile

theorem svcJudged_noLoan (h : holdsLoan c = false) : svcJudged c w = svcEnd c 5 := by
  rw [svcJudged, if_neg (by simp [hfree]), if_neg (by omega), if_pos h]

theorem svcJudged_notInService (hloan : holdsLoan c = true) (h : linkState c (wbits w 0 8) ≠ 6) :
    svcJudged c w = svcEnd c 4 := by
  rw [svcJudged, if_neg (by simp [hfree]), if_neg (by omega), if_neg (by simp [hloan]), if_pos h]

theorem svcJudged_begins (hloan : holdsLoan c = true) (h : linkState c (wbits w 0 8) = 6) :
    svcJudged c w = svcBegun (svcBusy c) w (wbits w 28 4 == 2) (wbits w 28 4)
      (if wbits w 28 4 = 1 then (List.range (wbits w 24 3)).map (fun i => rd (svcBusy c) (NGL_SVC_DATA i)) else []) := by
  rw [svcJudged, if_neg (by simp [hfree]), if_neg (by omega), if_neg (by simp [hloan]), if_neg (not_not.mpr h)]

end

section
variable {c : Chip} {r : SvcRun} (hrun : c.ngl.svc = some r)
include hrun

/-- A reply without errors to the transaction that runs is taken, once its link's errors are counted (R314, R332). -/
theorem svcReply_taken {t op : Nat} {frame : List Byte} {read : Option Bool} {k : Chip → Nat → Chip} (hlink : r.link = t)
    (hread : ∀ b, read = some b → r.read = b) (hok : svcFrameOk frame = true) (hop : beAt frame 1 1 = op)
    (hid : beAt frame 2 1 = r.id.toNat) :
    svcReply c t op 0 frame read k = k (countUp c (NGL_L_SYNC_ERR t) 0) r.count := by
  cases read with
  | none =>
    simp only [svcReply, hrun, hlink, decide_true, Bool.and_self, if_true]
    exact svcIn_taken hok hop hid
  | some b =>
    simp only [svcReply, hrun, hlink, hread b rfl, beq_self_eq_true, decide_true, Bool.and_self, if_true]
    exact svcIn_taken hok hop hid

/-- A transaction without a reply for 64 periods ends with status 2 (R315). -/
theorem svcTimeout_past (hage : 64 ≤ (period c - r.start).toNat) :
    svcTimeout c = raise (svcEnd c 2) srcNGL_SVC_TIMEOUT 0 := by
  simp only [svcTimeout, hrun, hage, if_true]

end

/-! ### The statement -/

/-- Settles O16, by the judgement of a FRAME, the round trip of an ECHO, the judgement of a mailbox word, and what a reply or its
absence ends. -/
theorem linkFramesAndServiceFramesAct : Obligations.LinkFramesAndServiceFramesAct := by
  unfold Obligations.LinkFramesAndServiceFramesAct
  refine ⟨?down, ?accepted, ?spoiled, ?whole, ?echoed, ?begins, ?ends, ?request, ?reply⟩
  case down =>
    intro s t p hs hsafe hsends hfrom hdue hruns hown tag bytes
    rw [exec_downlinkFrame]
    exact run_to hs (downlinkFrame_sends hsafe hsends hfrom hdue hruns hown)
  case accepted =>
    intro s t tag l other hs hlen hcrc htag c hsends hup hfirst d e
    have hc : countUp s.chip (NGL_L_SYNC_ERR t) (0 + other) = c := by rw [Nat.zero_add]
    rw [exec_uplinkFrame]
    refine run_to hs ?_
    rw [uplinkFrame_judged (hc ▸ hsends) (hc ▸ hup) (hc ▸ hfirst), hc]
    exact frameJudged_accepted hlen hcrc htag
  case spoiled =>
    intro s t tag resv l errs other hs c hsends hup hfirst hbad
    rw [exec_uplinkFrame]
    exact run_to hs ((uplinkFrame_judged hsends hup hfirst).trans (frameJudged_spoiled hbad))
  case whole =>
    intro s t tag l other hs hlen c hsends hup hfirst
    have hc : countUp s.chip (NGL_L_SYNC_ERR t) (0 + other) = c := by rw [Nat.zero_add]
    rw [exec_uplinkFrame]
    refine ⟨fun hcrc => run_to hs ?_, fun hcrc htag => run_to hs ?_⟩
    · rw [uplinkFrame_judged (hc ▸ hsends) (hc ▸ hup) (hc ▸ hfirst), hc]
      exact frameJudged_badCrc hlen hcrc
    · rw [uplinkFrame_judged (hc ▸ hsends) (hc ▸ hup) (hc ▸ hfirst), hc]
      exact frameJudged_otherTag hlen hcrc htag
  case echoed =>
    intro s t tag offset arrival errs hs c hup hlo hhi htag rtt d
    rw [exec_echo]
    exact ⟨_, run_to hs (echo_measured hup hlo hhi htag), fun hin => congrArg (modLink d t) (echoCounted_within hin),
      fun hout => congrArg (modLink d t) (echoCounted_above hout)⟩
  case begins =>
    intro s v w hm hfree hloan hcount htile hst c go
    have hbegins := svcJudged_begins hfree hcount htile hloan hst
    refine ⟨fun hw => exec_svcWrite_judged hm ?_ hw, fun hw => exec_svcRead_judged hm ?_ hw⟩
    · have hop : wbits w 28 4 = 1 := hw ▸ wbits_withSvcOp (by decide)
      rw [hbegins, hop]
      rfl
    · have hop : wbits w 28 4 = 2 := hw ▸ wbits_withSvcOp (by decide)
      rw [hbegins, hop]
      rfl
  case ends =>
    intro s v w hm _ out c
    have ended {d : Chip} (hd : svcJudged c w = d) : out d := ⟨exec_svcWrite_judged hm hd, exec_svcRead_judged hm hd⟩
    exact ⟨fun h => ended (svcJudged_busy h), fun hfree h => ended (svcJudged_invalid hfree h),
      fun hfree hcount htile h => ended (svcJudged_noLoan hfree hcount htile h),
      fun hfree hcount htile hloan h => ended (svcJudged_notInService hfree hcount htile hloan h)⟩
  case request =>
    intro c t op count addr words hnone
    exact ⟨_, rfl, svcOut_sendRequest op count addr words hnone⟩
  case reply =>
    intro s r t frame hs hrun hlink hok hid fin c
    rw [exec_writeAck, exec_readData, exec_svcError, exec_svcTimeout]
    refine ⟨fun hread hop => run_to hs (svcReply_taken hrun hlink ?_ hok hop hid),
      fun hread hop => run_to hs (svcReply_taken hrun hlink ?_ hok hop hid),
      fun hop => run_to hs (svcReply_taken hrun hlink nofun hok hop hid), fun hage => run_to hs (svcTimeout_past hrun hage)⟩
    all_goals
      rintro b ⟨⟩
      exact hread

end Sys2Proof.Machine
end

section
/-! Link commands, bring-up, departures from service and the link test (R321–R328). -/

open Sys2Proof

namespace Sys2Proof.Machine

/-! ### Commands (R327) -/

/-- A link command that no reason refuses waits for P + 2 on a single device. -/
theorem linkWrite_waits {c : Chip} {t : Nat} {w : W} (hr : reachable c (NGL_L_CTL t) = true) (hone : Single c)
    (hw : linkRefusal c t w = 0) : linkWrite c t w = modLink c t (fun l => { l with cmd := some (w, eSingle c) }) := by
  obtain ⟨h1, h2, h3, h4⟩ := hone
  exact hostChangeIf_taken c _ w _ _ hr h1 h2 h3 h4 (if_pos hw)

/-! ### The steps (R322, R323) -/

section
variable {c : Chip} {t : Nat}

/-- A step completes in its state, where its condition holds and the link is not held in DOWN. -/
theorem stepFrom_done {st : Nat} {ok : Link → Bool} {k : Chip → Chip} (hst : linkState c t = st) (hok : ok (linkOf c t) = true)
    (hup : linkHeld c = false) : stepFrom c t st ok k = k c := by
  simp [stepFrom, hst, hok, hup]

/-- The identity of a known tile outside a test leads to CONFIG. -/
theorem identDone_known {w : W} (hdev : wbits w 16 16 = 0x0032) (hrev : wbits w 8 8 = 0x01) (htest : (linkOf c t).test = none) :
    identDone c t w = setLink (wr c (NGL_L_TILE_ID t) w) t 4 := by
  have htest' : (linkOf (wr c (NGL_L_TILE_ID t) w) t).test = none := by rw [linkOf_congr (wr_ngl _ _ _), htest]
  simp [identDone, hdev, hrev, htest']

/-- The identity of another device or revision fails the link with code 4. -/
theorem identDone_other {w : W} (hid : wbits w 16 16 ≠ 0x0032 ∨ wbits w 8 8 ≠ 0x01) :
    identDone c t w = linkDegraded (failLink (wr c (NGL_L_TILE_ID t) w) t 4) t 2 4 :=
  if_pos (by simpa using hid)

/-- A step past its limit fails with its code (R323). -/
theorem stepTimeout_past {st : Nat} (hst : linkState c t = st) (h1 : 1 ≤ st) (h5 : st ≤ 5)
    (hage : (stepLimit st).1 ≤ (period c - (linkOf c t).since).toNat) (hup : linkHeld c = false) :
    stepTimeout c t = linkDegraded (failLink c t (stepLimit st).2) t 2 (stepLimit st).2 := by
  subst hst
  simp only [stepTimeout, h1, h5, hage, hup, decide_true, Bool.not_false, Bool.and_true, if_true]

/-- A failed link of a used tile is brought up again at its time with auto_retry (R323). -/
theorem bringupRetry_due {p : W} (hst : linkState c t = 9) (hp : (linkOf c t).retryAt = some p) (hdue : due c p = true)
    (hauto : fldB c NGL_CTL_auto_retry = true) (hused : tileUsed c t = true) (hup : linkHeld c = false) :
    bringupRetry c t = startBringup c t := by
  simp [bringupRetry, hst, hp, hdue, hauto, hused, hup]

/-! ### The link test (R325) -/

/-- The device once the tile's error count is asked for and both counts are stored (R325). -/
def testCounted (c : Chip) (t : Nat) (ul dl : W) : Chip :=
  wr (wr (sendRequest c t 2 1 (Config.tileAddr 4) []).1 (NGL_L_PRBS_UL t) ul) (NGL_L_PRBS_DL t) dl

/-- A test ends at its length; the link leaves TEST for DOWN on an unused tile, for bring-up on a used one. -/
theorem prbsEnd_past {len : Nat} {unused : Bool} (ul dl : W) (hst : linkState c t = 8)
    (htest : (linkOf c t).test = some (len, unused)) (hlen : len ≤ (period c - (linkOf c t).since).toNat)
    (hup : linkHeld c = false) :
    prbsEnd c t ul dl
      = if unused then setLink (modLink (testCounted c t ul dl) t (fun l => { l with test := none })) t 0
        else startBringup (testCounted c t ul dl) t := by
  have hlast : ¬ (period c - (linkOf c t).since).toNat < len := Nat.not_lt.mpr hlen
  simp only [prbsEnd, hst, htest, hlast, hup, decide_false, Bool.or_self, Bool.false_eq_true, if_false]
  rfl

end

/-! ### The statement -/

/-- Settles O17, by what a link command, a step, a reply, a limit and the end of a test do, and by what a link reads and holds as it
begins a state. -/
theorem linksComeUpAndLeaveService : Obligations.LinksComeUpAndLeaveService := by
  unfold Obligations.LinksComeUpAndLeaveService
  refine ⟨?commands, ?steps, ?limits, ?entered⟩
  case commands =>
    intro s t v hm _ q
    obtain ⟨hs, hr, hone⟩ := hm
    have waits (k : Nat) (h : linkRefusal s.chip t (withLinkCmd v k) = 0) :=
      run_to (f := (linkWrite · t (withLinkCmd v k))) hs (linkWrite_waits hr hone h)
    exact ⟨waits 1, waits 2, waits 3⟩
  case steps =>
    intro s t frame hs hsafe st l go c hsafe' hsame w reply
    have hup : linkHeld s.chip = false := linkHeld_of_safe hsafe
    have hup' : linkHeld c = false := linkHeld_of_safe hsafe'
    have replied {op : Nat} {k : Chip → Chip} (h : reply op) : svcIn s.chip t op 0 frame l.req k = k c := by
      obtain ⟨hok, hop, id, hreq, hid⟩ := h
      rw [hreq]
      exact svcIn_taken hok hop hid
    rw [exec_trainDone, exec_alignDone, exec_identDone, exec_configDone, exec_armDone]
    refine ⟨fun hst => run_to hs ?train, fun hst hrun => run_to hs ?align, fun hst hreply hdev hrev htest => run_to hs ?known,
      fun hst hreply hid => run_to hs ?other, fun hst hreply => run_to hs ?config, fun hst hcount => run_to hs ?arm⟩
    case train => exact stepFrom_done (hsame.trans hst) rfl hup'
    case align => exact stepFrom_done hst (decide_eq_true hrun) hup
    case known => exact (replied hreply).trans ((stepFrom_done (hsame.trans hst) rfl hup').trans (identDone_known hdev hrev htest))
    case other => exact (replied hreply).trans ((stepFrom_done (hsame.trans hst) rfl hup').trans (identDone_other hid))
    case config => exact (replied hreply).trans (stepFrom_done (hsame.trans hst) rfl hup')
    case arm => exact stepFrom_done hst (decide_eq_true hcount) hup
  case limits =>
    intro s t ul dl hs hsafe c st l age
    have hup : linkHeld c = false := linkHeld_of_safe hsafe
    rw [exec_bringupStepTimeout, exec_bringupRetry, exec_linkResync, exec_resyncTimeout, exec_dlFault, exec_rttHigh]
    refine ⟨fun h1 h5 hage => run_to hs (stepTimeout_past rfl h1 h5 hage hup), ?retry, fun hst hloss => run_to hs ?resync,
      fun hst hage => run_to hs ?timeout, fun hst hrun => run_to hs ?fault, fun hst hrun => run_to hs ?high, ?test⟩
    case resync => exact stepFrom_done hst (decide_eq_true hloss) hup
    case timeout => exact stepFrom_done hst (decide_eq_true hage) hup
    case fault => exact stepFrom_done hst (decide_eq_true hrun) hup
    case high => exact stepFrom_done hst (decide_eq_true hrun) hup
    case retry =>
      rintro hst ⟨p, hp, hdue⟩ hauto hused
      exact run_to hs (bringupRetry_due hst hp hdue hauto hused hup)
    case test =>
      intro len unused hst htest hlen d
      rw [exec_prbsEnd]
      exact run_to hs (prbsEnd_past ul dl hst htest hlen hup)
  case entered =>
    intro c t n hn
    obtain ⟨hsince, hcount, hecho, hrtt, hloss, hheld⟩ := linkBegins_setLink c t n
    exact ⟨linkState_setLink c t hn, hsince, hcount, hecho, hrtt, hloss, hheld⟩

end Sys2Proof.Machine
end

section
/-! The grid and the twin link's blocks (R339–R344, R349–R351, R355, R360, R361): what a TICK, a PREC, its loan message and each
message of the link leave, where they are whole and in place and where they are not. -/

open Sys2Proof

namespace Sys2Proof.Machine

/-! ### The role and state of a twin -/

theorem twinRole_wr (c : Chip) {a : Nat} (v : W) (h : a ≠ TWN_STAT) : twinRole (wr c a v) = twinRole c :=
  fld_wr_other c v (f := TWN_STAT_role) h

theorem twinState_wr (c : Chip) {a : Nat} (v : W) (h : a ≠ TWN_STAT) : twinState (wr c a v) = twinState c :=
  fld_wr_other c v (f := TWN_STAT_state) h

theorem joining_blockErr (c : Chip) : joining (blockErr c) = joining c := by
  rw [joining, blockErr, countUp, twinState_wr c _ (by decide), joining]

theorem joining_of_inStep {c : Chip} (h : twinState c = 2) : joining c = false := by
  rw [joining, h]
  rfl

/-! ### A copyist that becomes UNFIT (R358) -/

theorem withTwn_tmr (c : Chip) (x : Twn) : ({ c with twn := x } : Chip).tmr = c.tmr := rfl

theorem withTwn_twn (c : Chip) (x : Twn) : ({ c with twn := x } : Chip).twn = x := rfl

theorem withTwn_regs (c : Chip) (x : Twn) : ({ c with twn := x } : Chip).regs = c.regs := rfl

/-- The device once its divergence is shown: DETACHED from the next boundary. -/
def unfitShown (c : Chip) : Chip := changeTwin (raise (setB c TWN_STAT_unfit true) srcTWN_DIVERGED 0) 0 0 false

/-- The device as it becomes UNFIT, its cause recorded: it resynchronises with auto_resync. -/
def turnedUnfit (c : Chip) : Chip :=
  { unfitShown c with twn := { (unfitShown c).twn with wantJoin := fldB (unfitShown c) TWN_CTL_auto_resync, resync := true } }

theorem unfitShown_tmr (c : Chip) : (unfitShown c).tmr = c.tmr := by
  rw [unfitShown, changeTwin, withTwn_tmr, raise_tmr, setB_tmr]

theorem unfitShown_twn (c : Chip) : (unfitShown c).twn = { c.twn with change := some (0, 0, false) } := by
  rw [unfitShown, changeTwin, withTwn_twn, raise_twn, setB_twn]

theorem turnedUnfit_tmr (c : Chip) : (turnedUnfit c).tmr = c.tmr := by
  rw [turnedUnfit, withTwn_tmr, unfitShown_tmr]

theorem turnedUnfit_twn (c : Chip) : (turnedUnfit c).twn = { c.twn with
    change := some (0, 0, false), wantJoin := fldB (unfitShown c) TWN_CTL_auto_resync, resync := true } := by
  rw [turnedUnfit, withTwn_twn, unfitShown_twn]

theorem turnedUnfit_regs (c : Chip) : (turnedUnfit c).regs = (setB c TWN_STAT_unfit true).regs := by
  rw [turnedUnfit, withTwn_regs, unfitShown, changeTwin, withTwn_regs, raise_regs]

theorem copyistUnfit_cases (c : Chip) (cause tile : Nat) :
    copyistUnfit c cause tile = c ∨ ∃ w, copyistUnfit c cause tile = turnedUnfit (wr c TWN_DIV w) := by
  unfold copyistUnfit
  split
  · exact .inr ⟨_, rfl⟩
  · exact .inl rfl

section
variable (c : Chip) (cause tile : Nat)

theorem copyistUnfit_tmr : (copyistUnfit c cause tile).tmr = c.tmr := by
  obtain h | ⟨w, h⟩ := copyistUnfit_cases c cause tile
  · rw [h]
  · rw [h, turnedUnfit_tmr, wr_tmr]

/-- In the twin block the change to come and what is wanted after it follow, the rest is as before. -/
theorem copyistUnfit_twn : ∃ change wantJoin resync, (copyistUnfit c cause tile).twn
    = { c.twn with change := change, wantJoin := wantJoin, resync := resync } := by
  obtain h | ⟨w, h⟩ := copyistUnfit_cases c cause tile
  · exact ⟨_, _, _, by rw [h]⟩
  · exact ⟨_, _, _, by rw [h, turnedUnfit_twn, wr_twn]⟩

theorem fldB_copyistUnfit_gridLock :
    fldB (copyistUnfit c cause tile) TWN_STAT_grid_lock = fldB c TWN_STAT_grid_lock := by
  obtain h | ⟨w, h⟩ := copyistUnfit_cases c cause tile
  · rw [h]
  · rw [h, fldB_congr (turnedUnfit_regs _),
      fldB_setB_other (f := TWN_STAT_unfit) (g := TWN_STAT_grid_lock) _ _ rfl (by decide) (by decide), fldB_wr_other c w (by decide)]

end

/-! ### One grid (R342) -/

/-- The device once a TICK's arrival is kept and the stray blocks before it are counted (R339). -/
def tickKept (c : Chip) (arr : Int) (stray : Nat) : Chip :=
  countUp { c with twn := { c.twn with tickArr := arr } } TWN_BLOCK_ERR stray

/-- The twin block of a follower with one more offset, that of the last period (R342). -/
def offsetTaken (t : Twn) (ofs : Int) : Twn :=
  let l := (t.offsets ++ [ofs]).drop (t.offsets.length + 1 - 16)
  let n : Int := 16 * (l.length : Int)
  let e := (2 * l.sum + n) / (2 * n)
  { t with
    offsets := l, eHat := e, eNext := e,
    lockRun := if e.natAbs ≤ 1 then min 64 (t.lockRun + 1) else 0,
    lostRun := if 8 < e.natAbs then t.lostRun + 1 else 0 }

/-- The follower is locked on the grid (R342): not after 16 periods above 8 ns, and from 64 within 1 ns on. -/
def gridLocked (c : Chip) : Bool := !decide (16 ≤ c.twn.lostRun) && (fldB c TWN_STAT_grid_lock || c.twn.lockRun == 64)

/-- The follower shows its lock and the mean offset (R342). -/
def gridShown (c : Chip) : Chip :=
  setB (wr c TWN_GRID (toW (b2n (gridLocked c) * 2 ^ 31 + twos 16 (8 * c.twn.eHat)))) TWN_STAT_grid_lock (gridLocked c)

/-- A follower in the keeper's period `p` with one more offset. -/
def gridFollowed (c : Chip) (p : W) (ofs : Int) : Chip :=
  gridShown { c with tmr := { c.tmr with period := p }, twn := offsetTaken c.twn ofs }

/-- A follower's grid lock stands only within 16 periods above 8 ns (R342). -/
theorem lostRun_of_gridLock {c : Chip} (h : fldB (gridShown c) TWN_STAT_grid_lock = true) : c.twn.lostRun < 16 := by
  rw [gridShown, fldB_setB_same _ TWN_STAT_grid_lock _ (by decide) rfl] at h
  obtain ⟨hlost, -⟩ := Bool.and_eq_true_iff.mp h
  simpa using hlost

section
variable {c : Chip} {p : W} {po arr : Int} {stray : Nat}

theorem twinTick_noGrid (h : followsGrid (tickKept c arr stray) = false) : twinTick c p po arr stray = tickKept c arr stray :=
  if_pos (by rw [← tickKept, h]; rfl)

/-- A follower takes the TICK; one that has lost the grid in step becomes UNFIT (R342, R358). -/
theorem twinTick_follows (h : followsGrid (tickKept c arr stray) = true) :
    ∃ d, d = gridFollowed (tickKept c arr stray) p ((c.twn.peerArr - (c.twn.tickOfs : Int)) - (arr - po))
      ∧ (twinTick c p po arr stray = d ∨ twinTick c p po arr stray = copyistUnfit d 6 0) := by
  refine ⟨_, rfl, ?_⟩
  have hgo : ¬ (!followsGrid (tickKept c arr stray)) = true := by simp [h]
  rw [twinTick, ← tickKept, if_neg hgo]
  exact (ite_eq_or_eq _ _ _).symm

end

/-! ### The PREC (R341) -/

section
variable {c : Chip} {l : List Byte}

theorem precIn_linkDown (hup : fldB c TWN_STAT_link_up = false) : precIn c l = c := by
  simp [precIn, hup]

theorem precIn_spoiled (hup : fldB c TWN_STAT_link_up = true) (h : l.length ≠ 80 ∨ crc32c (l.take 76) ≠ beAt l 76 4) :
    precIn c l = blockErr c := by
  rw [precIn, if_neg (by simp [hup]), if_pos (by simpa using h)]

theorem precIn_ofThePeriod (hup : fldB c TWN_STAT_link_up = true) (hlen : l.length = 80)
    (hcrc : crc32c (l.take 76) = beAt l 76 4) (hp : beAt l 0 4 = (period c).toNat) : precIn c l = precAccept c l := by
  rw [precIn, if_neg (by simp [hup]), if_neg (by simp [hlen, hcrc]), if_neg (by simp [hp])]

end

/-! ### The loan messages (R349–R351) -/

/-- The device once the loan message of its period is taken (R341). -/
def loanTold (c : Chip) : Chip := { c with twn := { c.twn with loanIn := 0 } }

section
variable {c : Chip}

theorem onLoan_taken {k : Nat} (f : Chip → Chip) (h : c.twn.loanIn = k) : onLoan c k f = f (loanTold c) := if_pos h

theorem onLoan_none {k : Nat} (f : Chip → Chip) (h : c.twn.loanIn = 0) (hk : 0 ≠ k) : onLoan c k f = c := if_neg (h ▸ hk)

theorem precRenew_taken (h : c.twn.loanIn = 1) (hrole : twinRole c = 2) :
    precRenew c = { loanTold c with twn := { (loanTold c).twn with renewAt := some c.tmr.ticks } } :=
  (onLoan_taken _ h).trans (if_pos hrole)

theorem precRelease_taken (h : c.twn.loanIn = 2) (hrole : twinRole c = 2) (hst : twinState c = 2) :
    precRelease c = changeTwin (loanTold c) 1 3 true :=
  (onLoan_taken _ h).trans (if_pos (by simpa using ⟨hrole, hst⟩))

theorem precHandover_taken (h : c.twn.loanIn = 3) (hrole : twinRole c = 2) (hst : twinState c = 2) :
    precHandover c = changeTwin { loanTold c with twn := { (loanTold c).twn with
      handover := some (period c), rxSeq := some (c.twn.peerJseq + 1) } } 1 2 true :=
  (onLoan_taken _ h).trans (if_pos (by simpa using ⟨hrole, hst⟩))

/-- A join of the partner that leaves ends with it (R351). -/
theorem precLeave_taken (h : c.twn.loanIn = 4) (hrole : twinRole c = 1) (hpair : c.twn.paired = true) :
    precLeave c = changeTwin (if joinRuns (loanTold c) then setFld (loanTold c) TWN_JOIN_STAT_result 0 else loanTold c) 1 3
      (fldB c TWN_STAT_acting) :=
  (onLoan_taken _ h).trans (if_pos (by simpa using ⟨hrole, hpair⟩))

/-- The end of a join leaves the keeper's duties. -/
theorem acting_joinEnded (b : Bool) :
    fldB (if b then setFld c TWN_JOIN_STAT_result 0 else c) TWN_STAT_acting = fldB c TWN_STAT_acting := by
  split
  · exact fldB_setFld_addr c 0 (by decide)
  · rfl

end

/-! ### JOURNAL messages (R344, R346) -/

section
variable {c : Chip} {l d : List Byte} (hrole : twinRole c = 2) (hpair : c.twn.paired = true)
include hrole hpair

theorem journalIn_spoiled (hjoin : joining c = false) (h : (msgData 1 l).bind recordAt = none) :
    journalIn c l = copyistUnfit (blockErr c) 2 0 := by
  simp [journalIn, h, hrole, hpair, joining_blockErr, hjoin]

/-- A whole record of the sequence expected, whole by boundary E − 1, waits for its E. -/
theorem journalIn_next {r : JRec} (hmsg : msgData 1 l = some d) (hrec : recordAt d = some r) (hseq : c.twn.rxSeq = some r.seq)
    (hearly : pReached (period c) (r.e - 1) = false) :
    journalIn c l = { c with twn := { c.twn with
      inbox := c.twn.inbox ++ [r], rxSeq := some (r.seq + 1), lastE := laterP r.e c.twn.lastE } } := by
  have hin : (r.seq != r.seq || pReached (period c) (r.e - 1)) = false := by rw [hearly, bne_self_eq_false, Bool.or_false]
  simp only [journalIn, hmsg, Option.bind_some, hrec, hrole, hpair, hseq, hin]
  rfl

end

/-! ### RELAY, TILE_COPY, BULK, JOIN_ID and URG_REQ (R343, R355, R360, R361) -/

section
variable {c : Chip} {l d : List Byte}

theorem relayIn_spoiled (h : msgData 2 l = none) : relayIn c l = blockErr c := by
  simp [relayIn, h]

theorem relayIn_taken (h : msgData 2 l = some d) (hlen : d.length = 68) (ht : beAt d 0 2 < 144) (hjoin : joining c = false) :
    relayIn c l = { c with twn := { c.twn with relays :=
      (beAt d 0 2, BitVec.ofNat 16 (beAt d 2 2), (List.range 32).map (fun i => beAt d (4 + 2 * i) 2)) :: c.twn.relays } } := by
  have hjoin' (x : Twn) : joining { c with twn := x } = false := hjoin
  simp [relayIn, h, hlen, ht, hjoin']

theorem tileCopyIn_spoiled (h : msgData 3 l = none) : tileCopyIn c l = blockErr c := by
  simp [tileCopyIn, h]

/-- A TILE_COPY in time is kept with the one repair, that of its tile. -/
theorem tileCopyIn_taken {r : Repair} (h : msgData 3 l = some d) (hlen : d.length = 2308) (hrs : c.twn.repairs = [r])
    (ht : r.tile = beAt d 0 2) (howner : r.owner = false) (htime : pReached (period c) (r.k + 5) = false) :
    tileCopyIn c l = { c with twn := { c.twn with repairs := [{ r with copy := some d }] } } := by
  simp only [tileCopyIn, h, hlen, hrs, List.map_cons, List.map_nil, ht, howner, htime]
  rfl

theorem bulkIn_spoiled (hjoin : joining c = true) (h : msgData 4 l = none) : bulkIn c l = joinFail (blockErr c) 9 := by
  simp [bulkIn, hjoin, h]

theorem bulkIn_taken (hjoin : joining c = true) (h : msgData 4 l = some d) :
    bulkIn c l = memWrite c 12 (slotAddr c (beAt d 0 2)) (bytesAt d 4 arrBytes) := by
  simp [bulkIn, hjoin, h]

theorem joinIdIn_spoiled (b : JoinId) : joinIdIn c b false = blockErr c := rfl

/-- A JOIN_ID that R361 has nothing against completes step CHECK where one of the two is the keeper. -/
theorem joinIdIn_matching {b : JoinId} (hruns : joinRuns c = true) (hstep : fld c TWN_JOIN_STAT_step = 2)
    (hok : checkReason (joinId c) b = 0) (hkeeper : (joinId c).keeper = true ∨ b.keeper = true) :
    joinIdIn c b true = { setFld c TWN_JOIN_STAT_fw_partner b.fw.toNat with
      twn := { (setFld c TWN_JOIN_STAT_fw_partner b.fw.toNat).twn with joinOk := true } } := by
  have hnone : ¬ (!(joinId c).keeper && !b.keeper) = true := by
    rcases hkeeper with h | h <;> simp [h]
  simp only [joinIdIn, hruns, hstep, hok, if_neg hnone]
  rfl

theorem urgReq_spoiled (h : msgData 6 l = none) : urgReq c l = blockErr c := by
  simp [urgReq, h]

theorem urgReq_journals (h : msgData 6 l = some d) (hrole : twinRole c = 1) (hpair : c.twn.paired = true)
    (hop : urgentValid c (nth 0 d 0).toNat = true) :
    urgReq c l = withSource c 5 (fun c => stateChangeAs c 0 (.urgent (nth 0 d 0)) (fun c e => urgentWait c (nth 0 d 0).toNat e)) := by
  rw [urgReq, h]
  exact if_pos (by rw [hrole, hpair, hop]; rfl)

end

/-! ### The statement -/

/-- Settles O18, by what each block and message of the twin link leaves where it is whole and where it is spoiled. -/
theorem twinMessagesAreTaken : Obligations.TwinMessagesAreTaken := by
  unfold Obligations.TwinMessagesAreTaken
  refine ⟨?tick, ?prec, ?loan, ?spoiled, ?journal, ?messages, ?joinId, ?urgent⟩
  case tick =>
    intro s p po arr stray hs c
    rw [exec_twinTick]
    refine ⟨fun h => run_to hs (twinTick_noGrid h), fun h => ?_⟩
    obtain ⟨d, hd, htick⟩ := twinTick_follows (p := p) (po := po) h
    have hperiod : d.tmr.period = p := by rw [hd]; rfl
    have harr : d.twn.tickArr = arr := by rw [hd]; rfl
    have hofs : d.twn.offsets = (s.chip.twn.offsets ++ [(s.chip.twn.peerArr - (s.chip.twn.tickOfs : Int)) - (arr - po)]).drop
        (s.chip.twn.offsets.length + 1 - 16) := by rw [hd]; rfl
    have hlost : fldB d TWN_STAT_grid_lock = true → d.twn.lostRun < 16 := by
      rw [hd]
      exact lostRun_of_gridLock
    rcases htick with htick | htick
    · exact ⟨_, run_to hs htick, hperiod, harr, hofs, hlost⟩
    · obtain ⟨change, wantJoin, resync, htwn⟩ := copyistUnfit_twn d 6 0
      refine ⟨_, run_to hs htick, ?_, ?_, ?_, ?_⟩
      · rw [copyistUnfit_tmr, hperiod]
      · rw [htwn, harr]
      · rw [htwn, hofs]
      · rw [fldB_copyistUnfit_gridLock, htwn]
        exact hlost
  case prec =>
    intro s l hs hup hlen hcrc hp
    rw [exec_prec]
    exact run_to hs (precIn_ofThePeriod hup hlen hcrc hp)
  case loan =>
    intro s hs c role k
    rw [exec_precRenew, exec_precRelease, exec_precHandover, exec_precLeave]
    refine ⟨fun h hrole => run_to hs (precRenew_taken h hrole), fun h hrole hst => run_to hs (precRelease_taken h hrole hst),
      fun h hrole hst => run_to hs (precHandover_taken h hrole hst), fun h hrole hpair => ?leave, fun h => ?none⟩
    case leave =>
      intro x
      rw [acting_joinEnded]
      exact run_to hs (precLeave_taken h hrole hpair)
    case none =>
      exact ⟨run_to hs (onLoan_none _ h (by decide)), run_to hs (onLoan_none _ h (by decide)),
        run_to hs (onLoan_none _ h (by decide)), run_to hs (onLoan_none _ h (by decide))⟩
  case spoiled =>
    intro s l b hs
    rw [exec_relay, exec_tileCopy, exec_urgReq, exec_joinId, exec_bulk, exec_prec, exec_journal]
    exact ⟨fun h => run_to hs (relayIn_spoiled h), fun h => run_to hs (tileCopyIn_spoiled h), fun h => run_to hs (urgReq_spoiled h),
      run_to hs (joinIdIn_spoiled b), fun hjoin h => run_to hs (bulkIn_spoiled hjoin h),
      fun hup h => run_to hs (precIn_spoiled hup h), fun hup => run_to hs (precIn_linkDown hup),
      fun hrole hpair hjoin h => run_to hs (journalIn_spoiled hrole hpair hjoin h)⟩
  case journal =>
    intro s l d r hs hrole hpair hmsg hrec hseq hearly
    rw [exec_journal]
    exact run_to hs (journalIn_next hrole hpair hmsg hrec hseq hearly)
  case messages =>
    intro s l d hs
    rw [exec_relay, exec_tileCopy, exec_bulk]
    refine ⟨fun h hlen ht hjoin => run_to hs (relayIn_taken h hlen ht hjoin), ?copy, fun h hjoin => run_to hs (bulkIn_taken hjoin h)⟩
    rintro rs r h hlen hrs ht howner htime rfl
    exact run_to hs (tileCopyIn_taken h hlen hrs ht howner htime)
  case joinId =>
    intro s b hs hruns hstep hok hkeeper c
    rw [exec_joinId]
    exact run_to hs (joinIdIn_matching hruns hstep hok hkeeper)
  case urgent =>
    intro s l d hs hrole hpair h op hop
    rw [exec_urgReq]
    exact run_to hs (urgReq_journals h hrole hpair hop)

end Sys2Proof.Machine
end

section
/-! The partner's heartbeat, the loan and the loss of the twin link (R338, R349–R353, R366, R368, R370): what each occasion leaves on a
twin that meets it. -/

open Sys2Proof

namespace Sys2Proof.Machine

/-- A field of a word with bits forced to 1, none of them in the field. -/
theorem wbits_or_outside (a : W) {b : W} {lo n : Nat} (h : wbits b lo n = 0) : wbits (a ||| b) lo n = wbits a lo n := by
  unfold wbits bitsAt at *
  rw [BitVec.toNat_or, Nat.or_div_two_pow, Nat.or_mod_two_pow, h, Nat.or_zero]

/-- A bit that is forced to 1. -/
theorem wbit_or_forced (a : W) {b : W} {i : Nat} (h : wbit b i = true) : wbit (a ||| b) i = true := by
  rw [wbit_or, h, Bool.or_true]

/-- A bit of a word with other bits forced to 1. -/
theorem wbit_or_outside {a b : W} {i : Nat} (h : wbit b i = false) (ha : wbit a i = false) : wbit (a ||| b) i = false := by
  rw [wbit_or, h, ha, Bool.or_false]

/-- A write that no record brings comes from no journal (R344). -/
theorem fromJournal_of_notApplying {c : Chip} (h : c.twn.applying = false) : fromJournal c = false := by
  rw [fromJournal, h, Bool.false_and]

/-! ### The heartbeat and the lease (R338, R349) -/

section
variable {c : Chip}

theorem partnerLost_quiet (hb : fldB c TWN_STAT_partner_hb = true) (hquiet : noHeartbeat c = true) :
    partnerLost c = raise (setB c TWN_STAT_partner_hb false) srcTWN_PARTNER_HB_LOST 0 :=
  if_pos (by rw [hb, hquiet]; rfl)

variable {r : Nat} (hr : c.twn.renewAt = some r)
include hr

theorem loanRenew_quarter (hrole : twinRole c = 1) (hact : fldB c TWN_STAT_acting = true) (hpair : c.twn.paired = true)
    (hquarter : leaseTicks c / 4 ≤ c.tmr.ticks - r) (halive : c.twn.fwAlive = true) (hout : c.twn.loanOut = 0) :
    loanRenew c = formPrec { c with twn := { c.twn with loanOut := 1, fwAlive := false, renewAt := some c.tmr.ticks } } := by
  simp only [loanRenew, hr]
  exact if_pos (by simp [hrole, hact, hpair, hquarter, halive, hout])

theorem loanLost_expired (hrole : twinRole c = 1) (hact : fldB c TWN_STAT_acting = true) (hpair : c.twn.paired = true)
    (hst : twinState c = 2) (hlease : keeperStops c r ≤ c.tmr.ticks) :
    loanLost c = raise (setB (setB c TWN_STAT_acting false) TWN_STAT_loan_lost true) srcTWN_LOAN_LOST 0 := by
  simp only [loanLost, hr]
  exact if_pos (by simp [hrole, hact, leased, hpair, hst, hlease])

theorem loanTaken_expired (hrole : twinRole c = 2) (hst : twinState c = 2) (hchange : c.twn.change = none)
    (hlease : copyistTakes c r ≤ c.tmr.ticks) :
    loanTaken c = changeTwin (raise (setB c TWN_STAT_loan_taken true) srcTWN_LOAN_TAKEN 0) 1 (if c.twn.alone then 3 else 2) true := by
  simp only [loanTaken, hr]
  exact if_pos (by simp [hrole, hst, hchange, hlease])

end

/-! ### Writes of TWN_LOAN_CTL and TWN_CTL (R349–R351, R366, R368) -/

section
variable {c : Chip} {v : W}

/-- What a write of TWN_LOAN_CTL with handover set does (R350). -/
def handoverAsked (c : Chip) : Chip :=
  if twinRole c = 1 && fldB c TWN_STAT_acting && twinState c = 2 && c.twn.paired && c.twn.peerRole / 8 % 2 = 1
      && c.twn.handover.isNone then
    { c with twn := { c.twn with handover := some (period c + 1) } }
  else handoverReject c

/-- fw_alive is noted on the keeper alone (R349). -/
def aliveNoted (c : Chip) (v : W) : Chip :=
  if wbit v 31 && twinRole c = 1 then { c with twn := { c.twn with fwAlive := true } } else c

/-- A write that keeps the lease is its two requests. -/
theorem loanCtlWrite_keepsLease (hr : reachable c TWN_LOAN_CTL = true) (hlive : c.twn.applying = false)
    (hlease : clampN 1 100 (wbits v 0 7) = fld c TWN_LOAN_CTL_lease) :
    loanCtlWrite c v = if wbit v 30 then handoverAsked (aliveNoted c v) else aliveNoted c v := by
  have hlocal : ¬ fromJournal c = true := by rw [fromJournal_of_notApplying hlive]; decide
  rw [loanCtlWrite, hostWrite_reach c _ _ hr]
  simp only [hlease, if_true]
  exact if_neg hlocal

theorem loanCtlWrite_alive (hr : reachable c TWN_LOAN_CTL = true) (hlive : c.twn.applying = false)
    (hlease : clampN 1 100 (wbits v 0 7) = fld c TWN_LOAN_CTL_lease) (hrole : twinRole c = 1)
    (halive : wbit v 31 = true) (hhand : wbit v 30 = false) :
    loanCtlWrite c v = { c with twn := { c.twn with fwAlive := true } } := by
  rw [loanCtlWrite_keepsLease hr hlive hlease, if_neg (by simp [hhand]), aliveNoted, if_pos (by simp [halive, hrole])]

theorem loanCtlWrite_handover (hr : reachable c TWN_LOAN_CTL = true) (hlive : c.twn.applying = false)
    (hlease : clampN 1 100 (wbits v 0 7) = fld c TWN_LOAN_CTL_lease) (halive : wbit v 31 = false) (hhand : wbit v 30 = true) :
    loanCtlWrite c v = handoverAsked c := by
  have hnoted : aliveNoted c v = c := if_neg (by simp [halive])
  rw [loanCtlWrite_keepsLease hr hlive hlease, if_pos hhand, hnoted]

/-- A keeper in step whose partner is in step accepts a hand-over for P + 1 (R350). -/
theorem handoverAsked_keeper (hrole : twinRole c = 1) (hact : fldB c TWN_STAT_acting = true) (hst : twinState c = 2)
    (hpair : c.twn.paired = true) (hpeer : c.twn.peerRole / 8 % 2 = 1) (hnone : c.twn.handover = none) :
    handoverAsked c = { c with twn := { c.twn with handover := some (period c + 1) } } :=
  if_pos (by simp [hrole, hact, hst, hpair, hpeer, hnone])

/-- The device with the values of a write of TWN_CTL stored within their bounds (R366). -/
def twnCtlStored (c : Chip) (v : W) : Chip :=
  wr c TWN_CTL (toW (b2n (isTwin c) * 2 ^ 31 + wbits v 29 2 * 2 ^ 29 + max 16 (wbits v 16 8) * 2 ^ 16 + clampN 10 1000 (wbits v 0 10)))

/-- The copyist leaves: it tells the keeper, and is DETACHED from the next boundary (R351). -/
def copyistLeaves (c : Chip) : Chip :=
  let x := if joining c then setFld c TWN_JOIN_STAT_result 0 else c
  changeTwin { x with twn := { x.twn with loanOut := 4 } } 0 0 false

/-- What a write of TWN_CTL with leave set does (R351). -/
def leaveAsked (c : Chip) : Chip :=
  if twinRole c = 1 then handoverReject c else if twinRole c = 2 then copyistLeaves c else c

/-- What leave, where it is written, does. -/
def leaveWritten (c : Chip) (v : W) : Chip := if wbit v 28 then leaveAsked c else c

/-- What join, where it is written, does (R366). -/
def joinWritten (c : Chip) (v : W) : Chip :=
  if wbit v 27 && isTwin c && twinState c = 0 && twinRole c = 0 && !safe c then startJoin c else c

theorem twnCtlWrite_reach (hr : reachable c TWN_CTL = true) :
    twnCtlWrite c v = joinWritten (leaveWritten (twnCtlStored c v) v) v := hostWrite_reach c _ _ hr

theorem twnCtlWrite_leave (hr : reachable c TWN_CTL = true) (hleave : wbit v 28 = true) (hjoin : wbit v 27 = false) :
    twnCtlWrite c v = leaveAsked (twnCtlStored c v) := by
  rw [twnCtlWrite_reach hr, leaveWritten, if_pos hleave, joinWritten, if_neg (by simp [hjoin])]

theorem twnCtlWrite_join (hr : reachable c TWN_CTL = true) (hleave : wbit v 28 = false) (hjoin : wbit v 27 = true)
    (htwin : isTwin (twnCtlStored c v) = true) (hst : twinState (twnCtlStored c v) = 0)
    (hrole : twinRole (twnCtlStored c v) = 0) (hsafe : safe (twnCtlStored c v) = false) :
    twnCtlWrite c v = startJoin (twnCtlStored c v) := by
  rw [twnCtlWrite_reach hr, leaveWritten, if_neg (by simp [hleave]), joinWritten, if_pos (by simp [hjoin, htwin, hst, hrole, hsafe])]

theorem leaveAsked_copyist (hrole : twinRole c = 2) : leaveAsked c = copyistLeaves c := by
  rw [leaveAsked, if_neg (by rw [hrole]; decide), if_pos hrole]

/-- At H the keeper stops acting, withdraws what is not sent, tells the partner, and begins the copyist's role (R350). -/
theorem handoverBoundary_due {h : W} (hh : c.twn.handover = some h) (hrole : twinRole c = 1) (hdue : due c h = true)
    (hact : fldB c TWN_STAT_acting = true) :
    handoverBoundary c =
      (let d := withdrawAll (setB c TWN_STAT_acting false)
      changeTwin (formPrec { d with twn := { d.twn with loanOut := 3, rxSeq := some (rd d TWN_JSEQ + 1) } }) 2 2 false) := by
  simp only [handoverBoundary, hh]
  exact if_pos (by rw [hrole, hdue, hact]; rfl)

end

/-! ### The loss of the link (R352, R353) -/

/-- Network time hangs on no register but TMR_CTL and the offset of the compatible mode (R54, R70). -/
theorem netTime_wr (c : Chip) {a : Nat} (v : W) (hctl : a ≠ TMR_CTL) (hlo : a ≠ TMR_CX_OFS_LO) (hhi : a ≠ TMR_CX_OFS_HI) :
    netTime (wr c a v) = netTime c := by
  have hmode : fldB (wr c a v) TMR_CTL_clk_mode = fldB c TMR_CTL_clk_mode := fldB_wr_other c v hctl
  have hofs : rd64 (wr c a v) TMR_CX_OFS_LO TMR_CX_OFS_HI = rd64 c TMR_CX_OFS_LO TMR_CX_OFS_HI := by
    rw [rd64, rn, rn, rd_wr_other c v hlo, rd_wr_other c v hhi]
    rfl
  rw [netTime, netTime, hmode, hofs]
  rfl

theorem withTwn_att (c : Chip) (x : Twn) : ({ c with twn := x } : Chip).att = c.att := rfl

/-- A device whose twin link goes down (R352). -/
def linkDowned (c : Chip) : Chip := raise (setB c TWN_STAT_link_up false) srcTWN_LINK_DOWN 0

/-- The loss of the link is noted with its time. -/
def linkLost (c : Chip) : Chip :=
  { linkDowned c with twn := { (linkDowned c).twn with lossAt := some (linkDowned c).tmr.ticks } }

/-- It is UNDECIDED until its verdict. -/
def undecided (c : Chip) : Chip := setFld { c with twn := { c.twn with paired := true } } TWN_STAT_state 4

/-- What the loss does to a device of the pair that does not join (R352). -/
def pairLost (c : Chip) : Chip :=
  let c := if twinRole c = 1 then withdrawAll c else c
  undecided (if fld c TWN_JOIN_STAT_result = 3 then joinFail { c with twn := { c.twn with paired := true } } 0 else c)

theorem linkLost_regs (c : Chip) : (linkLost c).regs = (setB c TWN_STAT_link_up false).regs := by
  rw [linkLost, withTwn_regs, linkDowned, raise_regs]

theorem linkLost_twn (c : Chip) : (linkLost c).twn = { c.twn with lossAt := some c.tmr.ticks } := by
  rw [linkLost, withTwn_twn, linkDowned, raise_twn, raise_tmr, setB_twn, setB_tmr]

theorem linkLost_att (c : Chip) : (linkLost c).att = (linkDowned c).att := rfl

section
variable {c : Chip}

/-- A field of a register is as before the loss where it is not the link's. -/
theorem fld_linkLost (c : Chip) {g : Fld} (h : TWN_STAT ≠ g.addr ∨ g.addr = TWN_STAT ∧ (26 ≤ g.lo ∨ g.lo + g.width ≤ 25)) :
    fld (linkLost c) g = fld c g := by
  rw [fld_congr (linkLost_regs c)]
  rcases h with h | ⟨ha, hw⟩
  · exact fld_setB_addr c false h
  · exact fld_setFld_other (f := TWN_STAT_link_up) c _ ha.symm (by decide) hw

theorem twinLinkLoss_pair {lane : Bool} (hup : fldB c TWN_STAT_link_up = true) (hlost : lane = true ∨ 4 ≤ c.twn.missed)
    (hjoin : joining (linkLost c) = false) (hpair : (linkLost c).twn.paired = true) :
    twinLinkLoss c lane = pairLost (linkLost c) := by
  have hgo : ¬ (!fldB c TWN_STAT_link_up || !(lane || decide (4 ≤ c.twn.missed))) = true := by
    rcases hlost with h | h <;> simp [hup, h]
  have hjoin' : ¬ joining (linkLost c) = true := by rw [hjoin]; decide
  rw [twinLinkLoss, if_neg hgo]
  exact (if_neg hjoin').trans (if_pos hpair)

/-- A copyist that no join runs on has nothing to withdraw. -/
theorem pairLost_copyist (hrole : twinRole c = 2) (hjoin : fld c TWN_JOIN_STAT_result = 1) : pairLost c = undecided c := by
  have hrole' : ¬ twinRole c = 1 := by rw [hrole]; decide
  have hjoin' : ¬ fld c TWN_JOIN_STAT_result = 3 := by rw [hjoin]; decide
  simp only [pairLost, if_neg hrole', if_neg hjoin']

/-- The loss of the link on a copyist in step that no join runs on leaves it UNDECIDED (R352). -/
theorem twinLinkLoss_copyist {lane : Bool} (hup : fldB c TWN_STAT_link_up = true) (hlost : lane = true ∨ 4 ≤ c.twn.missed)
    (hpair : c.twn.paired = true) (hrole : twinRole c = 2) (hst : twinState c = 2) (hjoin : fld c TWN_JOIN_STAT_result = 1) :
    twinLinkLoss c lane = undecided (linkLost c) := by
  have hrole' : twinRole (linkLost c) = 2 := (fld_linkLost c (.inr ⟨rfl, by decide⟩)).trans hrole
  have hst' : twinState (linkLost c) = 2 := (fld_linkLost c (.inr ⟨rfl, by decide⟩)).trans hst
  have hjoin' : fld (linkLost c) TWN_JOIN_STAT_result = 1 := (fld_linkLost c (.inl (by decide))).trans hjoin
  rw [twinLinkLoss_pair hup hlost (joining_of_inStep hst') (by rw [linkLost_twn, hpair]), pairLost_copyist hrole' hjoin']

/-- A twin left UNDECIDED by the loss of the link: its role and the link. -/
theorem undecided_linkLost (c : Chip) :
    twinState (undecided (linkLost c)) = 4 ∧ twinRole (undecided (linkLost c)) = twinRole c
      ∧ fldB (undecided (linkLost c)) TWN_STAT_link_up = false := by
  have hlost : fldB (linkLost c) TWN_STAT_link_up = false :=
    (fldB_congr (linkLost_regs c) _).trans (fldB_setB_same c TWN_STAT_link_up false (by decide) rfl)
  have hpaired : ({ linkLost c with twn := { (linkLost c).twn with paired := true } } : Chip).regs = (linkLost c).regs := withTwn_regs _ _
  refine ⟨fld_setFld_same _ TWN_STAT_state 4 (by decide), ?_, ?_⟩
  · exact (fld_setFld_other (f := TWN_STAT_state) (g := TWN_STAT_role) _ 4 rfl (by decide) (by decide)).trans
      ((fld_congr hpaired _).trans (fld_linkLost c (.inr ⟨rfl, by decide⟩)))
  · exact (fldB_setFld_other (f := TWN_STAT_state) (g := TWN_STAT_link_up) _ 4 rfl (by decide) (by decide)).trans
      ((fldB_congr hpaired _).trans hlost)

theorem undecided_linkLost_twn (c : Chip) :
    (undecided (linkLost c)).twn = { c.twn with lossAt := some c.tmr.ticks, paired := true } := by
  rw [undecided, setFld_twn, withTwn_twn, linkLost_twn]

/-- The loss raises TWN_LINK_DOWN (R371). -/
theorem undecided_linkLost_raised (c : Chip) : (undecided (linkLost c)).att.raised
    = c.att.raised ++ [⟨srcTWN_LINK_DOWN, 0, false, c.tmr.period, netTime c⟩] := by
  have htime : netTime (setB c TWN_STAT_link_up false) = netTime c := netTime_wr c _ (by decide) (by decide) (by decide)
  rw [undecided, setFld_att, withTwn_att, linkLost_att, linkDowned, raise_raised, setB_att, setB_tmr, htime]

/-- A copyist that has seen an edge after the loss is DETACHED at once (R353). -/
theorem twinVerdict_copyistEdge (hst : twinState c = 4) (hedge : edgeAfterLoss c = true) (hrole : twinRole c = 2) :
    twinVerdict c = changeTwin (setTwin c 0 0 false) 0 0 false := by
  simp [twinVerdict, hst, hedge, hrole]

theorem twinVerdict_keeperEdge (hst : twinState c = 4) (hedge : edgeAfterLoss c = true) (hrole : twinRole c ≠ 2) :
    twinVerdict c = setFld c TWN_STAT_state 3 := by
  simp [twinVerdict, hst, hedge, hrole]

theorem twinVerdict_copyistQuiet (hst : twinState c = 4) (hedge : edgeAfterLoss c = false) (hquiet : noHeartbeat c = true)
    (hrole : twinRole c = 2) :
    twinVerdict c = setFld { endPair c with twn := { (endPair c).twn with alone := true } } TWN_STAT_state 2 := by
  simp [twinVerdict, hst, hedge, hquiet, hrole]

theorem twinVerdict_keeperQuiet (hst : twinState c = 4) (hedge : edgeAfterLoss c = false) (hquiet : noHeartbeat c = true)
    (hrole : twinRole c ≠ 2) : twinVerdict c = setFld (endPair c) TWN_STAT_state 3 := by
  simp [twinVerdict, hst, hedge, hquiet, hrole]

theorem singleAfterLoss_past {l : Nat} (hl : c.twn.lossAt = some l) (hrole : twinRole c = 1) (hst : twinState c = 3)
    (hpair : c.twn.paired = true) (hup : fldB c TWN_STAT_link_up = false) (hpast : 2000000 ≤ c.tmr.ticks - l) :
    singleAfterLoss c = endPair c := by
  simp only [singleAfterLoss, hl]
  exact if_pos (by simp [hrole, hst, hpair, hup, hpast])

end

/-! ### State changes of the keeper, and firmware checkpoints (R343, R370) -/

/-- A state change that nothing stands against is journalled, and taken with its E (R343, R345). -/
theorem stateChangeAs_taken {c : Chip} (d : W) {p : JPayload} (k : Chip → W → Chip) (hloan : holdsLoan c = true)
    (hroom : journalFull c (16 + p.size) = false) (hst : fld c TWN_STAT_state ≠ 4) :
    stateChangeAs c d p k = k (journalAppend c (effOf c (16 + p.size)) p) (effOf c (16 + p.size)) := by
  simp [stateChangeAs, changeWaits, hloan, hroom, hst]

/-- The bytes of a checkpoint of `n` bytes in TWN_FW_TX (R370). -/
def checkpoint (c : Chip) (n : Nat) : List Byte := (wordsToBytes ((List.range 64).map (fun i => rd c (TWN_FW_TX i)))).take n

/-- The device with the values of a write of TWN_FW_CTL stored (R370). -/
def fwCtlStored (c : Chip) (v : W) : Chip :=
  wr c TWN_FW_CTL (toW (b2n (fldB c TWN_FW_CTL_fw_new && !wbit v 30) * 2 ^ 30 + wbits v 0 9))

theorem fwCtlWrite_send {c : Chip} {v : W} (hr : reachable c TWN_FW_CTL = true) (hsend : wbit v 31 = true)
    (h1 : 1 ≤ wbits v 0 9) (h256 : wbits v 0 9 ≤ 256) (hlive : (fwCtlStored c v).twn.applying = false) :
    fwCtlWrite c v = stateChangeAs (fwCtlStored c v) (toW TWN_FW_CTL) (.fw (checkpoint (fwCtlStored c v) (wbits v 0 9))) (fun c _ => c) := by
  have hgo : (wbit v 31 && decide (1 ≤ wbits v 0 9) && decide (wbits v 0 9 ≤ 256) && !fromJournal (fwCtlStored c v)) = true := by
    rw [hsend, decide_eq_true h1, decide_eq_true h256, fromJournal_of_notApplying hlive]
    rfl
  rw [fwCtlWrite, hostWrite_reach c _ _ hr]
  exact if_pos hgo

/-! ### The statement -/

/-- Settles O20, by what each occasion of the loan and of the link's loss leaves on a twin that meets it. -/
theorem loanHandoverAndLossOfTheLink : Obligations.LoanHandoverAndLossOfTheLink := by
  unfold Obligations.LoanHandoverAndLossOfTheLink
  refine ⟨?edge, ?quiet, ?lease, ?loanCtl, ?boundary, ?twnCtl, ?loss, ?verdict, ?single, ?checkpoint⟩
  case edge =>
    intro s tick hs c
    rw [exec_partnerHbEdge]
    exact run_to hs rfl
  case quiet =>
    intro s hs hb hquiet
    rw [exec_partnerHbLost]
    exact run_to hs (partnerLost_quiet hb hquiet)
  case lease =>
    intro s r hs hr hpair c
    rw [exec_loanRenew, exec_loanLost, exec_loanTaken]
    exact ⟨fun hrole hact hquarter halive hout => run_to hs (loanRenew_quarter hr hrole hact hpair hquarter halive hout),
      fun hrole hact hst hlease => run_to hs (loanLost_expired hr hrole hact hpair hst hlease),
      fun hrole hst hchange hlease => run_to hs (loanTaken_expired hr hrole hst hchange hlease)⟩
  case loanCtl =>
    rintro s v ⟨hs, hr⟩ hrole hlive hlease
    rw [exec_fwAlive, exec_handover]
    refine ⟨fun h30 => run_to hs ?alive, fun h31 hact hst hpair hpeer hnone => run_to hs ?handover⟩
    case alive =>
      have hlease' := (congrArg (clampN 1 100) (wbits_or_outside v (b := 0x80000000) (by decide))).trans hlease
      exact loanCtlWrite_alive hr hlive hlease' hrole (wbit_or_forced v (by decide)) (wbit_or_outside (by decide) h30)
    case handover =>
      have hlease' := (congrArg (clampN 1 100) (wbits_or_outside v (b := 0x40000000) (by decide))).trans hlease
      exact (loanCtlWrite_handover hr hlive hlease' (wbit_or_outside (by decide) h31) (wbit_or_forced v (by decide))).trans
        (handoverAsked_keeper hrole hact hst hpair hpeer hnone)
  case boundary =>
    intro s h hs hh hrole hdue hact c d
    rw [exec_handoverBoundary]
    exact run_to hs (handoverBoundary_due hh hrole hdue hact)
  case twnCtl =>
    rintro s v ⟨hs, hr⟩ w c d
    rw [exec_leave, exec_join]
    exact ⟨fun h27 hrole => run_to hs
        ((twnCtlWrite_leave hr (wbit_or_forced v (by decide)) (wbit_or_outside (by decide) h27)).trans (leaveAsked_copyist hrole)),
      fun h28 htwin hst hrole hsafe => run_to hs
        (twnCtlWrite_join hr (wbit_or_outside (by decide) h28) (wbit_or_forced v (by decide)) htwin hst hrole hsafe)⟩
  case loss =>
    intro s lane hs hup hlost hpair hrole hst hjoin
    obtain ⟨hstate, hrole', hdown⟩ := undecided_linkLost s.chip
    rw [exec_twinLinkLoss]
    exact ⟨_, run_to hs (twinLinkLoss_copyist hup hlost hpair hrole hst hjoin), hstate, hrole'.trans hrole, hdown,
      by rw [undecided_linkLost_twn], by rw [undecided_linkLost_twn], undecided_linkLost_raised s.chip⟩
  case verdict =>
    intro s hs hst c
    rw [exec_twinVerdict]
    exact ⟨fun hedge hrole => run_to hs (twinVerdict_copyistEdge hst hedge hrole),
      fun hedge hrole => run_to hs (twinVerdict_keeperEdge hst hedge hrole),
      fun hedge hquiet hrole => run_to hs (twinVerdict_copyistQuiet hst hedge hquiet hrole),
      fun hedge hquiet hrole => run_to hs (twinVerdict_keeperQuiet hst hedge hquiet hrole)⟩
  case single =>
    intro s l hs hl hrole hst hpair hup hpast
    rw [exec_singleDeviceAfterLoss]
    exact run_to hs (singleAfterLoss_past hl hrole hst hpair hup hpast)
  case checkpoint =>
    rintro s v ⟨hs, hr⟩ n c l h1 h256 hlive hloan hroom hst
    rw [exec_fwSend]
    exact run_to hs ((fwCtlWrite_send hr (wbit_or_forced v (by decide)) h1 h256 hlive).trans
      (stateChangeAs_taken _ _ hloan hroom hst))

end Sys2Proof.Machine
end

section
/-! State changes on a twin without the loan (R347): every write of a state-change register is refused there alike, in whichever way
its row takes it; reads and the writes of local registers are served. -/

open Sys2Proof

namespace Sys2Proof.Machine

/-- The device does not hold the loan, and applies no journalled record. -/
abbrev WithoutLoan (c : Chip) : Prop :=
  fldB c TWN_CTL_twin_en = true ∧ fldB c TWN_STAT_acting = false ∧ c.twn.applying = false

/-- What a refused state change whose event names `a` leaves (R347). -/
def loanRefused (c : Chip) (a : Nat) : Chip := raiseLimited (setB c TWN_STAT_not_keeper true) srcTWN_NOT_KEEPER (toW a)

/-! ### The refusal, in each way a row takes a write -/

section
variable {c : Chip} (hn : WithoutLoan c)
include hn

theorem holdsLoan_withoutLoan : holdsLoan c = false := by
  obtain ⟨htwin, hact, -⟩ := hn
  rw [holdsLoan, htwin, hact]
  rfl

theorem mayChange_withoutLoan : mayChange c = false := by
  rw [mayChange, holdsLoan_withoutLoan hn, hn.2.2]
  rfl

theorem stateChangeAs_withoutLoan {a : Nat} {p : JPayload} {k : Chip → W → Chip} :
    stateChangeAs c (toW a) p k = loanRefused c a :=
  if_pos (by rw [holdsLoan_withoutLoan hn, hn.2.2]; rfl)

variable {a : Nat} (hr : reachable c a = true)
include hr

theorem hostChange_withoutLoan {v : W} {k : Chip → W → Chip} : hostChange c a v k = loanRefused c a :=
  (hostWrite_reach c a _ hr).trans (stateChangeAs_withoutLoan hn)

/-- A write that its row would judge is refused before it is judged. -/
theorem hostChangeIf_withoutLoan {v : W} {judge : Chip → Option Chip} {k : Chip → W → Chip} :
    hostChangeIf c a v judge k = loanRefused c a := by
  rw [hostChangeIf, hostWrite_reach c a _ hr, mayChange_withoutLoan hn]
  exact stateChangeAs_withoutLoan hn

theorem hostChangeNow_withoutLoan {v : W} {k : Chip → Chip} : hostChangeNow c a v k = loanRefused c a :=
  hostChange_withoutLoan hn hr

end

/-! ### Rows that do more than take a write -/

section
variable {c : Chip} (hn : WithoutLoan c)
include hn

theorem curCtlWrite_withoutLoan {v : W} (hr : reachable c CUR_CTL = true) : curCtlWrite c v = loanRefused c CUR_CTL :=
  (hostWrite_reach c _ _ hr).trans (stateChangeAs_withoutLoan hn)

/-- The opcode of an urgent request is not looked at. -/
theorem docUrgWrite_withoutLoan {v : W} (hr : reachable c DOC_URG = true) : docUrgWrite c v = loanRefused c DOC_URG := by
  rw [docUrgWrite, if_neg (by simp [holdsLoan_withoutLoan hn, hn.2.2]), hostWrite_reach c _ _ hr]
  exact stateChangeAs_withoutLoan hn

/-- No arrangement goes ahead of the refused command in the journal. -/
theorem arsWrite_withoutLoan {v : W} (hr : reachable c ARS_CMD = true) : arsWrite c v = loanRefused c ARS_CMD := by
  simp only [arsWrite, holdsLoan_withoutLoan hn, Bool.and_false, Bool.false_eq_true, if_false]
  exact hostChangeIf_withoutLoan hn hr

theorem slotWrite_withoutLoan {v : W} {off : Nat} (hoff : (slotOffset off).isSome = true) (hr : reachable c (0x400000 + off) = true) :
    slotWrite c off v = loanRefused c (0x400000 + off) :=
  (if_pos hoff).trans (hostChangeNow_withoutLoan hn hr)

/-- A state-change register that no rule gives more than its access codes. -/
theorem plainWrite_withoutLoan {v : W} {a : Nat} (ha : changeReg a = true) (hr : reachable c a = true) :
    plainWrite c a v = loanRefused c a :=
  (if_pos ha).trans (hostChangeNow_withoutLoan hn hr)

end

/-- A policer's two words. -/
theorem policerWrite_withoutLoan {c : Chip} (hn : WithoutLoan c) {p : Nat} {depth : Bool} {v : W}
    (hr : reachable c (if depth then PKT_POL_DEPTH p else PKT_POL_RATE p) = true) :
    policerWrite c p depth v = loanRefused c (if depth then PKT_POL_DEPTH p else PKT_POL_RATE p) :=
  hostChange_withoutLoan hn hr

theorem dacCode_word (k : Nat) : AUX_DAC_CFG k + 4 * 1 = AUX_DAC_CODE k := by
  unfold AUX_DAC_CFG AUX_DAC_CODE
  omega

/-- A word of a DAC channel. -/
theorem dacWrite_withoutLoan {c : Chip} (hn : WithoutLoan c) {k w a : Nat} {v : W} (ha : AUX_DAC_CFG k + 4 * w = a)
    (hr : reachable c a = true) : dacWrite c k w v = loanRefused c a := by
  subst ha
  exact hostChangeIf_withoutLoan hn hr

/-! ### A write by PCIe -/

section
variable {a : Nat} (ha : a ∈ [TMR_CTL, TMR_SLEW_LIMIT, PDM_CTL, NGL_CTL, LDG_CTL, INV_CTL])
include ha

/-- State-change registers that no rule gives more than their access codes (R14), one in each of six blocks. -/
theorem plainChange_access : changeReg a = true ∧ a % 4 = 0 ∧ busTarget a ≠ 15 ∧ busTarget a ≠ 9 := by
  fin_cases ha <;> decide

theorem writeReg_plainChange (c : Chip) (v : W) : writeReg c a v = plainWrite c a v := by
  fin_cases ha <;>
    simp +decide only [writeReg, writeSystem, writeLoops, writeSupport, galleryPlace, indexIn, dacWord, if_true, if_false]

end

/-! The refusal reads and writes nothing of the twin block. -/

theorem setB_withTwn (c : Chip) (x : Twn) (f : Fld) (b : Bool) : setB { c with twn := x } f b = { setB c f b with twn := x } := rfl

theorem raiseLimited_withTwn (c : Chip) (x : Twn) (k : Nat) (d : W) :
    raiseLimited { c with twn := x } k d = { raiseLimited c k d with twn := x } := by
  have hl : limited { c with twn := x } k = limited c k := rfl
  rw [raiseLimited, raiseLimited, hl]
  split <;> rfl

theorem raiseLimited_twn (c : Chip) (k : Nat) (d : W) : (raiseLimited c k d).twn = c.twn := by
  unfold raiseLimited
  split <;> rfl

theorem loanRefused_withTwn (c : Chip) (x : Twn) (a : Nat) : loanRefused { c with twn := x } a = { loanRefused c a with twn := x } := by
  rw [loanRefused, setB_withTwn, raiseLimited_withTwn, loanRefused]

theorem loanRefused_twn (c : Chip) (a : Nat) : (loanRefused c a).twn = c.twn := by
  rw [loanRefused, raiseLimited_twn, setB_twn]

/-- The source a refused write acts for (R344) leaves no trace. -/
theorem withSource_refused {c : Chip} (hn : WithoutLoan c) {a : Nat} (hr : reachable c a = true) (n : Nat) {f : Chip → Chip}
    (h : ∀ d, WithoutLoan d → reachable d a = true → f d = loanRefused d a) : withSource c n f = loanRefused c a := by
  have hn' : WithoutLoan { c with twn := { c.twn with source := n } } := hn
  have hr' : reachable { c with twn := { c.twn with source := n } } a = true := (reachable_congr rfl a).trans hr
  have hkept : { loanRefused c a with twn := c.twn } = loanRefused c a := by rw [← loanRefused_twn c a]
  rw [withSource, h _ hn' hr', loanRefused_withTwn]
  exact hkept

/-- A PCIe write of a state-change register that takes it as its codes say is refused and ends OK. -/
theorem masterWrite_withoutLoan {c : Chip} (hn : WithoutLoan c) {a : Nat}
    (haccess : changeReg a = true ∧ a % 4 = 0 ∧ busTarget a ≠ 15 ∧ busTarget a ≠ 9) {v : W}
    (hplain : ∀ d, writeReg d a v = plainWrite d a v) (hr : reachable c a = true) :
    masterWrite c 1 a 15 v = respond (loanRefused c a) 0 := by
  obtain ⟨hchange, haligned, h15, h9⟩ := haccess
  rw [masterWrite_whole c 1 a v haligned rfl (by decide) (by decide) h15 h9 hr,
    withSource_refused hn hr _ (fun d hd hrd => (hplain d).trans (plainWrite_withoutLoan hd hchange hrd))]

/-! ### What is served -/

theorem timeReadLatch_answers {c : Chip} (hr : reachable c TMR_TIME_LO = true) :
    (timeReadLatch c).readData = toW (netTime c).toNat ∧ (timeReadLatch c).readResp = 0 := by
  rw [timeReadLatch, hostRead_reach c _ _ hr]
  exact ⟨rfl, rfl⟩

theorem withGlb_regs (c : Chip) (x : Glb) : ({ c with glb := x } : Chip).regs = c.regs := rfl

theorem wdtWrite_stored {c : Chip} {v : W} (hr : reachable c GLB_WDT = true) : rd (wdtWrite c v) GLB_WDT = v &&& 0x4000FFFF := by
  have hregs : (wdtWrite c v).regs = (wr c GLB_WDT (v &&& 0x4000FFFF)).regs := by
    rw [wdtWrite, hostWrite_reach c _ _ hr]
    dsimp only
    split
    · exact withGlb_regs (wr c GLB_WDT (v &&& 0x4000FFFF)) _
    · rfl
  rw [rd, hregs]
  exact rd_wr_same c GLB_WDT _

/-- The kick is no bit that GLB_WDT keeps (R519). -/
theorem kick_notStored (v : W) : (v ||| 0x80000000) &&& 0x4000FFFF = v &&& 0x4000FFFF := by
  rw [BitVec.and_or_distrib_right]
  exact BitVec.or_zero

/-- A write of GLB_RESTART with class FW asks for a restart (R516). -/
theorem withRestart_fw (v : W) : wbit (withRestart v 2) 31 = true ∧ wbits (withRestart v 2) 29 2 = 2 := by
  refine ⟨?_, wbits_putField_same _ 29 2 2 (by decide)⟩
  have hgo : wbits (withRestart v 2) 31 1 = wbits (v ||| 0x80000000) 31 1 :=
    wbits_putField_above _ 29 2 2 31 1 (by decide) (by decide)
  have hbit : wbit (v ||| 0x80000000) 31 = true := wbit_or_forced v (by decide)
  exact (congrArg (· == 1) hgo).trans hbit

theorem restartWrite_taken {c : Chip} {v : W} (hr : reachable c GLB_RESTART = true) (hgo : wbit v 31 = true)
    (hclass : wbits v 29 2 = 2) (hnone : c.glb.restart = none) :
    restartWrite c v = { c with glb := { c.glb with restart := some (v, period c + 2), byWatchdog := false } } := by
  rw [restartWrite, hostWrite_reach c _ _ hr, if_neg (by simp [hgo]), if_neg (by simp [hnone, hclass])]

/-! ### The statement -/

section
variable {i : Instr} {s : State} {a : Nat} {v : W} {k : Chip → W → Chip} (hn : NoLoan s)
include hn

/-- A command whose write is refused for the want of the loan (R347). -/
theorem exec_refused {f : Chip → Chip} (hi : exec i s = run s f) (hf : f s.chip = loanRefused s.chip a) :
    exec i s = .next (notKeeper s a) :=
  hi.trans (run_to hn.1 hf)

variable (hr : ∀ a, reachable s.chip a = true)
include hr

theorem exec_change_refused (hi : exec i s = run s (hostChange · a v k)) : exec i s = .next (notKeeper s a) :=
  exec_refused hn hi (hostChange_withoutLoan hn.2 (hr a))

theorem exec_judged_refused {judge : Chip → Option Chip} (hi : exec i s = run s (hostChangeIf · a v judge k)) :
    exec i s = .next (notKeeper s a) :=
  exec_refused hn hi (hostChangeIf_withoutLoan hn.2 (hr a))

theorem exec_now_refused {k : Chip → Chip} (hi : exec i s = run s (hostChangeNow · a v k)) : exec i s = .next (notKeeper s a) :=
  exec_refused hn hi (hostChangeNow_withoutLoan hn.2 (hr a))

end

/-- Settles O58, by the one refusal in which a write of a state-change register ends, in whichever way its row takes it, and by what
the served rows do. -/
theorem writesWithoutTheLoanAreRefused : Obligations.WritesWithoutTheLoanAreRefused := by
  unfold Obligations.WritesWithoutTheLoanAreRefused
  refine ⟨?system, ?loops, ?ports, ?pcie, ?served⟩
  case system =>
    intro s v hn hr
    exact ⟨exec_change_refused hn hr (exec_incStage s), exec_change_refused hn hr (exec_incCommit s),
      exec_judged_refused hn hr (exec_adjGo s), exec_judged_refused hn hr (exec_todArm s),
      fun d => ⟨exec_judged_refused hn hr (exec_domainOn s), exec_judged_refused hn hr (exec_domainOff s)⟩,
      exec_judged_refused hn hr (exec_asmUp s), exec_judged_refused hn hr (exec_asmDown s), exec_judged_refused hn hr (exec_asmClear s),
      fun k => ⟨exec_refused hn (exec_dacCode s) (dacWrite_withoutLoan hn.2 (dacCode_word k) (hr _)),
        exec_refused hn (exec_dacRange s) (dacWrite_withoutLoan hn.2 rfl (hr _))⟩⟩
  case loops =>
    intro s v hn hr
    refine ⟨fun g w j => ?gallery, ?inventory, ?docCmd, ?docUrg, ?docAbort, ?docEpoch, ?custLoad, ?custCommit, fun off => ?store,
      ?accede, ?delete, ?fetch, ?programme, ?mode, ?curCmd⟩
    case gallery =>
      exact ⟨exec_judged_refused hn hr (exec_stagingBankWrite s), exec_judged_refused hn hr (exec_cellCmdNop s),
        exec_judged_refused hn hr (exec_enable s), exec_judged_refused hn hr (exec_disable s), exec_judged_refused hn hr (exec_hold s),
        exec_judged_refused hn hr (exec_resume s), exec_change_refused hn hr (exec_trimWrite s)⟩
    case inventory =>
      exact ⟨exec_judged_refused hn hr (exec_invNop s), exec_judged_refused hn hr (exec_markStuck s),
        exec_judged_refused hn hr (exec_clearStuck s), exec_judged_refused hn hr (exec_clearHist s),
        exec_judged_refused hn hr (exec_clearSw s)⟩
    case docCmd => exact exec_judged_refused hn hr (exec_docCmdWrite s)
    case docUrg => exact exec_refused hn (exec_docUrgWrite s) (docUrgWrite_withoutLoan hn.2 (hr _))
    case docAbort => exact exec_judged_refused hn hr (exec_docAbort s)
    case docEpoch => exact exec_judged_refused hn hr (exec_docEpochReq s)
    case custLoad => exact exec_now_refused hn hr (exec_custLoad s)
    case custCommit => exact exec_now_refused hn hr (exec_custCommit s)
    case store => exact exec_now_refused hn hr (exec_controlStoreWrite s)
    case accede => exact exec_refused hn (exec_accede s) (arsWrite_withoutLoan hn.2 (hr _))
    case delete => exact exec_refused hn (exec_delete s) (arsWrite_withoutLoan hn.2 (hr _))
    case fetch => exact exec_refused hn (exec_fetch s) (arsWrite_withoutLoan hn.2 (hr _))
    case programme =>
      exact ⟨exec_judged_refused hn hr (exec_load s), exec_judged_refused hn hr (exec_check s), exec_judged_refused hn hr (exec_start s),
        exec_judged_refused hn hr (exec_stage s), exec_judged_refused hn hr (exec_stop s), exec_judged_refused hn hr (exec_clear s)⟩
    case mode => exact exec_refused hn (exec_curModeWrite s) (curCtlWrite_withoutLoan hn.2 (hr _))
    case curCmd => exact exec_judged_refused hn hr (exec_curCmdEnqueue s)
  case ports =>
    intro s v hn hr
    exact ⟨fun t => ⟨exec_judged_refused hn hr (exec_bringup s), exec_judged_refused hn hr (exec_linkDown s),
        exec_judged_refused hn hr (exec_prbs s)⟩,
      exec_judged_refused hn hr (exec_cnsCommit s),
      fun n => ⟨exec_now_refused hn hr (exec_charRelease s),
        exec_refused hn (exec_policerWrite s) (policerWrite_withoutLoan hn.2 (depth := false) (hr _)),
        exec_refused hn (exec_policerWrite s) (policerWrite_withoutLoan hn.2 (depth := true) (hr _)),
        exec_judged_refused hn hr (exec_queueShareWrite s)⟩,
      fun n => ⟨exec_judged_refused hn hr (exec_portCtlWrite s), exec_judged_refused hn hr (exec_gclCommit s)⟩,
      exec_judged_refused hn hr (exec_pktSwap s), exec_judged_refused hn hr (exec_pktCopy s),
      fun off => exec_judged_refused hn hr (exec_shadowBankWrite s),
      fun off hoff => exec_refused hn (exec_stepMemoryWrite s) (slotWrite_withoutLoan hn.2 hoff (hr _))⟩
  case pcie =>
    rintro s m a v ⟨hs, hn⟩ hm hr ha t
    rw [exec_registerWrite_live hs, hm, masterWrite_withoutLoan hn (plainChange_access ha) (fun d => writeReg_plainChange ha d v) hr]
    rfl
  case served =>
    rintro s v ⟨hs, -⟩ htime hwdt hrestart
    obtain ⟨hdata, hresp⟩ := timeReadLatch_answers htime
    obtain ⟨hgo, hclass⟩ := withRestart_fw v
    rw [exec_timeReadLatch, exec_wdtKick, exec_fwRestart]
    exact ⟨⟨_, run_to hs rfl, hdata, hresp⟩, ⟨_, run_to hs rfl, (wdtWrite_stored hwdt).trans (kick_notStored v)⟩,
      fun hnone => ⟨_, run_to hs (restartWrite_taken hrestart hgo hclass hnone), rfl⟩⟩

end Sys2Proof.Machine
end

section
/-! What the Conservator's estimates leave (R379–R385): they write cells, registers, staging banks and the journal of the pair, and
neither network time nor the block that counts windows, galleries and requests. -/

open Sys2Proof

namespace Sys2Proof.Machine

/-- Network time and the Conservator's block stand. -/
structure CnsKept (c d : Chip) : Prop where
  tmr : d.tmr = c.tmr
  cns : d.cns = c.cns

section
variable {c d : Chip}

theorem CnsKept.trans {e : Chip} (h : CnsKept c d) (h' : CnsKept d e) : CnsKept c e :=
  ⟨h'.tmr.trans h.tmr, h'.cns.trans h.cns⟩

theorem cnsKept_ite {e : Chip} {p : Prop} [Decidable p] (h : CnsKept c d) (h' : CnsKept c e) :
    CnsKept c (if p then d else e) := by
  split
  · exact h
  · exact h'

end

theorem cnsKept_refl (c : Chip) : CnsKept c c := ⟨rfl, rfl⟩

theorem cnsKept_foldl {α : Type} {f : Chip → α → Chip} (hf : ∀ c x, CnsKept c (f c x)) (l : List α) (c : Chip) :
    CnsKept c (l.foldl f c) := by
  induction l generalizing c with
  | nil => exact cnsKept_refl c
  | cons x t ih => exact (hf c x).trans (ih _)

/-! ### Registers, events and errors of the matrix -/

section
variable (c : Chip)

theorem cnsKept_wr (a : Nat) (v : W) : CnsKept c (wr c a v) := ⟨rfl, rfl⟩

theorem cnsKept_raise (k : Nat) (v : W) : CnsKept c (raise c k v) := ⟨rfl, rfl⟩

/-- A status bit is set and its occurrence raised. -/
theorem cnsKept_raise_setB (f : Fld) (k : Nat) (v : W) : CnsKept c (raise (setB c f true) k v) := ⟨rfl, rfl⟩

theorem cnsKept_raiseLimited (k : Nat) (v : W) : CnsKept c (raiseLimited c k v) := by
  unfold raiseLimited
  split <;> exact ⟨rfl, rfl⟩

theorem cnsKept_errorEvent (k m b : Nat) : CnsKept c (errorEvent c k m b) := by
  unfold errorEvent
  exact cnsKept_ite (cnsKept_raiseLimited c _ _) (cnsKept_ite (cnsKept_raiseLimited c _ _) (cnsKept_ite (cnsKept_raise c _ _)
    (cnsKept_ite (cnsKept_raise c _ _) (cnsKept_ite (cnsKept_raise c _ _) (cnsKept_refl c)))))

theorem cnsKept_matrixError (k m t : Nat) (w : Bool) (a b : Nat) : CnsKept c (matrixError c k m t w a b) := by
  unfold matrixError
  extract_lets clear shown counted recorded
  have hcounted : CnsKept c counted := cnsKept_ite (cnsKept_wr c _ _) ((cnsKept_wr c _ _).trans (cnsKept_wr _ _ _))
  have hrecorded : CnsKept c recorded :=
    cnsKept_ite (hcounted.trans (((cnsKept_wr _ _ _).trans (cnsKept_wr _ _ _)).trans (cnsKept_wr _ _ _))) hcounted
  exact hrecorded.trans (cnsKept_errorEvent _ _ _ _)

theorem cnsKept_targetOff (m : Nat) (w : Bool) (a : Nat) : CnsKept c (targetOff c m w a) :=
  cnsKept_ite (cnsKept_refl c) (cnsKept_matrixError c _ _ _ _ _ _)

/-! ### State changes (R343, R345) -/

theorem cnsKept_journalAppend (e : W) (p : JPayload) : CnsKept c (journalAppend c e p) :=
  cnsKept_ite ⟨rfl, rfl⟩ (cnsKept_refl c)

/-- A state change, refused or taken, leaves what its effect leaves. -/
theorem cnsKept_stateChange {k : Chip → W → Chip} (hk : ∀ c e, CnsKept c (k c e)) (a : Nat) (v : W) :
    CnsKept c (stateChange c a v k) :=
  cnsKept_ite ((cnsKept_wr c _ _).trans (cnsKept_raiseLimited _ _ _))
    (cnsKept_ite (cnsKept_raise_setB c _ _ _) ((cnsKept_journalAppend c _ _).trans (hk _ _)))

theorem cnsKept_hostChangeNow {k : Chip → Chip} (hk : ∀ c, CnsKept c (k c)) (a : Nat) (v : W) :
    CnsKept c (hostChangeNow c a v k) := by
  refine cnsKept_ite (cnsKept_stateChange c (fun c e => ?_) a v) (cnsKept_targetOff c _ _ _)
  exact cnsKept_ite ⟨rfl, rfl⟩ (hk c)

theorem cnsKept_withSource {f : Chip → Chip} (hf : ∀ c, CnsKept c (f c)) (n : Nat) : CnsKept c (withSource c n f) := by
  obtain ⟨htmr, hcns⟩ := hf { c with twn := { c.twn with source := n } }
  exact ⟨htmr, hcns⟩

/-! ### Staging banks (R384, R385) -/

theorem cnsKept_stagingStore (g w : Nat) (v : W) : CnsKept c (stagingStore c g w v) :=
  cnsKept_ite (cnsKept_ite (cnsKept_raise_setB c _ _ _) (cnsKept_refl c)) (cnsKept_ite ⟨rfl, rfl⟩ ⟨rfl, rfl⟩)

theorem cnsKept_ownStaging (g w : Nat) (v : W) : CnsKept c (ownStaging c g w v) :=
  cnsKept_ite (cnsKept_refl c)
    (cnsKept_withSource c (fun c => cnsKept_hostChangeNow c (fun c => cnsKept_stagingStore c g w v) _ _) 4)

theorem cnsKept_stageWords (i : Nat) (l : List (Nat × W)) : CnsKept c (stageWords c i l) :=
  cnsKept_foldl (fun c _ => cnsKept_ite (cnsKept_refl c) (cnsKept_ownStaging c _ _ _)) l c

theorem cnsKept_stageGen (g : Nat) : CnsKept c (stageGen c g) :=
  cnsKept_foldl (fun c _ => cnsKept_stageWords c _ _) _ c

/-! ### The estimates (R379) -/

theorem cnsKept_estimateCell (i w : Nat) : CnsKept c (estimateCell c i w).1 := by
  unfold estimateCell
  extract_lets x s e mx u
  split
  · split
    extract_lets next rises staged
    have hnext : CnsKept c next := ⟨rfl, rfl⟩
    have hstaged : CnsKept c staged := hnext.trans (cnsKept_stageWords next i u.1)
    split
    · exact hnext
    · exact cnsKept_ite (hstaged.trans (cnsKept_raise_setB staged _ _ _)) hstaged
  · exact ⟨rfl, rfl⟩

/-- The estimates of every mapped cell for window `w`, and whether a dip was high. -/
def estimateCells (c : Chip) (w : Nat) : Chip × Bool :=
  (mappedCells c).foldl (fun (x : Chip × Bool) m =>
    let y := estimateCell x.1 m.1 w
    (y.1, x.2 || y.2)) (c, false)

theorem cnsKept_estimateCells (w : Nat) : CnsKept c (estimateCells c w).1 := by
  unfold estimateCells
  generalize mappedCells c = l, false = b
  induction l generalizing c b with
  | nil => exact cnsKept_refl c
  | cons m t ih => exact (cnsKept_estimateCell c m.1 w).trans (ih _ _)

/-- The device with the estimates of window `w`: the high dip is told, and what the Conservator owns of the banks takes the next
generation (R375, R383). -/
def windowEstimated (c : Chip) (w : Nat) : Chip :=
  let r := estimateCells c w
  let c := if r.2 then raise (setB r.1 CNS_STAT_dip_high true) srcCNS_DIP_HIGH 0 else r.1
  if fldB c CNS_CTL_host_bank then c else galleries.foldl stageGen c

theorem cnsKept_windowEstimated (w : Nat) : CnsKept c (windowEstimated c w) := by
  unfold windowEstimated
  extract_lets r told
  have hcells : CnsKept c r.1 := cnsKept_estimateCells c w
  have htold : CnsKept c told := cnsKept_ite (hcells.trans (cnsKept_raise_setB _ _ _ _)) hcells
  exact cnsKept_ite htold (htold.trans (cnsKept_foldl cnsKept_stageGen _ _))

end

section
variable {c : Chip} {e : W} (he : c.cns.windowEnd = some e) (hbusy : fldB c CNS_STAT_busy = true) (hroom : stagingRoom c = true)
include he hbusy hroom

/-- The estimates form, and the Conservator is no longer busy (R379). -/
theorem estimatesDone_formed : ∃ d, CnsKept c d ∧
    estimatesDone c = setB { d with cns := { d.cns with formed := true } } CNS_STAT_busy false := by
  refine ⟨_, cnsKept_windowEstimated c ((e - 3).toNat / 40000), ?_⟩
  unfold estimatesDone
  rw [he]
  exact if_pos (by rw [hbusy, hroom]; rfl)

/-- Without a mapped cell the host's banks stand (R384). -/
theorem estimatesDone_unmapped (hhost : fldB c CNS_CTL_host_bank = true) (htopo : c.topo = none) :
    estimatesDone c = setB { c with cns := { c.cns with formed := true } } CNS_STAT_busy false := by
  simp [estimatesDone, he, hbusy, hroom, hhost, mappedCells, htopo]

end

end Sys2Proof.Machine
end

section
/-! Lock-in windows (R376–R378): the samples of a boundary enter the sums of the mapped cells, and a window's end. -/

open Sys2Proof

namespace Sys2Proof.Machine

/-- The device differs at most in its cells. -/
def CellsOnly (c d : Chip) : Prop := ∃ l, d = { c with lpe := { c.lpe with cells := l } }

theorem cellsOnly_refl (c : Chip) : CellsOnly c c := ⟨c.lpe.cells, rfl⟩

theorem CellsOnly.trans {c d e : Chip} (h : CellsOnly c d) (h' : CellsOnly d e) : CellsOnly c e := by
  obtain ⟨l, rfl⟩ := h
  obtain ⟨l', rfl⟩ := h'
  exact ⟨l', rfl⟩

theorem cellsOnly_foldl {α : Type} {f : Chip → α → Chip} (hf : ∀ c x, CellsOnly c (f c x)) (l : List α) (c : Chip) :
    CellsOnly c (l.foldl f c) := by
  induction l generalizing c with
  | nil => exact cellsOnly_refl c
  | cons x t ih => exact (hf c x).trans (ih _)

/-! ### The samples of a boundary -/

/-- The device after the sample of boundary `k` of one cell, which enters its sums where it counts (R377, R378). -/
def integrateCell (c : Chip) (k : W) (i : Nat) : Chip :=
  let x := getCell c i
  let m := sampleAt x k
  if counted c i m k then
    putCell c i { x with sums := addSample x.sums (ditherPhase c (freqIndex i) (k - 1)) m }
  else c

/-- The cell after its sample. -/
def integratedCell (c : Chip) (k : W) (i : Nat) : Cell :=
  let x := getCell c i
  let m := sampleAt x k
  if counted c i m k then { x with sums := addSample x.sums (ditherPhase c (freqIndex i) (k - 1)) m } else x

theorem integrate_eq (c : Chip) : integrate c = (mappedCells c).foldl (fun d e => integrateCell d (period c - 2) e.1) c := rfl

theorem getCell_putCell (c : Chip) (i j : Nat) (x : Cell) : getCell (putCell c i x) j = if i = j then x else getCell c j :=
  mapRead_mapWrite _ c.lpe.cells i j x

theorem cellsOnly_integrateCell (c : Chip) (k : W) (i : Nat) : CellsOnly c (integrateCell c k i) := by
  unfold integrateCell
  dsimp only
  split
  · exact ⟨_, rfl⟩
  · exact cellsOnly_refl c

theorem getCell_integrateCell_same (c : Chip) (k : W) (i : Nat) : getCell (integrateCell c k i) i = integratedCell c k i := by
  unfold integrateCell integratedCell
  dsimp only
  split
  · rw [getCell_putCell, if_pos rfl]
  · rfl

theorem getCell_integrateCell_other (c : Chip) (k : W) {i j : Nat} (h : i ≠ j) :
    getCell (integrateCell c k i) j = getCell c j := by
  unfold integrateCell
  dsimp only
  split
  · rw [getCell_putCell, if_neg h]
  · rfl

/-- What a sample adds to a cell depends on no other cell. -/
theorem integratedCell_congr {c d : Chip} (h : CellsOnly c d) {i : Nat} (hi : getCell d i = getCell c i) (k : W) :
    integratedCell d k i = integratedCell c k i := by
  obtain ⟨l, rfl⟩ := h
  unfold integratedCell
  rw [hi]
  rfl

section
variable (k : W) {i : Nat}

theorem getCell_integrateCells_unlisted {l : List (Nat × MapCell)} (h : i ∉ l.map (fun e => e.1)) (c : Chip) :
    getCell (l.foldl (fun d e => integrateCell d k e.1) c) i = getCell c i := by
  induction l generalizing c with
  | nil => rfl
  | cons e t ih =>
    obtain ⟨he, ht⟩ : i ≠ e.1 ∧ i ∉ t.map (fun e => e.1) := by simpa only [List.map_cons, List.mem_cons, not_or] using h
    exact (ih ht _).trans (getCell_integrateCell_other c k (Ne.symm he))

/-- A cell that is listed once takes its sample once. -/
theorem getCell_integrateCells_listed {l : List (Nat × MapCell)} (h : l.countP (fun e => e.1 == i) = 1) (c : Chip) :
    getCell (l.foldl (fun d e => integrateCell d k e.1) c) i = integratedCell c k i := by
  induction l generalizing c with
  | nil => simp at h
  | cons e t ih =>
    rw [List.foldl_cons]
    by_cases he : e.1 = i
    · subst he
      have ht : e.1 ∉ t.map (fun e => e.1) := by
        rw [List.countP_cons_of_pos (by simp), Nat.add_eq_right, List.countP_eq_zero] at h
        intro hm
        obtain ⟨x, hx, hxe⟩ := List.mem_map.mp hm
        exact h x hx (beq_iff_eq.mpr hxe)
      rw [getCell_integrateCells_unlisted k ht, getCell_integrateCell_same]
    · rw [List.countP_cons_of_neg (by simpa using he)] at h
      rw [ih h, integratedCell_congr (cellsOnly_integrateCell c k e.1) (getCell_integrateCell_other c k he)]

end

theorem cellsOnly_integrate (c : Chip) : CellsOnly c (integrate c) := by
  rw [integrate_eq]
  exact cellsOnly_foldl (fun d (e : Nat × MapCell) => cellsOnly_integrateCell d (period c - 2) e.1) (mappedCells c) c

/-! ### The end of a window -/

/-- A gallery's rail mean of the window that ends concerns the Conservator's block, CNS_STAT and an event (R396). -/
theorem railWindow_cases (c : Chip) (g : Nat) : ∃ x : Cns, railWindow c g = { c with cns := x }
    ∨ railWindow c g = raise (setB { c with cns := x } CNS_STAT_rail_shift true) srcCNS_RAIL_SHIFT 0 := by
  unfold railWindow
  split
  · split
    · exact ⟨c.cns, .inl rfl⟩
    · dsimp only
      split
      · split
        · exact ⟨_, .inr rfl⟩
        · exact ⟨_, .inl rfl⟩
      · exact ⟨_, .inl rfl⟩
  · exact ⟨c.cns, .inl rfl⟩

theorem lpeKept_railWindow (c : Chip) (g : Nat) : LpeKept c (railWindow c g) := by
  obtain ⟨x, h | h⟩ := railWindow_cases c g
  · exact h ▸ lpeKept_cns c x
  · exact h ▸ (lpeKept_cns c x).trans (lpeKept_raise_setB _ _ _ _)

theorem rd_railWindow_window (c : Chip) (g : Nat) : rd (railWindow c g) CNS_WINDOW = rd c CNS_WINDOW := by
  obtain ⟨x, h | h⟩ := railWindow_cases c g
  · rw [h]
    rfl
  · rw [h, rd_raise, rd_setB_other _ (f := CNS_STAT_rail_shift) _ (by decide)]
    rfl

theorem rd_railWindows_window (l : List Nat) (c : Chip) : rd (l.foldl railWindow c) CNS_WINDOW = rd c CNS_WINDOW := by
  induction l generalizing c with
  | nil => rfl
  | cons g t ih => exact (ih _).trans (rd_railWindow_window c g)

/-- CNS_WINDOW advanced and busy set but where the window is discarded (R376). -/
def windowCounted (c : Chip) (wrap : Bool) : Chip := setB (wr c CNS_WINDOW (rd c CNS_WINDOW + 1)) CNS_STAT_busy (!wrap)

theorem lpeKept_windowCounted (c : Chip) (wrap : Bool) : LpeKept c (windowCounted c wrap) :=
  (lpeKept_wr c _ _).trans (lpeKept_setB _ _ _)

theorem rd_windowCounted (c : Chip) (wrap : Bool) : rd (windowCounted c wrap) CNS_WINDOW = rd c CNS_WINDOW + 1 := by
  rw [windowCounted, rd_setB_other _ (f := CNS_STAT_busy) _ (by decide), rd_wr_same]

/-- The Conservator's block begins the next window in the present period (R376). -/
def windowBegun (c : Chip) : Chip :=
  { c with cns := { c.cns with windowEnd := some (period c), formed := false, issued := [], rails := [] } }

/-- What the beginning of a window leaves. -/
theorem windowBegun_next {c d : Chip} (h : LpeKept c d) : (windowBegun d).cns.windowEnd = some (period c)
    ∧ (windowBegun d).cns.formed = false ∧ (windowBegun d).cns.rails = [] ∧ (windowBegun d).tmr = c.tmr
    ∧ (windowBegun d).lpe.bankA = c.lpe.bankA ∧ rd (windowBegun d) CNS_WINDOW = rd d CNS_WINDOW :=
  ⟨congrArg (fun t : Tmr => some t.period) h.tmr, rfl, rfl, h.tmr, congrArg Lpe.bankA h.lpe, rfl⟩

/-- The sums of each mapped cell stand for its estimates, but where the window is discarded, and those of the next window begin (R376). -/
def windowRolled (c : Chip) : Chip :=
  let wrap := period c == 2
  (mappedCells c).foldl (fun c e => modCell c e.1 (fun x =>
    { x with ended := if wrap then Sums.zero else x.sums, movesEnded := if wrap then ⟨[]⟩ else x.moves,
             sums := Sums.zero, moves := ⟨[]⟩ })) c

theorem cellsOnly_windowRolled (c : Chip) : CellsOnly c (windowRolled c) := cellsOnly_foldl (fun _ _ => ⟨_, rfl⟩) _ c

theorem windowRolled_unmapped {c : Chip} (htopo : c.topo = none) : windowRolled c = c := by
  rw [windowRolled, mappedCells, htopo]
  rfl

/-- At its end a window's sums roll over and it is counted, the rails' means are taken, and the next window begins. -/
theorem windowEnd_ended {c : Chip} (h : windowEnds c = true) :
    windowEnd c = windowBegun (galleries.foldl railWindow (windowCounted (windowRolled c) (period c == 2))) := by
  unfold windowEnd
  rw [if_pos h]
  extract_lets wrap rolled counted railed
  have hcounted : counted = windowCounted (windowRolled c) (period c == 2) := rfl
  have hrailed : railed = galleries.foldl railWindow (windowCounted (windowRolled c) (period c == 2)) :=
    congrArg (galleries.foldl railWindow) hcounted
  rw [← hrailed]
  clear_value railed
  rfl

/-- What a window's end leaves beside the sums and the rails' means (R376). -/
theorem windowEnd_next {c : Chip} (h : windowEnds c = true) : (windowEnd c).cns.windowEnd = some (period c)
    ∧ (windowEnd c).cns.formed = false ∧ (windowEnd c).cns.rails = [] ∧ (windowEnd c).tmr = c.tmr
    ∧ (windowEnd c).lpe.bankA = c.lpe.bankA ∧ rd (windowEnd c) CNS_WINDOW = rd c CNS_WINDOW + 1 := by
  obtain ⟨l, hl⟩ := cellsOnly_windowRolled c
  have hrails := (lpeKept_windowCounted (windowRolled c) (period c == 2)).trans (lpeKept_foldl lpeKept_railWindow galleries _)
  have hcount := (rd_railWindows_window galleries _).trans (rd_windowCounted (windowRolled c) (period c == 2))
  rw [windowEnd_ended h]
  generalize galleries.foldl railWindow _ = d at hrails hcount ⊢
  rw [hl] at hrails hcount
  obtain ⟨hend, hformed, hnone, htmr, hbank, hrd⟩ := windowBegun_next hrails
  exact ⟨hend, hformed, hnone, htmr, hbank, hrd.trans hcount⟩

end Sys2Proof.Machine
end

section
/-! Commits of the Conservator and of the host, the calibration journal (R383–R388), and the statement. -/

open Sys2Proof

namespace Sys2Proof.Machine

/-! ### Commits (R383, R384) -/

/-- The source a commit acts for (R344) leaves no trace. -/
theorem withSource_waitCommit {c : Chip} {n g : Nat} {e : W} {f : Chip → Chip}
    (h : f { c with twn := { c.twn with source := n } } = waitCommit { c with twn := { c.twn with source := n } } g e) :
    withSource c n f = waitCommit c g e := by
  simp only [withSource, h]
  rfl

/-- On a single device the commit of a gallery is issued from two periods before its boundary on, for P + 2 (R383, R385). -/
theorem galleryCommit_issued {c : Chip} {g : Nat} {e : W} (hs : Single c) (he : c.cns.windowEnd = some e)
    (hformed : c.cns.formed = true) (hbank : fldB c CNS_CTL_host_bank = false) (hnew : c.cns.issued.contains g = false)
    (hfree : mapGet c.lpe.commits g = none) (hreached : pReached (period c + 2) (e - 2 + toW (4000 + 64 * g)) = true) :
    galleryCommit c g = waitCommit { c with cns := { c.cns with issued := c.cns.issued ++ [g] } } g (eSingle c) := by
  obtain ⟨hen, hpair, happlying, hst⟩ := hs
  have hlead : pReached (period c + toW (commitLead c)) (e - 2 + toW (4000 + 64 * g)) = true := by
    rwa [commitLead, hpair]
  unfold galleryCommit
  rw [he]
  dsimp only
  rw [if_pos (by simp only [hformed, hbank, hnew, hfree, hlead, holdsLoan, hen, changeWaits_single c 24 hpair hst]; rfl)]
  exact withSource_waitCommit (stateChangeAs_single _ _ _ _ hen hpair happlying hst)

section
variable {c : Chip} {v : W} (hr : reachable c CNS_COMMIT = true) (hs : Single c)
include hr hs

/-- While the Conservator owns the banks a host's commit is ignored (R384). -/
theorem cnsCommitWrite_notHost (hbank : fldB c CNS_CTL_host_bank = false) : cnsCommitWrite c v = cnsReject c := by
  have hj := fromJournal_single hs
  obtain ⟨hen, hpair, happlying, hst⟩ := hs
  exact hostChangeIf_refused c _ v _ _ _ hr hen hpair happlying hst (by simp [hj, hbank])

/-- A write without go, or of a number that is no gallery's, does nothing (R384). -/
theorem cnsCommitWrite_nothing (hbank : fldB c CNS_CTL_host_bank = true) (hno : wbit v 31 = false ∨ 35 < wbits v 0 6) :
    cnsCommitWrite c v = c := by
  obtain ⟨hen, hpair, happlying, hst⟩ := hs
  exact hostChangeIf_refused c _ v _ _ _ hr hen hpair happlying hst (by simp [hbank, hno])

/-- A write with go commits the named gallery at P + 2, with cause HOST unless it is the Conservator's own (R384, R385). -/
theorem cnsCommitWrite_taken (hbank : fldB c CNS_CTL_host_bank = true) (hgo : wbit v 31 = true) (hg : wbits v 0 6 ≤ 35) :
    cnsCommitWrite c v = waitCommit (if c.twn.source = 4 then c
      else { c with cns := { c.cns with byHost := c.cns.byHost.filter (· != wbits v 0 6) ++ [wbits v 0 6] } })
      (wbits v 0 6) (eSingle c) := by
  obtain ⟨hen, hpair, happlying, hst⟩ := hs
  exact hostChangeIf_taken c _ v _ _ hr hen hpair happlying hst (by simp [hbank, hgo, hg])

end

/-! ### The calibration journal (R388) -/

theorem writeRecord_withoutLoan {c : Chip} (bad : Bool) (h : holdsLoan c = false) : writeRecord c bad = c := by
  unfold writeRecord
  split
  · rfl
  · exact if_pos (by rw [h]; rfl)

section
variable {c : Chip} {r : CalRec} {rest : List CalRec}

/-- The device without the oldest record, whose gallery's sequence is the next (R386, R388). -/
def recordTaken (c : Chip) (r : CalRec) (rest : List CalRec) : Chip :=
  { c with cns := { c.cns with journal := rest, seqs := mapWrite (fun _ => 0) c.cns.seqs r.gallery (r.seq + 1) } }

variable (hj : c.cns.journal = r :: rest) (hloan : holdsLoan c = true)
include hj hloan

theorem writeRecord_good : writeRecord c false =
    countUp (mramWrite (mramWrite (recordTaken c r rest) (calSlot r.gallery (r.seq.toNat % 4) + 64) r.bank)
      (calSlot r.gallery (r.seq.toNat % 4)) (r.header ++ leBytes 4 (crc32c r.header))) CNS_JRNL_CNT 1 := by
  simp only [writeRecord, hj, hloan]
  rfl

theorem writeRecord_bad : writeRecord c true =
    raise (setB (countUp (mramWrite (recordTaken c r rest) (calSlot r.gallery (r.seq.toNat % 4)) (List.replicate 64 0))
      CNS_JRNL_ERR_CNT 1) CNS_STAT_jrnl_err true) srcCNS_JRNL_ERR 0 := by
  simp only [writeRecord, hj, hloan]
  rfl

end

/-! ### The commands -/

section
variable {s : State} (hs : s.held = none)
include hs

theorem exec_ditherIntegrate_live : exec .ditherIntegrate s = .next { s with chip := integrate s.chip } := by
  rw [exec_ditherIntegrate, execDitherIntegrate, run_live s _ hs]

theorem exec_lockinWindowEnd_live : exec .lockinWindowEnd s = .next { s with chip := windowEnd s.chip } := by
  rw [exec_lockinWindowEnd, execLockinWindowEnd, run_live s _ hs]

theorem exec_estimatesDone_live : exec .estimatesDone s = .next { s with chip := estimatesDone s.chip } := by
  rw [exec_estimatesDone, execEstimatesDone, run_live s _ hs]

theorem exec_cnsGalleryCommit_live (g : Fin 36) :
    exec (.cnsGalleryCommit g) s = .next { s with chip := galleryCommit s.chip g } := by
  rw [exec_cnsGalleryCommit, execCnsGalleryCommit, run_live s _ hs]

theorem exec_calibrationRecordWrite_live (bad : Bool) :
    exec (.calibrationRecordWrite bad) s = .next { s with chip := writeRecord s.chip bad } := by
  rw [exec_calibrationRecordWrite, execCalibrationRecordWrite, run_live s _ hs]

theorem exec_cnsCommit_live (v : W) : exec (.cnsCommit v) s = .next { s with chip := cnsCommitWrite s.chip v } := by
  rw [exec_cnsCommit, execCnsCommit, run_live s _ hs]

end

/-- Settles O25, by the one cell that a sample enters, what a window's end and its estimates leave, and the cases of the commits and of
a record's write. -/
theorem conservatorEstimatesAndCommits : Obligations.ConservatorEstimatesAndCommits := by
  unfold Obligations.ConservatorEstimatesAndCommits
  refine ⟨?integrate, ?windowUnmapped, ?window, ?estimatesUnmapped, ?estimates, ?issue, ?noLoan, ?record, ?write⟩
  case integrate =>
    intro s hs
    obtain ⟨l, hl⟩ := cellsOnly_integrate s.chip
    refine ⟨integrate s.chip, exec_ditherIntegrate_live hs, fun i hi => ?unlisted, fun i hi => ?listed,
      by rw [hl], by rw [hl], by rw [hl]⟩
    case unlisted => rw [integrate_eq, getCell_integrateCells_unlisted _ hi]
    case listed =>
      intro k x m
      rw [integrate_eq, getCell_integrateCells_listed _ hi]
      exact ⟨fun h => if_pos h, fun h => if_neg (ne_true_of_eq_false h)⟩
  case windowUnmapped =>
    intro s hs hends hp htopo c d
    have hd : d = galleries.foldl railWindow (windowCounted s.chip false) := rfl
    rw [exec_lockinWindowEnd_live hs, windowEnd_ended hends, windowRolled_unmapped htopo, beq_false_of_ne hp, ← hd]
    clear_value d
    rfl
  case window =>
    intro s hs hends
    exact ⟨windowEnd s.chip, exec_lockinWindowEnd_live hs, windowEnd_next hends⟩
  case estimatesUnmapped =>
    intro s e hs he hbusy hroom hhost htopo
    rw [exec_estimatesDone_live hs, estimatesDone_unmapped he hbusy hroom hhost htopo]
  case estimates =>
    intro s e hs he hbusy hroom
    obtain ⟨d, hd, h⟩ := estimatesDone_formed he hbusy hroom
    refine ⟨estimatesDone s.chip, exec_estimatesDone_live hs, ?_⟩
    rw [h]
    refine ⟨rfl, fldB_setB_same _ CNS_STAT_busy _ (by decide) rfl, ?_, ?_⟩
    · rw [setB_tmr]
      exact hd.tmr
    · rw [setB_cns]
      exact (congrArg Cns.windowEnd hd.cns).trans he
  case issue =>
    intro s g e hs hone he hformed hbank hnew hfree hreached c
    rw [exec_cnsGalleryCommit_live hs, galleryCommit_issued hone he hformed hbank hnew hfree hreached]
  case noLoan =>
    intro s bad hs hloan
    rw [exec_calibrationRecordWrite_live hs, writeRecord_withoutLoan bad hloan]
  case record =>
    intro s r rest hs hj hloan c a good failed
    rw [exec_calibrationRecordWrite_live hs, exec_calibrationRecordWrite_live hs, writeRecord_good hj hloan, writeRecord_bad hj hloan]
    exact ⟨rfl, rfl⟩
  case write =>
    rintro s v ⟨hs, hr, hone⟩ g c
    rw [exec_cnsCommit_live hs]
    refine ⟨fun hbank hgo hg => ?_, fun hbank hno => ?_, fun hbank => ?_⟩
    · rw [cnsCommitWrite_taken hr hone hbank hgo hg]
    · rw [cnsCommitWrite_nothing hr hone hbank hno]
    · rw [cnsCommitWrite_notHost hr hone hbank]

end Sys2Proof.Machine
end

section
/-! Characterization requests (R391, R392, R395): what an examination, the end of a point, a release and an expiry leave. -/

open Sys2Proof

namespace Sys2Proof.Machine

section
variable {c : Chip} {i : Nat} {r : CharReq} (hreq : getReq c i = some r)
include hreq

/-! ### Examinations (R391) -/

/-- The present period is one of request `r`'s examination boundaries, and it waits: QUEUED or DEFERRED. -/
structure Examined (c : Chip) (r : CharReq) : Prop where
  waits : r.status = 1 ∨ r.status = 2
  listed : 1 ≤ (period c - r.listed).toNat
  boundary : ((period c - r.listed).toNat - 1) % 1024 = 0

/-- The cell of a granted request knows when its sweep begins and ends. -/
def grantGiven (c : Chip) (r : CharReq) : Chip :=
  modCell c r.cell (fun x =>
    { x with grant := some (period c + 2), charEnd := some (period c + 2 + toW (r.total * r.dwell)) })

/-- A granted request, which runs from two periods on. -/
def granted (c : Chip) (r : CharReq) : CharReq :=
  { r with status := 3, from_ := period c + 2, point := 0, samples := [], points := [] }

/-- At an examination boundary the conditions of R391 decide, the number of sweeps last. -/
theorem charExamine_eq (h : Examined c r) : charExamine c i =
    if !charFree c r.cell then
      if r.noDefer then endReq c i r 5 4 else putReq c i (some { r with status := 2 })
    else if !charRoom c r.cell then putReq c i (some { r with status := 1 })
    else putReq (grantGiven c r) i (some (granted c r)) := by
  obtain ⟨hwaits, hlisted, hboundary⟩ := h
  unfold charExamine
  rw [hreq]
  dsimp only
  rw [if_pos (by simp only [Bool.and_eq_true, Bool.or_eq_true, decide_eq_true_eq]; exact ⟨⟨hwaits, hlisted⟩, hboundary⟩)]
  rfl

/-! ### Points (R392) -/

/-- The request after a point: its mean is kept, and the next point begins. -/
def pointEnded (r : CharReq) : CharReq :=
  { r with points := r.points ++ [pointMean r.samples], samples := [], point := r.point + 1 }

/-- A point whose dwell has ended ends; the last one ends the sweep. -/
theorem charPointEnd_ended (hruns : r.status = 3)
    (hdwell : (((r.point + 1) * r.dwell : Nat) : Int) ≤ pdiff (period c) (r.from_ + 4) + 1)
    (hcomputed : c.lpe.computedP = period c) (hroom : changeWaits c (24 * 16) = false) :
    charPointEnd c i = if r.total ≤ r.point + 1 then charFinish c i (pointEnded r) else putReq c i (some (pointEnded r)) := by
  unfold charPointEnd
  rw [hreq]
  dsimp only
  rw [if_pos (by simpa [hroom, hruns, hcomputed] using hdwell)]
  rfl

/-! ### Releases and expiry (R395) -/

theorem charRelease_ended (h : 4 ≤ r.status) : charRelease c i = putReq c i none := by
  rw [charRelease, hreq]
  exact if_pos h

theorem charRelease_running (h : r.status = 3) : charRelease c i = c := by
  rw [charRelease, hreq]
  exact (if_neg (by omega)).trans (if_pos h)

theorem charRelease_waiting (h : r.status < 3) : charRelease c i = endReq c i r 5 7 := by
  rw [charRelease, hreq]
  exact (if_neg (by omega)).trans (if_neg (by omega))

theorem charExpiry_past {e : W} (he : r.ended = some e) (hpast : 4000000 ≤ (period c - e).toNat) :
    charExpiry c i = putReq c i none := by
  simp only [charExpiry, hreq, he]
  exact if_pos hpast

end

/-! ### The commands -/

section
variable {s : State} {i : Fin 16} (hs : s.held = none)
include hs

theorem exec_charExamine_live : exec (.charExamine i) s = .next { s with chip := charExamine s.chip i } := by
  rw [exec_charExamine, execCharExamine, run_live s _ hs]

theorem exec_charPointEnd_live : exec (.charPointEnd i) s = .next { s with chip := charPointEnd s.chip i } := by
  rw [exec_charPointEnd, execCharPointEnd, run_live s _ hs]

theorem exec_charEntryExpiry_live : exec (.charEntryExpiry i) s = .next { s with chip := charExpiry s.chip i } := by
  rw [exec_charEntryExpiry, execCharEntryExpiry, run_live s _ hs]

end

/-- CHAR_RELEASE writes the release bit, so on a single device it releases at once (R57, R395). -/
theorem exec_charRelease_single {s : State} {i : Fin 16} (v : W) (hm : MayChange s (CNS_CHAR_RES_B i)) :
    exec (.charRelease i v) s = .next { s with chip := charRelease s.chip i } := by
  obtain ⟨hs, hr, hen, hpair, happlying, hst⟩ := hm
  have hbit : wbit (v ||| 0x80000000) 31 = true := wbit_or_forced v (by decide)
  rw [exec_charRelease, execCharRelease, run_live s _ hs, charReleaseWrite, hostChangeNow_single _ _ _ _ hr hen hpair happlying hst,
    if_pos hbit]

/-- Settles O26, by the conditions of an examination in their order, and by the status of the request that a point's end, a release or an
expiry meets. -/
theorem characterizationRequestsAct : Obligations.CharacterizationRequestsAct := by
  unfold Obligations.CharacterizationRequestsAct
  refine ⟨?examine, ?point, ?release⟩
  case examine =>
    intro s i r hs hreq hwaits age hlisted hboundary from_ d g
    rw [exec_charExamine_live hs, charExamine_eq hreq ⟨hwaits, hlisted, hboundary⟩]
    refine ⟨fun hfree hroom => ?_, fun hfree hroom => ?_, fun hfree hno => ?_, fun hfree hno => ?_⟩
    · rw [if_neg (by rw [hfree]; decide), if_neg (by rw [hroom]; decide)]
      rfl
    · rw [if_neg (by rw [hfree]; decide), if_pos (by rw [hroom]; decide)]
    · rw [if_pos (by rw [hfree]; decide), if_pos hno]
    · rw [if_pos (by rw [hfree]; decide), if_neg (ne_true_of_eq_false hno)]
  case point =>
    intro s i r hs hreq hruns hdwell hcomputed hroom n
    rw [exec_charPointEnd_live hs, charPointEnd_ended hreq hruns hdwell hcomputed hroom]
    rfl
  case release =>
    intro s i r v hs hreq
    refine ⟨fun hm h => ?_, fun hm h => ?_, fun hm h => ?_, fun e he hpast => ?_⟩
    · rw [exec_charRelease_single v hm, charRelease_ended hreq h]
    · rw [exec_charRelease_single v hm, charRelease_waiting hreq h]
    · rw [exec_charRelease_single v hm, charRelease_running hreq h]
    · rw [exec_charEntryExpiry_live hs, charExpiry_past hreq he hpast]

end Sys2Proof.Machine
end

section
/-! Service ports and the parser (R405–R416, R427): what a port's control, its lock, a received frame, a pass and a read of its octets
leave. -/

open Sys2Proof

namespace Sys2Proof.Machine

/-- A command that takes the device to `d` by `f`, where no reset holds it. -/
theorem exec_to {i : Instr} {s : State} {f : Chip → Chip} {d : Chip} (hi : exec i s = run s f) (hs : s.held = none)
    (hf : f s.chip = d) : exec i s = .next { s with chip := d } :=
  hi.trans (run_to hs hf)

/-! ### Port control (R407) -/

section
variable {c : Chip} {n : Nat} {v : W}

section
variable (hr : reachable c (SVP_P_CTL n) = true) (hs : Single c)
include hr hs

theorem portCtlWrite_listed (hmode : wbits v 29 3 < 5) : portCtlWrite c n v = defer c (eSingle c) (SVP_P_CTL n) v := by
  obtain ⟨hen, hpair, happlying, hst⟩ := hs
  exact hostChangeIf_taken c _ v _ _ hr hen hpair happlying hst (if_neg (Nat.not_le.mpr hmode))

theorem portCtlWrite_unlisted (hmode : 5 ≤ wbits v 29 3) :
    portCtlWrite c n v = raise (setB c (SVP_P_STAT_mode_reject n) true) srcSVP_MODE_REJECT 0 := by
  obtain ⟨hen, hpair, happlying, hst⟩ := hs
  exact hostChangeIf_refused c _ v _ _ _ hr hen hpair happlying hst (if_pos hmode)

end

variable {receiving : Bool}

/-- With one write due the restart is that write's effect, and it waits no longer. -/
theorem portRestart_oneDue {x : Deferred} (h : c.deferred.filter (fun d => d.addr == SVP_P_CTL n && due c d.e) = [x]) :
    portRestart c n receiving = portCtlEffect { c with deferred := c.deferred.erase x } n x.value receiving := by
  rw [portRestart, h]
  rfl

/-- The port restarts when mode, FEC, negotiation or training changes. -/
theorem portCtlEffect_changed (h : wbits (rd c (SVP_P_CTL n)) 26 6 ≠ wbits v 26 6) :
    portCtlEffect c n v receiving = wr (portClear (wr c (SVP_P_CTL n) (portCtlStored v)) n receiving)
      (TMR_P_COMP_rx_comp n).addr (Config.stampComp (wbits v 29 3)) :=
  if_pos (bne_iff_ne.mpr h)

theorem portCtlEffect_same (h : wbits (rd c (SVP_P_CTL n)) 26 6 = wbits v 26 6) :
    portCtlEffect c n v receiving = wr c (SVP_P_CTL n) (portCtlStored v) :=
  if_neg (by simp [h])

/-! ### Lock, link and negotiation (R405, R406) -/

/-- The first lock starts the count of R406; a later one does not start it again. -/
theorem portBlockLock_inMode (h : fld c (SVP_P_CTL_mode n) ≠ 0) :
    portBlockLock c n = modPort (setB (setB c (SVP_P_STAT_pcs_lock n) true) (SVP_P_STAT_fec_lock n) true) n
      (fun p => { p with lockAt := some (p.lockAt.getD c.tmr.period) }) := by
  rw [portBlockLock, if_neg h]
  dsimp only
  rw [setB_tmr, setB_tmr]

theorem anAllows_of_done (h : fldB c (SVP_P_CTL_an_en n) = true → fldB c (SVP_P_STAT_an_done n) = true) : anAllows c n = true := by
  rw [anAllows]
  cases hen : fldB c (SVP_P_CTL_an_en n) with
  | false => rfl
  | true => exact h hen

theorem portLinkUp_held {k : W} (hlock : (port c n).lockAt = some k) (hheld : 4000 ≤ (c.tmr.period - k).toNat)
    (hdown : linkUp c n = false) (hallows : anAllows c n = true) :
    portLinkUp c n = raise (setB c (SVP_P_STAT_link_up n) true) (srcSVP_LINK_UP n) 0 := by
  rw [portLinkUp, hlock]
  exact if_pos (by rw [decide_eq_true hheld, hdown, hallows]; rfl)

/-- The port's status after a condition of R406 is lost. -/
def conditionLost (c : Chip) (n cause : Nat) : Chip :=
  if cause < 2 then setB c (SVP_P_STAT_pcs_lock n) false
  else if cause = 2 then setB c (SVP_P_STAT_fec_lock n) false else setB c (SVP_P_STAT_hi_ber n) true

theorem portLinkDown_noLanes (h : port100 c n = false) : portLinkDown c n 1 receiving = c :=
  if_pos (by simp [h])

theorem portLinkDown_lost {cause : Nat} (h : ¬(cause = 1 ∧ port100 c n = false)) :
    portLinkDown c n cause receiving = portLoseLink (conditionLost c n cause) n receiving :=
  if_neg (by simpa using h)

theorem anFail_noLink (hen : fldB c (SVP_P_CTL_an_en n) = true) (hdown : linkUp c n = false) :
    anFail c n = raise (setB (setB c (SVP_P_STAT_an_done n) false) (SVP_P_STAT_an_fail n) true) (srcSVP_AN_FAIL n) 0 :=
  if_pos (by simp [hen, hdown])

theorem anDone_enabled (hen : fldB c (SVP_P_CTL_an_en n) = true) : anDone c n = setB c (SVP_P_STAT_an_done n) true :=
  if_pos hen

end

/-! ### Reception (R408, R409) -/

/-- The device at the end of a frame, before the frame is judged: time has gone on and the FEC counts are in. -/
def frameEnded (c : Chip) (n tick fecCorr fecUncorr : Nat) : Chip :=
  let d := countUp (countUp (advanceTo c tick) (SVP_P_FEC_CORR n) fecCorr) (SVP_P_FEC_UNCORR n) fecUncorr
  if fecUncorr = 0 then d else raiseLimited d (srcSVP_FEC_UNCORR n) 0

/-- A good frame of `len` octets is counted (R427). -/
def frameCounted (c : Chip) (n len : Nat) : Chip :=
  modPort (countUp c (SVP_P_RX_FRAMES n) 1) n (fun p => { p with octets := p.octets + BitVec.ofNat 64 len })

/-- Octets of the frames that wait in a port's input buffer, each with its FCS. -/
def bufferUsed (c : Chip) (n : Nat) : Nat := ((port c n).rx.map (fun f => f.data.length + 4)).sum

/-- A good frame goes into the input buffer with its ingress stamp, where it finds room (R409). -/
def frameQueued (c : Chip) (n : Nat) (data : List Byte) : Chip :=
  if 32768 < bufferUsed c n + (data.length + 4) then raiseLimited (pktDrop c 0) (srcPKT_OVF n) 0
  else modPort c n (fun p => { p with rx := p.rx ++ [⟨data, ingressStamp c n, 0, none⟩] })

section
variable {c : Chip} {n tick fc fu : Nat} {data : List Byte} {fcsOk : Bool}

/-- The frame's judgement, in the order of R408. -/
theorem frameReceive_eq : frameReceive c n tick data fcsOk fc fu =
    if !linkUp (frameEnded c n tick fc fu) n then frameEnded c n tick fc fu
    else if !fcsOk then countUp (frameEnded c n tick fc fu) (SVP_P_RX_FCS n) 1
    else if data.length + 4 < 64 || 9216 < data.length + 4 then countUp (frameEnded c n tick fc fu) (SVP_P_RX_LEN n) 1
    else if passHalf data 12 = 0x8808 then countUp (frameEnded c n tick fc fu) (SVP_P_RX_MACCTL n) 1
    else frameQueued (frameCounted (frameEnded c n tick fc fu) n (data.length + 4)) n data := rfl

theorem frameReceive_noLink (hup : linkUp (frameEnded c n tick fc fu) n = false) :
    frameReceive c n tick data fcsOk fc fu = frameEnded c n tick fc fu := by
  rw [frameReceive_eq, if_pos (by rw [hup]; rfl)]

variable (hup : linkUp (frameEnded c n tick fc fu) n = true)
include hup

theorem frameReceive_badFcs : frameReceive c n tick data false fc fu = countUp (frameEnded c n tick fc fu) (SVP_P_RX_FCS n) 1 := by
  rw [frameReceive_eq, if_neg (by rw [hup]; decide), if_pos (by decide)]

theorem frameReceive_badLength (hlen : (decide (data.length + 4 < 64) || decide (9216 < data.length + 4)) = true) :
    frameReceive c n tick data true fc fu = countUp (frameEnded c n tick fc fu) (SVP_P_RX_LEN n) 1 := by
  rw [frameReceive_eq, if_neg (by rw [hup]; decide), if_neg (by decide), if_pos hlen]

variable (hlen : (decide (data.length + 4 < 64) || decide (9216 < data.length + 4)) = false)
include hlen

theorem frameReceive_macControl (hctl : passHalf data 12 = 0x8808) :
    frameReceive c n tick data true fc fu = countUp (frameEnded c n tick fc fu) (SVP_P_RX_MACCTL n) 1 := by
  rw [frameReceive_eq, if_neg (by rw [hup]; decide), if_neg (by decide), if_neg (by rw [hlen]; decide), if_pos hctl]

theorem frameReceive_good (hctl : passHalf data 12 ≠ 0x8808) :
    frameReceive c n tick data true fc fu =
      frameQueued (frameCounted (frameEnded c n tick fc fu) n (data.length + 4)) n data := by
  rw [frameReceive_eq, if_neg (by rw [hup]; decide), if_neg (by decide), if_neg (by rw [hlen]; decide), if_neg hctl]

end

section
variable {c : Chip} {n : Nat} {data : List Byte}

theorem frameQueued_room (h : bufferUsed c n + (data.length + 4) ≤ 32768) :
    frameQueued c n data = modPort c n (fun p => { p with rx := p.rx ++ [⟨data, ingressStamp c n, 0, none⟩] }) :=
  if_neg (Nat.not_lt.mpr h)

theorem frameQueued_full (h : 32768 < bufferUsed c n + (data.length + 4)) :
    frameQueued c n data = raiseLimited (pktDrop c 0) (srcPKT_OVF n) 0 :=
  if_pos h

end

/-! ### The first pass (R411–R416) -/

section
variable {c d : Chip} {n k gen : Nat} {f : RxFrame} {rest : List RxFrame} (hrx : (port c n).rx = f :: rest)
  (hd : modPort c n (fun p => { p with rx := rest }) = d) (hgen : activeGen d = gen) (hk : selectTpl d gen 1 n f.data = k)
include hrx hd hgen hk

theorem firstPass_trunc (h : lenChecks d gen k f.data = .trunc) : firstPass c n = pktDrop d 1 := by
  simp only [firstPass, hrx, hd, hgen, hk, h]

theorem firstPass_lenmis (h : lenChecks d gen k f.data = .lenmis) : firstPass c n = pktDrop d 2 := by
  simp only [firstPass, hrx, hd, hgen, hk, h]

variable (h : lenChecks d gen k f.data = .pass)
include h

theorem firstPass_finished (hlast : tplRecirc d gen k = false) : firstPass c n =
    finishFrame d { f with gen := gen } ⟨n, false, k, tplPay d gen k, 0⟩ (windows d gen k f.data) (windows d gen k f.data) := by
  simp only [firstPass, hrx, hd, hgen, hk, h, hlast, Bool.false_eq_true, if_false]

variable (hagain : tplRecirc d gen k = true)
include hagain

/-- A strip beyond the frame's end (R413). -/
theorem firstPass_stripped (hlen : f.data.length < tplStrip d gen k) : firstPass c n = pktDrop d 1 := by
  simp only [firstPass, hrx, hd, hgen, hk, h, hagain, if_true, hlen]

theorem firstPass_recirculated (hlen : ¬f.data.length < tplStrip d gen k) : firstPass c n =
    modPort d n (fun p => { p with second := p.second ++
      [{ f with gen := gen, first := some ⟨tplStrip d gen k, windows d gen k f.data⟩ }] }) := by
  simp only [firstPass, hrx, hd, hgen, hk, h, hagain, if_true, hlen, if_false]

end

/-! ### The second pass (R413–R416) -/

section
variable {c d : Chip} {n k : Nat} {f : RxFrame} {rest : List RxFrame} {fp : FirstPass} {data : List Byte}
  (hsecond : (port c n).second = f :: rest) (hd : modPort c n (fun p => { p with second := rest }) = d)
  (hfp : f.first.getD ⟨0, []⟩ = fp) (hdata : f.data.drop fp.strip = data) (hk : selectTpl d f.gen 2 n data = k)
include hsecond hd hfp hdata hk

/-- A third encapsulation level is decided before the length checks (R413). -/
theorem secondPass_depth (hagain : tplRecirc d f.gen k = true) :
    secondPass c n = depthFrame d f ⟨n, true, k, fp.strip + tplPay d f.gen k, fp.strip⟩ := by
  simp only [secondPass, hsecond, hd, hfp, hdata, hk, hagain, if_true]

variable (hlast : tplRecirc d f.gen k = false)
include hlast

theorem secondPass_trunc (h : lenChecks d f.gen k data = .trunc) : secondPass c n = pktDrop d 1 := by
  simp only [secondPass, hsecond, hd, hfp, hdata, hk, hlast, Bool.false_eq_true, if_false, h]

theorem secondPass_lenmis (h : lenChecks d f.gen k data = .lenmis) : secondPass c n = pktDrop d 2 := by
  simp only [secondPass, hsecond, hd, hfp, hdata, hk, hlast, Bool.false_eq_true, if_false, h]

theorem secondPass_finished (h : lenChecks d f.gen k data = .pass) : secondPass c n =
    finishFrame d f ⟨n, true, k, fp.strip + tplPay d f.gen k, fp.strip⟩ (windows d f.gen k data) fp.outer := by
  simp only [secondPass, hsecond, hd, hfp, hdata, hk, hlast, Bool.false_eq_true, if_false, h]

end

/-! ### The octet count (R427) -/

theorem octetRead_reach {c : Chip} {n : Nat} (hr : reachable c (SVP_P_RX_OCT_LO n) = true) : octetRead c n =
    answer (wr (modPort c n (fun p => { p with octets := 0 })) (SVP_P_RX_OCT_HI n) (toW ((port c n).octets.toNat / 2 ^ 32)))
      (toW (port c n).octets.toNat) :=
  hostRead_reach c _ _ hr

/-- Settles O22, by what each command leaves in each of its cases: a write of a port's control, its restart, lock and link, the judgement
of a received frame, the outcomes of the two passes, and a read of the octets. -/
theorem portsAndParserAct : Obligations.PortsAndParserAct := by
  unfold Obligations.PortsAndParserAct
  refine ⟨?write, ?restart, ?lock, ?linkDown, ?received, ?judged, ?first, ?second, ?octets⟩
  case write =>
    rintro s n v ⟨hs, hr, hone⟩
    exact ⟨fun hmode => exec_to (exec_portCtlWrite s) hs (portCtlWrite_listed hr hone hmode), fun hmode => exec_to (exec_portCtlWrite s) hs (portCtlWrite_unlisted hr hone hmode)⟩
  case restart =>
    intro s n rcv x hs hdue c d lost clear e t
    refine exec_to (exec_portRestart s) hs ((portRestart_oneDue hdue).trans ?_)
    by_cases hchange : wbits (rd c (SVP_P_CTL n)) 26 6 = wbits x.value 26 6
    · exact (portCtlEffect_same hchange).trans (if_neg (not_not.mpr hchange)).symm
    · exact (portCtlEffect_changed hchange).trans (if_pos hchange).symm
  case lock =>
    intro s n hs c locked
    exact ⟨fun hmode => exec_to (exec_portBlockLock s) hs (portBlockLock_inMode hmode),
      fun k hlock hheld hdown hdone => exec_to (exec_portLinkUp s) hs (portLinkUp_held hlock hheld hdown (anAllows_of_done hdone)),
      fun hen hdown => exec_to (exec_anFail s) hs (anFail_noLink hen hdown),
      fun hen => exec_to (exec_autonegComplete s) hs (anDone_enabled hen)⟩
  case linkDown =>
    intro s n cause rcv hs a c d e t
    refine exec_to (exec_portLinkDown s) hs ?_
    by_cases hnone : cause.val = 1 ∧ port100 s.chip n = false
    · rw [if_pos hnone, hnone.1]
      exact portLinkDown_noLanes hnone.2
    · rw [if_neg hnone]
      exact portLinkDown_lost hnone
  case received =>
    intro s n tick fc fu data hs len a b₀ b d hup hmin hmax hctl hroom
    have hlen : (decide (len < 64) || decide (9216 < len)) = false := by simp [hmin, hmax]
    exact exec_to (exec_frameReceive s) hs ((frameReceive_good hup hlen hctl).trans (frameQueued_room hroom))
  case judged =>
    intro s n tick fc fu data hs len a b c d long
    exact ⟨fun hdown ok => exec_to (exec_frameReceive s) hs (frameReceive_noLink hdown),
      fun hup => exec_to (exec_frameReceive s) hs (frameReceive_badFcs hup),
      fun hup hlong => exec_to (exec_frameReceive s) hs (frameReceive_badLength hup hlong),
      fun hup hlong hctl => exec_to (exec_frameReceive s) hs (frameReceive_macControl hup hlong hctl),
      fun hup hlong hctl hfull => exec_to (exec_frameReceive s) hs ((frameReceive_good hup hlong hctl).trans (frameQueued_full hfull))⟩
  case first =>
    intro s n f₀ rest hs hrx c gen f k w more short again t
    refine ⟨fun h => exec_to (exec_firstPass s) hs (firstPass_trunc hrx rfl rfl rfl h), fun h => exec_to (exec_firstPass s) hs (firstPass_lenmis hrx rfl rfl rfl h), fun h => ?_⟩
    refine exec_to (exec_firstPass s) hs ?_
    cases hrecirc : tplRecirc c gen k with
    | false => exact (firstPass_finished hrx rfl rfl rfl h hrecirc).trans (if_neg (by rw [hrecirc]; decide)).symm
    | true =>
      have ht : t = again := if_pos hrecirc
      by_cases hlen : f.data.length < tplStrip c gen k
      · exact (firstPass_stripped hrx rfl rfl rfl h hrecirc hlen).trans (ht.trans (if_pos (decide_eq_true hlen))).symm
      · exact (firstPass_recirculated hrx rfl rfl rfl h hrecirc hlen).trans (ht.trans (if_neg (by simpa [short] using hlen))).symm
  case second =>
    intro s n f rest hs hsecond c fp d k found
    exact ⟨fun hagain => exec_to (exec_secondPass s) hs (secondPass_depth hsecond rfl rfl rfl rfl hagain),
      fun hlast h => exec_to (exec_secondPass s) hs (secondPass_finished hsecond rfl rfl rfl rfl hlast h),
      fun hlast h => exec_to (exec_secondPass s) hs (secondPass_trunc hsecond rfl rfl rfl rfl hlast h),
      fun hlast h => exec_to (exec_secondPass s) hs (secondPass_lenmis hsecond rfl rfl rfl rfl hlast h)⟩
  case octets =>
    rintro s n ⟨hs, hr⟩ o c
    exact exec_to (exec_octetRead s) hs (octetRead_reach hr)

end Sys2Proof.Machine
end

section
/-! Host rings, rule-set generations, policers and queue shares (R422–R425, R430, R433): what each command leaves. -/

open Sys2Proof

namespace Sys2Proof.Machine

/-! ### Host rings (R424) -/

/-- The slot PROD names in the ring of a queue. -/
def prodSlot (c : Chip) (q : Nat) : Nat := wbits (rd c (PKT_Q_PROD q)) 0 16

/-- A queue's oldest entry `e` moves into the slot PROD names, and PROD goes on to the next. -/
def slotWritten (c : Chip) (q : Nat) (e : QEntry) (rest : List QEntry) : Chip :=
  let d := setQueue c q rest
  wr (memWrite d 10 (rn d (PKT_Q_BASE q) * 4096 + prodSlot c q * slotSize d q) (e.record ++ e.data)) (PKT_Q_PROD q)
    (toW ((prodSlot c q + 1) % ringSlots c q))

/-- The host is told of a queue's frames once per write of CONS. -/
def ringTold (c : Chip) (q : Nat) : Chip :=
  if nth false c.svp.told q then c
  else msixSend { c with svp := { c.svp with told := setNth c.svp.told q true } } (wbits (rd c (PKT_Q_CTL q)) 16 8)

section
variable {c : Chip} {q : Nat}

theorem ringSlotWrite_free {e : QEntry} {rest : List QEntry} (hq : queue c q = e :: rest) (howner : queueOwner c q = 3)
    (hring : c.svp.ringOff.contains q = false)
    (hfree : (prodSlot c q + 1) % ringSlots c q ≠ wbits (rd c (PKT_Q_CONS q)) 0 16) :
    ringSlotWrite c q = ringTold (slotWritten c q e rest) q := by
  rw [ringSlotWrite, hq]
  exact if_neg (by rw [howner, hring]; exact mt eq_of_beq hfree)

theorem consWrite_reach {v : W} (hr : reachable c (PKT_Q_CONS q) = true) : consWrite c q v =
    wr { c with svp := { c.svp with told := setNth c.svp.told q false } } (PKT_Q_CONS q) (toW (wbits v 0 16)) :=
  hostWrite_reach c _ _ hr

end

/-! ### Requests of a swap and of a copy (R425) -/

theorem wbit_and (a b : W) (i : Nat) : wbit (a &&& b) i = (wbit a i && wbit b i) := by
  simp [wbit_eq]

/-- The request bits of PKT_COPY: the copy's is set and the swap's is not. -/
theorem copyRequest_bits (v : W) :
    wbit ((v ||| 0x40000000) &&& 0x7FFFFFFF) 31 = false ∧ wbit ((v ||| 0x40000000) &&& 0x7FFFFFFF) 30 = true := by
  have hcopy : wbit (v ||| 0x40000000) 30 = true := wbit_or_forced v (by decide)
  rw [wbit_and, wbit_and, hcopy]
  exact ⟨(congrArg _ (by decide)).trans (Bool.and_false _), by decide⟩

section
variable {c : Chip} {v : W} (hr : reachable c PKT_GEN = true) (hs : Single c)
include hr hs

theorem pktGenWrite_busy (hreq : wbit v 31 = true ∨ wbit v 30 = true) (hbusy : fldB c PKT_GEN_busy = true) :
    pktGenWrite c v = pktReject c := by
  have hj := fromJournal_single hs
  obtain ⟨hen, hpair, happlying, hst⟩ := hs
  refine hostChangeIf_refused c _ v _ _ _ hr hen hpair happlying hst ((if_neg ?_).trans (if_pos (by rw [hbusy, hj]; rfl)))
  rcases hreq with h | h <;> simp [h]

variable (hfree : fldB c PKT_GEN_busy = false)
include hfree

theorem pktGenWrite_swap (hswap : wbit v 31 = true) : pktGenWrite c v =
    { setB c PKT_GEN_busy true with svp := { c.svp with swapAt := some (eSingle c) } } := by
  obtain ⟨hen, hpair, happlying, hst⟩ := hs
  rw [pktGenWrite, hostChangeIf_taken c _ v _ _ hr hen hpair happlying hst (by simp [hswap, hfree]), if_pos hswap, setB_svp]
  rfl

theorem pktGenWrite_copy (hnoSwap : wbit v 31 = false) (hcopy : wbit v 30 = true) : pktGenWrite c v =
    { setB c PKT_GEN_busy true with svp := { c.svp with copyAt := some (eSingle c) } } := by
  obtain ⟨hen, hpair, happlying, hst⟩ := hs
  rw [pktGenWrite, hostChangeIf_taken c _ v _ _ hr hen hpair happlying hst (by simp [hcopy, hfree]),
    if_neg (ne_true_of_eq_false hnoSwap), setB_svp]
  rfl

end

/-! ### The swap, the retirement and the copy (R425) -/

section
variable {c : Chip} {e : W}

theorem ruleSetSwap_due (hat : c.svp.swapAt = some e) (hdue : due c e = true) : ruleSetSwap c =
    setFld { c with svp := { c.svp with swapAt := none, retiring := true } } PKT_GEN_active_gen (1 - activeGen c) := by
  rw [ruleSetSwap, hat]
  exact if_pos hdue

theorem bankRetire_empty (hretiring : c.svp.retiring = true)
    (hempty : c.svp.ports.all (fun p => p.second.all (fun f => f.gen != 1 - activeGen c)) = true) : bankRetire c =
    raise (setB { c with svp := { c.svp with retiring := false } } PKT_GEN_busy false) srcPKT_SWAP_DONE 0 :=
  if_pos (by rw [hretiring, hempty]; rfl)

/-- The active bank is copied into the other. -/
def bankCopied (c : Chip) : Chip :=
  if activeGen c = 0 then { c with svp := { c.svp with bank1 := c.svp.bank0 } }
  else { c with svp := { c.svp with bank0 := c.svp.bank1 } }

theorem pktCopyDone_due (hat : c.svp.copyAt = some e) (hdue : due c e = true) :
    pktCopyDone c = bankCopied (setB { c with svp := { c.svp with copyAt := none } } PKT_GEN_busy false) := by
  rw [pktCopyDone, hat]
  exact if_pos hdue

end

/-! ### The shadow bank (R425, R430, R433) -/

section
variable {c : Chip} {off : Nat} {v : W} (hr : reachable c (PKT_SHADOW + off) = true) (hs : Single c)
include hr hs

theorem shadowWrite_free (hfree : fldB c PKT_GEN_busy = false) : shadowWrite c off v = shadowEffect c off v := by
  obtain ⟨hen, hpair, happlying, hst⟩ := hs
  rw [shadowWrite, hostChangeIf_taken c _ v _ _ hr hen hpair happlying hst (by simp [hfree]), hpair]
  rfl

theorem shadowWrite_busy (hbusy : fldB c PKT_GEN_busy = true) : shadowWrite c off v = pktReject c := by
  have hj := fromJournal_single hs
  obtain ⟨hen, hpair, happlying, hst⟩ := hs
  exact hostChangeIf_refused c _ v _ _ _ hr hen hpair happlying hst (if_pos (by rw [hbusy, hj]; rfl))

end

/-! ### Policers and shares (R422, R423) -/

theorem policerWrite_single {c : Chip} {p : Nat} {depth : Bool} {v : W}
    (hr : reachable c (if depth then PKT_POL_DEPTH p else PKT_POL_RATE p) = true) (hs : Single c) :
    policerWrite c p depth v = defer c (eSingle c) (if depth then PKT_POL_DEPTH p else PKT_POL_RATE p) v := by
  obtain ⟨hen, hpair, happlying, hst⟩ := hs
  exact hostChange_single c _ v _ hr hen hpair happlying hst

section
variable {c : Chip} {q : Nat} {v : W} (hr : reachable c (PKT_Q_CTL q) = true) (hs : Single c)
include hr hs

theorem queueShareWrite_fits (hsum : sharesWith c q v ≤ 1024) (hown : wbits v 30 2 = 0 ∨ 16 ≤ wbits v 0 11) :
    queueShareWrite c q v = defer c (eSingle c) (PKT_Q_CTL q) (v &&& 0xE0FF07FF) := by
  obtain ⟨hen, hpair, happlying, hst⟩ := hs
  refine hostChangeIf_taken c _ v _ _ hr hen hpair happlying hst (if_neg ?_)
  rcases hown with h | h <;> simp [h, hsum]

theorem queueShareWrite_unfit (h : 1024 < sharesWith c q v ∨ (wbits v 30 2 ≠ 0 ∧ wbits v 0 11 < 16)) :
    queueShareWrite c q v = pktReject c := by
  have hj := fromJournal_single hs
  obtain ⟨hen, hpair, happlying, hst⟩ := hs
  exact hostChangeIf_refused c _ v _ _ _ hr hen hpair happlying hst (if_pos (by simpa [hj] using h))

end

/-- Settles O23, by what each command leaves where it is taken and where it is refused: a ring's slot, the requests of a swap and of a
copy, the three ends of R425, a word of the shadow bank, and the words that wait for P + 2. -/
theorem ingressQueuesRulesAndPolicersAct : Obligations.IngressQueuesRulesAndPolicersAct := by
  unfold Obligations.IngressQueuesRulesAndPolicersAct
  refine ⟨?slot, ?cons, ?request, ?busy, ?ends, ?shadow, ?shadowBusy, ?control⟩
  case slot =>
    intro s q f rest hs hq howner hring prod next hfree a b c d t
    exact exec_to (exec_ringSlotWrite s) hs (ringSlotWrite_free hq howner hring hfree)
  case cons =>
    rintro s q v ⟨hs, hr⟩ c
    exact exec_to (exec_consWrite s) hs (consWrite_reach hr)
  case request =>
    rintro s v ⟨hs, hr, hone⟩ hfree c
    obtain ⟨hnoSwap, hcopy⟩ := copyRequest_bits v
    exact ⟨exec_to (exec_pktSwap s) hs (pktGenWrite_swap hr hone hfree (wbit_or_forced v (by decide))),
      exec_to (exec_pktCopy s) hs (pktGenWrite_copy hr hone hfree hnoSwap hcopy)⟩
  case busy =>
    rintro s v ⟨hs, hr, hone⟩ hbusy
    exact ⟨exec_to (exec_pktSwap s) hs (pktGenWrite_busy hr hone (Or.inl (wbit_or_forced v (by decide))) hbusy),
      exec_to (exec_pktCopy s) hs (pktGenWrite_busy hr hone (Or.inr (copyRequest_bits v).2) hbusy)⟩
  case ends =>
    intro s e hs
    exact ⟨fun hat hdue => exec_to (exec_ruleSetSwap s) hs (ruleSetSwap_due hat hdue),
      fun hretiring hempty => exec_to (exec_bankRetire s) hs (bankRetire_empty hretiring hempty),
      fun hat hdue => exec_to (exec_pktCopyDone s) hs (pktCopyDone_due hat hdue)⟩
  case shadow =>
    rintro s off v ⟨hs, hr, hone⟩ hfree w u to1 to0
    exact exec_to (exec_shadowBankWrite s) hs (shadowWrite_free hr hone hfree)
  case shadowBusy =>
    rintro s off v ⟨hs, hr, hone⟩ hbusy
    exact exec_to (exec_shadowBankWrite s) hs (shadowWrite_busy hr hone hbusy)
  case control =>
    intro s p q depth v
    exact ⟨fun ⟨hs, hr, hone⟩ => exec_to (exec_policerWrite s) hs (policerWrite_single hr hone),
      fun ⟨hs, hr, hone⟩ hsum hown => exec_to (exec_queueShareWrite s) hs (queueShareWrite_fits hr hone hsum hown),
      fun ⟨hs, hr, hone⟩ h => exec_to (exec_queueShareWrite s) hs (queueShareWrite_unfit hr hone h)⟩

end Sys2Proof.Machine
end

section
/-! Resets (R499–R504, R545, R546): what each of them leaves of the device, and what a device that one holds still does. -/

open Sys2Proof

namespace Sys2Proof.Machine

/-! ### The registers a reset keeps (R501) -/

theorem mapGet_filter {α : Type} (p : Nat → Bool) (m : List (Nat × α)) (k : Nat) :
    mapGet (m.filter (fun e => p e.1)) k = if p k then mapGet m k else none := by
  induction m with
  | nil => simp [mapGet]
  | cons e t ih =>
    obtain ⟨a, v⟩ := e
    by_cases ha : p a <;> by_cases hk : a = k <;> simp_all [mapGet]

/-- Registers cut down to those of `p`, the rest at their reset values. -/
theorem mapRead_filter (p : Nat → Bool) (m : List (Nat × W)) (a : Nat) :
    mapRead resetReg (m.filter (fun e => p e.1)) a = if p a then mapRead resetReg m a else resetReg a := by
  unfold mapRead
  rw [mapGet_filter]
  split <;> simp_all

theorem keptReg_of_fuseReg {full : Bool} {a : Nat} (h : fuseReg a = true) : keptReg full a = true := by
  simp [keptReg, h]

theorem rd_coldState (c : Chip) (a : Nat) : rd (coldState c) a = if fuseReg a then rd c a else resetReg a :=
  mapRead_filter fuseReg c.regs a

/-- What a PIN or FULL reset keeps but for the safe state, the pins not yet released (R501, R502). -/
def warmKept (c : Chip) (full : Bool) : Chip :=
  { Chip.reset with
    free := c.free, regs := c.regs.filter (fun e => keptReg full e.1), jtag := { c.jtag with seen := false }, ddr := c.ddr, smb := c.smb,
    pcie := if full then c.pcie else { Pcie.reset with sent := c.pcie.sent, last := c.pcie.last },
    xbr := { Xbr.reset with selfRefresh := true },
    glb := { Glb.reset with
      nor := c.glb.nor, mram := c.glb.mram, perst := c.glb.perst, sel := c.glb.sel, straps := c.glb.straps } }

theorem warmState_safe {c : Chip} {full : Bool} (h : safe c = true) :
    warmState c full = resetPins (setB (warmKept c full) ATT_CTL_grave true) :=
  congrArg resetPins (if_pos h)

theorem warmState_notSafe {c : Chip} {full : Bool} (h : safe c = false) : warmState c full = resetPins (warmKept c full) :=
  congrArg resetPins (if_neg (Bool.eq_false_iff.mp h))

theorem rd_resetPins (c : Chip) (a : Nat) : rd (resetPins c) a = rd c a := rfl

theorem rd_warmKept (c : Chip) (full : Bool) (a : Nat) :
    rd (warmKept c full) a = if keptReg full a then rd c a else resetReg a :=
  mapRead_filter (keptReg full) c.regs a

/-- The registers of a PIN or FULL reset but for ATT_CTL, which tells of the safe state. -/
theorem rd_warmState (c : Chip) (full : Bool) {a : Nat} (ha : a ≠ ATT_CTL_grave.addr) :
    rd (warmState c full) a = if keptReg full a then rd c a else resetReg a := by
  cases h : safe c with
  | true => rw [warmState_safe h, rd_resetPins, rd_setB_other _ true (Ne.symm ha), rd_warmKept]
  | false => rw [warmState_notSafe h, rd_resetPins, rd_warmKept]

theorem safe_resetPins (c : Chip) : safe (resetPins c) = safe c := fldB_congr rfl ATT_CTL_grave

/-- The safe state survives a PIN or FULL reset (R483, R501). -/
theorem safe_warmState (c : Chip) (full : Bool) : safe (warmState c full) = safe c := by
  cases h : safe c with
  | true =>
    rw [warmState_safe h, safe_resetPins]
    exact fldB_setB_same (warmKept c full) ATT_CTL_grave true (by decide) rfl
  | false =>
    have hkept : keptReg full ATT_CTL = false := by cases full <;> decide
    have hgrave : wbits (resetReg ATT_CTL) 31 1 = 0 := by decide
    rw [warmState_notSafe h]
    refine fldB_of_fld_zero ?_
    rw [fld_eq, rd_resetPins, rd_warmKept, show ATT_CTL_grave.addr = ATT_CTL from rfl, hkept]
    exact hgrave

/-! ### A held device (R499) -/

theorem heldInv_of_none {s : State} (h : s.held = none) : HeldInv s := by
  unfold HeldInv
  rw [h]
  trivial

theorem heldInv_some (k : Hold) (l : List Instr) (c : Chip) :
    HeldInv { pending := l, held := some k, chip := c } ↔ HeldClean k c := Iff.rfl

theorem HeldInv.clean {s : State} {k : Hold} (h : HeldInv s) (hs : s.held = some k) : HeldClean k s.chip := by
  unfold HeldInv at h
  rwa [hs] at h

/-- The engines of a held device and its blocks PCIE, XBR, ATT and GLB hold no more than a reset leaves them (R499). -/
structure HeldBlocks (h : Hold) (c : Chip) : Prop where
  engines : c = { Chip.reset with
    regs := c.regs, free := c.free, ddr := c.ddr, smb := c.smb, jtag := c.jtag, pcie := c.pcie, xbr := c.xbr, att := c.att, glb := c.glb }
  pcie : c.pcie = { Pcie.reset with sent := c.pcie.sent, last := c.pcie.last }
  xbr : c.xbr = { Xbr.reset with selfRefresh := h == .pin }
  att : c.att = { Att.reset with raised := c.att.raised, heartbeat := none, safeN := none, alertLow := false }
  glb : c.glb = { Glb.reset with
    nor := c.glb.nor, mram := c.glb.mram, perst := c.glb.perst, sel := c.glb.sel, straps := c.glb.straps }

theorem heldClean_iff (h : Hold) (c : Chip) : HeldClean h c ↔
    (∀ a, keptReg false a = false → (h = .pin → a ≠ ATT_CTL_grave.addr) → rd c a = resetReg a)
      ∧ (h = .cold → (∀ a, fuseReg a = false → rd c a = resetReg a) ∧ c.ddr = [] ∧ c.smb = Smb.reset ∧ c.att.raised = [])
      ∧ HeldBlocks h c := by
  refine and_congr_right fun _ => and_congr_right fun _ => ⟨fun hc => ?_, fun ⟨he, hp, hx, ha, hg⟩ => ?_⟩
  · have hp := congrArg Chip.pcie hc
    have hx := congrArg Chip.xbr hc
    have ha := congrArg Chip.att hc
    have hg := congrArg Chip.glb hc
    dsimp only at hp hx ha hg
    rw [← hp, ← hx, ← ha, ← hg] at hc
    exact ⟨hc, hp, hx, ha, hg⟩
  · rw [← hp, ← hx, ← ha, ← hg]
    exact he
theorem heldClean_coldState (c : Chip) : HeldClean .cold (coldState c) := by
  have hread : ∀ a, fuseReg a = false → rd (coldState c) a = resetReg a := fun a ha => by simp [rd_coldState, ha]
  refine (heldClean_iff _ _).mpr ⟨fun a ha _ => hread a ?_, fun _ => ⟨hread, rfl, rfl, rfl⟩, ⟨rfl, rfl, rfl, rfl, rfl⟩⟩
  exact Bool.eq_false_iff.mpr fun hf => by simp [keptReg_of_fuseReg hf] at ha

theorem HeldBlocks.withRegs {h : Hold} {c : Chip} (hb : HeldBlocks h c) (m : List (Nat × W)) : HeldBlocks h { c with regs := m } :=
  ⟨congrArg (fun e : Chip => { e with regs := m }) hb.engines, hb.pcie, hb.xbr, hb.att, hb.glb⟩

theorem resetPins_setB (c : Chip) (f : Fld) (b : Bool) : resetPins (setB c f b) = { resetPins c with regs := (setB c f b).regs } := rfl

theorem heldBlocks_warmState (c : Chip) : HeldBlocks .pin (warmState c false) := by
  have hkept : HeldBlocks .pin (resetPins (warmKept c false)) := ⟨rfl, rfl, rfl, rfl, rfl⟩
  cases h : safe c with
  | true =>
    rw [warmState_safe h, resetPins_setB]
    exact hkept.withRegs _
  | false =>
    rw [warmState_notSafe h]
    exact hkept

theorem heldClean_warmState (c : Chip) : HeldClean .pin (warmState c false) := by
  refine (heldClean_iff _ _).mpr ⟨fun a ha hgrave => ?_, nofun, heldBlocks_warmState c⟩
  rw [rd_warmState c false (hgrave rfl), ha]
  rfl

/-- Between `c` and `d` only the SMBus target has acted (R546–R549): its block, its own state, and events raised. -/
def TargetOnly (c d : Chip) : Prop :=
  (∃ regs smb raised, d = { c with regs := regs, smb := smb, att := { c.att with raised := raised } })
    ∧ ∀ a, a / 0x100000 ≠ 23 → rd d a = rd c a

section
variable {c d : Chip}

theorem targetOnly_refl (c : Chip) : TargetOnly c c := ⟨⟨_, _, _, rfl⟩, fun _ _ => rfl⟩

theorem TargetOnly.trans {e : Chip} (h : TargetOnly c d) (h' : TargetOnly d e) : TargetOnly c e := by
  obtain ⟨⟨_, _, _, rfl⟩, hr⟩ := h
  obtain ⟨⟨_, _, _, rfl⟩, hr'⟩ := h'
  exact ⟨⟨_, _, _, rfl⟩, fun a ha => (hr' a ha).trans (hr a ha)⟩

theorem targetOnly_modSmb (c : Chip) (f : Smb → Smb) : TargetOnly c (modSmb c f) := ⟨⟨_, _, _, rfl⟩, fun _ _ => rfl⟩

theorem targetOnly_raise (c : Chip) (k : Nat) (v : W) : TargetOnly c (raise c k v) := ⟨⟨_, _, _, rfl⟩, fun _ _ => rfl⟩

theorem targetOnly_setFld (c : Chip) {f : Fld} (v : Nat) (hf : f.addr / 0x100000 = 23) : TargetOnly c (setFld c f v) :=
  ⟨⟨_, _, _, rfl⟩, fun _ ha => rd_setFld_other c v fun h => ha (h ▸ hf)⟩

theorem TargetOnly.keeps (h : TargetOnly c d) : Keeps [23] [] c d := by
  obtain ⟨⟨_, _, _, rfl⟩, hr⟩ := h
  exact ⟨fun a ha _ => hr a (by simpa using ha), rfl, rfl, rfl, rfl⟩

/-- What a PIN reset leaves is left by the SMBus target: its block is kept (R501). -/
theorem TargetOnly.heldClean (h : TargetOnly c d) (hc : HeldClean .pin c) : HeldClean .pin d := by
  obtain ⟨⟨regs, smb, raised, rfl⟩, hr⟩ := h
  obtain ⟨hreset, -, he, hp, hx, ha, hg⟩ := (heldClean_iff _ _).mp hc
  refine (heldClean_iff _ _).mpr ⟨fun a hk hgrave => ?_, nofun, ?_, hp, hx, ?_, hg⟩
  · rw [hr a fun hb => by simp [keptReg, hb] at hk]
    exact hreset a hk hgrave
  · exact congrArg (fun e : Chip => { e with regs := regs, smb := smb, att := { c.att with raised := raised } }) he
  · exact congrArg (fun e : Att => { e with raised := raised }) ha

end

/-! ### The SMBus target in a PIN reset (R546–R549) -/

section
variable (c : Chip)

theorem targetOnly_smbStatus (n : Nat) : TargetOnly c (smbStatus c n) := targetOnly_setFld c n (by decide)

theorem smbRead_held : smbRead true c = modSmb (smbStatus c 2) (fun s => { s with data := 0 }) := rfl

theorem smbWrite_held (v : W) :
    smbWrite true c v = modSmb (smbStatus c 2) (fun s => { s with addr := if s.autoinc then s.addr + 4 else s.addr }) := rfl

theorem targetOnly_smbRead : TargetOnly c (smbRead true c) := by
  rw [smbRead_held]
  exact (targetOnly_smbStatus c 2).trans (targetOnly_modSmb _ _)

theorem targetOnly_smbWrite (v : W) : TargetOnly c (smbWrite true c v) := by
  rw [smbWrite_held]
  exact (targetOnly_smbStatus c 2).trans (targetOnly_modSmb _ _)

theorem targetOnly_smbNack (n : Nat) : TargetOnly c (smbNack c n) := by
  have hnack := (targetOnly_smbStatus c n).trans (targetOnly_modSmb _ (fun s => { s with nack := true, out := [] }))
  unfold smbNack
  split
  · exact hnack.trans ((targetOnly_setFld _ (f := SBM_STAT_pec_err) 1 (by decide)).trans (targetOnly_raise _ _ _))
  · exact hnack.trans ((targetOnly_setFld _ (f := SBM_STAT_proto) 1 (by decide)).trans (targetOnly_raise _ _ _))

theorem targetOnly_smbCommand (data : List Byte) (count pec : Nat) {k : Chip → Chip} (hk : ∀ d, TargetOnly d (k d)) :
    TargetOnly c (smbCommand c data count pec k) := by
  unfold smbCommand
  split
  · exact targetOnly_smbNack c 6
  split
  · exact targetOnly_smbNack c 5
  · exact (targetOnly_modSmb c _).trans (hk _)

theorem targetOnly_smbAddr (data : List Byte) (pec : Nat) : TargetOnly c (smbAddr true c data pec) := by
  refine targetOnly_smbCommand c data 5 pec fun d => ?_
  dsimp only
  split
  · exact (targetOnly_modSmb d _).trans (targetOnly_smbRead _)
  · exact targetOnly_modSmb d _

theorem targetOnly_smbReadCommand : TargetOnly c (smbReadCommand true c) := by
  unfold smbReadCommand
  dsimp only
  split
  · exact (targetOnly_modSmb c _).trans ((targetOnly_modSmb _ _).trans (targetOnly_smbRead _))
  · exact targetOnly_modSmb c _

theorem targetOnly_smbTimeout : TargetOnly c (smbTimeout c) :=
  (targetOnly_setFld c (f := SBM_STAT_timeout) 1 (by decide)).trans ((targetOnly_modSmb _ _).trans (targetOnly_raise _ _ _))

theorem targetOnly_smbIdent : TargetOnly c (smbIdent c) := by
  unfold smbIdent
  exact targetOnly_modSmb c _

theorem targetOnly_alertResponse : TargetOnly c (alertResponse c) := by
  unfold alertResponse
  split <;> exact targetOnly_modSmb c _

end

/-! ### Steps of a held device -/

/-- A command that does not act in a reset follows the rule of `run`. -/
theorem exec_eq_run (i : Instr) (s : State) (h : actsInReset i = false) : ∃ f, exec i s = run s f := by
  cases i with
  | coldReset | pinReset | perstReset | resetRelease => cases h
  | smbAddr | smbWrite | smbRead | smbStatus | smbIdent | smbusTimeout | alertResponse => cases h
  | idcodeIr | samplePreload | extestIr | clampIr | highzIr | extestPulse | extestTrain | debugIr | bypassIr => cases h
  | _ =>
    dsimp only [exec]
    exact ⟨_, rfl⟩

theorem perstReset_held (c : Chip) : perstReset true c =
    wr { c with pcie := { Pcie.reset with sent := c.pcie.sent, last := c.pcie.last }, glb := { c.glb with perst := true } }
      XBR_PCIE_STAT 0 := rfl

/-- PERST_N resets the PCIe domain, whose link status reads 0 in every reset (R545). -/
theorem heldClean_perstReset {k : Hold} {c : Chip} (hc : HeldClean k c) : HeldClean k (perstReset true c) := by
  obtain ⟨hreset, hcold, he, hp, hx, ha, hg⟩ := (heldClean_iff _ _).mp hc
  have hread : ∀ a, rd c a = resetReg a → rd (perstReset true c) a = resetReg a := by
    intro a ha
    rw [perstReset_held, rd_wr]
    split
    · next heq =>
      subst heq
      decide
    · exact ha
  refine (heldClean_iff _ _).mpr ⟨fun a ha hg => hread a (hreset a ha hg), fun hk => ?_, ?_, ?_, hx, ha, ?_⟩
  · obtain ⟨hfuse, hmem⟩ := hcold hk
    exact ⟨fun a ha => hread a (hfuse a ha), hmem⟩
  · exact congrArg (fun e : Chip => { e with
      regs := (perstReset true c).regs, pcie := (perstReset true c).pcie, glb := (perstReset true c).glb }) he
  · rfl
  · exact congrArg (fun e : Glb => { e with perst := true }) hg

section
variable {s t : State} (h : HeldInv s)
include h

theorem heldInv_run {f : Chip → Chip} (ht : run s f = .next t) : HeldInv t := by
  cases hs : s.held with
  | none =>
    rw [run_live s f hs] at ht
    cases ht
    exact heldInv_of_none hs
  | some =>
    rw [run_held s f (by simp [hs])] at ht
    cases ht
    exact h

theorem heldInv_runSmb {f : Bool → Chip → Chip} (ht : runSmb s f = .next t) (hf : ∀ c, TargetOnly c (f true c)) : HeldInv t := by
  cases hs : s.held with
  | none =>
    rw [runSmb_live s f hs] at ht
    cases ht
    exact heldInv_of_none hs
  | some k =>
    cases k with
    | cold =>
      rw [runSmb_cold s f hs] at ht
      cases ht
      exact h
    | pin =>
      rw [runSmb_pin s f hs] at ht
      cases ht
      rw [hs]
      exact (heldInv_some .pin _ _).mpr ((hf s.chip).heldClean (h.clean hs))

/-- The TAP's state is no part of what a reset clears (R504, R623). -/
theorem heldInv_jtag (j : Jtag) : HeldInv { s with chip := { s.chip with jtag := j } } := by
  cases hs : s.held with
  | none => exact heldInv_of_none rfl
  | some k =>
    obtain ⟨hreset, hcold, he, hp, hx, ha, hg⟩ := (heldClean_iff _ _).mp (h.clean hs)
    refine (heldInv_some k _ _).mpr ((heldClean_iff _ _).mpr ⟨hreset, hcold, ?_, hp, hx, ha, hg⟩)
    exact congrArg (fun e : Chip => { e with jtag := j }) he

theorem heldInv_pinReset : HeldInv (pinReset s) := by
  unfold pinReset
  split
  · exact h
  · exact heldClean_warmState s.chip

theorem heldInv_perstReset : HeldInv { s with chip := perstReset s.held.isSome s.chip } := by
  cases hs : s.held with
  | none => exact heldInv_of_none rfl
  | some k =>
    exact (heldInv_some k _ _).mpr (heldClean_perstReset (h.clean hs))

theorem heldInv_resetRelease (straps : Straps) (w : LoadWorld) : HeldInv (resetRelease s straps w) := by
  unfold resetRelease
  split
  · exact h
  · exact heldInv_of_none rfl

theorem heldInv_exec {i : Instr} (ht : exec i s = .next t) : HeldInv t := by
  cases hi : actsInReset i with
  | false =>
    obtain ⟨f, hf⟩ := exec_eq_run i s hi
    exact heldInv_run h (hf.symm.trans ht)
  | true =>
    cases i with
    | coldReset =>
      cases ht
      exact heldClean_coldState s.chip
    | pinReset =>
      cases ht
      exact heldInv_pinReset h
    | perstReset =>
      cases ht
      exact heldInv_perstReset h
    | resetRelease straps w =>
      cases ht
      exact heldInv_resetRelease h straps w
    | smbAddr data pec =>
      rw [exec_smbAddr, execSmbAddr] at ht
      exact heldInv_runSmb h ht fun c => targetOnly_smbAddr c data pec
    | smbWrite data pec =>
      rw [exec_smbWrite, execSmbWrite] at ht
      exact heldInv_runSmb h ht fun c => targetOnly_smbCommand c data 4 pec fun d => targetOnly_smbWrite d _
    | smbRead =>
      rw [exec_smbRead, execSmbRead] at ht
      exact heldInv_runSmb h ht targetOnly_smbReadCommand
    | smbStatus =>
      rw [exec_smbStatus, execSmbStatus] at ht
      exact heldInv_runSmb h ht fun c => targetOnly_modSmb c _
    | smbIdent =>
      rw [exec_smbIdent, execSmbIdent] at ht
      exact heldInv_runSmb h ht targetOnly_smbIdent
    | smbusTimeout =>
      rw [exec_smbusTimeout, execSmbusTimeout] at ht
      exact heldInv_runSmb h ht targetOnly_smbTimeout
    | alertResponse =>
      rw [exec_alertResponse, execAlertResponse] at ht
      exact heldInv_runSmb h ht targetOnly_alertResponse
    | idcodeIr | samplePreload | extestIr | clampIr | highzIr | extestPulse | extestTrain | debugIr | bypassIr =>
      cases ht
      exact heldInv_jtag h _
    | _ => cases hi

end

/-- Settles O47, by cases on the command: most do nothing while a reset is held, the resets leave what a held device may hold, and the
SMBus target, the TAP and PERST_N change only what a reset keeps or leaves free. -/
theorem heldDeviceStaysInReset : Obligations.HeldDeviceStaysInReset := by
  unfold Obligations.HeldDeviceStaysInReset
  intro s t h ht
  cases hp : s.pending with
  | nil =>
    rw [step_of_pending_nil hp] at ht
    cases ht
    exact h
  | cons i l =>
    rw [step_of_pending_cons hp] at ht
    exact heldInv_exec (s := { s with pending := l }) h ht

/-- Settles O48: no reset is held at reset, and a COLD reset leaves what a held device may hold. -/
theorem resetMeetsTheInvariant : Obligations.ResetMeetsTheInvariant := by
  unfold Obligations.ResetMeetsTheInvariant
  exact ⟨heldInv_of_none rfl, heldClean_coldState State.reset.chip⟩

/-! ### Noninterference (R500, R501, R504) -/

/-- A COLD reset keeps of a device only what `ColdAlike` compares. -/
theorem coldState_of_coldAlike {s t : State} (h : ColdAlike s t) : coldState s.chip = coldState t.chip := by
  obtain ⟨hnor, hmram, hperst, hjtag, hfree, hregs⟩ := h
  unfold coldState
  rw [hnor, hmram, hperst, hjtag, hfree, hregs]

theorem core_run_coldReset (s : State) (l : List Instr) (n : Nat) :
    Host.Core.run Sys2Proof.core (n + 1) ({ s with pending := .coldReset :: l } : State)
      = Host.Core.run Sys2Proof.core n ({ pending := l, held := some .cold, chip := coldState s.chip } : State) := rfl

/-- Settles O51: after COLD_RESET, its first step, the two runs go on from one and the same state. -/
theorem coldResetErasesThePast : Obligations.ColdResetErasesThePast := by
  unfold Obligations.ColdResetErasesThePast
  intro s t l n h
  rw [core_run_coldReset, core_run_coldReset, coldState_of_coldAlike h]

/-! ### Commands of a held device (R499–R501, R546, R548) -/

theorem exec_held {i : Instr} {s : State} (hs : s.held.isSome = true) (hi : actsInReset i = false) : exec i s = .next s := by
  obtain ⟨f, hf⟩ := exec_eq_run i s hi
  rw [hf, run_held s f hs]

theorem exec_smb_cold {s : State} (hs : s.held = some .cold) (data : List Byte) (pec : Fin 3) :
    exec (.smbAddr data pec) s = .next s ∧ exec (.smbWrite data pec) s = .next s ∧ exec .smbRead s = .next s
      ∧ exec .smbStatus s = .next s ∧ exec .smbIdent s = .next s ∧ exec .smbusTimeout s = .next s
      ∧ exec .alertResponse s = .next s := by
  simp only [exec_smbAddr, exec_smbWrite, exec_smbRead, exec_smbStatus, exec_smbIdent, exec_smbusTimeout, exec_alertResponse,
    execSmbAddr, execSmbWrite, execSmbRead, execSmbStatus, execSmbIdent, execSmbusTimeout, execAlertResponse, runSmb_cold s _ hs,
    and_self]

theorem fld_smbStatus (c : Chip) {n : Nat} (h : n < 2 ^ SBM_STAT_status.width) : fld (smbStatus c n) SBM_STAT_status = n :=
  (fld_setFld_same c SBM_STAT_status n (by decide)).trans (Nat.mod_eq_of_lt h)

theorem fld_modSmb (c : Chip) (g : Smb → Smb) (f : Fld) : fld (modSmb c g) f = fld c f := fld_congr rfl f

theorem smbCommand_good (c : Chip) {data : List Byte} {count : Nat} (h : data.length = count) (k : Chip → Chip) :
    smbCommand c data count 1 k = k (modSmb c (fun s => { s with nack := false, out := [] })) := by
  simp [smbCommand, h]

/-- Settles O50: what does not act in a reset changes nothing; a COLD reset silences the SMBus target, a PIN reset has it answer its
window with NOT_READY. -/
theorem heldResetTakesNoCommand : Obligations.HeldResetTakesNoCommand := by
  unfold Obligations.HeldResetTakesNoCommand
  refine ⟨fun i s hs hi => exec_held hs hi, fun s data pec hs => exec_smb_cold hs data pec, fun s data hs => ⟨fun h4 => ?_, fun h5 hread => ?_⟩⟩
  · rw [exec_smbWrite, execSmbWrite, runSmb_pin s _ hs]
    refine ⟨_, rfl, ?_, (targetOnly_smbCommand _ data 4 1 (fun d => targetOnly_smbWrite d _)).keeps⟩
    rw [Fin.val_one, smbCommand_good _ h4, smbWrite_held]
    exact (fld_modSmb _ _ _).trans (fld_smbStatus _ (by decide))
  · rw [exec_smbAddr, execSmbAddr, runSmb_pin s _ hs]
    refine ⟨_, rfl, ?_, ?_, (targetOnly_smbAddr _ data 1).keeps⟩
    all_goals
      rw [Fin.val_one, smbAddr, smbCommand_good _ h5, if_pos hread, smbRead_held]
    · exact (fld_modSmb _ _ _).trans (fld_smbStatus _ (by decide))
    · rfl

/-! ### The resets (R499–R504, R545) -/

/-- What a COLD reset leaves (R500, R501). -/
theorem rd_coldState_kept (c : Chip) {a : Nat} (h : fuseReg a = true) : rd (coldState c) a = rd c a := by rw [rd_coldState, if_pos h]

theorem rd_coldState_reset (c : Chip) {a : Nat} (h : fuseReg a = false) : rd (coldState c) a = resetReg a := by
  rw [rd_coldState, h]
  rfl

theorem rd_warmState_kept (c : Chip) {full : Bool} {a : Nat} (h : keptReg full a = true) : rd (warmState c full) a = rd c a := by
  have hgrave : keptReg full ATT_CTL_grave.addr = false := by cases full <;> decide
  rw [rd_warmState c full fun ha => by simp [ha, hgrave] at h, if_pos h]

theorem rd_warmState_reset (c : Chip) {full : Bool} {a : Nat} (h : keptReg full a = false) (ha : a ≠ ATT_CTL_grave.addr) :
    rd (warmState c full) a = resetReg a := by
  rw [rd_warmState c full ha, h]
  rfl

/-- What a PIN or FULL reset leaves beside the registers: the memories, the pins and self-refresh (R501–R503). -/
theorem warmState_memories (c : Chip) (full : Bool) :
    (warmState c full).ddr = c.ddr ∧ (warmState c full).glb.nor = c.glb.nor ∧ (warmState c full).glb.mram = c.glb.mram
      ∧ (warmState c full).xbr.selfRefresh = true
      ∧ (warmState c full).att.heartbeat = none ∧ (warmState c full).att.safeN = none ∧ (warmState c full).att.alertLow = false := by
  cases h : safe c with
  | true =>
    rw [warmState_safe h, resetPins_setB]
    exact ⟨rfl, rfl, rfl, rfl, rfl, rfl, rfl⟩
  | false =>
    rw [warmState_notSafe h]
    exact ⟨rfl, rfl, rfl, rfl, rfl, rfl, rfl⟩

theorem pinReset_notCold {s : State} (h : s.held ≠ some .cold) :
    pinReset s = { s with held := some .pin, chip := warmState s.chip false } := by
  unfold pinReset
  split
  · contradiction
  · rfl

theorem pinReset_cold {s : State} (h : s.held = some .cold) : pinReset s = s := by
  unfold pinReset
  rw [h]

theorem rd_resetPcie (c : Chip) (a : Nat) : rd (resetPcie c) a = if XBR_PCIE_STAT = a then 0 else rd c a :=
  rd_wr { c with pcie := { Pcie.reset with sent := c.pcie.sent, last := c.pcie.last } } XBR_PCIE_STAT a 0

theorem rd_pcieDown (c : Chip) (a : Nat) : rd (pcieDown c) a = rd (resetPcie c) a := by
  unfold pcieDown
  split
  · rw [rd_raise]
  · rfl

theorem pcie_pcieDown (c : Chip) : (pcieDown c).pcie = (resetPcie c).pcie := by
  unfold pcieDown
  split <;> rfl

/-- PERST_N resets the PCIe domain (R545). -/
theorem perstReset_resets (held : Bool) (c : Chip) :
    (∀ a, rd (perstReset held c) a = if XBR_PCIE_STAT = a then 0 else rd c a) ∧ (perstReset held c).glb.perst = true
      ∧ (perstReset held c).pcie.pend = Pcie.reset.pend ∧ (perstReset held c).pcie.table = Pcie.reset.table := by
  cases held with
  | false => exact ⟨fun a => (rd_pcieDown c a).trans (rd_resetPcie c a), rfl, (congrArg Pcie.pend (pcie_pcieDown c)).trans rfl,
      (congrArg Pcie.table (pcie_pcieDown c)).trans rfl⟩
  | true => exact ⟨rd_resetPcie c, rfl, rfl, rfl⟩

/-! ### The load that a release begins (R504, R508) -/

theorem fld_showPins (c : Chip) (f : Fld) : fld (showPins c) f = fld c f := fld_congr rfl f

theorem tmr_showPins (c : Chip) : (showPins c).tmr = c.tmr := rfl

theorem fld_withAtt (c : Chip) (a : Att) (f : Fld) : fld { c with att := a } f = fld c f := rfl

theorem tmr_withAtt (c : Chip) (a : Att) : ({ c with att := a } : Chip).tmr = c.tmr := rfl

theorem fld_bootHalt (c : Chip) (stage code : Nat) (f : Fld) :
    fld (bootHalt c stage code) f
      = fld (setFld (setFld (setFld c GLB_BOOT_STAT_state 2) GLB_BOOT_STAT_stage stage) GLB_BOOT_STAT_fail_code code) f := by
  unfold bootHalt
  rw [fld_showPins]
  exact fld_withAtt _ _ _

theorem tmr_bootHalt (c : Chip) (stage code : Nat) : (bootHalt c stage code).tmr = c.tmr := by
  unfold bootHalt
  rw [tmr_showPins, tmr_withAtt, setFld_tmr, setFld_tmr, setFld_tmr]

/-- A boot halt shows its stage and its fail code (R508). -/
theorem bootHalt_shows (c : Chip) {stage code : Nat} (hs : stage < 2 ^ 4) (hc : code < 2 ^ 8) :
    fld (bootHalt c stage code) GLB_BOOT_STAT_state = 2 ∧ fld (bootHalt c stage code) GLB_BOOT_STAT_stage = stage
      ∧ fld (bootHalt c stage code) GLB_BOOT_STAT_fail_code = code ∧ (bootHalt c stage code).tmr = c.tmr := by
  refine ⟨?_, ?_, ?_, tmr_bootHalt c stage code⟩
  · rw [fld_bootHalt, fld_setFld_other _ (f := GLB_BOOT_STAT_fail_code) (g := GLB_BOOT_STAT_state) code rfl (by decide) (by decide),
      fld_setFld_other _ (f := GLB_BOOT_STAT_stage) (g := GLB_BOOT_STAT_state) stage rfl (by decide) (by decide), fld_setFld_same _ _ _ (by decide)]
    rfl
  · rw [fld_bootHalt, fld_setFld_other _ (f := GLB_BOOT_STAT_fail_code) (g := GLB_BOOT_STAT_stage) code rfl (by decide) (by decide), fld_setFld_same _ _ _ (by decide)]
    exact Nat.mod_eq_of_lt hs
  · rw [fld_bootHalt, fld_setFld_same _ _ _ (by decide)]
    exact Nat.mod_eq_of_lt hc

/-- What a load shows before the self-test of stage 2 (R504, R511). -/
def loadBegun (c : Chip) (cls p : Nat) (w : LoadWorld) : Chip :=
  let d := startTime c w.periods
  let d := setFld (setFld d GLB_BOOT_STAT_last_reset cls) GLB_BOOT_STAT_strap_profile c.glb.straps.profile.toNat
  setFld (setB (setB d GLB_BOOT_STAT_grave_boot (safe d)) TMX_STAT_test_en c.glb.straps.testEn) GLB_BOOT_STAT_used_profile p

theorem load_bistFails (c : Chip) (cls p sel : Nat) {w : LoadWorld} (h : w.bist = false) :
    load c cls p sel w = bootHalt (loadBegun c cls p w) 2 0x20 := by
  simp only [load, h]
  rfl

theorem load_trainingFails (c : Chip) (cls p sel : Nat) {w : LoadWorld} (hb : w.bist = true) (h : w.trained = false) :
    load c cls p sel w = bootHalt (loadBegun c cls p w) 3 0x21 := by
  simp only [load, hb, h]
  rfl

theorem period_loadBegun (c : Chip) (cls p : Nat) (w : LoadWorld) : (loadBegun c cls p w).tmr.period = w.periods := rfl

/-- A release is a load of the device with the straps taken over. -/
theorem releaseFrom_load (c : Chip) (h : Hold) (st : Straps) (w : LoadWorld) : ∃ d cls, releaseFrom c h st w = load d cls st.profile.toNat 0 w := by
  cases h with
  | cold => exact ⟨_, _, rfl⟩
  | pin => exact ⟨_, _, rfl⟩

/-- Settles O30: by what each reset keeps, and for a release by the stage at which its load halts. -/
theorem resetsBeginAndLeave : Obligations.ResetsBeginAndLeave := by
  unfold Obligations.ResetsBeginAndLeave
  refine ⟨fun s => ?cold, fun s hs => ?pin, fun s st w => ⟨fun hs => ?absorbed, fun hs => ?idle⟩, fun s st w h hs => ?release, fun s => ?perst⟩
  case cold =>
    exact ⟨coldState s.chip, rfl, fun a => rd_coldState_reset s.chip, fun a => rd_coldState_kept s.chip, rfl, rfl, rfl, rfl, rfl, rfl⟩
  case pin =>
    obtain ⟨hddr, hnor, hmram, hrefresh, hpins⟩ := warmState_memories s.chip false
    rw [exec_pinReset, execPinReset, pinReset_notCold hs]
    exact ⟨_, rfl, fun a => rd_warmState_reset s.chip, fun a => rd_warmState_kept s.chip, safe_warmState s.chip false,
      hddr, hnor, hmram, hrefresh, hpins⟩
  case absorbed => rw [exec_pinReset, execPinReset, pinReset_cold hs]
  case idle =>
    rw [exec_resetRelease, execResetRelease, resetRelease, hs]
  case release =>
    rw [exec_resetRelease, execResetRelease, resetRelease, hs]
    refine ⟨releaseFrom s.chip h st w, rfl, rfl, ?_⟩
    obtain ⟨d, cls, hload⟩ := releaseFrom_load s.chip h st w
    rw [hload]
    refine ⟨fun hb => ?_, fun hb ht => ?_⟩
    · rw [load_bistFails d cls _ 0 hb]
      obtain ⟨hstate, hstage, hcode, htmr⟩ := bootHalt_shows (loadBegun d cls st.profile.toNat w) (stage := 2) (code := 0x20) (by decide) (by decide)
      exact ⟨hstate, hstage, hcode, by rw [htmr, period_loadBegun]⟩
    · rw [load_trainingFails d cls _ 0 hb ht]
      obtain ⟨hstate, hstage, hcode, htmr⟩ := bootHalt_shows (loadBegun d cls st.profile.toNat w) (stage := 3) (code := 0x21) (by decide) (by decide)
      exact ⟨hstate, hstage, hcode, by rw [htmr, period_loadBegun]⟩
  case perst =>
    obtain ⟨hread, hperst, hpend, htable⟩ := perstReset_resets s.held.isSome s.chip
    exact ⟨_, rfl, by rw [hread, if_pos rfl], hperst, hpend, htable, fun a ha => by rw [hread, if_neg (Ne.symm ha)]⟩

end Sys2Proof.Machine
end

section
/-! The SMBus target of the device that no COLD reset holds (R546–R549): its commands, and the alert line. -/

open Sys2Proof

namespace Sys2Proof.Machine

/-! ### What a write command does (R546, R547) -/

section
variable (c : Chip) {data : List Byte} {count pec : Nat} (k : Chip → Chip)

theorem smbCommand_badLength (h : data.length ≠ count) : smbCommand c data count pec k = smbNack c 6 := by
  simp [smbCommand, h]

theorem smbCommand_badPec (h : data.length = count) (hp : pec = 2 ∨ (pec = 0 ∧ fldB c SBM_CTL_pec_req = true)) :
    smbCommand c data count pec k = smbNack c 5 := by
  unfold smbCommand
  rw [if_neg (by simp [h]), if_pos (by simpa using hp)]

end

theorem modSmb_smbStatus (c : Chip) (n : Nat) (g : Smb → Smb) : modSmb (smbStatus c n) g = { smbStatus c n with smb := g c.smb } := by
  unfold modSmb smbStatus
  rw [setFld_smb]

/-- A command of a bad form is NACKed with status 6, one of a bad PEC with status 5 (R548). -/
theorem smbNack_form (c : Chip) : smbNack c 6
    = raise (setB { smbStatus c 6 with smb := { c.smb with nack := true, out := [] } } SBM_STAT_proto true) srcSBM_PROTO 0 := by
  unfold smbNack
  rw [modSmb_smbStatus, if_neg (by decide)]

theorem smbNack_pec (c : Chip) : smbNack c 5
    = raise (setB { smbStatus c 5 with smb := { c.smb with nack := true, out := [] } } SBM_STAT_pec_err true) srcSBM_PEC_ERR 0 := by
  unfold smbNack
  rw [modSmb_smbStatus, if_pos rfl]

theorem alertResponse_low {c : Chip} (h : sbAlertLow c = true) :
    alertResponse c = modSmb c (fun s => { s with nack := false, out := [BitVec.ofNat 8 (fld c SBM_STAT_address)] }) :=
  if_pos h

theorem alertResponse_released {c : Chip} (h : ¬ sbAlertLow c = true) :
    alertResponse c = modSmb c (fun s => { s with nack := true, out := [] }) :=
  if_neg h

/-- A command of the SMBus target on a device that no reset holds. -/
theorem exec_target {i : Instr} {s : State} {f : Bool → Chip → Chip} {d : Chip} (hi : exec i s = runSmb s f) (hs : s.held = none)
    (hf : f false s.chip = d) : exec i s = .next { s with chip := d } := by
  rw [hi, runSmb_live s f hs, hf]

theorem exec_smbAddr_live {s : State} {data : List Byte} {p : Fin 3} (hs : s.held = none) :
    exec (.smbAddr data p) s = .next { s with chip := smbAddr false s.chip data p.val } := exec_target (exec_smbAddr s) hs rfl

theorem exec_smbWrite_live {s : State} {data : List Byte} {p : Fin 3} (hs : s.held = none) :
    exec (.smbWrite data p) s
      = .next { s with chip := smbCommand s.chip data 4 p.val (fun d => smbWrite false d (toW (leAt data 0 4))) } :=
  exec_target (exec_smbWrite s) hs rfl

/-- Settles O35: an ADDR or WRITE of the right length and PEC acts, another is NACKed by its fault; the other commands are read off
their definitions; in a COLD reset the target does not serve. -/
theorem smbusTargetServes : Obligations.SmbusTargetServes := by
  unfold Obligations.SmbusTargetServes
  refine ⟨?good, ?others, ?bad, fun s data p hs => exec_smb_cold hs data p⟩
  case good =>
    intro s data hs
    refine ⟨fun h5 => ?_, fun h4 => ?_⟩
    · rw [exec_smbAddr_live hs, Fin.val_one, smbAddr, smbCommand_good _ h5]
      rfl
    · rw [exec_smbWrite_live hs, Fin.val_one, smbCommand_good _ h4]
      rfl
  case others =>
    intro s hs
    refine ⟨exec_target (exec_smbRead s) hs rfl, exec_target (exec_smbStatus s) hs rfl, exec_target (exec_smbIdent s) hs rfl,
      exec_target (exec_smbusTimeout s) hs rfl, fun hlow => ?_, fun hlow => ?_⟩
    · exact exec_target (exec_alertResponse s) hs (alertResponse_released (Bool.eq_false_iff.mp hlow))
    · exact exec_target (exec_alertResponse s) hs (alertResponse_low hlow)
  case bad =>
    intro s data p hs
    refine ⟨fun h5 => ?_, fun h4 => ?_, fun hp => ⟨fun h5 => ?_, fun h4 => ?_⟩⟩
    · rw [exec_smbAddr_live hs, smbAddr, smbCommand_badLength _ _ h5, smbNack_form]
    · rw [exec_smbWrite_live hs, smbCommand_badLength _ _ h4, smbNack_form]
    all_goals
      have hpec : p.val = 2 ∨ (p.val = 0 ∧ fldB s.chip SBM_CTL_pec_req = true) :=
        hp.imp (congrArg Fin.val) (And.imp_left (congrArg Fin.val))
    · rw [exec_smbAddr_live hs, smbAddr, smbCommand_badPec _ _ h5 hpec, smbNack_pec]
    · rw [exec_smbWrite_live hs, smbCommand_badPec _ _ h4 hpec, smbNack_pec]

/-! ### The alert line (R549) -/

theorem sbAlertLow_iff (c : Chip) : sbAlertLow c = true ↔ c.att.alertLow = true ∧ fldB c SBM_CTL_sb_alert_en = true := by
  simp [sbAlertLow]

/-- The answer touches the target's own state alone. -/
theorem alertResponse_smb (c : Chip) : ∃ m, alertResponse c = { c with smb := m } := by
  by_cases h : sbAlertLow c = true
  · exact ⟨_, alertResponse_low h⟩
  · exact ⟨_, alertResponse_released h⟩

theorem exec_alertResponse_notCold {s : State} (h : s.held ≠ some .cold) :
    exec .alertResponse s = .next { s with chip := alertResponse s.chip } := by
  rw [exec_alertResponse, execAlertResponse]
  cases hs : s.held with
  | none => rw [runSmb_live s _ hs, hs]
  | some k =>
    cases k with
    | cold => exact absurd hs h
    | pin => rw [runSmb_pin s _ hs, hs]

/-- Settles O59, by the two cases of the alert line. -/
theorem alertLineAndItsAnswer : Obligations.AlertLineAndItsAnswer := by
  unfold Obligations.AlertLineAndItsAnswer
  intro s hs
  refine ⟨sbAlertLow_iff s.chip, alertResponse s.chip, exec_alertResponse_notCold hs, ?_⟩
  obtain ⟨m, hm⟩ := alertResponse_smb s.chip
  refine ⟨by rw [hm], by rw [hm]; rfl, by rw [hm], fun hlow => ?_, fun hlow => ?_⟩
  · rw [alertResponse_low ((sbAlertLow_iff _).mpr hlow)]
    exact ⟨rfl, rfl⟩
  · rw [alertResponse_released (mt (sbAlertLow_iff _).mp hlow)]
    exact ⟨rfl, rfl⟩

end Sys2Proof.Machine
end

section
/-! The TAP's instructions and the JTAG debug master (R622–R624). -/

open Sys2Proof

namespace Sys2Proof.Machine

/-! ### The TAP (R623) -/

/-- An instruction of the TAP that TEST_EN does not guard. -/
theorem tapLoad_free (c : Chip) {code : Nat} (h : ((3 ≤ code && code ≤ 7) || code == 0x20) = false) :
    tapLoad c code = { c with jtag := { c.jtag with
      ir := code, drives := code == 3 || code == 4 || code == 6 || code == 7, highZ := code == 5 } } := by
  simp [tapLoad, h]

/-- With TEST_EN = 1 every instruction is loaded. -/
theorem tapLoad_test {c : Chip} (h : fldB c TMX_STAT_test_en = true) (code : Nat) :
    tapLoad c code = { c with jtag := { c.jtag with
      ir := code, drives := code == 3 || code == 4 || code == 6 || code == 7, highZ := code == 5 } } := by
  simp [tapLoad, h]

/-- With TEST_EN = 0 a guarded instruction acts as BYPASS. -/
theorem tapLoad_guarded {c : Chip} (h : fldB c TMX_STAT_test_en = false) {code : Nat}
    (hg : ((3 ≤ code && code ≤ 7) || code == 0x20) = true) :
    tapLoad c code = { c with jtag := { c.jtag with ir := 0xFF, drives := false, highZ := false } } := by
  simp [tapLoad, h, hg]

/-- The TAP acts whether a reset is held or not. -/
theorem exec_tap {i : Instr} {s : State} {code : Nat} {d : Chip} (hi : exec i s = runTap s (tapLoad · code)) (hd : tapLoad s.chip code = d) :
    exec i s = .next { s with chip := d } := by
  rw [hi, runTap, hd]

/-! ### The debug master (R624) -/

section
variable {c : Chip} {a : Nat} {w : Option W}

theorem jtagAccess_off (h : jtagOn c = false) : jtagAccess c a w = c := by simp [jtagAccess, h]

theorem jtagAccess_memory (h : jtagOn c = true) (ha : a / 2 ^ 36 ≠ 1) : jtagAccess c a w = jtagMemory (jtagFirst c) a w := by
  unfold jtagAccess
  rw [if_neg (by simp [h]), if_pos (by simpa using ha)]

theorem jtagAccess_read (h : jtagOn c = true) (ha : a / 2 ^ 36 = 1) :
    jtagAccess c a none = masterRead (jtagFirst c) 13 (a % 2 ^ 36) := by
  unfold jtagAccess
  rw [if_neg (by simp [h]), if_neg (by simpa using ha)]

theorem jtagAccess_write (h : jtagOn c = true) (ha : a / 2 ^ 36 = 1) (v : W) :
    jtagAccess c a (some v) = if isTwin (jtagFirst c) && isChange (jtagFirst c) (a % 2 ^ 36) then jtagReject (jtagFirst c)
      else masterWrite (jtagFirst c) 13 (a % 2 ^ 36) 15 v := by
  unfold jtagAccess
  rw [if_neg (by simp [h]), if_neg (by simpa using ha)]

theorem jtagMemory_nowhere (h : matrixTarget c 13 a = none) :
    jtagMemory c a none = respondZero (matrixError c 1 13 15 false a 0) 1 := by
  unfold jtagMemory
  rw [h]
  rfl

theorem jtagMemory_read {t : Nat} (h : matrixTarget c 13 a = some t) (hmay : 4 ≤ t ∨ ddrMay c 13 false (a % 2 ^ 36) 4 = true) :
    jtagMemory c a none = answer c (toW (leNat (targetBytes c t ⟨13, a, 4, none⟩))) := by
  unfold jtagMemory
  rw [h]
  dsimp only
  rw [if_neg (by simpa [Nat.not_lt, or_iff_not_imp_left] using hmay)]
  rfl

theorem jtagMemory_write {t : Nat} (h : matrixTarget c 13 a = some t) (ht : t ≠ 10)
    (hmay : 4 ≤ t ∨ ddrMay c 13 true (a % 2 ^ 36) 4 = true) (v : W) :
    jtagMemory c a (some v) = respond (lateWrite c 13 a v) 0 := by
  unfold jtagMemory
  rw [h]
  dsimp only
  rw [if_neg (by simpa [ht, Nat.not_lt, or_iff_not_imp_left] using hmay)]

end

/-- Settles O41: the TAP by whether TEST_EN guards the instruction, the debug master by the region of its address. -/
theorem tapInstructionsAndDebugMaster : Obligations.TapInstructionsAndDebugMaster := by
  unfold Obligations.TapInstructionsAndDebugMaster
  refine ⟨fun s => ⟨?idcode, ?sample, ?bypass, fun ht => ?tested, fun ht => ?untested⟩, fun s a w hs => ?debug⟩
  case idcode => exact exec_tap (exec_idcodeIr s) (tapLoad_free _ (by decide))
  case sample => exact exec_tap (exec_samplePreload s) (tapLoad_free _ (by decide))
  case bypass => exact exec_tap (exec_bypassIr s) (tapLoad_free _ (by decide))
  case tested =>
    exact ⟨exec_tap (exec_extestIr s) (tapLoad_test ht _), exec_tap (exec_clampIr s) (tapLoad_test ht _),
      exec_tap (exec_highzIr s) (tapLoad_test ht _), exec_tap (exec_extestPulse s) (tapLoad_test ht _),
      exec_tap (exec_extestTrain s) (tapLoad_test ht _), exec_tap (exec_debugIr s) (tapLoad_test ht _)⟩
  case untested =>
    have hload := fun code hg => tapLoad_guarded ht (code := code) hg
    exact ⟨exec_tap (exec_extestIr s) (hload 0x03 rfl), exec_tap (exec_clampIr s) (hload 0x04 rfl),
      exec_tap (exec_highzIr s) (hload 0x05 rfl), exec_tap (exec_extestPulse s) (hload 0x06 rfl),
      exec_tap (exec_extestTrain s) (hload 0x07 rfl), exec_tap (exec_debugIr s) (hload 0x20 rfl)⟩
  case debug =>
    intro first c off
    have hi := exec_jtagDebugAccess s (a := a) (write := w)
    refine ⟨fun hoff => ?_, fun hon ha ht hw => ?_, fun t hon ha ht hmay hw => ?_, fun t v hon ha ht h10 hmay hw => ?_,
      fun hon ha hw => ?_, fun v hon ha hw htwin hchange => ?_, fun v hon ha hw hlocal => ?_⟩
    · exact exec_to hi hs (jtagAccess_off hoff)
    · subst hw
      exact exec_to hi hs ((jtagAccess_memory hon ha).trans (jtagMemory_nowhere ht))
    · subst hw
      exact exec_to hi hs ((jtagAccess_memory hon ha).trans (jtagMemory_read ht hmay))
    · subst hw
      exact exec_to hi hs ((jtagAccess_memory hon ha).trans (jtagMemory_write ht h10 hmay v))
    · subst hw
      exact exec_to hi hs (jtagAccess_read hon ha)
    · subst hw
      exact exec_to hi hs ((jtagAccess_write hon ha v).trans (if_pos (Bool.and_eq_true _ _ ▸ ⟨htwin, hchange⟩)))
    · subst hw
      refine exec_to hi hs ((jtagAccess_write hon ha v).trans (if_neg fun h => ?_))
      obtain ⟨htwin, hchange⟩ := Bool.and_eq_true_iff.mp h
      rcases hlocal with h | h
      · exact Bool.eq_false_iff.mp h htwin
      · exact Bool.eq_false_iff.mp h hchange

end Sys2Proof.Machine
end

section
/-! The NOR commands of the NVL block (R518). -/

open Sys2Proof

namespace Sys2Proof.Machine

/-! ### How a command starts -/

theorem withNvl_op (v : W) {k : Nat} (hk : k < 2 ^ 4) : wbits (withNvl v k) 28 4 = k := by
  rw [withNvl, wbits_putField_same _ _ _ _ (by decide), Nat.mod_eq_of_lt hk]

theorem withNvl_length (v : W) (k : Nat) : wbits (withNvl v k) 0 9 = wbits v 0 9 :=
  wbits_putField_below v 28 4 k 0 9 (by decide) (by decide)

/-- A PROGRAM of `n` bytes at `a`, or an ERASE of the sector there, meets the copy in force (R518). -/
def nvlBarred (c : Chip) (op a n : Nat) : Bool :=
  (op = 2 && inActiveCopy c a n) || (op = 3 && inActiveCopy c (sectorOf a) 0x10000)

theorem nvlBarred_program (c : Chip) (a n : Nat) : nvlBarred c 2 a n = inActiveCopy c a n := by simp [nvlBarred]

theorem nvlBarred_erase (c : Chip) (a n : Nat) : nvlBarred c 3 a n = inActiveCopy c (sectorOf a) 0x10000 := by simp [nvlBarred]

section
variable {c : Chip} (h : reachable c NVL_CMD = true) (v : W) {op : Nat}
include h

/-- One written while a command runs is ignored. -/
theorem nvlWrite_busy (hbusy : c.glb.nvl ≠ none) : nvlWrite c v = c := by
  rw [nvlWrite, hostWrite_reach c _ _ h]
  exact if_pos (Option.isSome_iff_ne_none.mpr hbusy)

/-- A READ or PROGRAM longer than the page ends with BAD_CMD. -/
theorem nvlWrite_long (hidle : c.glb.nvl = none) (hop : op = 1 ∨ op = 2) (hlong : 256 < wbits v 0 9 + 1) :
    nvlWrite c (withNvl v op) = nvlEnd c 4 := by
  have hop4 : op < 2 ^ 4 := by omega
  rw [nvlWrite, hostWrite_reach c _ _ h]
  simp only [withNvl_op v hop4, withNvl_length, hidle]
  rcases hop with rfl | rfl <;> simp [hlong]

variable (hop : op = 1 ∨ op = 2 ∨ op = 3) (hlen : op ≠ 3 → wbits v 0 9 + 1 ≤ 256)
include hop hlen

/-- What a command of a good form does on an idle NVL. -/
theorem nvlWrite_idle (hidle : c.glb.nvl = none) :
    nvlWrite c (withNvl v op) = if nvlBarred c op (rn c NVL_ADDR) (wbits v 0 9 + 1) then nvlEnd c 2
      else wr { c with glb := { c.glb with nvl := some (withNvl v op, rd c NVL_ADDR) } } NVL_STAT (toW (2 ^ 31)) := by
  have hop4 : op < 2 ^ 4 := by omega
  have hbad : (op = 0 || 3 < op || (op != 3 && 256 < wbits v 0 9 + 1)) = false := by
    rcases hop with rfl | rfl | rfl
    · simpa using hlen (by decide)
    · simpa using hlen (by decide)
    · rfl
  rw [nvlWrite, hostWrite_reach c _ _ h]
  simp only [withNvl_op v hop4, withNvl_length, hidle]
  rw [hbad]
  rfl

theorem nvlWrite_barred (hidle : c.glb.nvl = none) (hbar : nvlBarred c op (rn c NVL_ADDR) (wbits v 0 9 + 1) = true) :
    nvlWrite c (withNvl v op) = nvlEnd c 2 := by
  rw [nvlWrite_idle h v hop hlen hidle, if_pos hbar]

theorem nvlWrite_starts (hidle : c.glb.nvl = none) (hbar : nvlBarred c op (rn c NVL_ADDR) (wbits v 0 9 + 1) = false) :
    nvlWrite c (withNvl v op)
      = wr { c with glb := { c.glb with nvl := some (withNvl v op, rd c NVL_ADDR) } } NVL_STAT (toW (2 ^ 31)) := by
  rw [nvlWrite_idle h v hop hlen hidle, hbar]
  rfl

end

/-! ### How a command ends -/

section
variable {c : Chip} {v a : W} (hrun : c.glb.nvl = some (v, a))
include hrun

theorem nvlDone_error : nvlDone c true = raise (nvlEnd c 3) srcNVL_WRITE_ERR 0 := by
  simp only [nvlDone, hrun]
  rfl

/-- A READ fills the page buffer. -/
theorem nvlDone_read (hop : wbits v 28 4 = 1) :
    nvlDone c false = nvlEnd (setPage c (putBytes (pageBytes c) 0 (norBytes c a.toNat (wbits v 0 9 + 1)))) 1 := by
  simp only [nvlDone, hrun, hop]
  rfl

/-- A PROGRAM writes the page buffer's bytes. -/
theorem nvlDone_program (hop : wbits v 28 4 = 2) :
    nvlDone c false = nvlEnd (norWrite c a.toNat ((pageBytes c).take (wbits v 0 9 + 1))) 1 := by
  simp only [nvlDone, hrun, hop]
  rfl

/-- An ERASE clears a sector. -/
theorem nvlDone_erase (hop : wbits v 28 4 ≠ 1) (hop' : wbits v 28 4 ≠ 2) :
    nvlDone c false = nvlEnd (norWrite c (sectorOf a.toNat) (List.replicate 0x10000 0xFF)) 1 := by
  simp only [nvlDone, hrun, if_neg hop, if_neg hop']
  rfl

end

theorem nvlDone_idle {c : Chip} (h : c.glb.nvl = none) (bad : Bool) : nvlDone c bad = c := by
  simp only [nvlDone, h]

/-- Settles O32, by whether a command runs, its form, and whether it meets the copy in force. -/
theorem norCommandsAct : Obligations.NorCommandsAct := by
  unfold Obligations.NorCommandsAct
  refine ⟨?starts, ?refused, fun s b hs hidle => exec_to (exec_nvlDone s) hs (nvlDone_idle hidle b), ?ends⟩
  case starts =>
    intro s v ⟨hs, hr⟩ hidle a n st
    have hn : ∀ k, n k = wbits v 0 9 + 1 := fun k => congrArg (· + 1) (withNvl_length v k)
    simp only [hn]
    refine ⟨fun hlen => ?_, fun hlen hbar => ?_, fun hbar => ?_⟩
    · exact exec_to (exec_nvlRead s) hs (nvlWrite_starts hr v (.inl rfl) (fun _ => hlen) hidle rfl)
    · exact exec_to (exec_nvlProgram s) hs
        (nvlWrite_starts hr v (.inr (.inl rfl)) (fun _ => hlen) hidle ((nvlBarred_program _ _ _).trans hbar))
    · exact exec_to (exec_nvlErase s) hs
        (nvlWrite_starts hr v (.inr (.inr rfl)) (absurd rfl) hidle ((nvlBarred_erase _ _ _).trans hbar))
  case refused =>
    intro s v ⟨hs, hr⟩ a n fin
    refine ⟨fun hbusy => ?_, fun hidle => ⟨fun hlong => ?_, fun hlen hbar => ?_, fun hbar => ?_⟩⟩
    · exact ⟨exec_to (exec_nvlRead s) hs (nvlWrite_busy hr _ hbusy), exec_to (exec_nvlProgram s) hs (nvlWrite_busy hr _ hbusy),
        exec_to (exec_nvlErase s) hs (nvlWrite_busy hr _ hbusy)⟩
    · exact ⟨exec_to (exec_nvlRead s) hs (nvlWrite_long hr v hidle (.inl rfl) hlong),
        exec_to (exec_nvlProgram s) hs (nvlWrite_long hr v hidle (.inr rfl) hlong)⟩
    · exact exec_to (exec_nvlProgram s) hs
        (nvlWrite_barred hr v (.inr (.inl rfl)) (fun _ => hlen) hidle ((nvlBarred_program _ _ _).trans hbar))
    · exact exec_to (exec_nvlErase s) hs
        (nvlWrite_barred hr v (.inr (.inr rfl)) (absurd rfl) hidle ((nvlBarred_erase _ _ _).trans hbar))
  case ends =>
    intro s v a hs hrun n fin page put cleared
    refine ⟨exec_to (exec_nvlDone s) hs (nvlDone_error hrun), fun hop => exec_to (exec_nvlDone s) hs (nvlDone_read hrun hop),
      fun hop => exec_to (exec_nvlDone s) hs (nvlDone_program hrun hop),
      fun hop => exec_to (exec_nvlDone s) hs (nvlDone_erase hrun (by simp [hop]) (by simp [hop]))⟩

end Sys2Proof.Machine
end

section
/-! The bus matrix and the memories it writes (R524–R537), and the registers that cannot be reached (R508, R559). -/

open Sys2Proof

namespace Sys2Proof.Machine

/-! ### What an error of the matrix changes (R530) -/

/-- Between `c` and `d` the matrix has met errors: its error registers, and events raised. -/
structure Noted (c d : Chip) : Prop where
  rest : ∃ regs raised limit, d = { c with regs := regs, att := { c.att with raised := raised, limit := limit } }
  regs : ∀ b, OutsideErrors b → rd d b = rd c b

section
variable {c d e : Chip}

theorem Noted.refl (c : Chip) : Noted c c := ⟨⟨_, _, _, rfl⟩, fun _ _ => rfl⟩

theorem Noted.trans (h : Noted c d) (h' : Noted d e) : Noted c e := by
  obtain ⟨⟨_, _, _, rfl⟩, hr⟩ := h
  obtain ⟨⟨_, _, _, rfl⟩, hr'⟩ := h'
  exact ⟨⟨_, _, _, rfl⟩, fun b hb => (hr' b hb).trans (hr b hb)⟩

theorem Noted.wr (c : Chip) {a : Nat} (v : W) (ha : ¬ OutsideErrors a) : Noted c (wr c a v) :=
  ⟨⟨_, _, _, rfl⟩, fun _ hb => rd_wr_outsideErrors c v hb ha⟩

theorem Noted.countUp (c : Chip) {a : Nat} (n : Nat) (ha : ¬ OutsideErrors a) : Noted c (countUp c a n) := Noted.wr c _ ha

theorem Noted.raise (c : Chip) (k : Nat) (v : W) : Noted c (raise c k v) := ⟨⟨_, _, _, rfl⟩, fun _ _ => rfl⟩

theorem Noted.raiseLimited (c : Chip) (k : Nat) (v : W) : Noted c (raiseLimited c k v) := by
  unfold Machine.raiseLimited
  split
  · exact Noted.refl c
  · exact ⟨⟨_, _, _, rfl⟩, fun _ _ => rfl⟩

theorem Noted.errorEvent (c : Chip) (k m n : Nat) : Noted c (errorEvent c k m n) := by
  unfold Machine.errorEvent
  split
  · exact Noted.raiseLimited c _ _
  split
  · exact Noted.raiseLimited c _ _
  split
  · exact Noted.raise c _ _
  split
  · exact Noted.raise c _ _
  split
  · exact Noted.raise c _ _
  · exact Noted.refl c

theorem Noted.ite {p : Prop} [Decidable p] (h : Noted c d) (h' : Noted c e) : Noted c (if p then d else e) := by
  split
  · exact h
  · exact h'

theorem Noted.matrixError (c : Chip) (k m t : Nat) (w : Bool) (a n : Nat) : Noted c (matrixError c k m t w a n) := by
  have hstat : Noted c (Machine.wr c XBR_STAT (toW (rn c XBR_STAT ||| errorBits k))) := Noted.wr c _ (by decide)
  have hcount := hstat.ite (p := (k = 4 || k = 5) = true) (hstat.trans (Noted.countUp _ (a := XBR_ERR_CNT) 1 (by decide)))
  have hrecord := fun d (i lo hi : W) => (Noted.wr d (a := XBR_ERR_INFO) i (by decide)).trans
    ((Noted.wr _ (a := XBR_ERR_ADDR_LO) lo (by decide)).trans (Noted.wr _ (a := XBR_ERR_ADDR_HI) hi (by decide)))
  exact ((hcount.trans (hrecord _ _ _ _)).ite hcount).trans (Noted.errorEvent _ _ _ _)

/-- The error registers stand in the block of the interconnect. -/
theorem outsideErrors_of_block {b : Nat} (h : b / 0x100000 ≠ 21) : OutsideErrors b := by
  have hlo : XBR_STAT = 0x1500000 := rfl
  have hhi : XBR_ERR_CNT < 0x1600000 := by decide
  unfold OutsideErrors
  omega

theorem Noted.keeps (h : Noted c d) : Keeps [21] [] c d := by
  obtain ⟨⟨_, _, _, rfl⟩, hr⟩ := h
  exact ⟨fun a ha _ => hr a (outsideErrors_of_block (by simpa using ha)), rfl, rfl, rfl, rfl⟩

end

/-- The status bits of the error are set (R552). -/
theorem rd_matrixError_stat (c : Chip) (k m t : Nat) (w : Bool) (a n : Nat) :
    rd (matrixError c k m t w a n) XBR_STAT = toW (rn c XBR_STAT ||| errorBits k) := by
  have hother : ∀ (d : Chip) (r : Nat) (v : W), r ∈ [XBR_ERR_INFO, XBR_ERR_ADDR_LO, XBR_ERR_ADDR_HI, XBR_ERR_CNT] →
      rd (wr d r v) XBR_STAT = rd d XBR_STAT := fun d r v hr => rd_wr_other d v (by fin_cases hr <;> decide)
  unfold matrixError
  simp only [rd_errorEvent]
  split <;> split <;> simp [countUp, hother]

/-! ### Registers that cannot be reached (R508, R530, R559) -/

theorem not_reachable_of_halted {c : Chip} {a : Nat} (h : bootHalted c = true) (ha : 0x100000 ≤ a) (hn : a / 0x100000 ≠ 2) :
    reachable c a = false := by
  simp [reachable, h, Nat.not_lt.mpr ha, hn]

theorem not_reachable_of_domainOff {c : Chip} {a d : Nat} (ha : domainOf a = some d) (hd : domainOn c d = false) :
    reachable c a = false := by
  simp [reachable, ha, hd]

section
variable {c : Chip} {m a : Nat} (ha : a % 4 = 0)
include ha

theorem masterWrite_halted (h : bootHalted c = true) (hr : reachable c a = false) (v : W) : masterWrite c m a 15 v = respond c 0 := by
  simp [masterWrite, ha, h, hr]

theorem masterRead_halted (h : bootHalted c = true) (hr : reachable c a = false) : masterRead c m a = answer c (toW (2 ^ 32 - 1)) := by
  simp [masterRead, ha, h, hr]

variable (h : bootHalted c = false) (ht : noTarget m a = false) (hr : reachable c a = false)
include h ht hr

theorem masterWrite_off (v : W) : masterWrite c m a 15 v = respond (targetOff c m true a) 2 := by
  simp [masterWrite, ha, h, ht, hr]

theorem masterRead_off : masterRead c m a = respondZero (targetOff c m false a) 2 := by
  simp [masterRead, ha, h, ht, hr]

end

theorem targetOff_error {c : Chip} (h : bootHalted c = false) (happly : c.twn.applying = false) (m : Nat) (w : Bool) (a : Nat) :
    targetOff c m w a = matrixError c 6 m (busTarget a) w (regAddress a) 0 := by
  simp [targetOff, h, happly]

/-- An access of a target that is off shows SLVERR (R552). -/
theorem slverr_matrixError (c : Chip) (m t : Nat) (w : Bool) (a n : Nat) : fldB (matrixError c 6 m t w a n) XBR_STAT_slverr = true := by
  have hbit : wbit (toW (rn c XBR_STAT ||| errorBits 6)) 30 = true := by
    rw [toW, BitVec.ofNat_or]
    exact wbit_or_forced _ (by decide)
  rw [fldB, fld_eq, show XBR_STAT_slverr.addr = XBR_STAT from rfl, rd_matrixError_stat]
  exact hbit

/-- An access of a block that is off ends with SLVERR; no register outside the interconnect's block and no memory changes. -/
theorem respond_targetOff {c : Chip} (h : bootHalted c = false) (happly : c.twn.applying = false) (m : Nat) (w : Bool) (a : Nat) :
    Keeps [21] [] c (targetOff c m w a) ∧ fldB (targetOff c m w a) XBR_STAT_slverr = true := by
  rw [targetOff_error h happly]
  exact ⟨(Noted.matrixError c 6 m _ w _ 0).keeps, slverr_matrixError c m _ w _ 0⟩

/-- Settles O55: in a boot halt by the blocks that answer there, else by the error of a target that is off. -/
theorem unreachableRegistersKeepTheirValues : Obligations.UnreachableRegistersKeepTheirValues := by
  unfold Obligations.UnreachableRegistersKeepTheirValues
  refine ⟨fun s a v hs hhalt ha hlow hnvl => ?halted, fun s a v d hs hrun ha ht hd hoff happly => ?off⟩
  case halted =>
    have hr := not_reachable_of_halted hhalt hlow hnvl
    exact ⟨exec_to (exec_registerWrite s) hs (masterWrite_halted ha hhalt hr v),
      exec_to (exec_clearOnRead s) hs (masterRead_halted ha hhalt hr)⟩
  case off =>
    have hr := not_reachable_of_domainOff hd hoff
    have hno : noTarget 1 a.toNat = false := by simp [noTarget, regMaster, ht]
    obtain ⟨hwkeep, hwerr⟩ := respond_targetOff hrun happly 1 true a.toNat
    obtain ⟨hrkeep, hrerr⟩ := respond_targetOff hrun happly 1 false a.toNat
    exact ⟨respond (targetOff s.chip 1 true a.toNat) 2, respondZero (targetOff s.chip 1 false a.toNat) 2,
      exec_to (exec_registerWrite s) hs (masterWrite_off ha hrun hno hr v), rfl, hwkeep, hwerr,
      exec_to (exec_clearOnRead s) hs (masterRead_off ha hrun hno hr), rfl, rfl, hrkeep, hrerr⟩

/-! ### A transaction of LPDDR6 (R530, R535–R537) -/

/-- LPDDR6 and the block GLB, with NOR and MRAM, are as before. -/
structure MemoryKept (c d : Chip) : Prop where
  ddr : d.ddr = c.ddr
  glb : d.glb = c.glb

theorem Noted.memoryKept {c d : Chip} (h : Noted c d) : MemoryKept c d := by
  obtain ⟨⟨_, _, _, rfl⟩, -⟩ := h
  exact ⟨rfl, rfl⟩

theorem memoryKept_eccCorrected (c : Chip) (ch : Nat) : MemoryKept c (eccCorrected c ch) :=
  have h := (Noted.raiseLimited (countUp c (DDR_CH_CORR ch) 1) (srcDDR_ECC_CORR ch) 0).memoryKept
  ⟨h.ddr.trans (countUp_ddr _ _ _), h.glb.trans (countUp_glb _ _ _)⟩

theorem memoryKept_eccUncorrected (c : Chip) (a : Nat) : MemoryKept c (eccUncorrected c a) := by
  constructor <;> simp [eccUncorrected]

theorem MemoryKept.trans {c d e : Chip} (h : MemoryKept c d) (h' : MemoryKept d e) : MemoryKept c e :=
  ⟨h'.ddr.trans h.ddr, h'.glb.trans h.glb⟩

/-- What a transaction `q` of LPDDR6 leaves: NOR and MRAM as before, and of LPDDR6 only bytes of its run changed, none of them
unless it is a granted write. -/
structure Served (c : Chip) (q : MatrixReq) (d : Chip) : Prop where
  nor : d.glb.nor = c.glb.nor
  mram : d.glb.mram = c.glb.mram
  unwritten : q.write = none ∨ ddrMay c q.master true (q.addr % 2 ^ 36) q.len = false → d.ddr = c.ddr
  outside : ∀ l, q.write = some l → ∀ b, (b < q.addr % 2 ^ 36 ∨ q.addr % 2 ^ 36 + l.length ≤ b) → ddrByte d b = ddrByte c b

section
variable {c d : Chip} {q : MatrixReq}

theorem MemoryKept.served (h : MemoryKept c d) (q : MatrixReq) : Served c q d where
  nor := by rw [h.glb]
  mram := by rw [h.glb]
  unwritten _ := h.ddr
  outside _ _ b _ := by unfold ddrByte; rw [h.ddr]

theorem Served.answer (h : Served c q d) (l : List Byte) (resp : Nat) : Served c q (matrixAnswer d l resp) :=
  ⟨h.nor, h.mram, h.unwritten, h.outside⟩

/-- A granted write of bytes within the run. -/
theorem Served.write (h : Served c q d) {l p : List Byte} {a : Nat} (hw : q.write = some l)
    (hmay : ddrMay c q.master true (q.addr % 2 ^ 36) q.len = true)
    (hin : ∀ b, (b < q.addr % 2 ^ 36 ∨ q.addr % 2 ^ 36 + l.length ≤ b) → (b < a ∨ a + p.length ≤ b)) :
    Served c q (ddrWrite d a p) where
  nor := h.nor
  mram := h.mram
  unwritten hno := by
    rw [hw, hmay] at hno
    simp at hno
  outside l' hl b hb := by
    obtain rfl : l = l' := Option.some.inj (hw.symm.trans hl)
    rw [ddrByte_ddrWrite_other _ _ _ (hin b hb)]
    exact h.outside l hw b hb

theorem targetWrite_ddr {t : Nat} (ht : t < 4) (c : Chip) (a : Nat) (l : List Byte) : targetWrite c t a l = ddrWrite c a l := if_pos ht

theorem served_matrixFail (h : MemoryKept c d) (t kind resp : Nat) : Served c q (matrixFail d t q kind resp) :=
  ((h.trans (Noted.matrixError d _ _ _ _ _ _).memoryKept).served q).answer _ _

theorem served_beatFail (h : MemoryKept c d) {t : Nat} (ht : t < 4)
    (hmay : q.write.isSome = true → ddrMay c q.master true (q.addr % 2 ^ 36) q.len = true) (kind b : Nat) :
    Served c q (beatFail d t q kind b) := by
  have herr := ((h.trans (Noted.matrixError d kind q.master t q.write.isSome (q.addr / 32 * 32 + 32 * b) 0).memoryKept).served q)
  unfold beatFail
  cases hw : q.write with
  | none =>
    rw [hw] at herr
    exact herr.answer _ _
  | some l =>
    rw [hw] at herr
    have hmay := hmay (by rw [hw]; rfl)
    simp only [targetWrite_ddr ht]
    refine ((herr.write hw hmay fun x hx => ?_).write hw hmay fun x hx => ?_).answer _ _
    · have := List.length_take_le' (beatSpan q b).1 l
      omega
    · have := List.length_drop (i := (beatSpan q b).1 + (beatSpan q b).2) (l := l)
      omega

/-- A denied transaction of LPDDR6 ends with DECERR (R530, R537). -/
theorem burstServe_denied {t : Nat} (ht : t < 4) (h : ddrMay c q.master q.write.isSome (q.addr % 2 ^ 36) q.len = false) (err b : Nat) :
    burstServe c t q err b = matrixFail c t q 1 1 := by
  unfold burstServe
  rw [if_pos (by simp [ht, h, -Nat.reducePow])]

/-- A granted read in which the memory finds no error answers its bytes. -/
theorem burstServe_read {t : Nat} (ht : t < 4) (hw : q.write = none) (h : ddrMay c q.master false (q.addr % 2 ^ 36) q.len = true)
    (b : Nat) : burstServe c t q 0 b = matrixAnswer c (ddrBytes c (q.addr % 2 ^ 36) q.len) 0 := by
  have h9 : ¬ 9 ≤ t := by omega
  simp [burstServe, hw, h, h9, ht, targetBytes, -Nat.reducePow]

/-- A granted write in which the memory finds no error is written. -/
theorem burstServe_write {t : Nat} (ht : t < 4) {l : List Byte} (hw : q.write = some l)
    (h : ddrMay c q.master true (q.addr % 2 ^ 36) q.len = true) (b : Nat) :
    burstServe c t q 0 b = matrixAnswer (ddrWrite c (q.addr % 2 ^ 36) l) [] 0 := by
  have h9 : ¬ 9 ≤ t := by omega
  simp [burstServe, hw, h, h9, targetWrite_ddr ht, -Nat.reducePow]

theorem served_burst {t : Nat} (ht : t < 4) (c : Chip) (q : MatrixReq) (err b : Nat) : Served c q (burstServe c t q err b) := by
  have hkept : MemoryKept c c := ⟨rfl, rfl⟩
  cases hmay : ddrMay c q.master q.write.isSome (q.addr % 2 ^ 36) q.len with
  | false =>
    rw [burstServe_denied ht hmay]
    exact served_matrixFail hkept t 1 1
  | true =>
    have hgranted : q.write.isSome = true → ddrMay c q.master true (q.addr % 2 ^ 36) q.len = true := fun h => h ▸ hmay
    have h9 : ¬ 9 ≤ t := by omega
    unfold burstServe
    rw [if_neg (by simp [hmay, -Nat.reducePow]), if_neg (by simp [h9])]
    split
    · exact served_beatFail hkept ht hgranted 7 b
    split
    · exact served_beatFail (memoryKept_eccUncorrected c _) ht hgranted 2 b
    have hnote : MemoryKept c (if (b < reqBeats q && err = 3 && t < 4) = true then eccCorrected c t else c) := by
      split
      · exact memoryKept_eccCorrected c t
      · exact hkept
    cases hw : q.write with
    | none => exact (hnote.served q).answer _ _
    | some l =>
      dsimp only
      rw [targetWrite_ddr ht]
      exact ((hnote.served q).write hw (hgranted (by rw [hw]; rfl)) fun x hx => hx).answer _ _

end

/-! ### The end of a transaction -/

/-- The path of target `t` is released. -/
def released (c : Chip) (t : Nat) : Chip := { c with xbr := { c.xbr with busy := mapDel c.xbr.busy t } }

theorem ddrMay_released (c : Chip) (t m : Nat) (w : Bool) (a n : Nat) : ddrMay (released c t) m w a n = ddrMay c m w a n := rfl

section
variable {c : Chip} {t : Nat}

theorem matrixResponse_idle (h : mapGet c.xbr.busy t = none) (err b : Nat) : matrixResponse c t err b = c := by
  simp only [matrixResponse, h]

theorem matrixResponse_burst {q : MatrixReq} (h : mapGet c.xbr.busy t = some q) (ht : t < 4) (err b : Nat) :
    matrixResponse c t err b = burstServe (released c t) t q err b := by
  simp only [matrixResponse, h]
  rw [if_pos (by simp [ht])]
  rfl

theorem matrixResponse_single {q : MatrixReq} (h : mapGet c.xbr.busy t = some q) (ht : 4 ≤ t) (ht' : t < 9) (err b : Nat) :
    matrixResponse c t err b = singleServe (released c t) t q err := by
  have h4 : ¬ t < 4 := by omega
  have h9 : ¬ 9 ≤ t := by omega
  simp only [matrixResponse, h]
  rw [if_neg (by simp [h4, h9])]
  rfl

theorem targetTimeout_idle (h : mapGet c.xbr.busy t = none) : targetTimeout c t = c := by
  simp only [targetTimeout, h]

theorem targetTimeout_busy {q : MatrixReq} (h : mapGet c.xbr.busy t = some q) :
    targetTimeout c t = matrixFail (released c t) t q 3 2 := by
  simp only [targetTimeout, h]
  rfl

end

/-- The next state of a live command is the one its rule gives. -/
theorem next_unique {i : Instr} {s t u : State} (h : exec i s = .next u) (h' : exec i s = .next t) : t = u := by
  rw [h] at h'
  cases h'
  rfl

/-! ### NVL PROGRAM and ERASE (R518) -/

theorem setPage_regs (c : Chip) (l : List Byte) : ∃ m, setPage c l = { c with regs := m } := by
  unfold setPage
  generalize (List.range 64).zip (bytesToWords 64 l) = es
  induction es generalizing c with
  | nil => exact ⟨c.regs, rfl⟩
  | cons e t ih => exact ih (wr c (NVL_DATA e.1) e.2)

/-- A command that writes the NOR leaves LPDDR6 and the MRAM. -/
theorem nvlEnd_norWrite_memories (c : Chip) (a n : Nat) (l : List Byte) :
    (nvlEnd (norWrite c a l) n).ddr = c.ddr ∧ (nvlEnd (norWrite c a l) n).glb.mram = c.glb.mram := ⟨rfl, rfl⟩

theorem rd_nvlEnd_norWrite_other (c : Chip) (a n : Nat) (l : List Byte) {r : Nat} (hr : r ≠ NVL_STAT) :
    rd (nvlEnd (norWrite c a l) n) r = rd c r := rd_wr_other (norWrite c a l) _ (Ne.symm hr)

theorem norBytes_nvlEnd (c : Chip) (k a n : Nat) : norBytes (nvlEnd c k) a n = norBytes c a n := rfl

theorem norByte_norWrite (c : Chip) (a b : Nat) (l : List Byte) :
    norBytes (norWrite c a l) b 1 = if a ≤ b ∧ b < a + l.length then [l.getD (b - a) 0xFF] else norBytes c b 1 := by
  simp only [norBytes, mapReadRun, norWrite, mapRead_mapWriteRun]
  split <;> rfl

theorem norBytes_norWrite_outside (c : Chip) {a b : Nat} {l : List Byte} (h : b < a ∨ a + l.length ≤ b) :
    norBytes (norWrite c a l) b 1 = norBytes c b 1 := by
  rw [norByte_norWrite, if_neg (by omega)]

/-- Settles O53: of the matrix by what its burst target leaves, of NVL_DONE by the bytes it writes to the NOR. -/
theorem memoryWritesTouchOnlyTheirBytes : Obligations.MemoryWritesTouchOnlyTheirBytes := by
  unfold Obligations.MemoryWritesTouchOnlyTheirBytes
  refine ⟨?matrix, ?nvl⟩
  case matrix =>
    intro s t p err beat q hs hq hp ht off
    obtain rfl := next_unique (exec_to (exec_matrixResponse s) hs (matrixResponse_burst hq hp err.val beat.toNat)) ht
    obtain ⟨hnor, hmram, hunwritten, houtside⟩ := served_burst hp (released s.chip p.val) q err.val beat.toNat
    refine ⟨hnor, hmram, hunwritten, houtside, fun l hw hmay herr => ?_⟩
    subst herr
    rw [Fin.val_zero, burstServe_write (c := released s.chip p.val) hp hw hmay]
    exact ⟨ddrBytes_ddrWrite_same _ _ _, fun a => rfl⟩
  case nvl =>
    intro s t v a hs hrun ht
    by_cases h1 : wbits v 28 4 = 1
    · obtain rfl := next_unique (exec_to (exec_nvlDone s) hs (nvlDone_read hrun h1)) ht
      obtain ⟨m, hm⟩ := setPage_regs s.chip (putBytes (pageBytes s.chip) 0 (norBytes s.chip a.toNat (wbits v 0 9 + 1)))
      rw [hm]
      exact ⟨rfl, rfl, fun h => absurd (h1.symm.trans h) (by decide), fun h => absurd (h1.symm.trans h) (by decide)⟩
    by_cases h2 : wbits v 28 4 = 2
    · obtain rfl := next_unique (exec_to (exec_nvlDone s) hs (nvlDone_program hrun h2)) ht
      obtain ⟨hddr, hmram⟩ := nvlEnd_norWrite_memories s.chip a.toNat 1 ((pageBytes s.chip).take (wbits v 0 9 + 1))
      refine ⟨hddr, hmram, fun _ => ⟨fun b hb => ?_, fun r hr => rd_nvlEnd_norWrite_other _ _ _ _ hr⟩,
        fun h => absurd (h2.symm.trans h) (by decide)⟩
      rw [norBytes_nvlEnd]
      have hlen := List.length_take_le (wbits v 0 9 + 1) (pageBytes s.chip)
      exact norBytes_norWrite_outside _ (by omega)
    · obtain rfl := next_unique (exec_to (exec_nvlDone s) hs (nvlDone_erase hrun h1 h2)) ht
      obtain ⟨hddr, hmram⟩ := nvlEnd_norWrite_memories s.chip (sectorOf a.toNat) 1 (List.replicate 0x10000 0xFF)
      refine ⟨hddr, hmram, fun h => absurd h h2,
        fun _ => ⟨fun b hb => ?_, fun b hlo hhi => ?_, fun r hr => rd_nvlEnd_norWrite_other _ _ _ _ hr⟩⟩
      · rw [norBytes_nvlEnd]
        exact norBytes_norWrite_outside _ (by rwa [List.length_replicate])
      · rw [norBytes_nvlEnd, norByte_norWrite, List.length_replicate, if_pos ⟨hlo, hhi⟩, List.getD_replicate]
        exact Nat.sub_lt_left_of_lt_add hlo hhi

/-! ### The grant of a target's port (R525–R527) -/

section
variable (c : Chip) (t : Nat)

theorem grantBefore_iff (q r : MatrixReq) : grantBefore c t q r = true ↔
    matrixPriority c r.master t < matrixPriority c q.master t
      ∨ (matrixPriority c q.master t = matrixPriority c r.master t
        ∧ (grantAge c t q.master < grantAge c t r.master
          ∨ (grantAge c t q.master = grantAge c t r.master ∧ q.master < r.master))) := by
  simp [grantBefore]

theorem chooseGrant_none {l : List MatrixReq} (h : chooseGrant c t l = none) : l = [] := by
  cases l with
  | nil => rfl
  | cons x rest =>
    simp only [chooseGrant] at h
    split at h
    · cases h
    · split at h <;> cases h

/-- The request taken is one of those waiting, and none of them goes before it. -/
theorem chooseGrant_some {l : List MatrixReq} {q : MatrixReq} (h : chooseGrant c t l = some q) :
    q ∈ l ∧ ∀ r ∈ l, ¬ grantBefore c t r q = true := by
  induction l generalizing q with
  | nil => cases h
  | cons x rest ih =>
    have hirrefl : ¬ grantBefore c t x x = true := by
      rw [grantBefore_iff]
      omega
    cases hrest : chooseGrant c t rest with
    | none =>
      simp only [chooseGrant, hrest] at h
      cases h
      obtain rfl := chooseGrant_none c t hrest
      exact ⟨List.mem_singleton.mpr rfl, fun r hr => by rw [List.mem_singleton.mp hr]; exact hirrefl⟩
    | some y =>
      obtain ⟨hmem, hfirst⟩ := ih hrest
      simp only [chooseGrant, hrest] at h
      split at h
      next hbefore =>
        cases h
        refine ⟨List.mem_cons_of_mem x hmem, fun r hr => ?_⟩
        rcases List.mem_cons.mp hr with rfl | hr
        · rw [grantBefore_iff] at hbefore ⊢
          omega
        · exact hfirst r hr
      next hbefore =>
        cases h
        refine ⟨List.mem_cons_self, fun r hr => ?_⟩
        rcases List.mem_cons.mp hr with rfl | hr
        · exact hirrefl
        · have := hfirst r hr
          rw [grantBefore_iff] at hbefore this ⊢
          omega

/-- A master that was granted has an age, and masters of one age are the same. -/
theorem grantAge_of_mem {m : Nat} (h : m ∈ grantedAt c t) : grantAge c t m = (grantedAt c t).idxOf m + 1 := by
  simp [grantAge, h]

theorem grantAge_of_not_mem {m : Nat} (h : m ∉ grantedAt c t) : grantAge c t m = 0 := by
  simp [grantAge, h]

/-- The one chosen has the highest priority; of those with it, its master was granted least recently, the lower ID where neither was. -/
theorem chosen_first {q r : MatrixReq} (h : ¬ grantBefore c t r q = true) :
    matrixPriority c r.master t ≤ matrixPriority c q.master t
      ∧ (matrixPriority c r.master t = matrixPriority c q.master t → r.master ≠ q.master →
        (r.master ∈ grantedAt c t → q.master ∈ grantedAt c t → (grantedAt c t).idxOf q.master < (grantedAt c t).idxOf r.master)
        ∧ (r.master ∉ grantedAt c t → q.master ∉ grantedAt c t) ∧ (r.master ∉ grantedAt c t → q.master < r.master)) := by
  rw [grantBefore_iff] at h
  refine ⟨by omega, fun hpri hne => ⟨fun hr hq => ?_, fun hr hq => ?_, fun hr => ?_⟩⟩
  · rw [grantAge_of_mem c t hr, grantAge_of_mem c t hq] at h
    have hidx : (grantedAt c t).idxOf r.master ≠ (grantedAt c t).idxOf q.master := fun heq => hne ((List.idxOf_inj hr).mp heq)
    omega
  · rw [grantAge_of_not_mem c t hr, grantAge_of_mem c t hq] at h
    omega
  · rw [grantAge_of_not_mem c t hr] at h
    omega

/-- The port of target `t` is granted to `q` (R527). -/
def grantedTo (q : MatrixReq) : Chip :=
  { c with xbr := { c.xbr with
    busy := mapPut c.xbr.busy t q, granted := mapPut c.xbr.granted t ((grantedAt c t).filter (· != q.master) ++ [q.master]) } }

/-- The requests that wait for a grant: legal ones of masters with no transaction outstanding (R526). -/
def waiting (reqs : List MatrixReq) : List MatrixReq :=
  reqs.filter (fun q => reqLegal q && !(c.xbr.busy.map (·.2.master)).contains q.master)

/-- What a target's port does with the requests `l` that wait: a free one is granted to the one it takes. -/
def grantOn (l : List MatrixReq) : Chip :=
  if (mapGet c.xbr.busy t).isSome then c
  else
    match chooseGrant c t (l.filter (fun q => matrixTarget c q.master q.addr == some t)) with
    | none => c
    | some q => grantedTo c t q

theorem matrixGrant_eq (reqs : List MatrixReq) : matrixGrant c t reqs =
    grantOn (((waiting c reqs).filter (fun q => (matrixTarget c q.master q.addr).isNone)).foldl noTargetEnd c) t (waiting c reqs) :=
  rfl

theorem busy_grantedTo (q : MatrixReq) : mapGet (grantedTo c t q).xbr.busy t = some q := (mapGet_mapPut _ _ _ _).trans (if_pos rfl)

theorem grantedAt_grantedTo (q : MatrixReq) :
    grantedAt (grantedTo c t q) t = (grantedAt c t).filter (· != q.master) ++ [q.master] := by
  have hget : mapGet (grantedTo c t q).xbr.granted t = some ((grantedAt c t).filter (· != q.master) ++ [q.master]) :=
    (mapGet_mapPut _ _ _ _).trans (if_pos rfl)
  rw [grantedAt, hget, Option.getD_some]

variable {c t}

theorem grantOn_taken (h : mapGet c.xbr.busy t ≠ none) (l : List MatrixReq) : grantOn c t l = c :=
  if_pos (Option.isSome_iff_ne_none.mpr h)

theorem grantOn_free (h : mapGet c.xbr.busy t = none) {l : List MatrixReq} {q : MatrixReq}
    (hq : chooseGrant c t (l.filter (fun q => matrixTarget c q.master q.addr == some t)) = some q) : grantOn c t l = grantedTo c t q := by
  unfold grantOn
  rw [h, hq]
  rfl

theorem grantOn_nobody {l : List MatrixReq} (hl : l.filter (fun q => matrixTarget c q.master q.addr == some t) = []) :
    grantOn c t l = c := by
  rw [grantOn, hl]
  exact ite_self c

end

section
variable {c : Chip} {t : Nat} {reqs : List MatrixReq}

theorem matrixGrant_served (hall : reqs.all (fun q => reqLegal q && (matrixTarget c q.master q.addr).isSome) = true) :
    matrixGrant c t reqs = grantOn c t (waiting c reqs) := by
  have hnone : (waiting c reqs).filter (fun q => (matrixTarget c q.master q.addr).isNone) = [] := by
    rw [List.filter_eq_nil_iff]
    intro q hq
    have h := List.all_eq_true.mp hall q (List.mem_of_mem_filter hq)
    rw [Bool.and_eq_true] at h
    simp [Option.isSome_iff_ne_none.mp h.2]
  rw [matrixGrant_eq, hnone]
  rfl

end

/-- An error of the matrix moves no address to another target. -/
theorem matrixTarget_noTargetEnd (c : Chip) (q : MatrixReq) (m a : Nat) : matrixTarget (noTargetEnd c q) m a = matrixTarget c m a := by
  have hremap : fldB (noTargetEnd c q) GLB_CTL_remap = fldB c GLB_CTL_remap := by
    have hr : rd (noTargetEnd c q) GLB_CTL_remap.addr = rd c GLB_CTL_remap.addr := rd_matrixError_outside c _ _ _ _ _ _ (by decide)
    rw [fldB, fld_eq, hr, fldB, fld_eq]
  simp only [matrixTarget, localTarget, hremap]

/-- A request that no target serves ends with DECERR (R522, R530). -/
theorem matrixGrant_nowhere {c : Chip} (t : Nat) {q : MatrixReq} (hlegal : reqLegal q = true)
    (hnone : matrixTarget c q.master q.addr = none) (hidle : (c.xbr.busy.map (·.2.master)).contains q.master = false) :
    matrixGrant c t [q] = noTargetEnd c q := by
  have hwaits : waiting c [q] = [q] := List.filter_cons_of_pos (by rw [hlegal, hidle]; rfl)
  have hends : [q].filter (fun r => (matrixTarget c r.master r.addr).isNone) = [q] := by simp [hnone]
  rw [matrixGrant_eq, hwaits, hends]
  exact grantOn_nobody (by simp [matrixTarget_noTargetEnd, hnone])

/-! ### A single target, and a master that resets (R524, R531) -/

section
variable {c : Chip} {q : MatrixReq}

theorem singleServe_long (h : 4 < q.len) (t err : Nat) :
    singleServe c t q err = matrixAnswer (accessError c q.master q.write.isSome (q.addr % 2 ^ 36) true) (zeroData q) 1 := if_pos h

theorem singleServe_read (h : q.len ≤ 4) {err : Nat} (he : err ≠ 2) (hw : q.write = none) (t : Nat) :
    singleServe c t q err = matrixAnswer (masterRead c q.master (q.addr % 2 ^ 36))
      ((leBytes 4 (masterRead c q.master (q.addr % 2 ^ 36)).readData.toNat).take q.len) (masterRead c q.master (q.addr % 2 ^ 36)).readResp := by
  unfold singleServe
  rw [if_neg (Nat.not_lt.mpr h), if_neg he, hw]

theorem singleServe_write (h : q.len ≤ 4) {err : Nat} (he : err ≠ 2) {l : List Byte} (hw : q.write = some l) (t : Nat) :
    singleServe c t q err = matrixAnswer
      (masterWrite c q.master (q.addr % 2 ^ 36) (BitVec.ofNat 4 (2 ^ q.len - 1)) (toW (leNat l))) []
      (masterWrite c q.master (q.addr % 2 ^ 36) (BitVec.ofNat 4 (2 ^ q.len - 1)) (toW (leNat l))).readResp := by
  unfold singleServe
  rw [if_neg (Nat.not_lt.mpr h), if_neg he, hw]

end

theorem masterReset_idle {c : Chip} {m : Nat} (h : c.xbr.busy.find? (fun e => e.2.master == m) = none) (n : Nat) :
    masterReset c m n = c := by
  simp only [masterReset, h]

/-- The beats of a read that are left are abandoned. -/
theorem masterReset_read {c : Chip} {m t n : Nat} {q : MatrixReq} (h : c.xbr.busy.find? (fun e => e.2.master == m) = some (t, q))
    (hw : q.write = none) (hn : n ≠ 0) : masterReset c m n = matrixError (released c t) 4 m t false q.addr (min n (reqBeats q)) := by
  simp only [masterReset, h, hw, if_neg hn]
  rfl

/-- Settles O33: a grant by whether the port is free and the requests have a target, an answer by the kind of target. -/
theorem matrixGrantsAndAnswers : Obligations.MatrixGrantsAndAnswers := by
  unfold Obligations.MatrixGrantsAndAnswers
  refine ⟨?free, ?taken, ?nowhere, ?idle, ?single, ?burst, ?timeout, ?reset⟩
  case free =>
    intro s t reqs q hs hall hfree l hq
    exact exec_to (exec_matrixGrant s) hs ((matrixGrant_served hall).trans (grantOn_free hfree hq))
  case taken =>
    intro s t reqs hs hall hbusy
    exact exec_to (exec_matrixGrant s) hs ((matrixGrant_served hall).trans (grantOn_taken hbusy _))
  case nowhere =>
    intro s t q hs hlegal hnone hidle
    exact exec_to (exec_matrixGrant s) hs (matrixGrant_nowhere t hlegal hnone hidle)
  case idle =>
    intro s t err beat m beats hs
    exact ⟨fun h => ⟨exec_to (exec_matrixResponse s) hs (matrixResponse_idle h _ _), exec_to (exec_targetTimeout s) hs (targetTimeout_idle h)⟩,
      fun h => exec_to (exec_masterReset s) hs (masterReset_idle h _)⟩
  case single =>
    intro s t err beat q hs hq ht ht' c off
    have hend := fun d (h : singleServe c t q err = d) => exec_to (exec_matrixResponse s (beat := beat)) hs
      ((matrixResponse_single hq ht ht' err beat.toNat).trans h)
    refine ⟨fun h => hend _ (singleServe_long h _ _), fun h he hw => hend _ (singleServe_read h ?_ hw _),
      fun l h he hw => hend _ (singleServe_write h ?_ hw _)⟩
    all_goals exact fun h2 => he (Fin.ext h2)
  case burst =>
    intro s t err beat q hs hq ht c off
    have hend := fun d (h : burstServe c t q err beat.toNat = d) => exec_to (exec_matrixResponse s) hs
      ((matrixResponse_burst hq ht err beat.toNat).trans h)
    refine ⟨fun h => hend _ (burstServe_denied ht h _ _), fun h hw he => hend _ ?_, fun l h hw he => hend _ ?_⟩
    all_goals subst he
    · exact burstServe_read ht hw h _
    · exact burstServe_write ht hw h _
  case timeout =>
    intro s t q hs hq c
    exact exec_to (exec_targetTimeout s) hs (targetTimeout_busy hq)
  case reset =>
    intro s m beats t q hs hq hw hn c
    exact exec_to (exec_masterReset s) hs (masterReset_read hq hw fun h => hn (BitVec.eq_of_toNat_eq h))

/-! ### Arbitration (R527) -/

/-- Legal requests for target `t` by masters with no transaction outstanding. -/
def RequestsFor (c : Chip) (t : Nat) (reqs : List MatrixReq) : Prop :=
  ∀ q ∈ reqs, reqLegal q = true ∧ matrixTarget c q.master q.addr = some t ∧ ∀ e ∈ c.xbr.busy, e.2.master ≠ q.master

section
variable {c : Chip} {t : Nat} {reqs : List MatrixReq} (h : RequestsFor c t reqs)
include h

theorem RequestsFor.all : reqs.all (fun q => reqLegal q && (matrixTarget c q.master q.addr).isSome) = true := by
  rw [List.all_eq_true]
  intro q hq
  obtain ⟨hlegal, htarget, -⟩ := h q hq
  simp [hlegal, htarget]

theorem RequestsFor.waiting : (waiting c reqs).filter (fun q => matrixTarget c q.master q.addr == some t) = reqs := by
  rw [Machine.waiting, List.filter_filter, List.filter_eq_self]
  intro q hq
  obtain ⟨hlegal, htarget, hidle⟩ := h q hq
  simpa [hlegal, htarget] using fun a x hx => hidle (a, x) hx

/-- A free port is granted to one of them before which none goes. -/
theorem RequestsFor.granted (hne : reqs ≠ []) (hfree : mapGet c.xbr.busy t = none) :
    ∃ q ∈ reqs, matrixGrant c t reqs = grantedTo c t q ∧ ∀ r ∈ reqs, ¬ grantBefore c t r q = true := by
  cases hq : chooseGrant c t reqs with
  | none => exact absurd (chooseGrant_none c t hq) hne
  | some q =>
    obtain ⟨hmem, hfirst⟩ := chooseGrant_some c t hq
    exact ⟨q, hmem, (matrixGrant_served h.all).trans (grantOn_free hfree (by rw [h.waiting, hq])), hfirst⟩

end

/-- Settles O56: the request chosen is one before which none of the others goes, by priority, then by age, then by ID. -/
theorem matrixArbitration : Obligations.MatrixArbitration := by
  unfold Obligations.MatrixArbitration
  refine ⟨fun s t reqs hs hne hreqs => ⟨fun hfree => ?_, fun hbusy => ?_⟩, priorities_at_reset, rfl⟩
  · obtain ⟨q, hq, hgrant, hfirst⟩ := RequestsFor.granted (c := s.chip) (t := t.val) hreqs hne hfree
    refine ⟨q, hq, grantedTo s.chip t.val q, exec_to (exec_matrixGrant s) hs hgrant, ?_, ?_, fun r hr => ?_, fun r hr => ?_⟩
    · exact busy_grantedTo s.chip t.val q
    · exact grantedAt_grantedTo s.chip t.val q
    · exact (chosen_first s.chip t.val (hfirst r hr)).1
    · exact (chosen_first s.chip t.val (hfirst r hr)).2
  · exact exec_to (exec_matrixGrant s) hs
      ((matrixGrant_served (RequestsFor.all (c := s.chip) (t := t.val) hreqs)).trans (grantOn_taken hbusy _))

end Sys2Proof.Machine
end

section
/-! XBR_BAR2_WIN keeps the bits outside its field (R14, R542). -/

open Sys2Proof

namespace Sys2Proof.Machine

/-- A device whose XBR_BAR2_WIN holds a bit outside its six: no write of the register gives it one, the state space has it. -/
def bar2Stray : State := { State.reset with chip := wr Chip.reset XBR_BAR2_WIN 0x40 }

theorem mayWrite_bar2Stray : MayWrite bar2Stray XBR_BAR2_WIN := ⟨rfl, by decide⟩

/-- A write leaves the bits that its access codes do not name (R14). -/
theorem rd_bar2Stray_write : rd (plainWrite bar2Stray.chip XBR_BAR2_WIN 0) XBR_BAR2_WIN = 0x40 := by decide

/-- Refutes O34: a write of XBR_BAR2_WIN stores its six bits and leaves the others, so a state where the register holds more than
them does not come to hold the six alone. -/
theorem not_memoryControllerAndPcieAct : ¬ Obligations.MemoryControllerAndPcieAct := by
  unfold Obligations.MemoryControllerAndPcieAct
  rintro ⟨-, -, hwindow, -⟩
  have hstate := next_unique (exec_to (exec_bar2WinWrite bar2Stray) rfl rfl) (hwindow bar2Stray 0 mayWrite_bar2Stray)
  have hword := congrArg (fun t : State => rd t.chip XBR_BAR2_WIN) hstate
  dsimp only at hword
  rw [rd_bar2Stray_write, rd_wr_same] at hword
  exact absurd hword (by decide)

end Sys2Proof.Machine
end

section
/-! Restarts, the watchdog, the svn fuse, and the last start actions (R503, R509, R516, R517, R519). -/

open Sys2Proof

namespace Sys2Proof.Machine

/-! ### GLB_RESTART and GLB_WDT (R516, R519) -/

theorem withRestart_go (v : W) (k : Nat) : wbit (withRestart v k) 31 = true := by
  have hgo : wbits (withRestart v k) 31 1 = wbits (v ||| 0x80000000) 31 1 :=
    wbits_putField_above _ 29 2 k 31 1 (by decide) (by decide)
  have hbit : wbit (v ||| 0x80000000) 31 = true := wbit_or_forced v (by decide)
  exact (congrArg (· == 1) hgo).trans hbit

theorem withRestart_class (v : W) {k : Nat} (hk : k < 2 ^ 2) : wbits (withRestart v k) 29 2 = k :=
  (wbits_putField_same _ 29 2 k (by decide)).trans (Nat.mod_eq_of_lt hk)

section
variable {c : Chip} {v : W} (hr : reachable c GLB_RESTART = true) (hgo : wbit v 31 = true)
include hr hgo

/-- A FULL or FW restart waits for P + 2 where none waits. -/
theorem restartWrite_waits (hclass : wbits v 29 2 = 1 ∨ wbits v 29 2 = 2) (hnone : c.glb.restart = none) :
    restartWrite c v = { c with glb := { c.glb with restart := some (v, period c + 2), byWatchdog := false } } := by
  rw [restartWrite, hostWrite_reach c _ _ hr, if_neg (by simp [hgo]), if_neg (by rcases hclass with h | h <;> simp [hnone, h])]

theorem restartWrite_rejected (hsome : c.glb.restart ≠ none) : restartWrite c v = raise c srcGLB_RESTART_REJECT 0 := by
  rw [restartWrite, hostWrite_reach c _ _ hr, if_neg (by simp [hgo]), if_pos (by simp [Option.isSome_iff_ne_none.mpr hsome])]

end

theorem kick_forced (v : W) : wbit (v ||| 0x80000000) 31 = true := wbit_or_forced v (by decide)

/-- A kick restarts the count (R519). -/
theorem wdtWrite_kick {c : Chip} {v : W} (hr : reachable c GLB_WDT = true) (hkick : wbit v 31 = true) :
    wdtWrite c v = { wr c GLB_WDT (v &&& 0x4000FFFF) with glb := { (wr c GLB_WDT (v &&& 0x4000FFFF)).glb with
      wdtFrom := (wr c GLB_WDT (v &&& 0x4000FFFF)).tmr.ticks } } := by
  rw [wdtWrite, hostWrite_reach c _ _ hr]
  simp only [hkick, Bool.true_or, if_true]

theorem watchdogExpiry_early {c : Chip} (h : fld c GLB_WDT_timeout = 0 ∨ c.tmr.ticks < c.glb.wdtFrom + wdtTicks c) :
    watchdogExpiry c = c := if_pos (by simpa using h)

/-- A watchdog past its time (R519). -/
def expired (c : Chip) : Chip := raise { c with glb := { c.glb with wdtFrom := c.tmr.ticks } } srcGLB_WDT 0

theorem watchdogExpiry_late {c : Chip} (hon : fld c GLB_WDT_timeout ≠ 0) (hlate : c.glb.wdtFrom + wdtTicks c ≤ c.tmr.ticks)
    (hnone : c.glb.restart = none) :
    watchdogExpiry c = if fldB (expired c) GLB_WDT_restart_en then { expired c with glb := { (expired c).glb with
      restart := some (toW (2 ^ 31 + 2 * 2 ^ 29), period (expired c) + 2), byWatchdog := true } } else expired c := by
  have hrestart : (expired c).glb.restart = none := hnone
  unfold watchdogExpiry
  rw [if_neg (by simpa [hon] using hlate)]
  change (if (fldB (expired c) GLB_WDT_restart_en && (expired c).glb.restart.isNone) = true then _ else _) = _
  rw [hrestart, Option.isNone_none, Bool.and_true]
  rfl

/-- A fuse never falls (R509). -/
theorem svnCommit_go {c : Chip} {v : W} (hr : reachable c GLB_SVN_COMMIT = true) (hgo : wbit v 31 = true) :
    svnCommit c v = wr c GLB_FUSE (putField (rd c GLB_FUSE) 0 16 (max (wbits (rd c GLB_FUSE) 0 16) c.glb.svn)) := by
  rw [svnCommit, hostWrite_reach c _ _ hr, if_pos hgo]

/-! ### A restart at its E (R503, R516) -/

theorem restartEffect_waits {c : Chip} (h : ∀ v e, c.glb.restart = some (v, e) → due c e = false) (w : LoadWorld) :
    restartEffect c w = c := by
  unfold restartEffect
  split
  · next v e he => rw [if_pos (by simp [h v e he])]
  · rfl

/-- The restart that waits is taken out. -/
def restartTaken (c : Chip) : Chip := { c with glb := { c.glb with restart := none } }

theorem restartEffect_due {c : Chip} {v e : W} (h : c.glb.restart = some (v, e)) (hdue : due c e = true) (w : LoadWorld) :
    restartEffect c w = if wbits v 29 2 = 1 then fullRestart (restartTaken c) v w else fwRestart (restartTaken c) c.glb.byWatchdog w := by
  unfold restartEffect
  rw [h]
  exact if_neg (by simp [hdue])

/-- What a FW restart shows at once: its class, and no watchdog timeout (R503, R519). -/
def fwShown (c : Chip) (dog : Bool) : Chip := setFld (setFld c GLB_BOOT_STAT_last_reset (if dog then 4 else 3)) GLB_WDT_timeout 0

/-- What a FW restart clears (R501, R502). -/
def fwCleared (c : Chip) (w : LoadWorld) : Chip :=
  { c with ddr := if w.supplied then c.ddr else [], glb := { c.glb with memKept := w.supplied, sram := [] },
           twn := { c.twn with fwAlive := false } }

/-- A FW restart before its firmware is loaded. -/
def fwStopped (c : Chip) (dog : Bool) (w : LoadWorld) : Chip :=
  setB (fwCleared (fwShown c dog) w) GLB_BOOT_STAT_mem_kept w.supplied

/-- The firmware section of the copy in force. -/
def fwSection (c : Chip) : List Byte :=
  sectionBytes c (fld c GLB_BOOT_STAT_copy) (theSection (sections c (fld c GLB_BOOT_STAT_copy)) 7)

theorem fwRestart_eq (c : Chip) (dog : Bool) (w : LoadWorld) : fwRestart c dog w =
    if fld (fwStopped c dog w) GLB_BOOT_STAT_state = 1 then
      setB (placeFirmware (fwStopped c dog w) (fwSection (fwStopped c dog w))) GLB_CTL_remap true
    else setB (fwStopped c dog w) GLB_CTL_remap false := rfl

theorem placeFirmware_kept (c : Chip) (l : List Byte) : (placeFirmware c l).regs = c.regs ∧ (placeFirmware c l).tmr = c.tmr
    ∧ (placeFirmware c l).twn = c.twn ∧ (placeFirmware c l).glb.restart = c.glb.restart := ⟨rfl, rfl, rfl, rfl⟩

/-- The firmware's load leaves the registers, the time, the pair and the waiting restart; then GLB_CTL shows the remap (R515). -/
theorem fwRestart_loads (c : Chip) (dog : Bool) (w : LoadWorld) : ∃ e b, fwRestart c dog w = setB e GLB_CTL_remap b
    ∧ e.regs = (fwStopped c dog w).regs ∧ e.tmr = (fwStopped c dog w).tmr ∧ e.twn = (fwStopped c dog w).twn
    ∧ e.glb.restart = (fwStopped c dog w).glb.restart := by
  rw [fwRestart_eq]
  generalize fwStopped c dog w = d
  split
  · exact ⟨placeFirmware d (fwSection d), true, rfl, placeFirmware_kept d _⟩
  · exact ⟨d, false, rfl, rfl, rfl, rfl, rfl⟩

theorem setFld_regs_congr {c d : Chip} (h : d.regs = c.regs) (f : Fld) (v : Nat) : (setFld d f v).regs = (setFld c f v).regs := by
  simp only [setFld, wr, rd, h]

theorem fwCleared_regs (c : Chip) (w : LoadWorld) : (fwCleared c w).regs = c.regs := rfl

section
variable (c : Chip) (dog : Bool) (w : LoadWorld)

theorem fld_fwStopped (f : Fld) : fld (fwStopped c dog w) f = fld (setB (fwShown c dog) GLB_BOOT_STAT_mem_kept w.supplied) f :=
  fld_congr (setFld_regs_congr (fwCleared_regs _ w) _ _) f

theorem fwStopped_kept : (fwStopped c dog w).tmr = c.tmr ∧ (fwStopped c dog w).twn.fwAlive = false
    ∧ (fwStopped c dog w).glb.restart = c.glb.restart := by
  have hshown : (fwShown c dog).tmr = c.tmr ∧ (fwShown c dog).glb = c.glb := by
    unfold fwShown
    exact ⟨by rw [setFld_tmr, setFld_tmr], by rw [setFld_glb, setFld_glb]⟩
  have hcleared : ∀ d, (fwCleared d w).tmr = d.tmr ∧ (fwCleared d w).twn.fwAlive = false ∧ (fwCleared d w).glb.restart = d.glb.restart :=
    fun d => ⟨rfl, rfl, rfl⟩
  obtain ⟨htmr, htwn, hglb⟩ := hcleared (fwShown c dog)
  unfold fwStopped
  rw [setB_tmr, setB_twn, setB_glb, htmr, hglb, hshown.1, hshown.2]
  exact ⟨rfl, htwn, rfl⟩

/-- What a FW restart shows (R503, R519). -/
theorem fwRestart_shows : fld (fwRestart c dog w) GLB_BOOT_STAT_last_reset = (if dog then 4 else 3)
    ∧ fld (fwRestart c dog w) GLB_WDT_timeout = 0 ∧ (fwRestart c dog w).glb.restart = c.glb.restart
    ∧ (fwRestart c dog w).twn.fwAlive = false ∧ (fwRestart c dog w).tmr = c.tmr := by
  obtain ⟨e, b, heq, hregs, htmr, htwn, hrestart⟩ := fwRestart_loads c dog w
  obtain ⟨hktmr, hktwn, hkrestart⟩ := fwStopped_kept c dog w
  rw [heq]
  refine ⟨?_, ?_, ?_, ?_, ?_⟩
  · rw [fld_setB_addr e b (by decide), fld_congr hregs, fld_fwStopped,
      setB, fld_setFld_other _ (f := GLB_BOOT_STAT_mem_kept) (g := GLB_BOOT_STAT_last_reset) _ rfl (by decide) (by decide),
      fwShown, fld_setFld_addr _ _ (by decide), fld_setFld_same _ _ _ (by decide)]
    cases dog <;> rfl
  · rw [fld_setB_addr e b (by decide), fld_congr hregs, fld_fwStopped, fld_setB_addr _ _ (by decide), fwShown, fld_setFld_same _ _ _ (by decide)]
    rfl
  · rw [setB_glb, hrestart, hkrestart]
  · rw [setB_twn, htwn, hktwn]
  · rw [setB_tmr, htmr, hktmr]

end

/-! ### The start arrangement (R517) -/

section
variable {c : Chip} {r : StartRun}

theorem modStart_regs (c : Chip) (f : StartRun → StartRun) : (modStart c f).regs = c.regs := rfl

theorem modStart_deferred (c : Chip) (f : StartRun → StartRun) : (modStart c f).deferred = c.deferred := rfl

theorem modStart_doc (c : Chip) (f : StartRun → StartRun) : (modStart c f).doc = c.doc := rfl

theorem modStart_glb (c : Chip) (f : StartRun → StartRun) : (modStart c f).glb = { c.glb with start := c.glb.start.map f } := rfl

theorem startApply_none (h : c.glb.start = none) : startApply c = c := by
  simp only [startApply, h]

theorem autostart_none (h : c.glb.start = none) : autostart c = c := by
  simp only [autostart, h]

/-- Every tile of the mask is in service. -/
def allServed (c : Chip) : Bool := (maskTiles c).all (fun t => linkState c t == 6)

/-- The APPLY words of the start arrangement stand in DOC_CMD0 to DOC_CMD2. -/
def startWords (c : Chip) (id : Nat) : Chip :=
  wr (wr (wr c (DOC_CMD 0) 0x1000FFFF) (DOC_CMD 1) (toW (id + 2 ^ 16))) (DOC_CMD 2) 0

/-- The firmware's write of the start arrangement's APPLY, and what follows from it (R517). -/
def askArrangement (c : Chip) (id : Nat) : Chip :=
  let d := withSource (startWords c id) 2 (fun c => docCmdWrite c 0)
  if docOutstanding d c.doc.serial then modStart d (fun s => { s with serial := some c.doc.serial }) else startFail d 3 0 5

/-- Step 3: no start arrangement, one that is not STORED, or one that is asked for (R517). -/
def startArrangement (c : Chip) (id : Nat) : Chip :=
  if id = 0xFFFF then c else if storeState c id != 1 then startFail c 3 0 0xFFFF else askArrangement c id

/-- The start actions that run, with step 3 done. -/
def appliedStart (c : Chip) (r : StartRun) : Chip := { c with glb := { c.glb with start := some { r with applied := true } } }

variable (h : c.glb.start = some r)
include h

theorem startApply_done (happ : r.applied = true) : startApply c = c := by
  simp only [startApply, h, happ]
  rfl

theorem startApply_waits (hall : allServed c = false) (hlate : pReached (period c) (r.from_ + 40000) = false) : startApply c = c := by
  unfold allServed at hall
  simp only [startApply, h, hall, hlate]
  simp

theorem autostart_waits (hw : r.applied = false ∨ r.started = true) : autostart c = c := by
  unfold autostart
  rw [h]
  rcases hw with hw | hw <;> simp [hw]

theorem modStart_running (f : StartRun → StartRun) : modStart c f = { c with glb := { c.glb with start := some (f r) } } := by
  simp only [modStart, h, Option.map_some]

/-- Step 3 is the whole action where the Curator is in the profile's mode after it. -/
theorem startApply_turn (happ : r.applied = false) (hall : allServed c = true)
    (hmode : bitsAt (leAt (startArrangement (appliedStart c r) (leAt c.glb.profile 6 2)).glb.profile 1 1) 0 2
      = curMode (startArrangement (appliedStart c r) (leAt c.glb.profile 6 2))) :
    startApply c = startArrangement (appliedStart c r) (leAt c.glb.profile 6 2) := by
  unfold allServed at hall
  unfold startApply
  rw [h]
  dsimp only
  rw [if_neg (by simp [happ, hall]), modStart_running h]
  exact if_pos hmode

end

/-! ### The start arrangement is asked for -/

theorem written_of_noneWaits {c : Chip} {a : Nat} (h : ∀ x ∈ c.deferred, x.addr ≠ a) : written c a = rd c a := by
  have hnone : c.deferred.filter (fun d => d.addr == a) = [] := by
    rw [List.filter_eq_nil_iff]
    exact fun x hx => by simpa using h x hx
  simp only [written, hnone, List.getLast?_nil]

/-- A register of the Docent's block is in no power domain: it is reachable wherever the device runs (R508, R557). -/
theorem reachable_docCmd_iff (c : Chip) (i : Fin 4) : reachable c (DOC_CMD i) = !bootHalted c := by
  have hdomain : domainOf (DOC_CMD i) = none := by decide +revert
  have hlow : ¬ DOC_CMD i < 0x100000 := by decide +revert
  have hblock : DOC_CMD i / 0x100000 ≠ 2 := by decide +revert
  simp [reachable, hdomain, hlow, hblock]

section
variable (c : Chip) (id : Nat)

theorem rd_startWords_other {a : Nat} (h0 : DOC_CMD 0 ≠ a) (h1 : DOC_CMD 1 ≠ a) (h2 : DOC_CMD 2 ≠ a) :
    rd (startWords c id) a = rd c a := by
  rw [startWords, rd_wr_other _ _ h2, rd_wr_other _ _ h1, rd_wr_other _ _ h0]

theorem fld_startWords (f : Fld) (h0 : DOC_CMD 0 ≠ f.addr) (h1 : DOC_CMD 1 ≠ f.addr) (h2 : DOC_CMD 2 ≠ f.addr) :
    fld (startWords c id) f = fld c f := by
  rw [fld_eq, rd_startWords_other c id h0 h1 h2, fld_eq]

theorem startWords_rest : (startWords c id).twn = c.twn ∧ (startWords c id).doc = c.doc ∧ (startWords c id).deferred = c.deferred
    ∧ (startWords c id).tmr = c.tmr ∧ (startWords c id).glb = c.glb := by
  unfold startWords
  exact ⟨by rw [wr_twn, wr_twn, wr_twn], by rw [wr_doc, wr_doc, wr_doc], by rw [wr_deferred, wr_deferred, wr_deferred],
    by rw [wr_tmr, wr_tmr, wr_tmr], by rw [wr_glb, wr_glb, wr_glb]⟩

theorem rd_startWords : rd (startWords c id) (DOC_CMD 0) = 0x1000FFFF ∧ rd (startWords c id) (DOC_CMD 1) = toW (id + 2 ^ 16)
    ∧ rd (startWords c id) (DOC_CMD 2) = 0 := by
  unfold startWords
  refine ⟨?_, ?_, rd_wr_same _ _ _⟩
  · rw [rd_wr_other _ _ (by decide), rd_wr_other _ _ (by decide), rd_wr_same]
  · rw [rd_wr_other _ _ (by decide), rd_wr_same]

end

/-- A device that takes firmware's APPLY (R179). -/
structure TakesStart (c : Chip) : Prop where
  single : Single c
  reach : reachable c (DOC_CMD 3) = true
  enabled : fldB c DOC_CTL_host_en = true
  room : hostQueued c < 8
  noneWaits : ∀ x ∈ c.deferred, x.addr ≠ DOC_CMD 0 ∧ x.addr ≠ DOC_CMD 1 ∧ x.addr ≠ DOC_CMD 2

/-- The APPLY of the start arrangement, as it waits for its E. -/
def startCmd (c : Chip) (id : Nat) : DocCmd := ⟨0x1000FFFF, toW (id + 2 ^ 16), 0, 0, 0, c.doc.serial⟩

/-- The device after firmware has written the APPLY. -/
def startWritten (c : Chip) (id : Nat) : Chip :=
  { wr (startWords c id) (DOC_CMD 3) 0 with doc := { c.doc with
    serial := c.doc.serial + 1, incoming := c.doc.incoming ++ [(startCmd c id, eSingle c)] } }

theorem withDoc_glb (c : Chip) (x : Doc) : ({ c with doc := x } : Chip).glb = c.glb := rfl

theorem withDoc_regs (c : Chip) (x : Doc) : ({ c with doc := x } : Chip).regs = c.regs := rfl

theorem withDoc_doc (c : Chip) (x : Doc) : ({ c with doc := x } : Chip).doc = x := rfl

theorem startWritten_rest (c : Chip) (id : Nat) : (startWritten c id).regs = (wr (startWords c id) (DOC_CMD 3) 0).regs
    ∧ (startWritten c id).glb = c.glb
    ∧ (startWritten c id).doc.incoming = c.doc.incoming ++ [(startCmd c id, eSingle c)] := by
  obtain ⟨-, -, -, -, hglb⟩ := startWords_rest c id
  exact ⟨withDoc_regs _ _, (withDoc_glb _ _).trans ((wr_glb _ _ _).trans hglb), congrArg Doc.incoming (withDoc_doc _ _)⟩

/-- The source of a write is no part of what decides whether it is taken. -/
theorem TakesStart.withSource {c : Chip} (h : TakesStart c) (n : Nat) : TakesStart { c with twn := { c.twn with source := n } } := by
  obtain ⟨⟨htwin, hpair, happly, hstate⟩, hreach, hen, hroom, hwaits⟩ := h
  exact ⟨⟨htwin, hpair, happly, hstate⟩, hreach, hen, hroom, hwaits⟩

/-- With none of the words waiting, the write of DOC_CMD3 takes the words that stand in the registers. -/
theorem withSource_docCmdWrite {c : Chip} (h : TakesStart c) (n : Nat) (v : W) : withSource c n (fun c => docCmdWrite c v) =
    { wr c (DOC_CMD 3) v with doc := { c.doc with
      serial := c.doc.serial + 1
      incoming := c.doc.incoming
        ++ [(⟨rd c (DOC_CMD 0), rd c (DOC_CMD 1), rd c (DOC_CMD 2), v, 0, c.doc.serial⟩, eSingle c)] } } := by
  obtain ⟨hsingle, hreach, hen, hroom, hwaits⟩ := h.withSource n
  have h0 : written { c with twn := { c.twn with source := n } } (DOC_CMD 0) = rd c (DOC_CMD 0) := written_of_noneWaits fun x hx => (hwaits x hx).1
  have h1 : written { c with twn := { c.twn with source := n } } (DOC_CMD 1) = rd c (DOC_CMD 1) := written_of_noneWaits fun x hx => (hwaits x hx).2.1
  have h2 : written { c with twn := { c.twn with source := n } } (DOC_CMD 2) = rd c (DOC_CMD 2) := written_of_noneWaits fun x hx => (hwaits x hx).2.2
  have htaken := docCmdWrite_taken v hsingle hreach hen hroom
  rw [h0, h1, h2] at htaken
  exact congrArg (fun d : Chip => { d with twn := { d.twn with source := c.twn.source } }) htaken

section
variable {c : Chip} (h : TakesStart c) (id : Nat)
include h

theorem TakesStart.words : TakesStart (startWords c id) := by
  have hfld : ∀ f : Fld, DOC_CMD 0 ≠ f.addr → DOC_CMD 1 ≠ f.addr → DOC_CMD 2 ≠ f.addr → fld (startWords c id) f = fld c f :=
    fun f => fld_startWords c id f
  obtain ⟨⟨htwin, hpair, happly, hstate⟩, hreach, hen, hroom, hwaits⟩ := h
  obtain ⟨htwn, hdoc, hdeferred, -, -⟩ := startWords_rest c id
  refine ⟨⟨?_, by rw [htwn, hpair], by rw [htwn, happly], ?_⟩, ?_, ?_, by rwa [hostQueued, hdoc], by rwa [hdeferred]⟩
  · rw [fldB, hfld _ (by decide) (by decide) (by decide)]
    exact htwin
  · rw [hfld _ (by decide) (by decide) (by decide)]
    exact hstate
  · have hhalt : ∀ d : Chip, reachable d (DOC_CMD 3) = !bootHalted d := fun d => reachable_docCmd_iff d 3
    rw [hhalt] at hreach ⊢
    rw [bootHalted, hfld _ (by decide) (by decide) (by decide)]
    exact hreach
  · rw [fldB, hfld _ (by decide) (by decide) (by decide)]
    exact hen

theorem withSource_start : withSource (startWords c id) 2 (fun c => docCmdWrite c 0) = startWritten c id := by
  obtain ⟨h0, h1, h2⟩ := rd_startWords c id
  obtain ⟨-, hdoc, -, htmr, -⟩ := startWords_rest c id
  rw [withSource_docCmdWrite (h.words id), h0, h1, h2, hdoc, eSingle, htmr]
  rfl

theorem askArrangement_eq : askArrangement c id = modStart (startWritten c id) (fun s => { s with serial := some c.doc.serial }) := by
  obtain ⟨-, -, hincoming⟩ := startWritten_rest c id
  have hout : docOutstanding (startWritten c id) c.doc.serial = true := by
    have hany : (startWritten c id).doc.incoming.any (fun e => e.1.serial == c.doc.serial) = true := by
      rw [hincoming]
      exact List.any_eq_true.mpr ⟨(startCmd c id, eSingle c), List.mem_append_right _ (List.mem_singleton.mpr rfl), by simp [startCmd]⟩
    rw [docOutstanding, hany, Bool.or_true, Bool.true_or]
  have hasked : askArrangement c id = if docOutstanding (withSource (startWords c id) 2 (fun c => docCmdWrite c 0)) c.doc.serial
      then modStart (withSource (startWords c id) 2 (fun c => docCmdWrite c 0)) (fun s => { s with serial := some c.doc.serial })
      else startFail (withSource (startWords c id) 2 (fun c => docCmdWrite c 0)) 3 0 5 := rfl
  rw [hasked, withSource_start h, if_pos hout]

theorem curMode_askArrangement : curMode (askArrangement c id) = curMode c := by
  have hregs : (askArrangement c id).regs = (wr (startWords c id) (DOC_CMD 3) 0).regs := by
    rw [askArrangement_eq h, modStart_regs, (startWritten_rest c id).1]
  rw [curMode, fld_congr hregs, fld_wr_other _ _ (by decide), fld_startWords c id _ (by decide) (by decide) (by decide), curMode]

theorem askArrangement_waits : (askArrangement c id).glb = { c.glb with start := c.glb.start.map (fun s => { s with serial := some c.doc.serial }) }
    ∧ (askArrangement c id).doc.incoming = c.doc.incoming ++ [(startCmd c id, eSingle c)] := by
  obtain ⟨-, hglb, hincoming⟩ := startWritten_rest c id
  rw [askArrangement_eq h, modStart_glb, modStart_doc, hglb, hincoming]
  exact ⟨rfl, rfl⟩

end

/-! ### The start of the profile's programme (R517) -/

/-- Step 5 has been taken. -/
def startedStart (c : Chip) (r : StartRun) : Chip := { c with glb := { c.glb with start := some { r with started := true } } }

/-- The word of START for the profile's slot (R231). -/
def startWord (c : Chip) : W := toW (3 * 2 ^ 28 + bitsAt (leAt c.glb.profile 12 1) 0 2 * 2 ^ 24)

/-- Firmware's write of START, and what follows from it (R517). -/
def askProgramme (c : Chip) : Chip :=
  let d := withSource c 2 (fun d => prgWrite d (startWord c))
  match d.deferred.find? (fun x => x.addr == PRG_CMD && !isDeferred c PRG_CMD) with
  | some x => modStart d (fun s => { s with startE := some x.e })
  | none => startFail d 5 0 (fld d PRG_STAT_reason)

theorem startWord_code (c : Chip) : wbits (startWord c) 28 4 = 3 := by
  have hslot : bitsAt (leAt c.glb.profile 12 1) 0 2 < 4 := Nat.mod_lt _ (by decide)
  unfold startWord
  generalize bitsAt (leAt c.glb.profile 12 1) 0 2 = n at hslot ⊢
  interval_cases n <;> decide

section
variable {c : Chip} {r : StartRun} (h : c.glb.start = some r) (happ : r.applied = true) (hstart : r.started = false) (hserial : r.serial = none)
include h happ hstart hserial

/-- Without a start APPLY step 5 is taken at once. -/
theorem autostart_eq : autostart c =
    if bitsAt (leAt c.glb.profile 0 1) 4 1 = 0 then startedStart c r else askProgramme (startedStart c r) := by
  have hstarted : modStart c (fun s => { s with started := true, serial := none }) = startedStart c r := by
    rw [modStart_running h, startedStart, ← hserial]
  unfold autostart
  rw [h]
  dsimp only
  rw [if_neg (by simp [happ, hstart, hserial])]
  simp only [hserial, Option.isSome_none, Bool.false_and, Bool.false_eq_true, if_false, hstarted]
  rfl

end

/-- A write that waits for its E keeps nothing of the source it acts for. -/
theorem withSource_defer {c d : Chip} {n a : Nat} {e v : W} {f : Chip → Chip} (hd : d.twn = c.twn)
    (hf : f { c with twn := { c.twn with source := n } } = defer { d with twn := { c.twn with source := n } } e a v) :
    withSource c n f = defer d e a v := by
  refine (congrArg (fun x : Chip => { x with twn := { x.twn with source := c.twn.source } }) hf).trans ?_
  rw [← hd]
  rfl

/-- START is written, and its E is kept. -/
theorem askProgramme_taken {c : Chip} (hone : Single c) (hr : reachable c PRG_CMD = true)
    (hidle : fldB c PRG_STAT_busy = false) (hnone : ∀ x ∈ c.deferred, x.addr ≠ PRG_CMD) :
    askProgramme c = modStart (defer (setB c PRG_STAT_busy true) (eSingle c) PRG_CMD (startWord c))
      (fun s => { s with startE := some (eSingle c) }) := by
  have htaken := prgWrite_taken (c := { c with twn := { c.twn with source := 2 } }) (w := startWord c) hr hone
    (by rw [startWord_code]; decide) (by rw [startWord_code]; decide) hidle
  rw [setB_withTwn] at htaken
  have hwritten : withSource c 2 (fun d => prgWrite d (startWord c))
      = defer (setB c PRG_STAT_busy true) (eSingle c) PRG_CMD (startWord c) :=
    withSource_defer (setB_twn c PRG_STAT_busy true) htaken
  have hfirst : isDeferred c PRG_CMD = false := by
    rw [isDeferred, List.any_eq_false]
    exact fun x hx => by simpa using hnone x hx
  have hfind : (defer (setB c PRG_STAT_busy true) (eSingle c) PRG_CMD (startWord c)).deferred.find?
      (fun x => x.addr == PRG_CMD && !isDeferred c PRG_CMD) = some ⟨eSingle c, PRG_CMD, startWord c⟩ := by
    have hold : c.deferred.find? (fun x => x.addr == PRG_CMD && !isDeferred c PRG_CMD) = none :=
      List.find?_eq_none.mpr fun x hx => by simp [hnone x hx]
    rw [defer, setB_deferred, List.find?_append, hold, Option.none_or]
    simp [hfirst]
  unfold askProgramme
  rw [hwritten]
  dsimp only
  rw [hfind]

/-- Settles O31: each write and effect by its branch; the start arrangement and the start programme by what firmware's write of them
leaves waiting. -/
theorem restartsWatchdogAndStartActions : Obligations.RestartsWatchdogAndStartActions := by
  unfold Obligations.RestartsWatchdogAndStartActions
  refine ⟨?waits, ?rejected, ?early, ?due, ?watchdog, ?disabled, ?svn, ?idle, ?arrangement, ?ends⟩
  case waits =>
    intro s v ⟨hs, hr⟩ hnone wait
    exact ⟨exec_to (exec_fullRestart s) hs
        (restartWrite_waits hr (withRestart_go v 1) (.inl (withRestart_class v (by decide))) hnone),
      exec_to (exec_fwRestart s) hs
        (restartWrite_waits hr (withRestart_go v 2) (.inr (withRestart_class v (by decide))) hnone)⟩
  case rejected =>
    intro s v ⟨hs, hr⟩ hsome
    exact ⟨exec_to (exec_fullRestart s) hs (restartWrite_rejected hr (withRestart_go v 1) hsome),
      exec_to (exec_fwRestart s) hs (restartWrite_rejected hr (withRestart_go v 2) hsome)⟩
  case early =>
    intro s w hs hwait
    exact exec_to (exec_restartEffect s) hs (restartEffect_waits hwait w)
  case due =>
    intro s v e w hs hsome hdue c
    have heffect := restartEffect_due hsome hdue w
    refine ⟨fun hfull => ?_, fun hfw => ?_⟩
    · exact exec_to (exec_restartEffect s) hs (heffect.trans (if_pos hfull))
    · obtain ⟨hreset, htimeout, hrestart, halive, htmr⟩ := fwRestart_shows (restartTaken s.chip) s.chip.glb.byWatchdog w
      exact ⟨_, exec_to (exec_restartEffect s) hs (heffect.trans (if_neg (by rw [hfw]; decide))), hreset, htimeout, hrestart, halive, htmr⟩
  case watchdog =>
    intro s v
    exact ⟨fun ⟨hs, hr⟩ => exec_to (exec_wdtKick s) hs (wdtWrite_kick hr (kick_forced v)),
      fun hs hon hlate hnone => exec_to (exec_watchdogExpiry s) hs (watchdogExpiry_late hon hlate hnone)⟩
  case disabled =>
    intro s hs h
    exact exec_to (exec_watchdogExpiry s) hs (watchdogExpiry_early h)
  case svn =>
    intro s v ⟨hs, hr⟩ old
    exact exec_to (exec_svnCommit s) hs (svnCommit_go hr (kick_forced v))
  case idle =>
    intro s hs
    refine ⟨fun hnone => ⟨exec_to (exec_startArrApply s) hs (startApply_none hnone), exec_to (exec_autostart s) hs (autostart_none hnone)⟩,
      fun r hrun => ⟨fun happ => exec_to (exec_startArrApply s) hs (startApply_done hrun happ),
        fun hall hlate => exec_to (exec_startArrApply s) hs (startApply_waits hrun hall hlate),
        fun hw => exec_to (exec_autostart s) hs (autostart_waits hrun hw)⟩⟩
  case arrangement =>
    intro s r hs hrun happ hall hmode hsome c id a
    refine ⟨fun hstore => ?_, fun hstore hone hreach hen hroom hwaits => ?_⟩
    · have hstore : storeState a id ≠ 1 := hstore
      have hfail : startArrangement a id = startFail a 3 0 0xFFFF := by
        rw [startArrangement, if_neg hsome, if_pos (bne_iff_ne.mpr hstore)]
      exact exec_to (exec_startArrApply s) hs
        ((startApply_turn hrun happ hall (by rw [show startArrangement (appliedStart s.chip r) _ = _ from hfail]; exact hmode)).trans hfail)
    · have hstore : storeState a id = 1 := hstore
      have hasked : startArrangement a id = askArrangement a id := by
        rw [startArrangement, if_neg hsome, if_neg (fun hne => bne_iff_ne.mp hne hstore)]
      have htakes : TakesStart a := ⟨hone, hreach, hen, hroom, hwaits⟩
      obtain ⟨hglb, hincoming⟩ := askArrangement_waits htakes id
      have hturn : startApply s.chip = askArrangement a id :=
        (startApply_turn hrun happ hall (by
          rw [show startArrangement (appliedStart s.chip r) _ = _ from hasked, curMode_askArrangement htakes, hglb]
          exact hmode)).trans hasked
      exact ⟨_, exec_to (exec_startArrApply s) hs hturn, by rw [hglb]; rfl, hincoming⟩
  case ends =>
    intro s r hs hrun c go
    refine ⟨fun happ hall hnone hmode => ?_, fun happ hstart hserial hno => ?_, fun happ hstart hserial hyes hone hreach hidle hwaits => ?_⟩
    · have hskip : startArrangement (appliedStart s.chip r) (leAt s.chip.glb.profile 6 2) = appliedStart s.chip r := if_pos hnone
      exact exec_to (exec_startArrApply s) hs ((startApply_turn hrun happ hall (by rw [hskip]; exact hmode)).trans hskip)
    · exact exec_to (exec_autostart s) hs ((autostart_eq hrun happ hstart hserial).trans (if_pos hno))
    · have hyes' : bitsAt (leAt s.chip.glb.profile 0 1) 4 1 ≠ 0 := fun h => absurd (hyes.symm.trans h) (by decide)
      have hasked : autostart s.chip = _ := (autostart_eq hrun happ hstart hserial).trans ((if_neg hyes').trans
        (askProgramme_taken (c := startedStart s.chip r) hone hreach hidle hwaits))
      refine ⟨_, exec_to (exec_autostart s) hs hasked, ?_, ?_⟩
      · rw [modStart_glb, defer_glb, setB_glb]
        rfl
      · rw [modStart_deferred, defer, setB_deferred]
        rfl

end Sys2Proof.Machine
end

section
/-! Power domains, the assembly's sequencer, and the PMBus (R557–R569, R590–R593). -/

open Sys2Proof

namespace Sys2Proof.Machine

/-! ### Commands of a power domain (R559, R560) -/

section
variable {c : Chip} {d : Nat} (v : W) {k : Nat} (hr : reachable c (PDM_DOM d) = true) (hone : Single c)
include hr hone

theorem domainWrite_waits (hk : k < 2 ^ 2) (hfree : ∀ x ∈ c.pdm.waits, x.1 ≠ d) :
    domainWrite c d (putField v 30 2 k)
      = { c with pdm := { c.pdm with waits := c.pdm.waits ++ [(d, toW (k * 2 ^ 30 + c.twn.source), eSingle c)] } } := by
  obtain ⟨htwin, hpair, happly, hstate⟩ := hone
  have hnone : c.pdm.waits.any (fun x => x.1 == d) = false := List.any_eq_false.mpr fun x hx => by simpa using hfree x hx
  rw [domainWrite, hostChangeIf_taken c _ _ _ _ hr htwin hpair happly hstate (by simp [hnone]),
    wbits_putField_same _ _ _ _ (by decide), Nat.mod_eq_of_lt hk]
  rfl

theorem domainWrite_busy (hbusy : ∃ x ∈ c.pdm.waits, x.1 = d) : domainWrite c d v = domainReject c d 3 := by
  obtain ⟨htwin, hpair, happly, hstate⟩ := hone
  obtain ⟨x, hx, hxd⟩ := hbusy
  have hsome : c.pdm.waits.any (fun x => x.1 == d) = true := List.any_eq_true.mpr ⟨x, hx, by simpa using hxd⟩
  exact hostChangeIf_refused c _ v _ _ _ hr htwin hpair happly hstate (if_pos (by simp [hsome, fromJournal, happly]))

end

/-- A service port's domain while the packet engine's is not ON (R559). -/
def portless (c : Chip) (d : Nat) : Bool := 42 ≤ d && d < 46 && fld c (PDM_DOM_state 52) != 1

theorem portless_iff (c : Chip) (d : Nat) : portless c d = true ↔ 42 ≤ d ∧ d < 46 ∧ fld c (PDM_DOM_state 52) ≠ 1 := by
  simp [portless, and_assoc]

/-- The command that waits is taken out. -/
def domainTaken (c : Chip) (x : Nat × W × W) : Chip := { c with pdm := { c.pdm with waits := c.pdm.waits.erase x } }

theorem domainSwitch_idle {c : Chip} {d : Nat} (h : c.pdm.waits.find? (fun x => x.1 == d && due c x.2.2) = none) :
    domainSwitch c d = c := by
  simp only [domainSwitch, h]

section
variable {c : Chip} {d : Nat} {x e : W} (h : c.pdm.waits.find? (fun y => y.1 == d && due c y.2.2) = some (d, x, e))
include h

/-- What becomes of a command at its E, by its code (R559, R560). -/
theorem domainSwitch_due : domainSwitch c d =
    if wbits x 30 2 = 0 || wbits x 30 2 = 3 then domainReject (domainTaken c (d, x, e)) d 1
    else if fld c (PDM_DOM_state d) = 2 then domainReject (domainTaken c (d, x, e)) d 3
    else if wbits x 30 2 = 1 then
      if portless c d then domainReject (domainTaken c (d, x, e)) d 4
      else if fld c (PDM_DOM_state d) = 0 then startSwitch (domainTaken c (d, x, e)) d true else domainTaken c (d, x, e)
    else if offReason c d (domainSource x) != 0 then
      domainReject (domainTaken c (d, x, e)) d (offReason c d (domainSource x))
    else if fld c (PDM_DOM_state d) = 0 then domainTaken c (d, x, e) else startSwitch (domainTaken c (d, x, e)) d false := by
  simp only [domainSwitch, h]
  rfl

/-- A command of a domain that switches is refused. -/
theorem domainSwitch_switching (hcmd : wbits x 30 2 = 1 ∨ wbits x 30 2 = 2) (hst : fld c (PDM_DOM_state d) = 2) :
    domainSwitch c d = domainReject (domainTaken c (d, x, e)) d 3 := by
  rw [domainSwitch_due h, if_neg (by rcases hcmd with hc | hc <;> simp [hc]), if_pos hst]

section
variable (hcmd : wbits x 30 2 = 1) (hst : fld c (PDM_DOM_state d) ≠ 2)
include hcmd hst

theorem domainSwitch_on : domainSwitch c d = if portless c d then domainReject (domainTaken c (d, x, e)) d 4
    else if fld c (PDM_DOM_state d) = 0 then startSwitch (domainTaken c (d, x, e)) d true else domainTaken c (d, x, e) := by
  rw [domainSwitch_due h, if_neg (by simp [hcmd]), if_neg hst, if_pos hcmd]

end

section
variable (hcmd : wbits x 30 2 = 2) (hst : fld c (PDM_DOM_state d) ≠ 2)
include hcmd hst

theorem domainSwitch_off : domainSwitch c d =
    if offReason c d (domainSource x) != 0 then domainReject (domainTaken c (d, x, e)) d (offReason c d (domainSource x))
    else if fld c (PDM_DOM_state d) = 0 then domainTaken c (d, x, e) else startSwitch (domainTaken c (d, x, e)) d false := by
  rw [domainSwitch_due h, if_neg (by simp [hcmd]), if_neg hst, if_neg (by simp [hcmd])]

end

end

/-! ### The end of switching (R559) -/

section
variable {c : Chip} {d : Nat}

theorem isSwitching_iff (on : Bool) : isSwitching c d on = true ↔ ∃ x ∈ c.pdm.switching, x.1 = d ∧ x.2.1 = on := by
  simp [isSwitching]

theorem not_isSwitching {on : Bool} (h : ∀ x ∈ c.pdm.switching, x.1 = d → x.2.1 = !on) : ¬ isSwitching c d on = true := by
  rw [isSwitching_iff]
  rintro ⟨x, hx, hxd, hon⟩
  have := h x hx hxd
  cases on <;> simp_all

/-- The supply of domain `d` that is switched on is not good 128 periods after the start. -/
def supplyLate (c : Chip) (d : Nat) : Bool :=
  c.pdm.switching.any (fun x => x.1 == d && x.2.1 && pReached (period c) (x.2.2 + 128))

theorem supplyLate_iff : supplyLate c d = true ↔
    ∃ x ∈ c.pdm.switching, x.1 = d ∧ x.2.1 = true ∧ pReached (period c) (x.2.2 + 128) = true := by
  simp [supplyLate, and_assoc]

theorem domainFault_late (h : supplyLate c d = true) : domainFault c d = raise (endSwitch c d 3) srcPDM_DOM_FAULT (toW d) := if_pos h

theorem domainFault_none (h : ¬ supplyLate c d = true) : domainFault c d = c := if_neg h

end

/-- Settles O36: a write by whether a command waits, its E by its code and the state of the domain, the ends of switching by the
direction. -/
theorem powerDomainsSwitch : Obligations.PowerDomainsSwitch := by
  unfold Obligations.PowerDomainsSwitch
  refine ⟨?write, ?effect, ?already, ?none, ?ends⟩
  case write =>
    intro s d v ⟨hs, hr, hone⟩ wait no
    refine ⟨fun hfree => ⟨?_, ?_⟩, fun hbusy => ⟨?_, ?_⟩⟩
    · exact exec_to (exec_domainOn s) hs (domainWrite_waits v hr hone (by decide) hfree)
    · exact exec_to (exec_domainOff s) hs (domainWrite_waits v hr hone (by decide) hfree)
    · exact exec_to (exec_domainOn s) hs (domainWrite_busy _ hr hone hbusy)
    · exact exec_to (exec_domainOff s) hs (domainWrite_busy _ hr hone hbusy)
  case effect =>
    intro s d x e hs h c st portless' go no r
    have hport := portless_iff s.chip d
    refine ⟨fun hcmd hst hp => ?_, fun hcmd hst hp => ?_, fun hcmd hst hoff => ?_, fun hcmd hst hoff => ?_, fun hcmd hst => ?_⟩
    · exact exec_to (exec_domainSwitch s) hs ((domainSwitch_on h hcmd (by rw [show fld _ _ = 0 from hst]; decide)).trans
        ((if_neg (mt hport.mp hp)).trans (if_pos hst)))
    · exact exec_to (exec_domainSwitch s) hs ((domainSwitch_on h hcmd hst).trans (if_pos (hport.mpr hp)))
    · have hne : fld s.chip (PDM_DOM_state d) ≠ 2 ∧ fld s.chip (PDM_DOM_state d) ≠ 0 := by
        rcases hst with hst | hst <;> rw [show fld s.chip (PDM_DOM_state d) = _ from hst] <;> decide
      exact exec_to (exec_domainSwitch s) hs ((domainSwitch_off h hcmd hne.1).trans
        ((if_neg (fun hr => bne_iff_ne.mp hr hoff)).trans (if_neg hne.2)))
    · exact exec_to (exec_domainSwitch s) hs ((domainSwitch_off h hcmd hst).trans (if_pos (bne_iff_ne.mpr hoff)))
    · exact exec_to (exec_domainSwitch s) hs (domainSwitch_switching h hcmd hst)
  case already =>
    intro s d x e hs h c st
    have hport := portless_iff s.chip d
    refine ⟨fun hcmd hst hp => ?_, fun hcmd hst hoff => ?_⟩
    · have hne : fld s.chip (PDM_DOM_state d) ≠ 2 ∧ fld s.chip (PDM_DOM_state d) ≠ 0 := by
        rcases hst with hst | hst <;> rw [show fld s.chip (PDM_DOM_state d) = _ from hst] <;> decide
      exact exec_to (exec_domainSwitch s) hs ((domainSwitch_on h hcmd hne.1).trans ((if_neg (mt hport.mp hp)).trans (if_neg hne.2)))
    · exact exec_to (exec_domainSwitch s) hs ((domainSwitch_off h hcmd (by rw [show fld _ _ = 0 from hst]; decide)).trans
        ((if_neg (fun hr => bne_iff_ne.mp hr hoff)).trans (if_pos hst)))
  case none =>
    intro s d hs
    refine ⟨fun h => exec_to (exec_domainSwitch s) hs (domainSwitch_idle h), fun h => ?_, fun h => ⟨?_, ?_⟩, fun h => ?_⟩
    · exact exec_to (exec_domainOffDone s) hs (if_neg (not_isSwitching h))
    · exact exec_to (exec_domainOnDone s) hs (if_neg (not_isSwitching h))
    · refine exec_to (exec_domainFault s) hs (domainFault_none fun hlate => ?_)
      obtain ⟨x, hx, hxd, hon, -⟩ := supplyLate_iff.mp hlate
      exact Bool.eq_false_iff.mp (h x hx hxd) hon
    · refine exec_to (exec_domainFault s) hs (domainFault_none fun hlate => ?_)
      obtain ⟨x, hx, hxd, -, hreached⟩ := supplyLate_iff.mp hlate
      exact Bool.eq_false_iff.mp (h x hx hxd) hreached
  case ends =>
    intro s d hs fin
    refine ⟨fun h => ?_, fun h => ?_, fun h => ?_⟩
    · exact exec_to (exec_domainOffDone s) hs (if_pos ((isSwitching_iff false).mpr h))
    · exact exec_to (exec_domainOnDone s) hs (if_pos ((isSwitching_iff true).mpr h))
    · exact exec_to (exec_domainFault s) hs (domainFault_late (supplyLate_iff.mpr h))

/-! ### The assembly's sequencer (R564, R567) -/

theorem asmCode (v : W) {k : Nat} (hk : k < 2 ^ 2) : wbits (putField v 30 2 k) 30 2 = k :=
  (wbits_putField_same _ 30 2 k (by decide)).trans (Nat.mod_eq_of_lt hk)

section
variable {c : Chip} {w : W} (hr : reachable c PDM_ASM_CTL = true) (hone : Single c)
include hr hone

theorem asmWrite_waits (h : c.pdm.seq = none ∨ wbits w 30 2 = 3) : asmWrite c w = defer c (eSingle c) PDM_ASM_CTL w := by
  obtain ⟨htwin, hpair, happly, hstate⟩ := hone
  exact hostChangeIf_taken c _ w _ _ hr htwin hpair happly hstate (if_neg (by rcases h with h | h <;> simp [h]))

/-- An UP or DOWN written while a sequence runs is refused. -/
theorem asmWrite_running (hcmd : wbits w 30 2 = 1 ∨ wbits w 30 2 = 2) (hseq : c.pdm.seq ≠ none) :
    asmWrite c w = setB c PDM_ASM_STAT_cmd_reject true := by
  obtain ⟨htwin, hpair, happly, hstate⟩ := hone
  exact hostChangeIf_refused c _ w _ _ _ hr htwin hpair happly hstate
    (if_pos (by rcases hcmd with h | h <;> simp [h, fromJournal, happly, Option.isSome_iff_ne_none.mpr hseq]))

end

section
variable {c : Chip} {q : SeqRun}

/-- The group of a running sequence whose commands have all been sent. -/
theorem groupLeft_sent (hseq : c.pdm.seq = some q) (hgroup : q.group < 8) (htodo : q.todo = []) (hbus : c.pdm.bus = []) :
    groupLeft c = some (q, (groupRails c q.group).filter (fun r => !q.seen.contains r)) := by
  have hg : q.group ≠ noGroup := Nat.ne_of_lt hgroup
  simp [groupLeft, hseq, hg, htodo, hbus]

theorem seqGroupDone_complete (h : groupLeft c = some (q, [])) : seqGroupDone c = seqAdvance (enterGroup c q) := by
  simp only [seqGroupDone, h]

theorem seqGroupDone_incomplete {r : Nat} {l : List Nat} (h : groupLeft c = some (q, r :: l)) : seqGroupDone c = c := by
  simp only [seqGroupDone, h]

theorem seqGroup_none (h : groupLeft c = none) : seqGroupDone c = c ∧ seqGroupTimeout c = c := by
  simp only [seqGroupDone, seqGroupTimeout, h, and_self]

theorem seqGroupTimeout_complete (h : groupLeft c = some (q, [])) : seqGroupTimeout c = c := by
  simp only [seqGroupTimeout, h]

/-- The sequence has ended PARTIAL at a rail of the group. -/
def seqPartial (c : Chip) (g r : Nat) : Chip :=
  raise (setFld (setFld (setFld { c with pdm := { c.pdm with seq := none } } PDM_ASM_STAT_asm_state 5) PDM_ASM_STAT_group g)
    PDM_ASM_STAT_rail r) srcPDM_SEQ_FAIL (toW (g * 2 ^ 24 + r * 2 ^ 20))

theorem seqGroupTimeout_incomplete {r : Nat} {l : List Nat} (h : groupLeft c = some (q, r :: l)) :
    seqGroupTimeout c = if 10000000 ≤ c.tmr.ticks - q.last then seqPartial c q.group r else c := by
  simp only [seqGroupTimeout, h]
  rfl

end

section
variable {c : Chip}

theorem railFaultDown_none (h : ∀ e, c.pdm.downAt = some e → due c e = false) : railFaultDown c = c := by
  unfold railFaultDown
  split
  · next e he => exact if_neg (Bool.eq_false_iff.mp (h e he))
  · rfl

/-- What asked for the DOWN sequence is taken out. -/
def downTaken (c : Chip) : Chip := { c with pdm := { c.pdm with downAt := none } }

/-- The transactions of the rails leave the bus. -/
def railsDropped (c : Chip) : Chip := { c with pdm := { c.pdm with bus := c.pdm.bus.filter (fun t => t.rail.isNone) } }

variable {e : W} (h : c.pdm.downAt = some e) (hdue : due c e = true)
include h hdue

theorem railFaultDown_idle (hseq : c.pdm.seq = none) :
    railFaultDown c = if acting c then startSeq (downTaken c) false else downTaken c := by
  unfold railFaultDown
  rw [h]
  dsimp only
  rw [if_pos hdue]
  split
  · next q hq => exact absurd (hseq.symm.trans hq) nofun
  · rfl

theorem railFaultDown_running {q : SeqRun} (hseq : c.pdm.seq = some q) :
    railFaultDown c = if q.up && acting c then startSeq (railsDropped (downTaken c)) false else downTaken c := by
  unfold railFaultDown
  rw [h]
  dsimp only
  rw [if_pos hdue]
  split
  · next q' hq =>
    obtain rfl : q = q' := Option.some.inj (hseq.symm.trans hq)
    rfl
  · next hq => exact absurd (hseq.symm.trans hq) nofun

end

theorem pmbAlert_eq (c : Chip) : pmbAlert c = if acting c then
    { raise c srcPDM_PMB_ALERT 0 with pdm := { (raise c srcPDM_PMB_ALERT 0).pdm with alert := railsIn c } }
    else raise c srcPDM_PMB_ALERT 0 := rfl

/-- Settles O37: a write by whether a sequence runs, a group by the rails it has left, a fault by the sequence that runs. -/
theorem assemblySequencerActs : Obligations.AssemblySequencerActs := by
  unfold Obligations.AssemblySequencerActs
  refine ⟨?write, ?group, ?nogroup, ?quiet, ?running, ?idle, ?events⟩
  case write =>
    intro s v ⟨hs, hr, hone⟩ wait
    refine ⟨fun hseq => ⟨?_, ?_⟩, fun hseq => ⟨?_, ?_⟩, ?_⟩
    · exact exec_to (exec_asmUp s) hs (asmWrite_waits hr hone (.inl hseq))
    · exact exec_to (exec_asmDown s) hs (asmWrite_waits hr hone (.inl hseq))
    · exact exec_to (exec_asmUp s) hs (asmWrite_running hr hone (.inl (asmCode v (by decide))) hseq)
    · exact exec_to (exec_asmDown s) hs (asmWrite_running hr hone (.inr (asmCode v (by decide))) hseq)
    · exact exec_to (exec_asmClear s) hs (asmWrite_waits hr hone (.inr (asmCode v (by decide))))
  case group =>
    intro s q hs hseq hgroup htodo hbus
    have hleft := groupLeft_sent hseq hgroup htodo hbus
    refine ⟨fun hall => ?_, fun r hfirst hlate => ?_⟩
    · have hnil : (groupRails s.chip q.group).filter (fun r => !q.seen.contains r) = [] :=
        List.filter_eq_nil_iff.mpr fun r hr => by simpa using hall r hr
      rw [hnil] at hleft
      exact exec_to (exec_seqGroupDone s) hs (seqGroupDone_complete hleft)
    · rw [← List.head?_filter] at hfirst
      obtain ⟨l, hl⟩ := List.head?_eq_some_iff.mp hfirst
      rw [hl] at hleft
      exact exec_to (exec_seqGroupTimeout s) hs ((seqGroupTimeout_incomplete hleft).trans (if_pos hlate))
  case nogroup =>
    intro s hs
    refine ⟨fun h => ⟨?_, ?_⟩, fun q r l h => ?_, fun q h => ?_, fun q r l h hearly => ?_⟩
    · exact exec_to (exec_seqGroupDone s) hs (seqGroup_none h).1
    · exact exec_to (exec_seqGroupTimeout s) hs (seqGroup_none h).2
    · exact exec_to (exec_seqGroupDone s) hs (seqGroupDone_incomplete h)
    · exact exec_to (exec_seqGroupTimeout s) hs (seqGroupTimeout_complete h)
    · exact exec_to (exec_seqGroupTimeout s) hs ((seqGroupTimeout_incomplete h).trans (if_neg (Nat.not_le.mpr hearly)))
  case quiet =>
    intro s hs
    refine ⟨fun h => exec_to (exec_railFaultDown s) hs (railFaultDown_none h), fun h => ?_, fun h => ?_⟩
    · exact exec_to (exec_pmbAlert s) hs ((pmbAlert_eq s.chip).trans (if_neg (Bool.eq_false_iff.mp h)))
    · exact exec_to (exec_pdmTempCrit s) hs (if_neg h)
  case running =>
    intro s e q hs h hdue hseq c d
    refine ⟨fun hup hact => ?_, fun hup => ?_⟩
    · exact exec_to (exec_railFaultDown s) hs ((railFaultDown_running h hdue hseq).trans (if_pos (by rw [hup, hact]; rfl)))
    · exact exec_to (exec_railFaultDown s) hs ((railFaultDown_running h hdue hseq).trans (if_neg (by simp [hup])))
  case idle =>
    intro s e hs h hdue hseq hact c
    exact exec_to (exec_railFaultDown s) hs ((railFaultDown_idle h hdue hseq).trans (if_pos hact))
  case events =>
    intro s hs c
    refine ⟨fun hact => ?_, fun hhot => ?_⟩
    · exact exec_to (exec_pmbAlert s) hs ((pmbAlert_eq s.chip).trans (if_pos hact))
    · exact exec_to (exec_pdmTempCrit s) hs (if_pos hhot)

/-! ### Firmware's transactions on the bus (R561, R562, R591) -/

theorem withXferOp_word (v : W) {k : Nat} (hk : k < 8) : wbits (withXferOp v k) 28 4 = 8 + k :=
  (wbits_putField_same _ 28 4 (8 + k) (by decide)).trans (Nat.mod_eq_of_lt (by omega))

theorem withXferOp_go (v : W) {k : Nat} (hk : k < 8) : wbit (withXferOp v k) 31 = true ∧ wbits (withXferOp v k) 28 3 = k := by
  have hword := withXferOp_word v hk
  unfold wbit wbits bitsAt at *
  have hgo : (withXferOp v k).toNat / 2 ^ 31 % 2 ^ 1 = 1 := by omega
  exact ⟨by rw [hgo]; rfl, by omega⟩

section
variable {c : Chip} (hr : reachable c PDM_PMB_XFER = true)
include hr

/-- One written while another runs is ignored. -/
theorem pmbXfer_busy (v : W) (hbusy : wbit (rd c PDM_PMB_STAT) 31 = true) : pmbXfer c v = c := by
  rw [pmbXfer, hostWrite_reach c _ _ hr]
  exact if_pos (by simp [hbusy])

variable (v : W) {k : Nat} (hk : 1 ≤ k) (hk4 : k ≤ 4) (hidle : wbit (rd c PDM_PMB_STAT) 31 = false)
include hk hk4 hidle

theorem pmbXfer_idle : pmbXfer c (withXferOp v k) = if !acting c then wr c PDM_PMB_STAT 5
    else queueTx (wr c PDM_PMB_STAT 0x80000000)
      [⟨none, (withXferOp v k).toNat, if k ≤ 2 then some (wbits (rd c PDM_PMB_DATA) 0 16) else none, 0⟩] := by
  obtain ⟨hgo, hop⟩ := withXferOp_go v (k := k) (by omega)
  have hlisted : (!wbit (withXferOp v k) 31 || k = 0 || 4 < k || wbit (rd c PDM_PMB_STAT) 31) = false := by
    have h0 : k ≠ 0 := by omega
    simp [hgo, hidle, h0, hk4]
  rw [pmbXfer, hostWrite_reach c _ _ hr]
  dsimp only
  rw [hop, hlisted]
  rfl

theorem pmbXfer_queued (hact : acting c = true) : pmbXfer c (withXferOp v k) = queueTx (wr c PDM_PMB_STAT 0x80000000)
    [⟨none, (withXferOp v k).toNat, if k ≤ 2 then some (wbits (rd c PDM_PMB_DATA) 0 16) else none, 0⟩] := by
  rw [pmbXfer_idle hr v hk hk4 hidle, hact]
  rfl

theorem pmbXfer_notActing (hact : acting c = false) : pmbXfer c (withXferOp v k) = wr c PDM_PMB_STAT 5 := by
  rw [pmbXfer_idle hr v hk hk4 hidle, hact]
  rfl

end

/-! ### The end of a transaction, and the poller (R561, R562, R565) -/

theorem seqAdvance_none {c : Chip} (h : c.pdm.seq = none) : seqAdvance c = c := by
  unfold seqAdvance
  rw [h]

section
variable {c : Chip} {t : PmbTx}

theorem pmbTransactionDone_idle (h : c.pdm.bus = []) (data : BitVec 16) : pmbTransactionDone c 0 data = c := by
  simp only [pmbTransactionDone, h]
  rfl

variable (h : c.pdm.bus = [t])

/-- The transaction has left the bus. -/
def busFree (c : Chip) : Chip := { c with pdm := { c.pdm with bus := [] } }

section
include h

theorem pmbTransactionDone_good (data : BitVec 16) : pmbTransactionDone c 0 data = seqAdvance (pmbGood (busFree c) t data) := by
  unfold pmbTransactionDone
  rw [h]
  rfl

theorem pmbTransactionDone_again {res : Nat} (hres : res ≠ 0) (htries : t.tries < 2) (data : BitVec 16) :
    pmbTransactionDone c res data
      = { busFree c with pdm := { (busFree c).pdm with bus := [{ t with tries := t.tries + 1 }] } } := by
  unfold pmbTransactionDone
  rw [h]
  dsimp only
  rw [if_neg hres, if_pos htries]
  rfl

theorem pmbTransactionDone_failed {res : Nat} (hres : res ≠ 0) (htries : 2 ≤ t.tries) (data : BitVec 16) :
    pmbTransactionDone c res data = seqAdvance (pmbFailed (busFree c) t res) := by
  unfold pmbTransactionDone
  rw [h]
  dsimp only
  rw [if_neg hres, if_neg (Nat.not_lt.mpr htries)]
  rfl

end

section
variable (hrail : t.rail = none) (data : BitVec 16)
include hrail

theorem pmbGood_readByte (hop : bitsAt t.cmd 28 3 = 3) :
    pmbGood c t data = wr (wr c PDM_PMB_DATA (toW (data.toNat % 256))) PDM_PMB_STAT 1 := by
  simp only [pmbGood, hrail, hop, if_true]

theorem pmbGood_readWord (hop : bitsAt t.cmd 28 3 = 4) :
    pmbGood c t data = wr (wr c PDM_PMB_DATA (toW data.toNat)) PDM_PMB_STAT 1 := by
  simp [pmbGood, hrail, hop]

theorem pmbGood_write (hop : bitsAt t.cmd 28 3 = 1 ∨ bitsAt t.cmd 28 3 = 2) : pmbGood c t data = wr c PDM_PMB_STAT 1 := by
  rcases hop with h | h <;> simp [pmbGood, hrail, h]

end

theorem pmbFailed_firmware (hrail : t.rail = none) (res : Nat) : pmbFailed c t res = wr c PDM_PMB_STAT (toW (res + 1)) := by
  simp only [pmbFailed, hrail]

end

section
variable {c : Chip} (status vout iout temp : BitVec 16)

theorem pmbPoll_barred (h : mayPoll c = false) : pmbPoll c status vout iout temp = c := if_neg (Bool.eq_false_iff.mp h)

variable (h : mayPoll c = true) {r : Nat} (hrail : pollRail c = some r)
include h hrail

theorem pmbPoll_modeFirst (hmode : mapGet c.pdm.mode r = none) :
    pmbPoll c status vout iout temp = queueTx c [⟨some r, 0x20, none, 0⟩] := by
  unfold pmbPoll
  rw [if_pos h, hrail]
  dsimp only
  rw [hmode]
  rfl

/-- The rail's readings are taken in. -/
def takeReadings (c : Chip) (r : Nat) : Chip :=
  { c with pdm := { c.pdm with
    polled := r, vout := mapPut c.pdm.vout r vout, iout := mapPut c.pdm.iout r iout,
    temp := mapPut c.pdm.temp r temp, reading := c.pdm.reading.map (fun l => l.erase r) } }

/-- The rail's alert has been looked at. -/
def alertTaken (c : Chip) (r : Nat) : Chip := { c with pdm := { c.pdm with alert := c.pdm.alert.erase r } }

theorem pmbPoll_read (hmode : mapGet c.pdm.mode r ≠ none) : pmbPoll c status vout iout temp =
    if c.pdm.alert.contains r then showGood (alertTaken (takeStatusWord c r status) r) r
    else endReading (noteSeen (showGood (takeReadings vout iout temp (takeStatusWord c r status) r) r) r) := by
  unfold pmbPoll
  rw [if_pos h, hrail]
  dsimp only
  rw [if_neg (by simpa using hmode)]
  rfl

end

/-- Settles O38: firmware's write by whether one runs and the device acts, an end by its result, a poll by the rail's mode and alert. -/
theorem pmbusTransactionsAct : Obligations.PmbusTransactionsAct := by
  unfold Obligations.PmbusTransactionsAct
  refine ⟨?queued, ?refused, ?quiet, ?done, ?poll⟩
  case queued =>
    intro s v ⟨hs, hr⟩ hact hidle queue data
    exact ⟨exec_to (exec_pmbWriteByte s) hs (pmbXfer_queued hr v (by decide) (by decide) hidle hact),
      exec_to (exec_pmbWriteWord s) hs (pmbXfer_queued hr v (by decide) (by decide) hidle hact),
      exec_to (exec_pmbReadByte s) hs (pmbXfer_queued hr v (by decide) (by decide) hidle hact),
      exec_to (exec_pmbReadWord s) hs (pmbXfer_queued hr v (by decide) (by decide) hidle hact)⟩
  case refused =>
    intro s v ⟨hs, hr⟩ no
    refine ⟨fun hbusy => ?_, fun hidle hact => ?_⟩
    · exact ⟨exec_to (exec_pmbWriteByte s) hs (pmbXfer_busy hr _ hbusy), exec_to (exec_pmbWriteWord s) hs (pmbXfer_busy hr _ hbusy),
        exec_to (exec_pmbReadByte s) hs (pmbXfer_busy hr _ hbusy), exec_to (exec_pmbReadWord s) hs (pmbXfer_busy hr _ hbusy)⟩
    · exact ⟨exec_to (exec_pmbWriteByte s) hs (pmbXfer_notActing hr v (by decide) (by decide) hidle hact),
        exec_to (exec_pmbWriteWord s) hs (pmbXfer_notActing hr v (by decide) (by decide) hidle hact),
        exec_to (exec_pmbReadByte s) hs (pmbXfer_notActing hr v (by decide) (by decide) hidle hact),
        exec_to (exec_pmbReadWord s) hs (pmbXfer_notActing hr v (by decide) (by decide) hidle hact)⟩
  case quiet =>
    intro s status vout iout temp data r hs
    exact ⟨fun h => exec_to (exec_pmbPoll s) hs (pmbPoll_barred status vout iout temp h),
      fun h => exec_to (exec_pmbTransactionDone s) hs (pmbTransactionDone_idle h data),
      fun h hrail hmode => exec_to (exec_pmbPoll s) hs (pmbPoll_modeFirst status vout iout temp h hrail hmode)⟩
  case done =>
    intro s res data t hs hbus hrail hseq c op
    have hgood : ∀ d, pmbGood (busFree s.chip) t data = d → d.pdm.seq = none →
        exec (.pmbTransactionDone 0 data) s = .next { s with chip := d } := fun d hd hdseq =>
      exec_to (exec_pmbTransactionDone s) hs ((pmbTransactionDone_good hbus data).trans (by rw [hd, seqAdvance_none hdseq]))
    have hval : res ≠ 0 → res.val ≠ 0 := fun hne h => hne (Fin.ext h)
    refine ⟨fun hres hop => ?_, fun hres hop => ?_, fun hres hop => ?_, fun hres htries => ?_, fun hres htries => ?_⟩
    · subst hres
      exact hgood _ (pmbGood_readByte hrail data hop) hseq
    · subst hres
      exact hgood _ (pmbGood_readWord hrail data hop) hseq
    · subst hres
      exact hgood _ (pmbGood_write hrail data hop) hseq
    · exact exec_to (exec_pmbTransactionDone s) hs (pmbTransactionDone_again hbus (hval hres) htries data)
    · refine exec_to (exec_pmbTransactionDone s) hs ((pmbTransactionDone_failed hbus (hval hres) htries data).trans ?_)
      rw [pmbFailed_firmware hrail]
      exact seqAdvance_none hseq
  case poll =>
    intro s status vout iout temp r hs h hrail hmode c d alerted
    have hread := pmbPoll_read status vout iout temp h hrail hmode
    exact ⟨fun hnone => exec_to (exec_pmbPoll s) hs (hread.trans (if_neg (by simp [hnone]))),
      fun halert => exec_to (exec_pmbPoll s) hs (hread.trans (if_pos (by simpa using halert)))⟩

end Sys2Proof.Machine
end

section
/-! The converter, its trims, the DAC and the TEC zones (R571–R589, R595–R598). -/

open Sys2Proof

namespace Sys2Proof.Machine

/-! ### Triggers and urgent requests (R573–R575) -/

theorem go_forced (v : W) : wbit (v ||| 0x80000000) 31 = true := wbit_or_forced v (by decide)

section
variable {c : Chip} {n : Nat}

theorem trigger_off (h : fldB c AUX_CTL_adc_en = false) : trigger c n = c := if_pos (by simp [h])

theorem trigger_on (h : fldB c AUX_CTL_adc_en = true) : trigger c n =
    if c.aux.pend.contains n then raiseLimited (countUp (setB c AUX_STAT_overrun true) AUX_OVERRUN_CNT 1) srcAUX_OVERRUN 0
    else nextConversion { c with aux := { c.aux with pend := c.aux.pend ++ [n] } } := if_neg (by simp [h])

/-- The timer of a sequence expires at this boundary. -/
abbrev TimerExpires (c : Chip) (n : Nat) : Prop :=
  fld c (AUX_SEQ_CTL_trig n) = 1 ∧ (period c).toNat % max 4 (fld c (AUX_SEQ_CTL_interval n)) = 0

theorem timerTrigger_expires (h : TimerExpires c n) : timerTrigger c n = trigger c n := if_pos (by simp [h.1, h.2])

theorem timerTrigger_waits (h : ¬ TimerExpires c n) : timerTrigger c n = c := if_neg (by simpa using h)

/-- The sequence's control register takes a write (R597). -/
def seqStored (c : Chip) (n : Nat) (v : W) : Chip := showAux (wr c (AUX_SEQ_CTL n) (seqCtlStored (v ||| 0x80000000)))

theorem seqCtlWrite_go (hr : reachable c (AUX_SEQ_CTL n) = true) (v : W) :
    seqCtlWrite c n (v ||| 0x80000000) = trigger (seqStored c n v) n := by
  rw [seqCtlWrite, hostWrite_reach c _ _ hr]
  exact if_pos (go_forced v)

end

theorem wbits_go (v : W) : wbits (v ||| 0x80000000) 0 6 = wbits v 0 6 := wbits_or_outside v (by decide)

section
variable {c : Chip} (hr : reachable c AUX_URG = true) (v : W)
include hr

theorem urgentWrite_off (h : fldB c AUX_CTL_adc_en = false) : urgentWrite c v = c := by
  rw [urgentWrite, hostWrite_reach c _ _ hr]
  exact if_pos (by simp [h])

variable (h : fldB c AUX_CTL_adc_en = true)
include h

theorem urgentWrite_go : urgentWrite c (v ||| 0x80000000) =
    if fldB c AUX_STAT_urg_busy then setB c AUX_STAT_urg_reject true
    else nextConversion { c with aux := { c.aux with urgent := some (wbits v 0 6) } } := by
  rw [urgentWrite, hostWrite_reach c _ _ hr]
  dsimp only
  rw [if_neg (by rw [go_forced, h]; decide), wbits_go]
  rfl

end

/-! ### Results (R571, R576, R577) -/

section
variable {c : Chip}

theorem conversionDone_none (h : c.aux.conv = none) (code : BitVec 16) (ovr : Bool) : conversionDone c code ovr = c := by
  simp only [conversionDone, h]

/-- The converter has ended a conversion. -/
def conversionEnded (c : Chip) (ovr : Bool) : Chip :=
  { c with aux := { c.aux with conv := none, lastEnd := some c.tmr.ticks, ovrLast := ovr } }

/-- The result has been put where results stand: the queue and AUX_LAST. -/
def resultStored (c : Chip) (k : ConvKind) (ch : Nat) (code : BitVec 16) (ovr : Bool) : Chip :=
  let d := conversionEnded c ovr
  wr (queueResult (if ovr then overrange d ch else d) (resultWord c k ch code ovr)) (AUX_LAST ch) (resultWord c k ch code ovr)

theorem conversionDone_running {k : ConvKind} {ch : Nat} (h : c.aux.conv = some (k, ch)) (code : BitVec 16) (ovr : Bool) :
    conversionDone c code ovr = nextConversion (afterConversion
      (useResult (resultStored c k ch code ovr) ch code.toInt ovr c.aux.ovrLast) k (resultWord c k ch code ovr)) := by
  unfold conversionDone
  rw [h]
  rfl

theorem useResult_unused {ch : Nat} {recovery : Bool} (h : 32 ≤ ch ∨ recovery = true) (code : Int) (ovr : Bool) :
    useResult c ch code ovr recovery = c := if_pos (by rcases h with h | h <;> simp [h])

theorem adcPowerDown_due {t : Nat} (hconv : c.aux.conv = none) (hlast : c.aux.lastEnd = some t) (hdue : 10000 ≤ c.tmr.ticks - t) :
    adcPowerDown c = setB c AUX_STAT_powered false := by
  simp only [adcPowerDown, hconv, hlast, hdue, if_true]

theorem adcPowerDown_stays
    (h : c.aux.conv ≠ none ∨ c.aux.lastEnd = none ∨ ∃ t, c.aux.lastEnd = some t ∧ c.tmr.ticks - t < 10000) : adcPowerDown c = c := by
  unfold adcPowerDown
  split
  next t hconv hlast =>
    rcases h with h | h | ⟨u, hu, hearly⟩
    · exact absurd hconv h
    · exact absurd (h.symm.trans hlast) nofun
    · obtain rfl : u = t := Option.some.inj (hu.symm.trans hlast)
      exact if_neg (Nat.not_le.mpr hearly)
  next => rfl

theorem resultPop_empty (hr : reachable c AUX_RESQ = true) (h : c.aux.queue = []) : resultPop c = answer c 0 := by
  rw [resultPop, hostRead_reach c _ _ hr]
  simp only [h]

theorem resultPop_head (hr : reachable c AUX_RESQ = true) {w : W} {t : List W} (h : c.aux.queue = w :: t) :
    resultPop c = showAux { answer c w with aux := { c.aux with queue := t } } := by
  rw [resultPop, hostRead_reach c _ _ hr]
  dsimp only
  rw [h]
  rfl

/-! ### Trims (R579) -/

theorem auxCtlWrite_trim (hr : reachable c AUX_CTL = true) (v : W) : auxCtlWrite c (v ||| 0x40000000) =
    nextConversion { wr c AUX_CTL ((v ||| 0x40000000) &&& 0x80FF0000) with
      aux := { (wr c AUX_CTL ((v ||| 0x40000000) &&& 0x80FF0000)).aux with trimWanted := true } } := by
  have hgo : wbit (v ||| 0x40000000) 30 = true := wbit_or_forced v (by decide)
  rw [auxCtlWrite, hostWrite_reach c _ _ hr]
  dsimp only
  rw [if_pos hgo]
  rfl

/-- The next trim is due (R579). -/
abbrev TrimDue (c : Chip) : Prop :=
  fld c AUX_CTL_trim_interval ≠ 0 ∧ fldB c AUX_STAT_trimming = false
    ∧ fld c AUX_CTL_trim_interval * 1000000000 ≤ c.tmr.ticks - c.aux.trimEnd

theorem trimInterval_due (h : TrimDue c) : trimInterval c = nextConversion { c with aux := { c.aux with trimWanted := true } } :=
  if_pos (by simp [h.1, h.2.1, h.2.2])

theorem trimInterval_waits (h : ¬ TrimDue c) : trimInterval c = c := if_neg (by simpa [and_assoc] using h)

/-- Conversions a trim needs before it can end. -/
def trimNeeds (ok : Bool) : Nat := if ok then 256 else 64

theorem trimDone_early (h : fldB c AUX_STAT_trimming = false ∨ c.aux.trimN < trimNeeds ok) (offset gain : Byte) (hi lo : BitVec 22) :
    trimDone c ok offset gain hi lo = c := by
  refine if_neg fun hd => ?_
  rw [Bool.and_eq_true, decide_eq_true_eq] at hd
  rcases h with h | h
  · exact Bool.eq_false_iff.mp h hd.1
  · exact absurd hd.2 (Nat.not_le.mpr h)

/-- A conversion of the trim that ends is given up; another goes on. -/
def trimConv (x : Option (ConvKind × Nat)) : Option (ConvKind × Nat) :=
  match x with
  | some (.trim, _) => none
  | x => x

theorem trimConv_other {x : Option (ConvKind × Nat)} (h : ∀ k, x ≠ some (.trim, k)) : trimConv x = x := by
  unfold trimConv
  split
  · next k => exact absurd rfl (h k)
  · rfl

/-- A trim has ended: its count is back at 0. -/
def trimEnded (c : Chip) (conv : Option (ConvKind × Nat)) : Chip :=
  setB { c with aux := { c.aux with trimEnd := c.tmr.ticks, trimN := 0, conv := conv } } AUX_STAT_trimming false

/-- The generation of the references after the trim. -/
def nextGen (c : Chip) : Nat := (wbits (rd c AUX_TRIM_STAT) 16 16 + 1) % 2 ^ 16

/-- The trims and references found. -/
def trimRefs (c : Chip) (offset gain : Byte) (hi lo : BitVec 22) : Chip :=
  wr (wr (wr c AUX_TRIM_STAT (toW (nextGen c * 2 ^ 16 + offset.toNat * 2 ^ 8 + gain.toNat))) AUX_TRIM_REF_HI (toW hi.toNat))
    AUX_TRIM_REF_LO (toW lo.toNat)

/-- What follows the end of a trim: new references, or the failure. -/
def trimFollows (c : Chip) (ok : Bool) (offset gain : Byte) (hi lo : BitVec 22) : Chip :=
  if ok then raise (wr (trimRefs c offset gain hi lo) CNS_TRACE (toW (nextGen c))) srcAUX_TRIM_DONE 0
  else raise (setB c AUX_STAT_trim_fail true) srcAUX_TRIM_FAIL 0

theorem trimDone_ends (htrim : fldB c AUX_STAT_trimming = true) {ok : Bool} (h : trimNeeds ok ≤ c.aux.trimN)
    (offset gain : Byte) (hi lo : BitVec 22) :
    trimDone c ok offset gain hi lo = nextConversion (trimFollows (trimEnded c (trimConv c.aux.conv)) ok offset gain hi lo) := by
  unfold trimDone
  rw [if_pos (by rw [htrim]; exact decide_eq_true h)]
  rfl

end

/-- Settles O39: a trigger by what is pending, a result by the kind of its conversion, a trim by its end; what is not due stays. -/
theorem converterRunsSequences : Obligations.ConverterRunsSequences := by
  unfold Obligations.ConverterRunsSequences
  refine ⟨?triggers, ?ignored, ?stays, ?urgent, ?result, ?powerDown, ?pop, ?trim, ?trimEnd⟩
  case triggers =>
    intro s n v trig stored
    refine ⟨fun ⟨hs, hr⟩ hen => ?_, fun hs hen htrig hdue => ?_⟩
    · exact exec_to (exec_adcSeqGo s) hs ((seqCtlWrite_go hr v).trans (trigger_on hen))
    · exact exec_to (exec_adcTimerTrigger s) hs ((timerTrigger_expires ⟨htrig, hdue⟩).trans (trigger_on hen))
  case ignored =>
    intro s n v stored
    refine ⟨fun ⟨hs, hr⟩ hen => ?_, fun hs h => exec_to (exec_adcTimerTrigger s) hs ?_, fun ⟨hs, hr⟩ hen => ?_⟩
    · exact exec_to (exec_adcSeqGo s) hs ((seqCtlWrite_go hr v).trans (trigger_off hen))
    · by_cases hexp : TimerExpires s.chip n
      · rw [timerTrigger_expires hexp]
        rcases h with h | h | h
        · exact trigger_off h
        · exact absurd hexp.1 h
        · exact absurd hexp.2 h
      · exact timerTrigger_waits hexp
    · exact exec_to (exec_adcUrgent s) hs (urgentWrite_off hr _ hen)
  case stays =>
    intro s code ovr ok offset gain hi lo hs
    refine ⟨fun h => exec_to (exec_adcConversionDone s) hs (conversionDone_none h code ovr),
      fun h => exec_to (exec_adcPowerDown s) hs (adcPowerDown_stays h),
      fun h => exec_to (exec_trimInterval s) hs (trimInterval_waits fun ⟨hon, hidle, hdue⟩ => ?_),
      fun h => exec_to (exec_trimDone s) hs (trimDone_early ?_ offset gain hi lo)⟩
    · rcases h with h | h | h
      · exact hon h
      · exact absurd h (Bool.eq_false_iff.mp hidle)
      · omega
    · rcases h with h | h | ⟨rfl, h⟩
      · exact .inl h
      · cases ok
        · exact .inr h
        · exact .inr (Nat.lt_trans h (by decide))
      · exact .inr h
  case urgent =>
    intro s v ⟨hs, hr⟩ hen
    refine ⟨fun hidle => ?_, fun hbusy => ?_⟩
    · exact exec_to (exec_adcUrgent s) hs ((urgentWrite_go hr v hen).trans (if_neg (Bool.eq_false_iff.mp hidle)))
    · exact exec_to (exec_adcUrgent s) hs ((urgentWrite_go hr v hen).trans (if_pos hbusy))
  case result =>
    intro s code ovr k ch hs hconv c w d e
    have hdone := conversionDone_running hconv code ovr
    refine ⟨fun hk => ?_, fun hk => ?_, fun n i hk => ?_, fun h => useResult_unused h _ _⟩
    · subst hk
      exact exec_to (exec_adcConversionDone s) hs hdone
    · subst hk
      exact exec_to (exec_adcConversionDone s) hs hdone
    · exact exec_to (exec_adcConversionDone s) hs hdone
  case powerDown =>
    intro s t hs hconv hlast hdue
    exact exec_to (exec_adcPowerDown s) hs (adcPowerDown_due hconv hlast hdue)
  case pop =>
    intro s ⟨hs, hr⟩ say
    exact ⟨fun h => exec_to (exec_adcResultPop s) hs (resultPop_empty hr h),
      fun w t h => exec_to (exec_adcResultPop s) hs (resultPop_head hr h)⟩
  case trim =>
    intro s v want
    exact ⟨fun ⟨hs, hr⟩ => exec_to (exec_trimGo s) hs (auxCtlWrite_trim hr v),
      fun hs hon hidle hdue => exec_to (exec_trimInterval s) hs (trimInterval_due ⟨hon, hidle, hdue⟩)⟩
  case trimEnd =>
    intro s offset gain hi lo hs htrim hconv c c' gen stat refs good bad
    have hends := fun ok h => trimDone_ends htrim (ok := ok) h offset gain hi lo
    rw [trimConv_other hconv] at hends
    exact ⟨fun h => exec_to (exec_trimDone s) hs (hends true h), fun h => exec_to (exec_trimDone s) hs (hends false h)⟩

/-! ### The DAC and the TEC zones (R581–R589) -/

section
variable {c : Chip} {k w : Nat} {v : W}

theorem dacWrite_waits (hr : reachable c (AUX_DAC_CFG k + 4 * w) = true) (hc : Single c) (hok : ¬ (w = 0 ∧ wbits v 0 3 = 6)) :
    dacWrite c k w v = defer c (c.tmr.period + 2) (AUX_DAC_CFG k + 4 * w) v := by
  obtain ⟨h1, h2, h3, h4⟩ := hc
  exact hostChangeIf_taken _ _ _ _ _ hr h1 h2 h3 h4 (if_neg fun h => hok (by simpa using h))

/-- Range 6 is refused. -/
theorem dacWrite_refused (hr : reachable c (AUX_DAC_CFG k + 4 * 0) = true) (hc : Single c) (hbad : wbits v 0 3 = 6) :
    dacWrite c k 0 v = dacReject c := by
  obtain ⟨h1, h2, h3, h4⟩ := hc
  exact hostChangeIf_refused _ _ _ _ _ _ hr h1 h2 h3 h4 (if_pos (by simp [hbad]))

theorem dacChangeDone_elsewhere (h : (dacCh c k).st ≠ 2) : dacChangeDone c k = c := if_neg h

theorem dacChangeDone_changing (h : (dacCh c k).st = 2) :
    dacChangeDone c k = modDac c k (fun d => { d with st := 1 }) := if_pos h

theorem dacCh_setFld (f : Fld) (n : Nat) : dacCh (setFld c f n) k = dacCh c k := by rw [dacCh, setFld_aux, dacCh]

theorem dacCh_modDac_same (h : k < c.aux.dac.length) (f : DacCh → DacCh) : dacCh (modDac c k f) k = f (dacCh c k) := by
  rw [modDac, dacCh_setFld]
  show ((c.aux.dac.modify k f).getD k DacCh.reset) = f (c.aux.dac.getD k DacCh.reset)
  rw [List.getD_eq_getElem?_getD, List.getElem?_modify_eq, List.getD_eq_getElem?_getD, List.getElem?_eq_getElem h]
  rfl

theorem dacCh_modDac_other {j : Nat} (h : j ≠ k) (f : DacCh → DacCh) : dacCh (modDac c k f) j = dacCh c j := by
  rw [modDac, dacCh_setFld]
  show ((c.aux.dac.modify k f).getD j DacCh.reset) = c.aux.dac.getD j DacCh.reset
  rw [List.getD_eq_getElem?_getD, List.getElem?_modify_ne _ _ (Ne.symm h), List.getD_eq_getElem?_getD]

theorem dacState_modDac (f : DacCh → DacCh) : fld (modDac c k f) (AUX_DAC_CFG_state k) = (dacCh (modDac c k f) k).st % 2 ^ 2 := by
  rw [modDac, fld_setFld_same _ _ _ (show 28 + 2 ≤ 32 by decide), dacCh_setFld]
  rfl

theorem rd_modDac_other {a : Nat} (h : a ≠ AUX_DAC_CFG k) (f : DacCh → DacCh) : rd (modDac c k f) a = rd c a :=
  rd_setFld_other _ _ (f := AUX_DAC_CFG_state k) (Ne.symm h)

end

theorem tecStep_acts {c : Chip} (hact : acting c = true) (hboot : fld c GLB_BOOT_STAT_state = 1) :
    tecStep c = (List.range 8).foldl tecZone c := if_pos (by simp [hact, hboot])

theorem tecStep_elsewhere {c : Chip} (h : acting c = false ∨ fld c GLB_BOOT_STAT_state ≠ 1) : tecStep c = c := by
  refine if_neg fun hd => ?_
  rw [Bool.and_eq_true, decide_eq_true_eq] at hd
  rcases h with h | h
  · exact Bool.eq_false_iff.mp h hd.1
  · exact h hd.2

/-- Settles O40: a DAC write either waits or is refused; a range change that ends is one channel's change of state, shown in that
channel's register alone. -/
theorem dacAndTecAct : Obligations.DacAndTecAct := by
  unfold Obligations.DacAndTecAct
  refine ⟨fun s k v => ⟨?code, ?range, ?rangeSix⟩, fun s k hs h => ?elsewhere, fun s k hs hlen hst => ?changing, fun s v => ⟨?steps, ?still, ?evt⟩⟩
  case code =>
    intro ⟨hs, hr, hc⟩
    rw [← dacCode_word k] at hr ⊢
    exact exec_to (exec_dacCode s) hs (dacWrite_waits hr hc fun h => absurd h.1 (by decide))
  case range =>
    intro ⟨hs, hr, hc⟩ hne
    exact exec_to (exec_dacRange s) hs (dacWrite_waits (w := 0) hr hc fun h => hne h.2)
  case rangeSix =>
    intro ⟨hs, hr, hc⟩ hbad
    exact exec_to (exec_dacRange s) hs (dacWrite_refused hr hc hbad)
  case elsewhere => exact exec_to (exec_dacChangeDone s) hs (dacChangeDone_elsewhere h)
  case changing =>
    have hk : k.val < s.chip.aux.dac.length := by omega
    have hsame := dacCh_modDac_same hk (fun d => { d with st := 1 })
    refine ⟨_, exec_to (exec_dacChangeDone s) hs (dacChangeDone_changing hst), ?_, ?_, ?_, fun j hj => ?_, fun a ha => ?_⟩
    · rw [hsame]
    · rw [hsame]
    · rw [dacState_modDac, hsame]
      rfl
    · exact dacCh_modDac_other (fun h => hj (Fin.ext h)) _
    · exact rd_modDac_other ha _
  case steps =>
    intro hs hact hboot
    exact exec_to (exec_tecStep s) hs (tecStep_acts hact hboot)
  case still =>
    intro hs h
    exact exec_to (exec_tecStep s) hs (tecStep_elsewhere h)
  case evt =>
    intro ⟨hs, hr⟩
    exact exec_to (exec_tecEvt s) hs (hostWrite_reach _ _ _ hr)

end Sys2Proof.Machine
end

section
/-! The ledger: closing, copying, the vault, alarms and exports (R452–R457). -/

open Sys2Proof

namespace Sys2Proof.Machine

variable {c : Chip}

/-! ### Records and the log (R452, R453) -/

theorem closeRec_open {src : Nat} {o : OpenRec} (h : mapGet c.ldg.opened src = some o) :
    closeRec c src =
      ledgerPut { c with ldg := { c.ldg with opened := mapDel c.ldg.opened src } } 1 o.cls o.inj o.real src o.body := by
  unfold closeRec
  rw [h]

/-- The record whose turn it is stands in the ring and may be copied. -/
abbrev CopiesNext (c : Chip) (r : LRec) : Prop :=
  mapGet c.ldg.ring (c.ldg.copied.toNat % 8192) = some r ∧ r.seq = c.ldg.copied ∧ copyAllowed c = true

theorem logCopyOne_next {r : LRec} (h : CopiesNext c r) :
    logCopyOne c =
      let d := memWrite c 8 (logSlot c (fld c LDG_STAT_log_region) r.seq) (r.bytes c)
      { d with ldg := { d.ldg with copied := r.seq + 1 } } := by
  obtain ⟨hring, hseq, hallowed⟩ := h
  unfold logCopyOne
  rw [hring]
  exact if_pos (by simp [hseq, hallowed])

theorem logCopyOne_none (h : ∀ r, ¬ CopiesNext c r) : logCopyOne c = c := by
  unfold logCopyOne
  split
  · next r hring =>
    refine if_neg fun hd => h r ?_
    rw [Bool.and_eq_true, decide_eq_true_eq] at hd
    exact ⟨hring, hd⟩
  · rfl

theorem logCopy_none (h : ∀ r, ¬ CopiesNext c r) (n : Nat) : logCopy c n = c := by
  induction n with
  | zero => rfl
  | succ n ih =>
    show logCopy (logCopyOne c) n = c
    rw [logCopyOne_none h, ih]

/-! ### The vault (R454, R455) -/

theorem vaultHeld_copied {f : Freeze} (hf : c.ldg.freeze = some f) (hcopied : pReached c.ldg.copied (f.seq + 1) = true)
    (hfits : (f.seq - c.ldg.logFirst).toNat < 2097152) :
    vaultHeld c =
      let d := setFld (setB c LDG_STAT_vault_held true) LDG_STAT_vault_class f.cls
      let d := wr (wr d LDG_VAULT_FIRST c.ldg.logFirst) LDG_VAULT_FREEZE f.seq
      let d := setFld d LDG_STAT_log_region (1 - fld d LDG_STAT_log_region)
      { d with ldg := { d.ldg with freeze := none, logFirst := f.seq + 1 } } := by
  unfold vaultHeld
  rw [hf]
  dsimp only
  rw [if_pos hcopied, if_neg (Nat.not_le.mpr hfits)]

theorem vaultHeld_waits (h : ∀ f, c.ldg.freeze = some f → pReached c.ldg.copied (f.seq + 1) = false) : vaultHeld c = c := by
  unfold vaultHeld
  split
  · next f hf => exact if_neg (Bool.eq_false_iff.mp (h f hf))
  · rfl

theorem vaultRelease_go (hr : reachable c LDG_VAULT_CTL = true) {v : W} (hv : wbit v 31 = true) :
    vaultRelease c v = setB c LDG_STAT_vault_held false :=
  (hostWrite_reach _ _ _ hr).trans (if_pos hv)

theorem vaultRelease_idle (hr : reachable c LDG_VAULT_CTL = true) {v : W} (hv : wbit v 31 = false) : vaultRelease c v = c :=
  (hostWrite_reach _ _ _ hr).trans (if_neg (Bool.eq_false_iff.mp hv))

/-! ### Firmware's records (R453) -/

theorem fwRecordSubmit_idle (hr : reachable c LDG_FW_SUBMIT = true) {v : W} (hv : wbit v 31 = false) : fwRecordSubmit c v = c :=
  (hostWrite_reach _ _ _ hr).trans (if_pos (by rw [hv]; rfl))

theorem fwRecordSubmit_go (hr : reachable c LDG_FW_SUBMIT = true) {v : W} (hv : wbit v 31 = true) :
    fwRecordSubmit c v =
      if 192 ≤ c.ldg.waiting.length then setB c LDG_STAT_fw_busy true
      else ledgerPut c 7 0 false false (wbits v 0 16) ((List.range 6).flatMap (fun i => beBytes 4 (rn c (LDG_FW_REC i)))) :=
  (hostWrite_reach _ _ _ hr).trans (if_neg (by rw [hv]; decide))

/-! ### Alarms (R456) -/

theorem alarmWindowEnd_elsewhere (h : c.tmr.period.toNat % 40000 ≠ 0) : alarmWindowEnd c = c := if_neg h

theorem alarmWindowEnd_quiet (h : c.tmr.period.toNat % 40000 = 0) (hl : c.ldg.summary = []) :
    alarmWindowEnd c = { c with ldg := { c.ldg with
      summary := [], budget := 0, alarms := c.ldg.alarms ++ summaryAlarms c.ldg.summary 1280 } } :=
  (if_pos h).trans (if_pos (List.isEmpty_iff.mpr hl))

theorem alarmWindowEnd_summaries (h : c.tmr.period.toNat % 40000 = 0) (hl : c.ldg.summary ≠ []) :
    alarmWindowEnd c =
      let d : Chip := { c with ldg := { c.ldg with
        summary := [], budget := 0, alarms := c.ldg.alarms ++ summaryAlarms c.ldg.summary 1280 } }
      let d := countUp d LDG_ALARM_SUMM ((c.ldg.summary.map (fun e => e.2.1)).sum)
      raise (setB (showAlarms d) LDG_STAT_alarm_summ true) srcLDG_ALARM_SUMMARY 0 :=
  (if_pos h).trans (if_neg fun he => hl (List.isEmpty_iff.mp he))

/-- The ports of the alarms' mask that take frames now. -/
abbrev alarmPorts (c : Chip) : List Nat := (kindPorts c 2).filter (fun n => linkUp c n && txActing c n)

theorem alarmSend_idle (h : c.ldg.alarms = [] ∨ acting c = false) : alarmSend c = c := by
  unfold alarmSend
  split
  · rfl
  · next a rest halarms =>
    rcases h with h | h
    · rw [h] at halarms
      cases halarms
    · exact if_pos (by rw [h]; rfl)

/-- With no port up the alarm is kept, whether it has its sequence or not. -/
theorem alarmSend_noPort (hports : alarmPorts c = []) : alarmSend c = c := by
  unfold alarmPorts at hports
  unfold alarmSend
  split
  · rfl
  · next a rest halarms =>
    dsimp only
    split
    · rfl
    · rw [hports]
      cases a.seq <;> rfl

/-- One port is up: the alarm takes the sequence of its kind and leaves the store. -/
theorem alarmSend_onePort {a : Alarm} {rest : List Alarm} {n : Nat} {d : Chip} (halarms : c.ldg.alarms = a :: rest)
    (hact : acting c = true) (hseq : a.seq = none) (hdone : a.ports = []) (hports : alarmPorts c = [n])
    (hroom : queueFormed (kindNext c 2) n 2 a.summary a.count (kindSeq c 2) a.payload = some d) :
    alarmSend c = showAlarms { d with ldg := { d.ldg with alarms := rest } } := by
  unfold alarmPorts at hports
  unfold alarmSend
  rw [halarms]
  dsimp only
  rw [if_neg (by rw [hact]; decide), hports, hseq]
  simp [hdone, hroom]

/-! ### Exports (R457) -/

/-- A frame of ledger records leaves at this boundary. -/
abbrev Exports (c : Chip) : Prop := fldB c LDG_CTL_export_en = true ∧ acting c = true ∧ exportDue c = true

theorem ledgerExport_idle (h : fldB c LDG_CTL_export_en = false ∨ acting c = false ∨ exportDue c = false) : ledgerExport c = c := by
  refine if_neg fun hd => ?_
  rw [Bool.and_eq_true, Bool.and_eq_true] at hd
  obtain ⟨⟨hen, hact⟩, hdue⟩ := hd
  rcases h with h | h | h
  · exact Bool.eq_false_iff.mp h hen
  · exact Bool.eq_false_iff.mp h hact
  · exact Bool.eq_false_iff.mp h hdue

/-- The records of the next frame are taken and the sequence of its kind advances. -/
def exportTaken (c : Chip) : Chip := kindNext { c with ldg := { c.ldg with exports := c.ldg.exports.drop 32 } } 3

theorem ledgerExport_nowhere (h : Exports c) (hports : kindPorts c 3 = []) : ledgerExport c = exportTaken c := by
  obtain ⟨hen, hact, hdue⟩ := h
  refine (if_pos (by simp [hen, hact, hdue])).trans ?_
  exact congrArg (List.foldl _ (exportTaken c)) hports

theorem ledgerExport_onePort {n : Nat} {d : Chip} (h : Exports c) (hports : kindPorts c 3 = [n])
    (hup : linkUp (exportTaken c) n = true) (htx : txActing (exportTaken c) n = true)
    (hroom : queueFormed (exportTaken c) n 3 false (c.ldg.exports.take 32).length (kindSeq c 3)
      ((c.ldg.exports.take 32).flatMap (LRec.bytes c)) = some d) : ledgerExport c = d := by
  obtain ⟨hen, hact, hdue⟩ := h
  refine (if_pos (by simp [hen, hact, hdue])).trans ?_
  refine (congrArg (List.foldl _ (exportTaken c)) hports).trans ?_
  refine (if_pos (by simp [hup, htx])).trans ?_
  rw [hroom]


/-- Settles O28, by the ledger's functions case by case: each clause names one branch of one of them. -/
theorem ledgerRecordsVaultAndAlarms : Obligations.LedgerRecordsVaultAndAlarms := by
  unfold Obligations.LedgerRecordsVaultAndAlarms
  refine ⟨?close, ?copy, ?copyNone, ?copyMore, ?held, ?heldWaits, ?idle, ?go, ?window, ?elsewhere, ?sendIdle, ?sendNoPort, ?send,
    ?exportIdle, ?exportNowhere, ?exportOne⟩
  case close =>
    intro s hs old
    refine ⟨exec_to (exec_eventRecordClose s) hs rfl, fun e hold hopen => exec_to (exec_eventRecordClose s) hs ?_⟩
    calc closeDue s.chip = [e].foldl (fun c e => closeRec c e.1) s.chip := congrArg (List.foldl _ s.chip) hold
      _ = _ := closeRec_open hopen
  case copy =>
    intro s r hs hring hseq hallowed
    exact exec_to (exec_logCopy s) hs (logCopyOne_next ⟨hring, hseq, hallowed⟩)
  case copyNone =>
    intro s n hs h
    refine exec_to (exec_logCopy s) hs (logCopy_none (fun r ⟨hring, hseq, hallowed⟩ => ?_) n)
    rcases h with h | h
    · exact h r hring hseq
    · exact Bool.eq_false_iff.mp h hallowed
  case copyMore => exact fun s n hs => exec_to (exec_logCopy s) hs rfl
  case held => exact fun s f hs hf hcopied hfits => exec_to (exec_vaultHeld s) hs (vaultHeld_copied hf hcopied hfits)
  case heldWaits => exact fun s hs h => exec_to (exec_vaultHeld s) hs (vaultHeld_waits h)
  case idle =>
    intro s v hv
    exact ⟨fun ⟨hs, hr⟩ => exec_to (exec_vaultRelease s) hs (vaultRelease_idle hr hv),
      fun ⟨hs, hr⟩ => exec_to (exec_fwRecordSubmit s) hs (fwRecordSubmit_idle hr hv)⟩
  case go =>
    intro s v
    refine ⟨fun ⟨hs, hr⟩ hv => exec_to (exec_vaultRelease s) hs (vaultRelease_go hr hv), fun ⟨hs, hr⟩ hv hroom => ?_,
      fun ⟨hs, hr⟩ hv hfull => ?_⟩
    · exact exec_to (exec_fwRecordSubmit s) hs ((fwRecordSubmit_go hr hv).trans (if_neg (Nat.not_le.mpr hroom)))
    · exact exec_to (exec_fwRecordSubmit s) hs ((fwRecordSubmit_go hr hv).trans (if_pos hfull))
  case window =>
    intro s hs h
    exact ⟨fun hl => exec_to (exec_alarmWindowEnd s) hs (alarmWindowEnd_quiet h hl),
      fun hl => exec_to (exec_alarmWindowEnd s) hs (alarmWindowEnd_summaries h hl)⟩
  case elsewhere => exact fun s hs h => exec_to (exec_alarmWindowEnd s) hs (alarmWindowEnd_elsewhere h)
  case sendIdle => exact fun s hs h => exec_to (exec_alarmSend s) hs (alarmSend_idle h)
  case sendNoPort => exact fun s a rest hs _ _ hports => exec_to (exec_alarmSend s) hs (alarmSend_noPort hports)
  case send =>
    intro s a rest n d hs halarms hact hseq hdone hports hroom
    exact exec_to (exec_alarmSend s) hs (alarmSend_onePort halarms hact hseq hdone hports hroom)
  case exportIdle => exact fun s hs h => exec_to (exec_ledgerExport s) hs (ledgerExport_idle h)
  case exportNowhere =>
    exact fun s hs hen hact hdue hports => exec_to (exec_ledgerExport s) hs (ledgerExport_nowhere ⟨hen, hact, hdue⟩ hports)
  case exportOne =>
    intro s n d hs hen hact hdue hports l c hup htx hroom
    exact exec_to (exec_ledgerExport s) hs (ledgerExport_onePort ⟨hen, hact, hdue⟩ hports hup htx hroom)

end Sys2Proof.Machine
end

section
/-! The Vitrine: triggers, captures, copies and the frames of a slot that leave (R484–R489). -/

open Sys2Proof

namespace Sys2Proof.Machine

variable {c : Chip}

/-! ### Triggers and captures (R484–R486) -/

theorem vitrineInEdge_on (h : fldB c VIT_CTL_in_en = true) : vitrineInEdge c = vitTrigger c (period c + 2) 0 0xFFFF := if_pos h

theorem vitrineInEdge_off (h : fldB c VIT_CTL_in_en = false) : vitrineInEdge c = c := if_neg (Bool.eq_false_iff.mp h)

theorem vitTrig_go (hr : reachable c VIT_TRIG = true) (v : W) :
    vitTrig c (v ||| 0x80000000) = vitTrigger c (period c + 2) 1 0xFFFF :=
  (hostWrite_reach _ _ _ hr).trans (if_pos (go_forced v))

theorem vitrineCapture_none (h : c.vit.waits.find? (fun x => due c x.v) = none) : vitrineCapture c = c := by
  unfold vitrineCapture
  rw [h]

/-- The trigger leaves the waiting ones as its capture is taken. -/
def triggerTaken (c : Chip) (x : Capture) : Chip := { c with vit := { c.vit with waits := c.vit.waits.erase x } }

theorem vitrineCapture_due {x : Capture} (h : c.vit.waits.find? (fun x => due c x.v) = some x) :
    vitrineCapture c = takeCapture (triggerTaken c x) x := by
  unfold vitrineCapture
  rw [h]
  rfl

theorem takeCapture_overrun (x : Capture) (h : fldB c VIT_STAT_busy = true) :
    takeCapture c x = raise (setB c VIT_STAT_overrun true) srcVIT_BUSY 0 := if_pos h

theorem takeCapture_noSlot (x : Capture) (h : fldB c VIT_STAT_busy = false) (hslot : freeSlot c = none) :
    takeCapture c x = raise (setB c VIT_STAT_no_slot true) srcVIT_NO_SLOT 0 := by
  refine (if_neg (Bool.eq_false_iff.mp h)).trans ?_
  rw [hslot]

theorem takeCapture_slot (x : Capture) {n : Nat} (h : fldB c VIT_STAT_busy = false) (hslot : freeSlot c = some n) :
    takeCapture c x =
      let q := c.vit.seq + 1
      let d : Chip := { c with vit := { c.vit with copy := some ⟨n, captureBytes c x n q⟩, seq := q } }
      let d := setB (setFld (setFld d VIT_STAT_last_slot n) VIT_STAT_captures q.toNat) VIT_STAT_busy true
      lockSafeSlot (wr d VIT_LAST_V x.v) x.v n := by
  refine (if_neg (Bool.eq_false_iff.mp h)).trans ?_
  rw [hslot]

/-! ### Copies (R486) -/

theorem vitrineCopyDone_none (h : c.vit.copy = none) (bad : Bool) : vitrineCopyDone c bad = c := by
  unfold vitrineCopyDone
  rw [h]

section
variable {x : VitCopy} (hcopy : c.vit.copy = some x)
include hcopy

/-- The copy that ran is over. -/
def copyOver (c : Chip) : Chip := setB { c with vit := { c.vit with copy := none } } VIT_STAT_busy false

/-- The slot keeps the capture with its complete flag cleared. -/
def slotSpoiled (c : Chip) (x : VitCopy) : Chip :=
  let h := putBytes (x.bytes.take 60) 7 [nth 0 x.bytes 7 &&& 0xFE]
  raise (setB (memWrite c 9 (vitSlot c x.slot) (h ++ leBytes 4 (crc32c h) ++ x.bytes.drop 64)) VIT_STAT_copy_err true) srcVIT_COPY_ERR 0

theorem vitrineCopyDone_failed {bad : Bool}
    (h : bad = true ∨ ddrMay (copyOver c) 9 true (vitSlot (copyOver c) x.slot) x.bytes.length = false) :
    vitrineCopyDone c bad = slotSpoiled (copyOver c) x := by
  unfold vitrineCopyDone
  rw [hcopy]
  refine if_pos ?_
  rcases h with h | h
  · rw [h, Bool.true_or]
  · exact (congrArg (fun b => bad || !b) h).trans (Bool.or_true bad)

theorem vitrineCopyDone_good (h : ddrMay (copyOver c) 9 true (vitSlot (copyOver c) x.slot) x.bytes.length = true) :
    vitrineCopyDone c false =
      let d := raise (memWrite (copyOver c) 9 (vitSlot (copyOver c) x.slot) x.bytes) srcVIT_DONE 0
      if fldB d VIT_CTL_auto_export then startExport d x.slot else d := by
  unfold vitrineCopyDone
  rw [hcopy]
  refine if_neg ?_
  rw [Bool.false_or, Bool.not_eq_true', Bool.eq_false_iff]
  exact fun hd => hd h

end

/-! ### Exports (R489) -/

theorem vitExport_go (hr : reachable c VIT_EXPORT = true) (v : W) :
    vitExport c (v ||| 0x80000000) = startExport c (wbits v 0 4) := by
  refine (hostWrite_reach _ _ _ hr).trans ((if_pos (go_forced v)).trans ?_)
  rw [wbits_or_outside v (by decide)]

theorem startExport_idle (h : c.vit.export_ = none) (n : Nat) :
    startExport c n = showExport { c with vit := { c.vit with export_ := some ⟨n, 0⟩ } } :=
  if_neg (by rw [h]; decide)

theorem startExport_running {x : VitExport} (h : c.vit.export_ = some x) (n : Nat) :
    startExport c n = raise c srcATT_REJECT 0 :=
  if_pos (by rw [h]; rfl)

theorem vitrineExportFrame_none (h : c.vit.export_ = none) : vitrineExportFrame c = c := by
  unfold vitrineExportFrame
  rw [h]

section
variable {x : VitExport} (hx : c.vit.export_ = some x)
include hx

theorem vitrineExportFrame_notActing (hact : acting c = false) : vitrineExportFrame c = c := by
  unfold vitrineExportFrame
  rw [hx]
  exact if_pos (by rw [hact]; rfl)

end

/-- The bytes of the slot the next frame carries, and their place in the capture. -/
def frameOff (x : VitExport) : Nat := 8192 * x.next
def frameLen (x : VitExport) : Nat := min 8192 (0x71000 - frameOff x)

/-- The payload of the next frame. -/
def framePayload (c : Chip) (x : VitExport) : List Byte :=
  [BitVec.ofNat 8 x.slot, 0, 0, 0] ++ beBytes 4 (frameOff x) ++ memBytes c 9 (vitSlot c x.slot + frameOff x) (frameLen x)

/-- The slot is read and the sequence of the exports advances. -/
def frameRead (c : Chip) (x : VitExport) : Chip :=
  kindNext (ddrNote c 9 false (vitSlot c x.slot + frameOff x) (frameLen x)) 5

/-- The frame is queued on a port that takes it, and dropped on another. -/
def frameOn (payload : List Byte) (seq : W) (c : Chip) (p : Nat) : Chip :=
  if linkUp c p && txActing c p then (queueFormed c p 5 false 1 seq payload).getD c else txDrop c p 1

/-- The sending of the slot stands at its next frame, or has ended after its last. -/
def frameSent (f : Chip) (x : VitExport) : Chip :=
  let g := showExport { f with vit := { f.vit with export_ := some ⟨x.slot, x.next + 1⟩ } }
  if x.next + 1 == exportFrames then showExport { g with vit := { g.vit with export_ := none } } else g

theorem frameSent_eq (f : Chip) (x : VitExport) :
    frameSent f x =
      let g := showExport { f with vit := { f.vit with export_ := some ⟨x.slot, x.next + 1⟩ } }
      if x.next + 1 = exportFrames then showExport { g with vit := { g.vit with export_ := none } } else g :=
  if_congr beq_iff_eq rfl rfl

theorem rd_ddrNote_outside (c : Chip) (m : Nat) (w : Bool) (a n : Nat) {b : Nat} (hb : OutsideErrors b) :
    rd (ddrNote c m w a n) b = rd c b := by
  unfold ddrNote
  split
  · rfl
  · exact rd_matrixError_outside c _ _ _ _ _ _ hb

theorem rd_kindNext (c : Chip) (k a : Nat) : rd (kindNext c k) a = rd c a := rfl

theorem rd_frameRead (c : Chip) (x : VitExport) {b : Nat} (hb : OutsideErrors b) : rd (frameRead c x) b = rd c b :=
  (rd_kindNext _ 5 b).trans (rd_ddrNote_outside c 9 false _ _ hb)

theorem fldB_frameRead (c : Chip) (x : VitExport) {f : Fld} (hf : OutsideErrors f.addr) : fldB (frameRead c x) f = fldB c f := by
  unfold fldB fld
  rw [rd_frameRead c x hf]

theorem kindPorts_frameRead (c : Chip) (x : VitExport) (k : Nat) : kindPorts (frameRead c x) k = kindPorts c k := by
  rw [kindPorts, rd_frameRead c x (by decide), kindPorts]

/-- The read of the slot leaves every port up or down as it was. -/
theorem takes_frameRead (c : Chip) (x : VitExport) {p : Nat} (hp : p < 4) :
    (linkUp (frameRead c x) p && txActing (frameRead c x) p) = (linkUp c p && txActing c p) := by
  have hlink : OutsideErrors (SVP_P_STAT_link_up p).addr := by
    show OutsideErrors (SVP_P_STAT p)
    unfold OutsideErrors SVP_P_STAT XBR_STAT
    omega
  have hsil : OutsideErrors (TXS_P_STAT_silenced p).addr := by
    show OutsideErrors (TXS_P_STAT p)
    unfold OutsideErrors TXS_P_STAT XBR_STAT
    omega
  unfold linkUp txActing acting safe
  rw [fldB_frameRead c x hlink, fldB_frameRead c x hsil, fldB_frameRead c x (f := ATT_CTL_grave) (by decide),
    fldB_frameRead c x (f := TWN_CTL_twin_en) (by decide), fldB_frameRead c x (f := TWN_STAT_acting) (by decide)]

theorem port_lt_of_kindPorts {k p : Nat} (h : kindPorts c k = [p]) : p < 4 := by
  have hp : p ∈ kindPorts c k := by rw [h]; exact List.mem_singleton_self p
  unfold kindPorts setBits at hp
  exact List.mem_range.mp (List.mem_of_mem_filter hp)

/-- The next frame of a slot that is sent, with its parts by name. -/
theorem vitrineExportFrame_running {x : VitExport} (hx : c.vit.export_ = some x) :
    vitrineExportFrame c =
      if !acting c || (kindPorts c 5).any (fun p => (linkUp c p && txActing c p)
          && (queueFormed c p 5 false 1 (kindSeq c 5) (framePayload c x)).isNone) then c
      else frameSent ((kindPorts (frameRead c x) 5).foldl (frameOn (framePayload c x) (kindSeq c 5)) (frameRead c x)) x := by
  unfold vitrineExportFrame frameSent frameOn framePayload frameRead frameLen frameOff
  rw [hx]

section
variable {x : VitExport} {p : Nat} (hx : c.vit.export_ = some x) (hact : acting c = true) (hports : kindPorts c 5 = [p])
include hx hact hports

/-- One port is of the kind and does not hold the frame back: the frame goes to that port alone. -/
theorem vitrineExportFrame_onePort
    (hroom : (linkUp c p && txActing c p) = true → (queueFormed c p 5 false 1 (kindSeq c 5) (framePayload c x)).isSome = true) :
    vitrineExportFrame c = frameSent (frameOn (framePayload c x) (kindSeq c 5) (frameRead c x) p) x := by
  have hwaits : ¬ (!acting c || (kindPorts c 5).any (fun p => (linkUp c p && txActing c p)
      && (queueFormed c p 5 false 1 (kindSeq c 5) (framePayload c x)).isNone)) = true := by
    rw [hports, hact]
    intro h
    obtain ⟨htakes, hnone⟩ : (linkUp c p && txActing c p) = true
        ∧ (queueFormed c p 5 false 1 (kindSeq c 5) (framePayload c x)).isNone = true := by simpa using h
    have hsome := hroom htakes
    rw [Option.isNone_iff_eq_none.mp hnone] at hsome
    cases hsome
  have hframe := (kindPorts_frameRead c x 5).trans hports
  rw [vitrineExportFrame_running hx, if_neg hwaits, hframe, List.foldl_cons, List.foldl_nil]

/-- The port takes no frame: its copy is dropped and the sending goes on. -/
theorem vitrineExportFrame_dropped (h : (linkUp c p && txActing c p) = false) :
    vitrineExportFrame c = frameSent (txDrop (frameRead c x) p 1) x := by
  rw [vitrineExportFrame_onePort hx hact hports fun h' => absurd h' (Bool.eq_false_iff.mp h), frameOn,
    takes_frameRead c x (port_lt_of_kindPorts hports), h]
  rfl

/-- The port has room: the frame is queued there. -/
theorem vitrineExportFrame_queued {f : Chip} (h : (linkUp c p && txActing c p) = true)
    (hroom : (queueFormed c p 5 false 1 (kindSeq c 5) (framePayload c x)).isSome = true)
    (hf : queueFormed (frameRead c x) p 5 false 1 (kindSeq c 5) (framePayload c x) = some f) :
    vitrineExportFrame c = frameSent f x := by
  rw [vitrineExportFrame_onePort hx hact hports fun _ => hroom, frameOn,
    takes_frameRead c x (port_lt_of_kindPorts hports), h, if_pos rfl, hf]
  rfl

end

/-- Settles O29: a capture, a copy and a frame sent each have one outcome per clause; that of a frame depends on the one port of
the kind, which the read of the slot leaves up or down as it was. -/
theorem vitrineCapturesAndExports : Obligations.VitrineCapturesAndExports := by
  unfold Obligations.VitrineCapturesAndExports
  refine ⟨?triggers, ?edgeOff, ?idle, ?capture, ?copy, ?start, ?running, ?notActing, ?dropped, ?queued⟩
  case triggers =>
    intro s v
    exact ⟨fun hs hen => exec_to (exec_vitrineInEdge s) hs (vitrineInEdge_on hen),
      fun ⟨hs, hr⟩ => exec_to (exec_vitTrig s) hs (vitTrig_go hr v)⟩
  case edgeOff => exact fun s hs hen => exec_to (exec_vitrineInEdge s) hs (vitrineInEdge_off hen)
  case idle =>
    intro s hs
    exact ⟨fun h => exec_to (exec_vitrineCapture s) hs (vitrineCapture_none h),
      fun b h => exec_to (exec_vitrineCopyDone s) hs (vitrineCopyDone_none h b),
      fun h => exec_to (exec_vitrineExportFrame s) hs (vitrineExportFrame_none h)⟩
  case capture =>
    intro s x hs hx c
    have hdue := vitrineCapture_due hx
    exact ⟨fun hbusy => exec_to (exec_vitrineCapture s) hs (hdue.trans (takeCapture_overrun x hbusy)),
      fun hbusy hslot => exec_to (exec_vitrineCapture s) hs (hdue.trans (takeCapture_noSlot x hbusy hslot)),
      fun n hbusy hslot => exec_to (exec_vitrineCapture s) hs (hdue.trans (takeCapture_slot x hbusy hslot))⟩
  case copy =>
    intro s x hs hx c a h e
    exact ⟨fun hden => exec_to (exec_vitrineCopyDone s) hs (vitrineCopyDone_failed hx (.inr hden)),
      fun hmay => exec_to (exec_vitrineCopyDone s) hs (vitrineCopyDone_good hx hmay),
      exec_to (exec_vitrineCopyDone s) hs (vitrineCopyDone_failed hx (.inl rfl))⟩
  case start =>
    exact fun s v ⟨hs, hr⟩ hnone => exec_to (exec_vitExport s) hs ((vitExport_go hr v).trans (startExport_idle hnone _))
  case running =>
    exact fun s v x ⟨hs, hr⟩ hx => exec_to (exec_vitExport s) hs ((vitExport_go hr v).trans (startExport_running hx _))
  case notActing =>
    exact fun s x hs hx hact => exec_to (exec_vitrineExportFrame s) hs (vitrineExportFrame_notActing hx hact)
  case dropped =>
    intro s x p hs hx hact hports htakes off n f g z
    exact exec_to (exec_vitrineExportFrame s) hs ((vitrineExportFrame_dropped hx hact hports htakes).trans (frameSent_eq f x))
  case queued =>
    intro s x p f hs hx hact hports htakes off n payload hroom hf g z
    exact exec_to (exec_vitrineExportFrame s) hs ((vitrineExportFrame_queued hx hact hports htakes hroom hf).trans (frameSent_eq f x))

end Sys2Proof.Machine
end

section
/-! Egress: descriptors, transmissions and gate lists (R435–R445). -/

open Sys2Proof

namespace Sys2Proof.Machine

variable {c : Chip}

/-! ### Descriptors (R437, R438) -/

theorem ringProdWrite_go {n r : Nat} (hr : reachable c (TXS_PRING_PROD n r) = true) (v : W) :
    ringProdWrite c n r v =
      wr (modRing c n r (fun d => { d with told := false })) (TXS_PRING_PROD n r) (toW (wbits v 0 12)) :=
  hostWrite_reach _ _ _ hr

/-- The place of the descriptor a ring takes next. -/
def takeIndex (c : Chip) (n r : Nat) : Nat := (descRing c n r).take

/-- The 16 bytes of that descriptor, and the device once it has read them. -/
def takeBytes (c : Chip) (n r : Nat) : List Byte := memBytes c 11 (descAddr c n r (takeIndex c n r)) 16
def takeRead (c : Chip) (n r : Nat) : Chip := ddrNote c 11 false (descAddr c n r (takeIndex c n r)) 16

/-- The fields of a descriptor: the frame's address and length, its queue, its kind of stamp and the stamp's place. -/
def descBuf (l : List Byte) : Nat := leAt l 0 4 + bitsAt (leAt l 4 4) 0 4 * 2 ^ 32
def descLen (l : List Byte) : Nat := bitsAt (leAt l 8 4) 0 14
def descQueue (l : List Byte) : Nat := bitsAt (leAt l 8 4) 29 3
def descStamp (l : List Byte) : Nat := bitsAt (leAt l 8 4) 27 2
def descTsOfs (l : List Byte) : Nat := bitsAt (leAt l 12 4) 8 8

/-- The ring goes on to its next descriptor. -/
def takeNext (c : Chip) (n r : Nat) : Chip :=
  modRing (takeRead c n r) n r (fun d => { d with take := (takeIndex c n r + 1) % descSize (takeRead c n r) n r })

/-- The frame a good descriptor names. -/
def takeFrame (c : Chip) (n r : Nat) : TxFrame :=
  let l := takeBytes c n r
  ⟨memBytes (takeRead c n r) 11 (descBuf l) (descLen l), 0, descStamp l, BitVec.ofNat 16 (bitsAt (leAt l 12 4) 16 16), descTsOfs l,
    bitsAt (leAt l 12 4) 0 8, some (r, takeIndex c n r), false⟩

/-- The descriptor names a stamp that does not exist, or one whose place lies outside the frame. -/
def badStamp (l : List Byte) : Bool := descStamp l = 3 || (descStamp l = 2 && descLen l < descTsOfs l + 10)

theorem badStamp_of {l : List Byte} (h : descStamp l = 3 ∨ (descStamp l = 2 ∧ descLen l < descTsOfs l + 10)) : badStamp l = true := by
  simpa [badStamp] using h

/-- A ring has a descriptor to take. -/
abbrev Takes (c : Chip) (n r : Nat) : Prop :=
  takeIndex c n r ≠ wbits (rd c (TXS_PRING_PROD n r)) 0 12 ∧ c.txs.ringOff.contains (2 * n + r) = false

theorem not_bnot {b : Bool} (h : b = true) : ¬ (!b) = true := by
  rw [h]
  decide

theorem bnot_true {b : Bool} (h : b = false) : (!b) = true := (Bool.not_eq_true' b).mpr h

section
variable {n r : Nat} (ht : Takes c n r)
include ht

/-- What becomes of a descriptor, with its parts by name. -/
theorem descriptorTake_takes :
    descriptorTake c n r =
      let l := takeBytes c n r
      let d := takeRead c n r
      let next := takeNext c n r
      let q := descQueue l
      let stop := fun (e : Chip) status => descComplete e n r (takeIndex c n r) status
      if descLen l < 60 || 9212 < descLen l then raise (stop next 1) srcTXS_DESC_ERR 0
      else if !ringQueue r q then raise (stop next 2) srcTXS_DESC_ERR 0
      else if badStamp l then raise (stop next 3) srcTXS_DESC_ERR 0
      else if fldB d (TXS_P_STAT_silenced n) then stop (txDrop next n q) 6
      else if !linkUp d n then stop (txDrop next n q) 4
      else if !txActing d n then stop next 5
      else if txRoom d n q (descLen l + 4) then txEnqueue (ddrNote next 11 false (descBuf l) (descLen l)) n q (takeFrame c n r)
      else if q = 0 then stop (txDrop next n q) 8
      else d := by
  have htakes : ¬ ((descRing c n r).take = wbits (rd c (TXS_PRING_PROD n r)) 0 12 || c.txs.ringOff.contains (2 * n + r)) = true := by
    obtain ⟨hi, hon⟩ := ht
    rw [hon, Bool.or_false, decide_eq_true_eq]
    exact hi
  unfold descriptorTake takeFrame takeNext takeRead takeBytes takeIndex badStamp descLen descStamp descTsOfs descQueue descBuf
  dsimp only
  rw [if_neg htakes]

/-- A descriptor of a bad length completes with status 1. -/
theorem descriptorTake_badLength (h : descLen (takeBytes c n r) < 60 ∨ 9212 < descLen (takeBytes c n r)) :
    descriptorTake c n r = raise (descComplete (takeNext c n r) n r (takeIndex c n r) 1) srcTXS_DESC_ERR 0 := by
  rw [descriptorTake_takes ht]
  exact if_pos (by simpa using h)

section
variable (hmin : 60 ≤ descLen (takeBytes c n r)) (hmax : descLen (takeBytes c n r) ≤ 9212)
include hmin hmax

omit ht in
theorem goodLength : ¬ (decide (descLen (takeBytes c n r) < 60) || decide (9212 < descLen (takeBytes c n r))) = true := by
  rw [Bool.or_eq_true, decide_eq_true_eq, decide_eq_true_eq]
  omega

/-- A descriptor that names no queue of its ring completes with status 2. -/
theorem descriptorTake_badQueue (hq : ringQueue r (descQueue (takeBytes c n r)) = false) :
    descriptorTake c n r = raise (descComplete (takeNext c n r) n r (takeIndex c n r) 2) srcTXS_DESC_ERR 0 := by
  rw [descriptorTake_takes ht]
  exact (if_neg (goodLength hmin hmax)).trans (if_pos (bnot_true hq))

section
variable (hq : ringQueue r (descQueue (takeBytes c n r)) = true)
include hq

/-- A descriptor of a bad stamp completes with status 3. -/
theorem descriptorTake_badStamp (hst : badStamp (takeBytes c n r) = true) :
    descriptorTake c n r = raise (descComplete (takeNext c n r) n r (takeIndex c n r) 3) srcTXS_DESC_ERR 0 := by
  rw [descriptorTake_takes ht]
  exact (if_neg (goodLength hmin hmax)).trans ((if_neg (not_bnot hq)).trans (if_pos hst))

/-- A descriptor of a queue of its ring, of good length and no one-step stamp, meets the port's state and the queue's room. -/
theorem descriptorTake_good (hst : descStamp (takeBytes c n r) ≤ 1) :
    descriptorTake c n r =
      let l := takeBytes c n r
      let d := takeRead c n r
      let next := takeNext c n r
      let q := descQueue l
      let i := takeIndex c n r
      if fldB d (TXS_P_STAT_silenced n) then descComplete (txDrop next n q) n r i 6
      else if !linkUp d n then descComplete (txDrop next n q) n r i 4
      else if !txActing d n then descComplete next n r i 5
      else if txRoom d n q (descLen l + 4) then txEnqueue (ddrNote next 11 false (descBuf l) (descLen l)) n q (takeFrame c n r)
      else if q = 0 then descComplete (txDrop next n q) n r i 8
      else d := by
  have hgood : ¬ badStamp (takeBytes c n r) = true := by
    unfold badStamp
    simp only [Bool.or_eq_true, Bool.and_eq_true, decide_eq_true_eq]
    omega
  rw [descriptorTake_takes ht]
  exact (if_neg (goodLength hmin hmax)).trans ((if_neg (not_bnot hq)).trans (if_neg hgood))

section
variable (hst : descStamp (takeBytes c n r) ≤ 1) (hsil : fldB (takeRead c n r) (TXS_P_STAT_silenced n) = false)
include hst hsil

/-- The port is not silenced. -/
theorem descriptorTake_heard :
    descriptorTake c n r =
      let l := takeBytes c n r
      let d := takeRead c n r
      let next := takeNext c n r
      let q := descQueue l
      let i := takeIndex c n r
      if !linkUp d n then descComplete (txDrop next n q) n r i 4
      else if !txActing d n then descComplete next n r i 5
      else if txRoom d n q (descLen l + 4) then txEnqueue (ddrNote next 11 false (descBuf l) (descLen l)) n q (takeFrame c n r)
      else if q = 0 then descComplete (txDrop next n q) n r i 8
      else d :=
  (descriptorTake_good ht hmin hmax hq hst).trans (if_neg (Bool.eq_false_iff.mp hsil))

/-- The port acts and its link is up: the queue's room decides. -/
theorem descriptorTake_acting (hup : linkUp (takeRead c n r) n = true) (hact : txActing (takeRead c n r) n = true) :
    descriptorTake c n r =
      let l := takeBytes c n r
      let d := takeRead c n r
      let next := takeNext c n r
      let q := descQueue l
      if txRoom d n q (descLen l + 4) then txEnqueue (ddrNote next 11 false (descBuf l) (descLen l)) n q (takeFrame c n r)
      else if q = 0 then descComplete (txDrop next n q) n r (takeIndex c n r) 8
      else d :=
  (descriptorTake_heard ht hmin hmax hq hst hsil).trans ((if_neg (not_bnot hup)).trans (if_neg (not_bnot hact)))

end

end

end

end

/-! ### Transmissions (R438, R439, R445) -/

/-- The free transmitter starts frame `f`, the head of queue `q`. -/
def startFrame (c : Chip) (n q : Nat) (f : TxFrame) (rest : List TxFrame) : Chip :=
  let v := if q < 6 then (nth none (txPort c n).finish q).getD 0 else (txPort c n).v
  let x := egressStamp c n
  let d := modTx c n (fun p => { p with queues := setNth p.queues q rest, v := v, sending := some (stampFrame f x, q) })
  let d := if f.ts = 1 then pushTxStamp d n x f.tag else d
  newHead (delayMark d n q (d.tmr.ticks - f.tick)) n q

theorem transmitStart_head {n tick q : Nat} {f : TxFrame} {rest : List TxFrame} (hfree : (txPort (advanceTo c tick) n).sending = none)
    (hact : txActing (advanceTo c tick) n = true) (hup : linkUp (advanceTo c tick) n = true)
    (hchoose : txChoose (advanceTo c tick) n = some q) (hhead : txQueue (advanceTo c tick) n q = f :: rest) :
    transmitStart c n tick = startFrame (advanceTo c tick) n q f rest := by
  unfold transmitStart
  generalize advanceTo c tick = d at hfree hact hup hchoose hhead ⊢
  refine (if_neg (by rw [hfree, hact, hup]; decide)).trans ?_
  rw [hchoose]
  dsimp only
  rw [hhead]
  rfl

theorem transmitEnd_sending {n tick q : Nat} {f : TxFrame} (h : (txPort (advanceTo c tick) n).sending = some (f, q)) :
    transmitEnd c n tick =
      frameComplete (countUp (modTx (advanceTo c tick) n (fun p => { p with sending := none })) (TXS_PQ_CNT n q) 1) n f 0 := by
  unfold transmitEnd
  generalize advanceTo c tick = d at h ⊢
  dsimp only
  rw [h]

/-! ### Gate lists (R441, R443) -/

theorem gclWrite_waits {n : Nat} {v : W} (hr : reachable c (TXS_P_GCL_CTL n) = true) (hc : Single c)
    (hfree : fldB c (TXS_P_GCL_CTL_pending n) = false) :
    gclWrite c n v = defer c (c.tmr.period + 2) (TXS_P_GCL_CTL n) v := by
  obtain ⟨h1, h2, h3, h4⟩ := hc
  refine hostChangeIf_taken _ _ _ _ _ hr h1 h2 h3 h4 (if_neg ?_)
  rw [hfree, Bool.and_false]
  decide

theorem gclWrite_refused {n : Nat} (v : W) (hr : reachable c (TXS_P_GCL_CTL n) = true) (hc : Single c)
    (hpend : fldB c (TXS_P_GCL_CTL_pending n) = true) :
    gclWrite c n (v ||| 0x40000000) = raise c srcTXS_DESC_ERR 0 := by
  have hj := fromJournal_single hc
  obtain ⟨h1, h2, h3, h4⟩ := hc
  refine hostChangeIf_refused _ _ _ _ _ _ hr h1 h2 h3 h4 (if_pos ?_)
  rw [hj, hpend, wbit_or_forced v (by decide)]
  rfl

theorem gclTake_due {n : Nat} {g : GateList} {ts : BitVec 64} (hpend : (txPort c n).gatePend = some (g, ts))
    (hdue : 0 ≤ tdiff (netTime c) ts) :
    gclTake c n =
      let d := modTx c n (fun p => { p with gates := g, gatePend := none })
      let d := wr (setB d (TXS_P_GCL_CTL_pending n) false) (TXS_P_GCL_CYCLE n) (toW g.cycle)
      dropAllOversize (gateShow d n) n := by
  unfold gclTake
  rw [hpend]
  exact if_pos hdue

theorem gateShow_idle {n : Nat} (h : (txPort c n).gates.active (netTime c) = false) :
    gateShow c n = wr c (TXS_P_GCL_STAT n) 0 := if_neg (Bool.eq_false_iff.mp h)

theorem gateShow_entry {n e left : Nat} (h : (txPort c n).gates.active (netTime c) = true)
    (hpos : (txPort c n).gates.position (netTime c) = some (e, left)) :
    gateShow c n = wr c (TXS_P_GCL_STAT n) (toW (2 ^ 31 + e)) := by
  refine (if_pos h).trans ?_
  rw [hpos]

/-- Settles O24: a descriptor passes a line of checks, each clause the first one that stops it; a transmission and a change of gates
act on the device as time has advanced it to their tick. -/
theorem egressQueuesTransmitAndGate : Obligations.EgressQueuesTransmitAndGate := by
  unfold Obligations.EgressQueuesTransmitAndGate
  refine ⟨?prod, ?take, ?start, ?stop, ?commit, ?refused, ?switch, ?entry⟩
  case prod => exact fun s n r v ⟨hs, hr⟩ => exec_to (exec_ringProdWrite s) hs (ringProdWrite_go hr v)
  case take =>
    intro s n r hs i hi hon a l c len q ts buf next w3 f
    have ht : Takes s.chip n r := ⟨hi, hon⟩
    have hto {d : Chip} (h : descriptorTake s.chip n r = d) : exec (.descriptorTake n r) s = .next { s with chip := d } :=
      exec_to (exec_descriptorTake s) hs h
    refine ⟨fun h => hto (descriptorTake_badLength ht h), fun hmin hmax hq => hto (descriptorTake_badQueue ht hmin hmax hq), ?queued,
      fun hmin hmax hq hst => hto (descriptorTake_badStamp ht hmin hmax hq (badStamp_of hst)), ?silenced, ?down, ?standby, ?full⟩
    case queued =>
      intro hmin hmax hq hst hsil hup hact hroom
      exact hto ((descriptorTake_acting ht hmin hmax hq hst hsil hup hact).trans (if_pos hroom))
    case silenced => exact fun hmin hmax hq hst hsil => hto ((descriptorTake_good ht hmin hmax hq hst).trans (if_pos hsil))
    case down =>
      intro hmin hmax hq hst hsil hup
      exact hto ((descriptorTake_heard ht hmin hmax hq hst hsil).trans (if_pos (bnot_true hup)))
    case standby =>
      intro hmin hmax hq hst hsil hup hact
      exact hto ((descriptorTake_heard ht hmin hmax hq hst hsil).trans ((if_neg (not_bnot hup)).trans (if_pos (bnot_true hact))))
    case full =>
      intro hmin hmax hq hst hsil hup hact hroom
      exact hto ((descriptorTake_acting ht hmin hmax hq hst hsil hup hact).trans (if_neg (Bool.eq_false_iff.mp hroom)))
  case start =>
    intro s n tick q f rest hs c hfree hact hup hchoose hhead v x d d'
    exact exec_to (exec_transmitStart s) hs (transmitStart_head hfree hact hup hchoose hhead)
  case stop => exact fun s n tick q f hs h => exec_to (exec_transmitEnd s) hs (transmitEnd_sending h)
  case commit => exact fun s n v ⟨hs, hr, hc⟩ hfree => exec_to (exec_gclCommit s) hs (gclWrite_waits hr hc hfree)
  case refused => exact fun s n v ⟨hs, hr, hc⟩ hpend => exec_to (exec_gclCommit s) hs (gclWrite_refused v hr hc hpend)
  case switch => exact fun s n tick g ts hs hpend hdue => exec_to (exec_gclSwitch s) hs (gclTake_due hpend hdue)
  case entry =>
    intro s n tick hs c g
    exact ⟨fun h => exec_to (exec_gateEntryChange s) hs (gateShow_idle h),
      fun e left h hpos => exec_to (exec_gateEntryChange s) hs (gateShow_entry h hpos)⟩

end Sys2Proof.Machine
end

section
/-! The Attendant: latching, windows, acknowledgement, escalation, injection, parity and the entry into the safe state (R465–R481). -/

open Sys2Proof

namespace Sys2Proof.Machine

/-! ### What the entry into the safe state leaves (R481) -/

/-- The registers that say the device is safe and since when. -/
abbrev SaysSafe (a : Nat) : Prop := a = ATT_CTL ∨ a = ATT_GRAVE_P

/-- What the parts of the entry leave as it was: the time block, the wish and the final period, the registers that say the device is
safe; and a bus that carries nothing, no sequence and no scheduled swap stay so. -/
structure EntryKept (c d : Chip) : Prop where
  tmr : d.tmr = c.tmr
  entry : d.att.entry = c.att.entry
  final : d.att.final = c.att.final
  bus : c.pdm.bus = [] → d.pdm.bus = []
  seq : c.pdm.seq = none → d.pdm.seq = none
  sched : c.doc.sched = none → d.doc.sched = none
  read : ∀ a, SaysSafe a → rd d a = rd c a

theorem EntryKept.trans {c d e : Chip} (h : EntryKept c d) (h' : EntryKept d e) : EntryKept c e :=
  ⟨h'.tmr.trans h.tmr, h'.entry.trans h.entry, h'.final.trans h.final, h'.bus ∘ h.bus, h'.seq ∘ h.seq, h'.sched ∘ h.sched,
    fun a ha => (h'.read a ha).trans (h.read a ha)⟩

theorem EntryKept.ite {c d e : Chip} {p : Prop} [Decidable p] (h : EntryKept c d) (h' : EntryKept c e) :
    EntryKept c (if p then d else e) := by
  split
  · exact h
  · exact h'

theorem Noted.entryKept {c d : Chip} (h : Noted c d) : EntryKept c d := by
  obtain ⟨⟨_, _, _, rfl⟩, hr⟩ := h
  refine ⟨rfl, rfl, rfl, id, id, id, fun a ha => hr a ?_⟩
  rcases ha with rfl | rfl <;> decide

variable (c : Chip)

theorem entryKept_refl : EntryKept c c := (Noted.refl c).entryKept

theorem entryKept_wr {a : Nat} (v : W) (ha : ¬ SaysSafe a) : EntryKept c (wr c a v) :=
  ⟨rfl, rfl, rfl, id, id, id, fun _ hb => rd_wr_other c v (fun h => ha (h ▸ hb))⟩

theorem entryKept_setFld {f : Fld} (v : Nat) (hf : ¬ SaysSafe f.addr) : EntryKept c (setFld c f v) := entryKept_wr c _ hf

theorem entryKept_setB {f : Fld} (b : Bool) (hf : ¬ SaysSafe f.addr) : EntryKept c (setB c f b) := entryKept_setFld c _ hf

theorem entryKept_modTx (n : Nat) (f : TxPort → TxPort) : EntryKept c (modTx c n f) := ⟨rfl, rfl, rfl, id, id, id, fun _ _ => rfl⟩

theorem entryKept_modRing (n r : Nat) (f : DescRing → DescRing) : EntryKept c (modRing c n r f) := entryKept_modTx c n _

theorem entryKept_foldl {α : Type} (f : Chip → α → Chip) (l : List α) (hf : ∀ c, ∀ x ∈ l, EntryKept c (f c x)) :
    EntryKept c (l.foldl f c) := by
  induction l generalizing c with
  | nil => exact entryKept_refl c
  | cons x l ih =>
    exact (hf c x (List.mem_cons_self ..)).trans (ih _ fun d y hy => hf d y (List.mem_cons_of_mem x hy))

/-! ### Silenced ports (R449) -/

theorem entryKept_memWrite (m a : Nat) (l : List Byte) : EntryKept c (memWrite c m a l) := by
  unfold memWrite ddrNote
  refine .ite ⟨rfl, rfl, rfl, id, id, id, fun _ _ => rfl⟩ (.ite (entryKept_refl c) ?_)
  exact (Noted.matrixError c _ _ _ _ _ _).entryKept

theorem entryKept_msixSend (v : Nat) : EntryKept c (msixSend c v) := by
  unfold msixSend msixEmit
  dsimp only
  split_ifs <;> exact ⟨rfl, rfl, rfl, id, id, id, fun _ _ => rfl⟩

/-- CONS of a ring stands 12 past a multiple of 16, whatever number the state gives the ring. -/
theorem ringCons_notSaysSafe (n r : Nat) : ¬ SaysSafe (TXS_PRING_CONS n r) := by
  unfold SaysSafe TXS_PRING_CONS ATT_CTL ATT_GRAVE_P
  omega

theorem entryKept_advanceCons (n r fuel : Nat) : EntryKept c (advanceCons c n r fuel) := by
  induction fuel generalizing c with
  | zero => exact entryKept_refl c
  | succ fuel ih =>
    unfold advanceCons
    exact .ite (((entryKept_modRing c n r _).trans (entryKept_wr _ _ (ringCons_notSaysSafe n r))).trans (ih _)) (entryKept_refl c)

theorem entryKept_descComplete (n r i status : Nat) : EntryKept c (descComplete c n r i status) := by
  have hback (a : Nat) (l : List Byte) (f : DescRing → DescRing) (fuel : Nat) :
      EntryKept c (advanceCons (modRing (memWrite c 11 a l) n r f) n r fuel) :=
    ((entryKept_memWrite c 11 a l).trans (entryKept_modRing _ n r f)).trans (entryKept_advanceCons _ n r fuel)
  unfold descComplete
  exact .ite ((hback _ _ _ _).trans ((entryKept_modRing _ n r _).trans (entryKept_msixSend _ _))) (hback _ _ _ _)

theorem entryKept_frameComplete (n : Nat) (f : TxFrame) (status : Nat) : EntryKept c (frameComplete c n f status) := by
  unfold frameComplete
  split
  · exact entryKept_descComplete c n _ _ status
  · exact entryKept_refl c

theorem txsStat_notSaysSafe {n : Nat} : ¬ SaysSafe (TXS_P_STAT n) := by
  unfold SaysSafe TXS_P_STAT ATT_CTL ATT_GRAVE_P
  omega

theorem entryKept_txDrop (n : Nat) {q : Nat} (hq : q < 8) : EntryKept c (txDrop c n q) := by
  have hdrop : ¬ SaysSafe (TXS_PQ_DROP n q) := by
    unfold SaysSafe TXS_PQ_DROP ATT_CTL ATT_GRAVE_P
    omega
  exact (entryKept_wr c _ hdrop).trans (entryKept_setFld _ (f := TXS_P_STAT_drop n) _ txsStat_notSaysSafe)

theorem entryKept_silencePort (n : Nat) : EntryKept c (silencePort c n) := by
  refine .trans (entryKept_foldl c _ _ fun d q hq => ?_) ((entryKept_setB _ (f := TXS_P_STAT_silenced n) true txsStat_notSaysSafe).trans
    (entryKept_setB _ (f := TXS_P_STAT_acting n) false txsStat_notSaysSafe))
  refine (entryKept_modTx d n _).trans (entryKept_foldl _ _ _ fun e f _ => ?_)
  exact (entryKept_txDrop e n (List.mem_range.mp hq)).trans (entryKept_frameComplete _ n f 6)

/-! ### The pair, the PMBus, the Docent and the pins -/

theorem entryKept_formPrec : EntryKept c (formPrec c) := ⟨rfl, rfl, rfl, id, id, id, fun _ _ => rfl⟩

theorem entryKept_changeTwin (role st : Nat) (act : Bool) : EntryKept c (changeTwin c role st act) :=
  ⟨rfl, rfl, rfl, id, id, id, fun _ _ => rfl⟩

theorem entryKept_loanOut (loan : Nat) : EntryKept c { c with twn := { c.twn with loanOut := loan } } :=
  ⟨rfl, rfl, rfl, id, id, id, fun _ _ => rfl⟩

theorem entryKept_leavePair : EntryKept c (leavePair c) := by
  unfold leavePair
  refine .ite (entryKept_refl c) ?_
  refine .trans ?_ (entryKept_changeTwin _ 0 0 false)
  have hstop (loan : Nat) : EntryKept c (setB { c with twn := { c.twn with loanOut := loan } } TWN_STAT_acting false) :=
    (entryKept_loanOut c loan).trans (entryKept_setB _ (f := TWN_STAT_acting) false (by decide))
  exact .ite (hstop _) ((hstop _).trans (entryKept_formPrec _))

theorem entryKept_emptyBus :
    EntryKept c { c with pdm := { c.pdm with bus := [], seq := none, reading := none, alert := [], downAt := none } } :=
  ⟨rfl, rfl, rfl, fun _ => rfl, fun _ => rfl, id, fun _ _ => rfl⟩

theorem entryKept_releasePmbus : EntryKept c (releasePmbus c) := by
  unfold releasePmbus
  refine .trans (.trans (.ite ?seq (entryKept_refl c)) (.ite ?stat (entryKept_refl _))) (entryKept_emptyBus _)
  case seq => exact entryKept_setFld c (f := PDM_ASM_STAT_asm_state) 5 (by decide)
  case stat => exact entryKept_wr _ (a := PDM_PMB_STAT) 5 (by decide)

theorem releasePmbus_bus : (releasePmbus c).pdm.bus = [] := rfl

theorem releasePmbus_seq : (releasePmbus c).pdm.seq = none := rfl

theorem entryKept_unsched : EntryKept c { c with doc := { c.doc with sched := none } } :=
  ⟨rfl, rfl, rfl, id, id, fun _ => rfl, fun _ _ => rfl⟩

theorem entryKept_modEpoch (f : Epoch → Epoch) : EntryKept c (modEpoch c f) := ⟨rfl, rfl, rfl, id, id, id, fun _ _ => rfl⟩

theorem entryKept_stopDocent : EntryKept c (stopDocent c) := by
  unfold stopDocent
  exact (entryKept_unsched c).trans ((entryKept_setFld _ (f := DOC_STAT_state) 3 (by decide)).trans
    ((entryKept_setB _ (f := DOC_EPOCH_STAT_preparing) false (by decide)).trans (entryKept_modEpoch _ _)))

theorem stopDocent_sched : (stopDocent c).doc.sched = none := rfl

theorem entryKept_vitTrigger (v : W) (bit source : Nat) : EntryKept c (vitTrigger c v bit source) :=
  ⟨rfl, rfl, rfl, id, id, id, fun _ _ => rfl⟩

theorem entryKept_lockV (v : W) : EntryKept c { c with att := { c.att with lockV := some v } } :=
  ⟨rfl, rfl, rfl, id, id, id, fun _ _ => rfl⟩

theorem entryKept_showPins : EntryKept c (showPins c) := ⟨rfl, rfl, rfl, id, id, id, fun _ _ => rfl⟩

/-! ### The entry -/

/-- The registers of the Attendant say that the device is safe, why and since when. -/
def entryMarked (c : Chip) (cause source : Nat) : Chip :=
  let d := setB (endSevere c) ATT_CTL_grave true
  let d := wr d ATT_GRAVE (toW (2 ^ 31 + b2n (!partnerHealthy c) * 2 ^ 30 + cause * 2 ^ 28 + source * 2 ^ 16))
  wr d ATT_GRAVE_P (period c)

/-- The wish is cleared, and the period is final for a device without a healthy partner. -/
def wishCleared (c : Chip) (final : Option W) : Chip := { c with att := { c.att with entry := none, final := final } }

/-- The device has recorded its entry. -/
def entryRecorded (c : Chip) (cause source : Nat) : Chip :=
  wishCleared (entryMarked c cause source) (if partnerHealthy c then none else some (period c))

/-- Everything that stops with it. -/
def entryStops (c : Chip) : Chip := stopDocent ((List.range 4).foldl silencePort (releasePmbus (leavePair c)))

/-- The Vitrine captures the entry where vit_grave asks for it. -/
def entryCapture (c : Chip) (g : W) (source : Nat) : Chip :=
  if fldB c VIT_CTL_vit_grave then
    let d := vitTrigger c (g + 1) 4 source
    { d with att := { d.att with lockV := some (g + 1) } }
  else c

theorem enterSafe_none (h : c.att.entry = none) : enterSafe c = c := by
  unfold enterSafe
  rw [h]

theorem enterSafe_wanted {cause source : Nat} (h : c.att.entry = some (cause, source)) :
    enterSafe c = showPins (entryCapture (entryStops (entryRecorded c cause source)) (period c) source) := by
  unfold enterSafe entryCapture entryStops entryRecorded wishCleared entryMarked
  rw [h]

theorem entryKept_silencePorts : EntryKept c ((List.range 4).foldl silencePort c) :=
  entryKept_foldl c silencePort _ fun d n _ => entryKept_silencePort d n

theorem entryKept_entryStops : EntryKept c (entryStops c) :=
  (((entryKept_leavePair c).trans (entryKept_releasePmbus _)).trans (entryKept_silencePorts _)).trans (entryKept_stopDocent _)

theorem entryKept_entryCapture (g : W) (source : Nat) : EntryKept c (entryCapture c g source) :=
  .ite ((entryKept_vitTrigger c _ 4 source).trans (entryKept_lockV _ _)) (entryKept_refl c)

theorem entryKept_afterStops (g : W) (source : Nat) : EntryKept c (showPins (entryCapture c g source)) :=
  (entryKept_entryCapture c g source).trans (entryKept_showPins _)

theorem entryStops_bus : (entryStops c).pdm.bus = [] :=
  ((entryKept_silencePorts _).trans (entryKept_stopDocent _)).bus (releasePmbus_bus (leavePair c))

theorem entryStops_seq : (entryStops c).pdm.seq = none :=
  ((entryKept_silencePorts _).trans (entryKept_stopDocent _)).seq (releasePmbus_seq (leavePair c))

theorem entryStops_sched : (entryStops c).doc.sched = none := stopDocent_sched _

section
variable {c : Chip} {cause source : Nat}

theorem wishCleared_tmr (final : Option W) : (wishCleared c final).tmr = c.tmr := rfl

theorem rd_wishCleared (final : Option W) (a : Nat) : rd (wishCleared c final) a = rd c a := rfl

theorem entryRecorded_tmr : (entryRecorded c cause source).tmr = c.tmr := by
  rw [entryRecorded, wishCleared_tmr, entryMarked, wr_tmr, wr_tmr, setB_tmr, endSevere, setB_tmr, setB_tmr]

theorem entryRecorded_entry : (entryRecorded c cause source).att.entry = none := rfl

theorem entryRecorded_final :
    (entryRecorded c cause source).att.final = if partnerHealthy c then none else some (period c) := rfl

theorem entryRecorded_period : rd (entryRecorded c cause source) ATT_GRAVE_P = period c := by
  rw [entryRecorded, rd_wishCleared, entryMarked, rd_wr_same]

theorem entryMarked_safe : safe (entryMarked c cause source) = true := by
  rw [safe, entryMarked, fldB_wr_other _ _ (a := ATT_GRAVE_P) (by decide), fldB_wr_other _ _ (a := ATT_GRAVE) (by decide),
    fldB_setB_same _ ATT_CTL_grave true (by decide) rfl]

theorem safe_wishCleared (final : Option W) : safe (wishCleared c final) = safe c := rfl

theorem entryRecorded_safe : safe (entryRecorded c cause source) = true := (safe_wishCleared _).trans entryMarked_safe

theorem EntryKept.safe {d : Chip} (h : EntryKept c d) : Machine.safe d = Machine.safe c := by
  unfold Machine.safe fldB fld
  rw [h.read ATT_CTL_grave.addr (.inl rfl)]

theorem acting_of_safe (h : safe c = true) : acting c = false := by
  unfold acting
  rw [h]
  rfl

end

/-! ### Windows, acknowledgement, escalation, injection and parity (R471–R477) -/

section
variable {c : Chip}

/-- The count of a source stayed below the one that makes it lasting. -/
abbrev WindowLow (c : Chip) (x : Nat) : Prop :=
  fld c (ATT_SRC_persist_thr x) = 0 ∨ fld c (ATT_SRC_win_cnt x) < fld c (ATT_SRC_persist_thr x)

/-- A window of source `x` ends at this boundary. -/
abbrev WindowEnds (c : Chip) (x : Nat) : Prop := srcReserved x = false ∧ (period c).toNat % winLength c x = 0

theorem persistWindowEnd_ends {x : Nat} (h : WindowEnds c x) :
    persistWindowEnd c x = setFld (if WindowLow c x then setB c (ATT_SRC_lasting x) false else c) (ATT_SRC_win_cnt x) 0 := by
  obtain ⟨hres, hend⟩ := h
  refine (if_neg (by simp [hres, hend])).trans ?_
  exact congrArg (fun d => setFld d (ATT_SRC_win_cnt x) 0) (if_congr (by simp) rfl rfl)

theorem persistWindowEnd_elsewhere {x : Nat} (h : ¬ WindowEnds c x) : persistWindowEnd c x = c := by
  refine if_pos ?_
  rw [Bool.or_eq_true, bne_iff_ne]
  by_cases hres : srcReserved x = true
  · exact .inl hres
  · exact .inr fun hend => h ⟨Bool.eq_false_iff.mpr hres, hend⟩

theorem sevAckWrite_go (hr : reachable c ATT_SEV_ACK = true) (v : W) :
    sevAckWrite c v = { c with att := { c.att with acks := c.att.acks ++ [(wbits v 0 11, period c + 2)] } } :=
  hostWrite_reach _ _ _ hr

/-- The one acknowledgement that waits is due: it leaves and is judged. -/
theorem sevAckEffect_one {x : Nat} {e : W} (hacks : c.att.acks = [(x, e)]) (hdue : due c e = true) :
    sevAckEffect c = showPins (judgeAck { c with att := { c.att with acks := [] } } x) := by
  unfold sevAckEffect
  rw [hacks]
  simp only [List.filter_cons, hdue, List.filter_nil, Bool.not_true, Bool.false_eq_true, if_true, if_false, List.foldl_cons,
    List.foldl_nil]

theorem judgeAck_ends {x : Nat} (hruns : severeRuns c = true) (hx : fld c ATT_SEV_SRC_source = x) : judgeAck c x = endSevere c :=
  if_pos (by simp [hruns, hx])

theorem judgeAck_rejects {x : Nat} (h : severeRuns c = false ∨ fld c ATT_SEV_SRC_source ≠ x) :
    judgeAck c x = raise c srcATT_REJECT 0 := by
  refine if_neg fun hd => ?_
  rw [Bool.and_eq_true, beq_iff_eq] at hd
  obtain ⟨hruns, hx⟩ := hd
  rcases h with h | h
  · exact Bool.eq_false_iff.mp h hruns
  · exact h hx

/-- The reaction that runs has done so for t_a. -/
def escalates (c : Chip) : Bool := severeRuns c && pReached (period c) (rd c ATT_SEV_P + toW (4 * ackTime c))

theorem escalate_noAck (h : ∀ a ∈ c.att.acks, due c a.2 = false) :
    escalate c =
      if escalates c then
        wantSafe (raise c srcATT_ESCALATE (toW (fld c ATT_SEV_SRC_source))) 1 (fld c ATT_SEV_SRC_source)
      else c := by
  have hnone : ¬ c.att.acks.any (fun a => due c a.2) = true := by
    intro hany
    obtain ⟨a, ha, hdue⟩ := List.any_eq_true.mp hany
    exact Bool.eq_false_iff.mp (h a ha) hdue
  unfold escalate escalates
  rw [if_neg hnone]

theorem injectionWrite_go (hr : reachable c ATT_INJ = true) (v : W) :
    injectionWrite c (v ||| 0x80000000) =
      if srcReserved (wbits v 16 11) then raise c srcATT_REJECT 0
      else { c with att := { c.att with
        raised := c.att.raised ++ [⟨wbits v 16 11, toW (wbits v 0 16), true, period c, netTime c⟩] } } := by
  unfold injectionWrite
  rw [hostWrite_reach _ _ _ hr]
  dsimp only
  rw [if_neg (not_bnot (go_forced v)), wbits_or_outside v (by decide), wbits_or_outside v (by decide)]

end

/-- Settles O27: the entry into the safe state keeps, step by step, what its first part records; the other commands have one outcome
per clause. -/
theorem attendantLatchesAndReacts : Obligations.AttendantLatchesAndReacts := by
  unfold Obligations.AttendantLatchesAndReacts
  refine ⟨?latch, ?window, ?noWindow, ?ack, ?ackEffect, ?early, ?escalates, ?inject, ?parity, ?entry, ?noEntry, ?safe⟩
  case latch => exact fun s hs => exec_to (exec_eventLatch s) hs rfl
  case window =>
    intro s x hs hres hend low clear
    have h := persistWindowEnd_ends ⟨hres, hend⟩
    exact ⟨fun hlow => exec_to (exec_persistWindowEnd s) hs (h.trans (by rw [if_pos hlow])),
      fun hlow => exec_to (exec_persistWindowEnd s) hs (h.trans (by rw [if_neg hlow]))⟩
  case noWindow =>
    intro s x hs h
    refine exec_to (exec_persistWindowEnd s) hs (persistWindowEnd_elsewhere fun ⟨hres, hend⟩ => ?_)
    rcases h with h | h
    · exact Bool.eq_false_iff.mp hres h
    · exact h hend
  case ack => exact fun s v ⟨hs, hr⟩ => exec_to (exec_sevAck s) hs (sevAckWrite_go hr v)
  case ackEffect =>
    intro s x e hs hacks hdue c
    have h := sevAckEffect_one hacks hdue
    exact ⟨fun hruns hx => exec_to (exec_sevAckEffect s) hs (h.trans (congrArg showPins (judgeAck_ends hruns hx))),
      fun hother => exec_to (exec_sevAckEffect s) hs (h.trans (congrArg showPins (judgeAck_rejects hother)))⟩
  case early =>
    intro s hs hacks h
    refine exec_to (exec_escalation s) hs ((escalate_noAck hacks).trans (if_neg ?_))
    rw [escalates, Bool.and_eq_true]
    rintro ⟨hruns, hreached⟩
    rcases h with h | h
    · exact Bool.eq_false_iff.mp h hruns
    · exact Bool.eq_false_iff.mp h hreached
  case escalates =>
    intro s hs hacks hruns hreached x
    refine exec_to (exec_escalation s) hs ((escalate_noAck hacks).trans (if_pos ?_))
    rw [escalates, hruns, hreached]
    rfl
  case inject =>
    intro s v ⟨hs, hr⟩ x o
    have h := injectionWrite_go hr v
    exact ⟨fun hlisted => exec_to (exec_injection s) hs (h.trans (if_neg (Bool.eq_false_iff.mp hlisted))),
      fun hres => exec_to (exec_injection s) hs (h.trans (if_pos hres))⟩
  case parity => exact fun s off hs => ⟨exec_to (exec_parityScan s) hs rfl, exec_to (exec_parityScan s) hs rfl⟩
  case entry =>
    intro s cause x hs h
    have hkept := entryKept_entryStops (entryRecorded s.chip cause x)
    have hafter := entryKept_afterStops (entryStops (entryRecorded s.chip cause x)) (period s.chip) x
    have hall := hkept.trans hafter
    refine ⟨_, exec_to (exec_safeStateEntry s) hs (enterSafe_wanted _ h), ?_, ?_, ?_, ?_, ?_, ?_, ?_⟩
    · exact hall.entry.trans entryRecorded_entry
    · exact hall.final.trans entryRecorded_final
    · exact (hall.read _ (.inr rfl)).trans entryRecorded_period
    · exact hall.tmr.trans entryRecorded_tmr
    · exact hafter.sched (entryStops_sched _)
    · exact hafter.bus (entryStops_bus _)
    · exact hafter.seq (entryStops_seq _)
  case noEntry => exact fun s hs h => exec_to (exec_safeStateEntry s) hs (enterSafe_none _ h)
  case safe =>
    intro s cause x hs h
    have hall := (entryKept_entryStops (entryRecorded s.chip cause x)).trans (entryKept_afterStops _ (period s.chip) x)
    have hsafe := hall.safe.trans entryRecorded_safe
    exact ⟨_, exec_to (exec_safeStateEntry s) hs (enterSafe_wanted _ h), hsafe, acting_of_safe hsafe⟩

end Sys2Proof.Machine
end
